-- ==== Sys2Proof/Word.lean ====
section
/-! DEFINITION. The word types of the LX6 registers and memories (00_scope R9). -/

namespace Sys2Proof

/-- A byte of a memory, record or frame. -/
abbrev Byte := BitVec 8

/-- A register of BAR0 is 32 bits wide (R9). -/
abbrev Word := BitVec 32

end Sys2Proof
end

