-- ==== Sys2Proof/Config.lean ====
section
/-! DEFINITION. What one start fixes: the named values of the manual's tables, the decoded legend (R4, R6, R434,
R436: every field of every section, each with its reference or least value as default, log entry 3), the maintenance
commands (R365), and the free values, opaque constants for what the manual leaves open (log entry 5). -/

namespace Sys2Proof

/-- state of an accepted layer job, code by position: none 0x0 … ENDED 0x9 (R20). Spec 01_layer_cycle.md. -/
inductive JobState where
  | none
  | queued
  | admitted
  | armed
  | imaging
  | transfer
  | transfuse
  | lower
  | returning
  | ended
  deriving DecidableEq, Repr

/-- final status of a layer job (R47); none is code 0x00 of LYR_LAST_END. Spec 01_layer_cycle.md. -/
inductive EndStatus where
  | none
  | endedOk
  | scrapped
  | interrupted
  | dataLost
  | rejected
  deriving DecidableEq, Repr

/-- cause code of an end (R48). Spec 01_layer_cycle.md. -/
inductive Cause where
  | none
  | badJob
  | streamRange
  | streamRs
  | lineCrc
  | lineHeader
  | primeTimeout
  | feedTimeout
  | rateLimit
  | partnerTimeout
  | polyTimeout
  | hvTimeout
  | heatTimeout
  | noMeridian
  | boundaryTimeout
  | syncTimeout
  | hostCancel
  | faultBeforeStart
  | meridianMissed
  | faultStation
  | faultOther
  | grave
  | lsafe
  | uliberAbort
  | thermalCritical
  | hostAbort
  | carriageNotReady
  | restart
  | powerLoss
  | brownout
  deriving DecidableEq, Repr

/-- where the carriage stands in the layer's travel (R44, R249, R251). Spec 01_layer_cycle.md. -/
inductive CarriagePhase where
  | atStart
  | approach
  | locked
  | inNip
  | separated
  | returning
  | away
  deriving DecidableEq, Repr

/-- KRC_STATUS STATE, code by position (R81). Spec 02_kyrex_raster_code.md. -/
inductive KrcState where
  | idle
  | streamHeader
  | decoding
  | ringFull
  | done
  | stopped
  deriving DecidableEq, Repr

/-- KRC_ERR CHECK, code by position (R75). Spec 02_kyrex_raster_code.md. -/
inductive KrcCheck where
  | none
  | streamHeader
  | lineIndex
  | pixels
  | mode
  | modeValues
  | budget
  | size
  | restart
  | lineCrc
  | lineFormat
  | feedRs
  | ringRs
  deriving DecidableEq, Repr

/-- tag of a line ring slot, code by position (R69). Spec 02_kyrex_raster_code.md. -/
inductive SlotTag where
  | free
  | data
  | zero
  | solid
  deriving DecidableEq, Repr

/-- mode of a line header, code by position (R58). Spec 02_kyrex_raster_code.md. -/
inductive LineMode where
  | blank
  | solid
  | run
  | ref
  | literal
  deriving DecidableEq, Repr

/-- PX_STATUS STATE, code by position (R117). Spec 03_pixel_path.md. -/
inductive PxState where
  | idle
  | framing
  | forcedOff
  | training
  deriving DecidableEq, Repr

/-- PX_LANE_STAT STATE, code by position (R117). Spec 03_pixel_path.md. -/
inductive LaneState where
  | down
  | training
  | trained
  | failed
  deriving DecidableEq, Repr

/-- PX_FORCE_OFF LAST_SOURCE, code by position (R117). Spec 03_pixel_path.md. -/
inductive ForceSource where
  | abortInput
  | lsafe
  | warmReset
  deriving DecidableEq, Repr

/-- control symbols of a lane; reserved ones are never sent (R100). Spec 03_pixel_path.md. -/
inductive LaneSymbol where
  | idle
  | sof
  | soc
  | eof
  | train
  | bdOn
  | forceOff
  | reserved
  deriving DecidableEq, Repr

/-- step of a lane training that waits for the module's report (R108). Spec 03_pixel_path.md. -/
inductive TrainStep where
  | lock
  | config
  deriving DecidableEq, Repr

/-- SCH_STATUS STATE, code by position (R143). Spec 04_scan_timing.md. -/
inductive SchedState where
  | stopped
  | free
  | acquire
  | locked
  | slip
  deriving DecidableEq, Repr

/-- CLK_REQ STATE, code by position (R150). Spec 04_scan_timing.md. -/
inductive ReqState where
  | none
  | pending
  | deferred
  | applying
  | applied
  | refused
  | superseded
  deriving DecidableEq, Repr

/-- CLK_REQ SOURCE, code by position (R150). Spec 04_scan_timing.md. -/
inductive ReqSource where
  | speedCode
  | thermal
  | degraded
  | surveyCap
  deriving DecidableEq, Repr

/-- SCH_STATUS FACET_ID, code by position (R150). Spec 04_scan_timing.md. -/
inductive FacetId where
  | unknown
  | noneMode
  | identified
  deriving DecidableEq, Repr

/-- axis of a quadrature input, code by position (R182). Spec 05_registration.md. -/
inductive EncAxis where
  | none
  | belt
  | carriage
  | roller
  deriving DecidableEq, Repr

/-- MER_STAT STATE, code by position (R182). Spec 05_registration.md. -/
inductive MerState where
  | none
  | armed
  | fired
  | missed
  | disabled
  deriving DecidableEq, Repr

/-- position source of an axis (R155). Spec 05_registration.md. -/
inductive PosSource where
  | none
  | enc
  | ssi
  | steps
  deriving DecidableEq, Repr

/-- ACTION of a general compare entry, code by position (R168). Spec 05_registration.md. -/
inductive CmpAction where
  | pulse
  | set
  | clear
  | toggle
  deriving DecidableEq, Repr

/-- POLY_STATE STATE, code by position (R187). Spec 06_polygon_drives.md. -/
inductive PolyMode where
  | off
  | listen
  | calibrate
  | align
  | openLoop
  | observer
  | bearing
  | coast
  | recatch
  | stopping
  | fault
  deriving DecidableEq, Repr

/-- what a drive in FAULT came there by (R187). Spec 06_polygon_drives.md. -/
inductive FaultEntry where
  | none
  | startFail
  | shunt
  | overcurrent
  | grave
  deriving DecidableEq, Repr

/-- angle source of a drive (R187). Spec 06_polygon_drives.md. -/
inductive AngleSource where
  | none
  | ramp
  | observer
  | bearing
  deriving DecidableEq, Repr

/-- LOOP_CFG CLASS, code by position (R240). Spec 07_control_loops.md. -/
inductive LoopClass where
  | cur
  | vel
  | pos
  | hv
  | heat
  | facet
  deriving DecidableEq, Repr

/-- LOOP_CFG LAW, code by position (R240). Spec 07_control_loops.md. -/
inductive LoopLaw where
  | pid
  | biquad
  | state
  deriving DecidableEq, Repr

/-- LE_STAT STATE, code by position (R240). Spec 07_control_loops.md. -/
inductive EngineState where
  | off
  | run
  | halted
  | spareIdle
  deriving DecidableEq, Repr

/-- HV_STAT MODE, code by position (R240). Spec 07_control_loops.md. -/
inductive HvMode where
  | off
  | layer
  | safe
  | grave
  deriving DecidableEq, Repr

/-- HTR_STAT MODE, code by position (R240). Spec 07_control_loops.md. -/
inductive HeaterMode where
  | off
  | control
  | forcedOff
  deriving DecidableEq, Repr

/-- source of one state of the STATE law (R219). Spec 07_control_loops.md. -/
inductive StateSource where
  | measurement
  | change
  | prevOutput
  | other
  deriving DecidableEq, Repr

/-- source of the second variable of gain scheduling (R220). Spec 07_control_loops.md. -/
inductive XSource where
  | none
  | current
  | speed
  | other
  deriving DecidableEq, Repr

/-- SRV_STAT MODE, code by position (R270). Spec 08_motion.md. -/
inductive ServoMode where
  | off
  | hold
  | move
  | velocity
  | geared
  | stopping
  | coast
  | align
  deriving DecidableEq, Repr

/-- SRV_STAT LAST_STOP, code by position (R270). Spec 08_motion.md. -/
inductive LastStop where
  | none
  | controlled
  | abort
  | coast
  deriving DecidableEq, Repr

/-- STP_STAT STATE, code by position (R270). Spec 08_motion.md. -/
inductive StepState where
  | idle
  | moving
  | holding
  | off
  deriving DecidableEq, Repr

/-- STP_STAT SEGMENT, code by position (R270). Spec 08_motion.md. -/
inductive StepSegment where
  | start
  | accelerate
  | cruise
  | decelerate
  deriving DecidableEq, Repr

/-- BUS_STAT STATE, code by position (R270). Spec 08_motion.md. -/
inductive BusState where
  | under
  | normal
  | chopping
  | clamped
  | overV2
  | overV3
  deriving DecidableEq, Repr

/-- phase of a stepper chopper (R255). Spec 08_motion.md. -/
inductive ChopPhase where
  | on
  | offFast
  | offSlow
  | idle
  deriving DecidableEq, Repr

/-- kind of a servo trajectory (R245, R249, R250, R252). Spec 08_motion.md. -/
inductive TrajKind where
  | none
  | move
  | ramp
  | line
  | stop
  | approach
  | gear
  | linearStop
  | separate
  deriving DecidableEq, Repr

/-- what a homing axis meets (R259). Spec 08_motion.md. -/
inductive HomeEvent where
  | begin
  | switch
  | release
  | missing
  deriving DecidableEq, Repr

/-- what a carriage or gantry move serves. Spec 08_motion.md. -/
inductive MoveGoal where
  | none
  | layer
  | home
  | resume
  deriving DecidableEq, Repr

/-- state of an external input, code by position (R273). Spec 09_thermal.md. -/
inductive TinState where
  | ok
  | open
  | short
  | range
  deriving DecidableEq, Repr

/-- TYPE of an external input, code by position (R289). Spec 09_thermal.md. -/
inductive TinType where
  | unused
  | pt100
  | pt1000
  | tcJ
  | tcK
  | tcN
  | tcT
  | tcE
  deriving DecidableEq, Repr

/-- die band, code by position (R277). Spec 09_thermal.md. -/
inductive DieBand where
  | cold
  | normal
  | warm
  | hot
  | critical
  | trip
  deriving DecidableEq, Repr

/-- program of the PSE, code by position (R320). Spec 10_power_sequencing.md. -/
inductive Program where
  | none
  | up
  | down
  | brownout
  | u0
  | u1
  | u2
  | u3
  deriving DecidableEq, Repr

/-- PWR_LAST STATUS, code by position (R320). Spec 10_power_sequencing.md. -/
inductive ProgStatus where
  | none
  | ended
  | flagged
  | preempted
  | timeout
  deriving DecidableEq, Repr

/-- PWR_LAST CAUSE, code by position (R320). Spec 10_power_sequencing.md. -/
inductive ProgCause where
  | start
  | recovery
  | host
  | thermal
  | grave
  | ulbAbort
  | inputFail
  deriving DecidableEq, Repr

/-- RAIL_STAT STATE, code by position (R320). Spec 10_power_sequencing.md. -/
inductive RailState where
  | off
  | rising
  | on
  | falling
  deriving DecidableEq, Repr

/-- what the present step of the PSE waits for (R296). Spec 10_power_sequencing.md. -/
inductive PseWait where
  | none
  | time
  | pg
  | dep
  | sync
  deriving DecidableEq, Repr

/-- fault class, rising (R324). Spec 10_power_sequencing.md. -/
inductive FaultClass where
  | notice
  | degraded
  | severe
  | grave
  deriving DecidableEq, Repr

/-- restriction code of a source, code by position (R333). Spec 11_faults.md. -/
inductive Restriction where
  | none
  | noOverlap
  | speed
  | hold
  deriving DecidableEq, Repr

/-- KIND of a fault record (R338). Spec 11_faults.md. -/
inductive FaultKind where
  | event
  | clear
  | suppressed
  | fallback
  deriving DecidableEq, Repr

/-- COMMAND status, code by position (R365). Spec 12_host_link_and_jobs.md. -/
inductive MqStatus where
  | ok
  | deferred
  | refused
  | notAbortable
  | noJob
  | busy
  | stillActive
  | graveLatched
  | notLive
  | badCommand
  | range
  deriving DecidableEq, Repr

/-- REASON of a DOORBELL record, code by position (R362). Spec 12_host_link_and_jobs.md. -/
inductive DoorReason where
  | aheadLimit
  | atlasFull
  | cqFull
  | mqLimit
  | readError
  | cqDisabled
  | atlasWrite
  deriving DecidableEq, Repr

/-- RESTART_KIND, code by position (R362). Spec 12_host_link_and_jobs.md. -/
inductive RestartKind where
  | powerOn
  | perst
  | watchdog
  | mqWarmReset
  | linkReset
  deriving DecidableEq, Repr

/-- KIND of a record, code by position plus 1 (R362). Spec 12_host_link_and_jobs.md. -/
inductive RecordKind where
  | accepted
  | final
  | command
  | fault
  | doorbell
  | clock
  | restart
  deriving DecidableEq, Repr

/-- end of an atlas mark's write after its retries (R370): verified in both copies, or the copy whose third verification failed. Spec 12_host_link_and_jobs.md. -/
inductive MarkResult where
  | durable
  | failA
  | failB
  deriving DecidableEq, Repr

/-- DMA_STAT STATE, code by position (R381). Spec 13_dma_engine.md. -/
inductive DmaState where
  | idle
  | active
  | ended
  | halted
  | draining
  | disabled
  deriving DecidableEq, Repr

/-- STATUS of a DMA record, code by position (R387). Spec 13_dma_engine.md. -/
inductive DmaStatus where
  | ok
  | empty
  | mismatch
  | busError
  | dataError
  | descError
  | fetchError
  deriving DecidableEq, Repr

/-- OPCODE of a descriptor, code by position plus 1 (R382). Spec 13_dma_engine.md. -/
inductive DmaOp where
  | copy
  | fill
  | compare
  | link
  deriving DecidableEq, Repr

/-- TLM_STAT STATE, code by position (R425). Spec 14_telemetry_codec.md. -/
inductive TlmState where
  | idle
  | running
  | stopping
  | stopped
  | preserved
  deriving DecidableEq, Repr

/-- STATUS of a buffer record (R419); none before any. Spec 14_telemetry_codec.md. -/
inductive TlmStatus where
  | none
  | bufferFull
  | stopped
  | overflow
  | busError
  | descError
  deriving DecidableEq, Repr

/-- stage of the boot (R429, R430). Spec 15_boot_legend_discovery.md. -/
inductive BootStage where
  | por
  | aonUp
  | otp
  | rom
  | otpPolicy
  | legend
  | islands
  | ddr
  | spares
  | discovery
  | hostOpen
  | recovery
  | ready
  | haltOtp
  | haltLegend
  | haltDdr
  deriving DecidableEq, Repr

/-- GS_STATUS LAST_RESET, code by position (R457). Spec 15_boot_legend_discovery.md. -/
inductive ResetCause where
  | powerOn
  | resetN
  | perst
  | watchdog
  | mqWarmReset
  deriving DecidableEq, Repr

/-- RESULT_A and RESULT_B, code by position (R457). Spec 15_boot_legend_discovery.md. -/
inductive LegResult where
  | notRead
  | ok
  | readError
  | header
  | framing
  | signature
  | content
  deriving DecidableEq, Repr

/-- JZ_PORT LINK, code by position (R457). Spec 15_boot_legend_discovery.md. -/
inductive JzLink where
  | idle
  | announced
  | bound
  | disabled
  deriving DecidableEq, Repr

/-- GZ_STAT STATE, code by position (R448). Spec 15_boot_legend_discovery.md. -/
inductive UnitState where
  | absent
  | held
  | identifying
  | present
  | failed
  deriving DecidableEq, Repr

/-- life-cycle state (R468); codes 0 to 4, and 7 for INVALID. Spec 16_otp.md. -/
inductive LifeCycle where
  | blank
  | vendorTest
  | provision
  | deployed
  | retired
  | invalid
  deriving DecidableEq, Repr

/-- OTP_RESULT STATUS, code by position (R479). Spec 16_otp.md. -/
inductive OtpStatus where
  | ok
  | busy
  | key
  | range
  | state
  | locked
  | notBlank
  | verifyFail
  | condition
  | prereq
  deriving DecidableEq, Repr

/-- SV_STATUS STATE, code by position (R498). Spec 17_ageing_and_spares.md. -/
inductive SurveyState where
  | idle
  | due
  | running
  deriving DecidableEq, Repr

/-- The fault sources of every chapter's fault-source table, in the order of their numbers (R321, R322). -/
inductive Source where
  /-- FAULT.LSAFE, 0x00, base class Severe (11_faults.md). -/
  | faultLsafe
  /-- FAULT.WATCHDOG, 0x01, base class Severe (11_faults.md). -/
  | faultWatchdog
  /-- FAULT.STORM, 0x02, base class Degraded (11_faults.md). -/
  | faultStorm
  /-- FAULT.LOG_WRITE, 0x03, base class Notice (11_faults.md). -/
  | faultLogWrite
  /-- KRC_x.HEADER, 0x10, base class Severe (02_kyrex_raster_code.md). -/
  | krcHeader
  /-- KRC_x.BUDGET, 0x11, base class Severe (02_kyrex_raster_code.md). -/
  | krcBudget
  /-- KRC_x.LINE_CRC, 0x12, base class Notice (02_kyrex_raster_code.md). -/
  | krcLineCrc
  /-- KRC_x.LINE_FORMAT, 0x13, base class Notice (02_kyrex_raster_code.md). -/
  | krcLineFormat
  /-- KRC_x.STREAM_LENGTH, 0x14, base class Notice (02_kyrex_raster_code.md). -/
  | krcStreamLength
  /-- FEED_x.RS_CORR, 0x15, base class Notice (02_kyrex_raster_code.md). -/
  | feedRsCorr
  /-- FEED_x.RS_UNCORR, 0x16, base class Severe (02_kyrex_raster_code.md). -/
  | feedRsUncorr
  /-- RING_x.RS_CORR, 0x17, base class Notice (02_kyrex_raster_code.md). -/
  | ringRsCorr
  /-- RING_x.RS_UNCORR, 0x18, base class Severe (02_kyrex_raster_code.md). -/
  | ringRsUncorr
  /-- LANE_x.LOCK_RUN, 0x20, base class Severe (03_pixel_path.md). -/
  | laneLockRun
  /-- LANE_x.LOCK_IDLE, 0x21, base class Degraded (03_pixel_path.md). -/
  | laneLockIdle
  /-- LANE_x.FRAME_DROP, 0x22, base class Severe (03_pixel_path.md). -/
  | laneFrameDrop
  /-- LANE_x.CONFIG, 0x23, base class Degraded (03_pixel_path.md). -/
  | laneConfig
  /-- LANE_x.TRAIN, 0x24, base class Degraded (03_pixel_path.md). -/
  | laneTrain
  /-- LANE_x.SPARE_USED, 0x25, base class Notice (03_pixel_path.md). -/
  | laneSpareUsed
  /-- PIX_x.PROBE_AMP, 0x26, base class Notice (03_pixel_path.md). -/
  | pixProbeAmp
  /-- PIX_x.TRIM_LIMIT, 0x27, base class Degraded (03_pixel_path.md). -/
  | pixTrimLimit
  /-- PIX_x.SURFACE, 0x28, base class Notice (03_pixel_path.md). -/
  | pixSurface
  /-- CLK.REF_LOSS, 0x30, base class Grave (04_scan_timing.md). -/
  | clkRefLoss
  /-- CLK.CTL_UNLOCK, 0x31, base class Grave (04_scan_timing.md). -/
  | clkCtlUnlock
  /-- CLK.SYS_UNLOCK, 0x32, base class Grave (04_scan_timing.md). -/
  | clkSysUnlock
  /-- CLK.PX_UNLOCK_RUN, 0x33, base class Severe (04_scan_timing.md). -/
  | clkPxUnlockRun
  /-- CLK.PX_UNLOCK_IDLE, 0x34, base class Degraded (04_scan_timing.md). -/
  | clkPxUnlockIdle
  /-- CLK.DIV_FLOOR, 0x35, base class Degraded (04_scan_timing.md). -/
  | clkDivFloor
  /-- DATUM_x.UNLOCK_RUN, 0x36, base class Severe (04_scan_timing.md). -/
  | datumUnlockRun
  /-- DATUM_x.UNLOCK_IDLE, 0x37, base class Degraded (04_scan_timing.md). -/
  | datumUnlockIdle
  /-- DATUM_x.SPARE_USED, 0x38, base class Notice (04_scan_timing.md). -/
  | datumSpareUsed
  /-- DATUM_x.FAILED, 0x39, base class Degraded (04_scan_timing.md). -/
  | datumFailed
  /-- BEAR_x.MISS, 0x3A, base class Notice (04_scan_timing.md). -/
  | bearMiss
  /-- BEAR_x.STRAY, 0x3B, base class Notice (04_scan_timing.md). -/
  | bearStray
  /-- BEAR_x.LOST, 0x3C, base class Severe (04_scan_timing.md). -/
  | bearLost
  /-- BEAR_x.FACET_RUN, 0x3D, base class Severe (04_scan_timing.md). -/
  | bearFacetRun
  /-- BEAR_x.FACET_IDLE, 0x3E, base class Degraded (04_scan_timing.md). -/
  | bearFacetIdle
  /-- SCHED_x.SLIP_RUN, 0x3F, base class Severe (04_scan_timing.md). -/
  | schedSlipRun
  /-- SCHED_x.SLIP_IDLE, 0x40, base class Degraded (04_scan_timing.md). -/
  | schedSlipIdle
  /-- ENCn.QUAD_RUN, 0x50, base class Severe (05_registration.md). -/
  | encQuadRun
  /-- ENCn.QUAD_IDLE, 0x51, base class Degraded (05_registration.md). -/
  | encQuadIdle
  /-- SSIn.FRAME, 0x52, base class Notice (05_registration.md). -/
  | ssiFrame
  /-- SSIn.LOST, 0x53, base class Severe (05_registration.md). -/
  | ssiLost
  /-- POS.BELT_INDEX, 0x54, base class Degraded (05_registration.md). -/
  | posBeltIndex
  /-- POS_CARR.LIMIT_RUN, 0x55, base class Severe (05_registration.md). -/
  | posCarrLimitRun
  /-- POS_CARR.LIMIT_IDLE, 0x56, base class Degraded (05_registration.md). -/
  | posCarrLimitIdle
  /-- POS_Zn.LIMIT, 0x57, base class Degraded (05_registration.md). -/
  | posZLimit
  /-- MER_x.MISSED, 0x58, base class Notice (05_registration.md). -/
  | merMissed
  /-- CMPn.MISSED, 0x59, base class Notice (05_registration.md). -/
  | cmpMissed
  /-- REG_x.MARK_MISS, 0x5A, base class Notice (05_registration.md). -/
  | regMarkMiss
  /-- REG_x.RANGE, 0x5B, base class Degraded (05_registration.md). -/
  | regRange
  /-- REG_x.OUT_OF_BAND, 0x5C, base class Degraded (05_registration.md). -/
  | regOutOfBand
  /-- EMUn.OVERSPEED, 0x5D, base class Notice (05_registration.md). -/
  | emuOverspeed
  /-- POLY_x.SHUNT, 0x60, base class Degraded (06_polygon_drives.md). -/
  | polyShunt
  /-- POLY_x.START_ANGLE, 0x61, base class Notice (06_polygon_drives.md). -/
  | polyStartAngle
  /-- POLY_x.START_OBS, 0x62, base class Notice (06_polygon_drives.md). -/
  | polyStartObs
  /-- POLY_x.START_FAIL, 0x63, base class Degraded (06_polygon_drives.md). -/
  | polyStartFail
  /-- POLY_x.OBS_LOSS, 0x64, base class Notice (06_polygon_drives.md). -/
  | polyObsLoss
  /-- POLY_x.ROTOR_LOST_RUN, 0x65, base class Severe (06_polygon_drives.md). -/
  | polyRotorLostRun
  /-- POLY_x.ROTOR_LOST_IDLE, 0x66, base class Degraded (06_polygon_drives.md). -/
  | polyRotorLostIdle
  /-- POLY_x.RECATCH, 0x67, base class Notice (06_polygon_drives.md). -/
  | polyRecatch
  /-- POLY_x.RECATCH_FAIL, 0x68, base class Degraded (06_polygon_drives.md). -/
  | polyRecatchFail
  /-- POLY_x.OVERCURRENT, 0x69, base class Severe (06_polygon_drives.md). -/
  | polyOvercurrent
  /-- POLY_x.SPEED_RUN, 0x6A, base class Severe (06_polygon_drives.md). -/
  | polySpeedRun
  /-- POLY_x.SPEED_IDLE, 0x6B, base class Degraded (06_polygon_drives.md). -/
  | polySpeedIdle
  /-- POLY_x.PHASE_RUN, 0x6C, base class Severe (06_polygon_drives.md). -/
  | polyPhaseRun
  /-- POLY_x.PHASE_IDLE, 0x6D, base class Notice (06_polygon_drives.md). -/
  | polyPhaseIdle
  /-- LE_n.DEADLINE, 0x70, base class Severe (07_control_loops.md). -/
  | leDeadline
  /-- LOOP_n.REGION_GAP, 0x71, base class Notice (07_control_loops.md). -/
  | loopRegionGap
  /-- HV_x.ch_FE_RUN, 0x72, base class Severe (07_control_loops.md). -/
  | hvFeRun
  /-- HV_x.ch_FE_IDLE, 0x73, base class Degraded (07_control_loops.md). -/
  | hvFeIdle
  /-- HV_x.DEVAC_FE_RUN, 0x74, base class Severe (07_control_loops.md). -/
  | hvDevacFeRun
  /-- HV_x.DEVAC_FE_IDLE, 0x75, base class Degraded (07_control_loops.md). -/
  | hvDevacFeIdle
  /-- HV_x.ch_OV, 0x76, base class Severe (07_control_loops.md). -/
  | hvOv
  /-- HV_x.ch_MON, 0x77, base class Severe (07_control_loops.md). -/
  | hvMon
  /-- HEAT_n.FE, 0x78, base class Degraded (07_control_loops.md). -/
  | heatFe
  /-- HEAT_n.SAT, 0x79, base class Notice (07_control_loops.md). -/
  | heatSat
  /-- HUM.RANGE, 0x7A, base class Notice (07_control_loops.md). -/
  | humRange
  /-- SRV_a.FE_RUN, 0x80, base class Severe (08_motion.md). -/
  | srvFeRun
  /-- SRV_a.FE_IDLE, 0x81, base class Degraded (08_motion.md). -/
  | srvFeIdle
  /-- SRV_a.OVERCURRENT, 0x82, base class Severe (08_motion.md). -/
  | srvOvercurrent
  /-- SRV_a.ALIGN, 0x83, base class Degraded (08_motion.md). -/
  | srvAlign
  /-- SRV_CARR.TRACK_RUN, 0x84, base class Severe (08_motion.md). -/
  | srvCarrTrackRun
  /-- SRV_CARR.NOT_HOMED, 0x85, base class Notice (08_motion.md). -/
  | srvCarrNotHomed
  /-- STP_i.UNCERTAIN, 0x86, base class Notice (08_motion.md). -/
  | stpUncertain
  /-- STP_i.HOME_FAIL, 0x87, base class Degraded (08_motion.md). -/
  | stpHomeFail
  /-- GANTRY.SKEW, 0x88, base class Severe (08_motion.md). -/
  | gantrySkew
  /-- BUS.UV, 0x89, base class Severe (08_motion.md). -/
  | busUv
  /-- BUS.CHOPPER_FAIL_RUN, 0x8A, base class Severe (08_motion.md). -/
  | busChopperFailRun
  /-- BUS.CHOPPER_FAIL_IDLE, 0x8B, base class Degraded (08_motion.md). -/
  | busChopperFailIdle
  /-- BUS.CHOPPER_HOT, 0x8C, base class Degraded (08_motion.md). -/
  | busChopperHot
  /-- BUS.OV2, 0x8D, base class Severe (08_motion.md). -/
  | busOv2
  /-- BUS.OV3, 0x8E, base class Grave (08_motion.md). -/
  | busOv3
  /-- TEMP_n.OPEN, 0x90, base class Degraded (09_thermal.md). -/
  | tempOpen
  /-- TEMP_n.SHORT, 0x91, base class Degraded (09_thermal.md). -/
  | tempShort
  /-- TEMP_n.RANGE, 0x92, base class Degraded (09_thermal.md). -/
  | tempRange
  /-- DIE_n.SENSOR, 0x93, base class Degraded (09_thermal.md). -/
  | dieSensor
  /-- THERM.SENSORS_LOST, 0x94, base class Severe (09_thermal.md). -/
  | thermSensorsLost
  /-- THERM.HOT, 0x95, base class Notice (09_thermal.md). -/
  | thermHot
  /-- THERM.CRITICAL, 0x96, base class Degraded (09_thermal.md). -/
  | thermCritical
  /-- THERM.SHUTDOWN, 0x97, base class Severe (09_thermal.md). -/
  | thermShutdown
  /-- THERM.TRIP, 0x98, base class Grave (09_thermal.md). -/
  | thermTrip
  /-- HEAT_n.OVER, 0x99, base class Degraded (09_thermal.md). -/
  | heatOver
  /-- PS_n.PG_LATE, 0xA0, base class Notice (10_power_sequencing.md). -/
  | psPgLate
  /-- PS_n.FAIL_UP, 0xA1, base class Degraded (10_power_sequencing.md). -/
  | psFailUp
  /-- PS_n.PG_LOST, 0xA2, base class Severe (10_power_sequencing.md). -/
  | psPgLost
  /-- PS_n.UV, 0xA3, base class Degraded (10_power_sequencing.md). -/
  | psUv
  /-- PS_n.OV, 0xA4, base class Severe (10_power_sequencing.md). -/
  | psOv
  /-- PS_n.OFF_FAIL, 0xA5, base class Degraded (10_power_sequencing.md). -/
  | psOffFail
  /-- PWR.OWN_UV, 0xA6, base class Grave (10_power_sequencing.md). -/
  | pwrOwnUv
  /-- PWR.OWN_OV, 0xA7, base class Grave (10_power_sequencing.md). -/
  | pwrOwnOv
  /-- PWR.PMBUS, 0xA8, base class Degraded (10_power_sequencing.md). -/
  | pwrPmbus
  /-- PWR.PROG_TIMEOUT, 0xA9, base class Degraded (10_power_sequencing.md). -/
  | pwrProgTimeout
  /-- PWR.IN_FAIL, 0xAA, base class Notice (10_power_sequencing.md). -/
  | pwrInFail
  /-- ULB.SYNC_TIMEOUT, 0xAB, base class Degraded (10_power_sequencing.md). -/
  | ulbSyncTimeout
  /-- HOST.PARTIAL_WRITE, 0xB0, base class Notice (12_host_link_and_jobs.md). -/
  | hostPartialWrite
  /-- HOST.LINK_RESET, 0xB1, base class Degraded (12_host_link_and_jobs.md). -/
  | hostLinkReset
  /-- HOST.AER_UNCORR, 0xB2, base class Degraded (12_host_link_and_jobs.md). -/
  | hostAerUncorr
  /-- HOST.AER_CORR, 0xB3, base class Notice (12_host_link_and_jobs.md). -/
  | hostAerCorr
  /-- HOST.RING_READ, 0xB4, base class Degraded (12_host_link_and_jobs.md). -/
  | hostRingRead
  /-- HOST.CQ_WAIT, 0xB5, base class Notice (12_host_link_and_jobs.md). -/
  | hostCqWait
  /-- HOST.EVENT_LOST, 0xB6, base class Notice (12_host_link_and_jobs.md). -/
  | hostEventLost
  /-- HOST.WINDOW, 0xB7, base class Notice (12_host_link_and_jobs.md). -/
  | hostWindow
  /-- ATLAS.WRITE, 0xB8, base class Severe (12_host_link_and_jobs.md). -/
  | atlasWrite
  /-- ATLAS.REPAIR, 0xB9, base class Notice (12_host_link_and_jobs.md). -/
  | atlasRepair
  /-- DMA_n.BUS_ERROR, 0xC0, base class Notice (13_dma_engine.md). -/
  | dmaBusError
  /-- DMA_n.DATA_ERROR, 0xC1, base class Notice (13_dma_engine.md). -/
  | dmaDataError
  /-- DMA_n.DESC_ERROR, 0xC2, base class Notice (13_dma_engine.md). -/
  | dmaDescError
  /-- DMA_n.NO_RECORD, 0xC3, base class Notice (13_dma_engine.md). -/
  | dmaNoRecord
  /-- DMA_n.RS_CORR, 0xC4, base class Notice (13_dma_engine.md). -/
  | dmaRsCorr
  /-- DMA.FEED_ERROR, 0xC5, base class Severe (13_dma_engine.md). -/
  | dmaFeedError
  /-- TLM_n.OVERFLOW, 0xD0, base class Notice (14_telemetry_codec.md). -/
  | tlmOverflow
  /-- TLM_n.BUS_ERROR, 0xD1, base class Notice (14_telemetry_codec.md). -/
  | tlmBusError
  /-- TLM_n.DESC_ERROR, 0xD2, base class Notice (14_telemetry_codec.md). -/
  | tlmDescError
  /-- TLM_n.INPUT_LOST, 0xD3, base class Notice (14_telemetry_codec.md). -/
  | tlmInputLost
  /-- TLM_n.CONTEXT_LOST, 0xD4, base class Notice (14_telemetry_codec.md). -/
  | tlmContextLost
  /-- TLM_n.SNAP_MISSED, 0xD5, base class Notice (14_telemetry_codec.md). -/
  | tlmSnapMissed
  /-- LEGEND.COPY_A_BAD, 0xE0, base class Degraded (15_boot_legend_discovery.md). -/
  | legendCopyABad
  /-- LEGEND.NONE, 0xE1, base class Severe (15_boot_legend_discovery.md). -/
  | legendNone
  /-- LEGEND.UNSIGNED, 0xE2, base class Notice (15_boot_legend_discovery.md). -/
  | legendUnsigned
  /-- BOOT.DDR_TRAIN, 0xE3, base class Severe (15_boot_legend_discovery.md). -/
  | bootDdrTrain
  /-- BOOT.SPARE_MAP, 0xE4, base class Degraded (15_boot_legend_discovery.md). -/
  | bootSpareMap
  /-- JZ_n.DETACH_RUN, 0xE5, base class Severe (15_boot_legend_discovery.md). -/
  | jzDetachRun
  /-- JZ_n.DETACH_IDLE, 0xE6, base class Notice (15_boot_legend_discovery.md). -/
  | jzDetachIdle
  /-- JZ_n.LINK, 0xE7, base class Degraded (15_boot_legend_discovery.md). -/
  | jzLink
  /-- OTP.MARGINAL, 0xE8, base class Degraded (16_otp.md). -/
  | otpMarginal
  /-- OTP.UNCORRECTABLE, 0xE9, base class Degraded (16_otp.md). -/
  | otpUncorrectable
  /-- OTP.CORRECTED, 0xEA, base class Notice (16_otp.md). -/
  | otpCorrected
  /-- OTP.REGION_CHECK, 0xEB, base class Degraded (16_otp.md). -/
  | otpRegionCheck
  /-- OTP.LIFE_CYCLE, 0xEC, base class Degraded (16_otp.md). -/
  | otpLifeCycle
  /-- OTP.PROGRAM_FAIL, 0xED, base class Notice (16_otp.md). -/
  | otpProgramFail
  /-- OTP.POLICY_HALT, 0xEE, base class Severe (16_otp.md). -/
  | otpPolicyHalt
  /-- SURVEY.RO_RANGE, 0xF0, base class Notice (17_ageing_and_spares.md). -/
  | surveyRoRange
  /-- SURVEY.SLACK_FAIL, 0xF1, base class Severe (17_ageing_and_spares.md). -/
  | surveySlackFail
  /-- SURVEY.NO_MARGIN, 0xF2, base class Degraded (17_ageing_and_spares.md). -/
  | surveyNoMargin
  /-- SPARE.SRAM_USED, 0xF3, base class Notice (17_ageing_and_spares.md). -/
  | spareSramUsed
  /-- SPARE.SRAM_EXHAUSTED, 0xF4, base class Degraded (17_ageing_and_spares.md). -/
  | spareSramExhausted
  /-- SPARE.LE_USED, 0xF5, base class Notice (17_ageing_and_spares.md). -/
  | spareLeUsed
  /-- SPARE.SE_USED, 0xF6, base class Notice (17_ageing_and_spares.md). -/
  | spareSeUsed
  /-- SE_x.PARITY, 0xF7, base class Severe (17_ageing_and_spares.md). -/
  | seParity
  /-- SPARE.EXHAUSTED, 0xF8, base class Degraded (17_ageing_and_spares.md). -/
  | spareExhausted
  deriving DecidableEq, Repr

/-- LAYER section of the legend (R50). Spec 01_layer_cycle.md. -/
structure LegLayer where
  /-- ADMIT_TIMEOUT (1–3,600 s; R50). -/
  admitTimeoutS : Nat := 300
  /-- OVERLAP permitted (0, 1; R50). -/
  overlap : Bool := true
  /-- CARRIAGE_MARGIN (0–10,000 ms; R50). -/
  carriageMarginMs : Nat := 100
  /-- SHARED_BELT (0, 1; R50). -/
  sharedBelt : Bool := false
  /-- NIP_PATH (1 to 2^31−1 counts; R50). -/
  nipPath : Nat := 529134
  /-- T_SEPARATE (0–60,000 ms; R50). -/
  tSeparateMs : Nat := 20
  /-- T_LOWER (0–60,000 ms; R50). -/
  tLowerMs : Nat := 60
  /-- T_RETURN (1–60,000 ms; R50). -/
  tReturnMs : Nat := 700
  /-- T_FEED (0–60,000 ms; R50). -/
  tFeedMs : Nat := 200
  deriving DecidableEq, Repr

/-- header of a maintenance command (R364). Spec 12_host_link_and_jobs.md. -/
structure MqHeader where
  /-- CQ (4 bits; R364). -/
  cq : Nat := 0
  /-- CMD_TAG (32 bits; R364). -/
  tag : Nat := 0
  /-- SEQ (64 bits; R364). -/
  seq : Nat := 0
  deriving DecidableEq, Repr

/-- decoder section of the legend (R80). Spec 02_kyrex_raster_code.md. -/
structure LegDecoder where
  /-- PRIME_DEPTH (1–64 lines; R80). -/
  primeDepth : Nat := 48
  /-- RESTART_LIMIT (1–65,535 lines; R80). -/
  restartLimit : Nat := 256
  deriving DecidableEq, Repr

/-- pixel-path section of the legend, one station's set (R116). Spec 03_pixel_path.md. -/
structure LegPixel where
  /-- EMITTERS, E (8–32, multiple of 4; R116). -/
  emitters : Nat := 16
  /-- STAGGER c_e (32 × 0–31 lines; R116). -/
  stagger : List Nat := List.range 32
  /-- EMIT_DELAY (32 × 0–65,535 taps; R116). -/
  emitDelay : List Nat := []
  /-- CELL_Q (0x0100–0xFFFF; R116). -/
  cellQ : Nat := 0x0700
  /-- BOW LINE (64 × −16 to +16 lines; R116). -/
  bowLine : List Int := []
  /-- BOW SHIFT (64 × −32,768 to +32,767 taps; R116). -/
  bowShift : List Int := []
  /-- FACET DELAY (12 × 0–65,535 taps; R116). -/
  facetDelay : List Nat := []
  /-- FACET TRIM (12 × −256 to +256; R116). -/
  facetTrim : List Int := []
  /-- LUT, index ((set × 4 + band) × 32 + emitter) × 16 + level (8 × 4 × 32 × 16 × 16 bits; R116). -/
  lut : List Nat := []
  /-- TRACKS (1–4; R116). -/
  tracks : Nat := 1
  /-- TRIM_INIT (32 × −128 to +127; R116). -/
  trimInit : List Int := []
  /-- TRIM_LIMIT (1–128; R116). -/
  trimLimit : Nat := 128
  /-- PROBE_CODE (10 bits; R116). -/
  probeCode : Nat := 0
  /-- FAST_ENABLE (0, 1; R116). -/
  fastEnable : Bool := false
  /-- SLOW_ENABLE (0, 1; R116). -/
  slowEnable : Bool := false
  /-- FAST_TARGET, T_e (32 × 0–65,535; R116). -/
  fastTarget : List Nat := []
  /-- FAST_DEADBAND, DB (1–255; R116). -/
  fastDeadband : Nat := 1
  /-- SLOW_TARGET, V_set (8 × −1,200 to 0 V; R116). -/
  slowTarget : List Int := []
  /-- SLOW_BAND (1–100 V; R116). -/
  slowBand : Nat := 1
  /-- SLOW_LIMIT (0–16; R116). -/
  slowLimit : Nat := 0
  /-- SPARE_ENABLE (0, 1; R116). -/
  spareEnable : Bool := true
  deriving DecidableEq, Repr

/-- scan-timing section of the legend, one station's fields (R149). Spec 04_scan_timing.md. -/
structure LegScanStation where
  /-- LINE_CYCLES, N_c (781–65,535; R149). -/
  lineCycles : Nat := 14173
  /-- BD_THRESH (0–255; R149). -/
  bdThresh : Nat := 0
  /-- BD_POLARITY (0, 1; R149). -/
  bdFalling : Bool := false
  /-- BD_MIN_WIDTH (1–63; R149). -/
  bdMinWidth : Nat := 1
  /-- BD_DELAY (512–32,767; R149). -/
  bdDelay : Nat := 4096
  /-- BD_WINDOW (64–8,191; R149). -/
  bdWindow : Nat := 1024
  /-- FACET_ID_MODE (0, 1; R149). -/
  signature : Bool := false
  /-- FACET_SIG (12 × −32,768 to +32,767; R149). -/
  facetSig : List Int := []
  /-- SIG_MARGIN (1–65,535; R149). -/
  sigMargin : Nat := 1
  /-- X_OFF (0–65,535; R149). -/
  xOff : Nat := 1024
  /-- SCHED_GAIN (0–8; R149). -/
  schedGain : Nat := 2
  /-- SCHED_SLEW (0–1,023; R149). -/
  schedSlew : Nat := 32
  /-- LOCK_BAND (1–65,535; R149). -/
  lockBand : Nat := 256
  /-- UNLOCK_BAND (1–65,535; R149). -/
  unlockBand : Nat := 1771
  /-- CAPTURE_BAND (1–65,535; R149). -/
  captureBand : Nat := 3543
  /-- SPARE_CHAIN_ENABLE (0, 1; R149). -/
  spareChain : Bool := true
  deriving DecidableEq, Repr

/-- scan-timing section of the legend (R149). Spec 04_scan_timing.md. -/
structure LegScan where
  /-- LINE_RATE (1,000–200,000,000; R149). -/
  lineRate : Nat := 23616000
  /-- K_Q (256–16,777,215; R149). -/
  kq : Nat := 4096
  /-- SPEED: σ_Q and PLL_N; an unused entry is (0, 0) (16 entries; R149). -/
  speeds : List (Nat × Nat) := [(4096, 200)]
  /-- SSC_DEPTH (0–20; R149). -/
  sscDepth : Nat := 0
  /-- SSC_RATE (0–12; R149). -/
  sscRate : Nat := 0
  /-- DLL_CAL_INTERVAL for Cold, Normal, Warm and Hot (4 × 1–60 min; R149). -/
  calInterval : List Nat := [10, 10, 5, 2]
  /-- per-station fields (6 sets; R149). -/
  stations : Vector LegScanStation 6 := Vector.replicate 6 {}
  deriving DecidableEq, Repr

/-- a pair of the timebase bridge: a PXA edge and the MOTN count that it meets (R143). Spec 04_scan_timing.md. -/
structure ClockPair where
  /-- station-time cycle of the edge (48 bits, PXA cycles; R143). -/
  edge : Nat := 0
  /-- MOTN count of the pair (1/64 MOTN cycle; R143). -/
  count : Nat := 65536
  /-- MOTN count of the pair 1,024 PXA cycles earlier (1/64 MOTN cycle; R143). -/
  before : Nat := 0
  deriving DecidableEq, Repr

/-- one entry of a general compare list (R168). Spec 05_registration.md. -/
structure LegCmpEntry where
  /-- POS (−2^39 to 2^39 − 1; R168). -/
  pos : Int := 0
  /-- DIR (0, 1; R168). -/
  backward : Bool := false
  /-- ACTION (0–3; R168). -/
  action : CmpAction := .pulse
  /-- WIDTH (1–65,535; R168). -/
  width : Nat := 1
  deriving DecidableEq, Repr

/-- one general compare list (R168). Spec 05_registration.md. -/
structure LegCmp where
  /-- base and axis (BELT_LAYER (none) or AXIS (0 carriage, 1 roller, 2–5 Z0–Z3); R168). -/
  axis : Option Nat := none
  /-- idle level (0, 1; R168). -/
  idle : Bool := false
  /-- entries (0–64; R168). -/
  entries : List LegCmpEntry := []
  deriving DecidableEq, Repr

/-- one emulated output (R178). Spec 05_registration.md. -/
structure LegEmu where
  /-- source (none, belt (false) or carriage (true); R178). -/
  source : Option Bool := none
  /-- EMU_N (1–65,535; R178). -/
  n : Nat := 1
  /-- EMU_M (1–65,535; R178). -/
  m : Nat := 1
  /-- EMU_ZLEN (1–2^31 − 1; R178). -/
  zlen : Nat := 1
  deriving DecidableEq, Repr

/-- one SSI master (R153). Spec 05_registration.md. -/
structure LegSsi where
  /-- SSI_CLK (1–100, in 0.1 MHz; R181). -/
  clk : Nat := 1
  /-- SSI_BITS (8–40; R181). -/
  bits : Nat := 24
  /-- SSI_PERIOD (10–1,000 µs; R181). -/
  period : Nat := 100
  /-- SSI_TM (1–100 µs; R181). -/
  tm : Nat := 10
  /-- SSI_LAT (0–65,535 ns; R181). -/
  lat : Nat := 0
  /-- Gray code (0, 1; R181). -/
  gray : Bool := false
  /-- even parity bit present (0, 1; R181). -/
  parity : Bool := false
  /-- error bit present (0, 1; R181). -/
  error : Bool := false
  deriving DecidableEq, Repr

/-- one mark input (R154, R170). Spec 05_registration.md. -/
structure LegMark where
  /-- MARK_FILT (0–255; R181). -/
  filt : Nat := 0
  /-- polarity (0, 1; R181). -/
  falling : Bool := false
  /-- U_m (0–32,767; R181). -/
  u : Nat := 0
  /-- MARK_DIST_m (0–2^31 − 1; R181). -/
  dist : Nat := 0
  deriving DecidableEq, Repr

/-- position section, one station's fields (R163, R170). Spec 05_registration.md. -/
structure LegPosStation where
  /-- D_NOM (0–2^39 − 1, 1/256 count; R181). -/
  dNom : Nat := 147068928
  /-- a (0–65,535; R181). -/
  a : Nat := 0
  /-- h (1–255; R181). -/
  h : Nat := 1
  /-- b (0–65,535; R181). -/
  b : Nat := 0
  /-- c_d (0–32,767; R181). -/
  cd : Nat := 0
  deriving DecidableEq, Repr

/-- position source and limits of one axis (R155, R158). Spec 05_registration.md. -/
structure LegAxis where
  /-- SOURCE kind (—; R181). -/
  source : PosSource := .none
  /-- SOURCE number (0–3; R181). -/
  input : Nat := 0
  /-- LIM_LO (−2^31 to 2^31 − 1; R181). -/
  lo : Int := -2147483648
  /-- LIM_HI (−2^31 to 2^31 − 1; R181). -/
  hi : Int := 2147483647
  deriving DecidableEq, Repr

/-- position section of the legend (R181). Spec 05_registration.md. -/
structure LegPosition where
  /-- BELT_LEN (1,024–2,147,483,647; R181). -/
  beltLen : Nat := 2408448
  /-- the belt's quadrature input (0–3; R155). -/
  beltInput : Nat := 0
  /-- BELT_INDEX_SRC (none or ENCn; R181). -/
  indexSrc : Option Nat := none
  /-- BELT_INDEX_POS (0–BELT_LEN − 1; R181). -/
  indexPos : Nat := 0
  /-- BELT_INDEX_TOL (1–65,535; R181). -/
  indexTol : Nat := 1
  /-- ARM_LEAD (256–65,535; R181). -/
  armLead : Nat := 2000
  /-- ORIGIN (0–64; R181). -/
  origins : List Nat := []
  /-- per-station fields (6 sets; R181). -/
  stations : Vector LegPosStation 6 := Vector.replicate 6 {}
  /-- per-axis fields (carriage, roller, Z0–Z3; R181). -/
  axes : Vector LegAxis 6 := Vector.replicate 6 {}
  /-- ENC_FILT (0–7; R181). -/
  encFilt : Vector Nat 4 := Vector.replicate 4 0
  /-- SSI masters (4; R181). -/
  ssi : Vector LegSsi 4 := Vector.replicate 4 {}
  /-- mark inputs (4; R181). -/
  marks : Vector LegMark 4 := Vector.replicate 4 {}
  /-- MARK_WINDOW (1–65,535; R181). -/
  markWindow : Nat := 1
  /-- MARK_MIN_SENSORS (1–4; R181). -/
  minSensors : Nat := 1
  /-- REF_STATION (A–F; R181). -/
  refStation : Nat := 0
  /-- REG_LOOP_ENABLE (0, 1; R181). -/
  regEnable : Bool := false
  /-- REG_GAIN (1–256; R181). -/
  regGain : Nat := 128
  /-- REG_DEADBAND (0–255; R181). -/
  regDeadband : Nat := 8
  /-- REG_FORCE_BAND (0–255; R181). -/
  regForce : Nat := 16
  /-- REG_STEP_MAX (0–255; R181). -/
  regStep : Nat := 32
  /-- REG_RANGE_X (0–2^24; R181). -/
  regRangeX : Nat := 16777216
  /-- REG_RANGE_I (0–32,767; R181). -/
  regRangeI : Nat := 32767
  /-- CMP (8 lists; R181). -/
  cmps : Vector LegCmp 8 := Vector.replicate 8 {}
  /-- EMU (2; R181). -/
  emus : Vector LegEmu 2 := Vector.replicate 2 {}
  deriving DecidableEq, Repr

/-- coefficient set of the PID form (R217, R196). Spec 06_polygon_drives.md. -/
structure LegPid where
  /-- KP (Q4.28; R239). -/
  kp : Int := 0
  /-- KI (Q4.28; R239). -/
  ki : Int := 0
  /-- KD (Q4.28; R239). -/
  kd : Int := 0
  /-- KF (Q4.28, (0, 1]; R239). -/
  kf : Int := 268435456
  /-- KFF (Q4.28; R239). -/
  kff : Int := 0
  /-- D_ON_ERROR (0, 1; R239). -/
  dOnError : Bool := false
  /-- G_EXP (−8 to +8; R239). -/
  gexp : Int := 0
  /-- U_LO (Q1.31; R239). -/
  uLo : Int := -2147483648
  /-- U_HI (Q1.31; R239). -/
  uHi : Int := 2147483647
  /-- U0 (Q1.31; R239). -/
  u0 : Int := 0
  deriving DecidableEq, Repr

/-- a speed region of SPEED_PID (R196, R207, R220). Spec 06_polygon_drives.md. -/
structure LegSpeedRegion where
  /-- lowest speed of the region (rpm; R207). -/
  lo : Nat := 0
  /-- highest speed of the region (rpm; R207). -/
  hi : Nat := 30000
  /-- coefficient set (PID set; R207). -/
  set : LegPid := {}
  deriving DecidableEq, Repr

/-- polygon section of the legend, one station's set (R207). Spec 06_polygon_drives.md. -/
structure LegPoly where
  /-- ENABLE (0, 1; R207). -/
  enable : Bool := false
  /-- DIR (0, 1; R207). -/
  dir : Bool := false
  /-- POLE_PAIRS (1–8; R207). -/
  polePairs : Nat := 2
  /-- R_S (1–65,535 mΩ; R207). -/
  rs : Nat := 1
  /-- L_S (1–65,535 × 0.1 µH; R207). -/
  ls : Nat := 1
  /-- PSI_M (1–65,535 µV·s; R207). -/
  psiM : Nat := 1
  /-- DEADTIME (20–800; R207). -/
  deadtime : Nat := 160
  /-- T_SHUNT (200–1,600; R207). -/
  tShunt : Nat := 600
  /-- SHUNT_GAIN (1–65,535 µA; R207). -/
  shuntGain : Nat := 1
  /-- SHUNT_OFS_MAX (1–2,047; R207). -/
  shuntOfsMax : Nat := 2047
  /-- I_MAX (1–65,535 mA; R207). -/
  iMax : Nat := 4000
  /-- I_TRIP (1–65,535 mA; R207). -/
  iTrip : Nat := 8000
  /-- I_REGEN_MAX (1–65,535 mA; R207). -/
  iRegenMax : Nat := 1
  /-- CURRENT_PID, q loop (PID set; R207). -/
  currentPid : LegPid := {}
  /-- CURRENT_PID, d loop (PID set; R209). -/
  currentPidD : LegPid := {}
  /-- SPEED_PID (1 to 8 regions; R207). -/
  speedPid : List LegSpeedRegion := []
  /-- LISTEN_TIME (10–500 ms; R207). -/
  listenMs : Nat := 50
  /-- SPINDOWN_TIMEOUT (1–120 s; R207). -/
  spindownS : Nat := 1
  /-- SAT_PULSE (2–200 µs; R207). -/
  satPulse : Nat := 20
  /-- SAT_GAP (50–5,000 µs; R207). -/
  satGap : Nat := 500
  /-- U_SAT (5–100 %; R207). -/
  uSat : Nat := 50
  /-- SAT_MARGIN (1–50 %; R207). -/
  satMargin : Nat := 4
  /-- START_TRIES (1–7; R207). -/
  startTries : Nat := 1
  /-- I_OL (1–65,535 mA; R207). -/
  iOl : Nat := 1200
  /-- OL_ACC (10–10,000 rpm/s; R207). -/
  olAcc : Nat := 600
  /-- OBS_RPM (300–2,000; R207). -/
  obsRpm : Nat := 300
  /-- OBS_RESID (1–65,535 mA; R207). -/
  obsResid : Nat := 400
  /-- OBS_BW (10–2,000 Hz; R207). -/
  obsBw : Nat := 10
  /-- BD_COMM_ENABLE (0, 1; R207). -/
  bdComm : Bool := true
  /-- BD_COMM_RPM (1,000–30,000; R207). -/
  bdCommRpm : Nat := 1000
  /-- POLY_ACC (10–20,000 rpm/s; R207). -/
  acc : Nat := 3000
  /-- POLY_DEC (10–20,000 rpm/s; R207). -/
  dec : Nat := 10
  /-- POLY_MAX_RPM (1,000–30,000; R207). -/
  maxRpm : Nat := 30000
  /-- PH_GAIN (1–65,535 / 65,536; R207). -/
  phGain : Nat := 4096
  /-- PH_TRIM_MAX (1–200 × 0.01 %; R207). -/
  phTrimMax : Nat := 50
  /-- PHASE_BAND (16–65,535; R207). -/
  phaseBand : Nat := 512
  /-- PHASE_UNLOCK (16–65,535; R207). -/
  phaseUnlock : Nat := 1024
  /-- SPEED_BAND (1–1,000 × 0.01 %; R207). -/
  speedBand : Nat := 1
  /-- SPEED_TIMER (1–1,000 ms; R207). -/
  speedTimer : Nat := 1
  /-- RECATCH_MIN_RPM (300–30,000; R207). -/
  recatchMinRpm : Nat := 300
  /-- RECATCH_WINDOW (5–200 ms; R207). -/
  recatchWindow : Nat := 20
  /-- RECATCH_TRIES (1–15; R207). -/
  recatchTries : Nat := 3
  /-- EMF_THRESH (4–1,020 mV; R207). -/
  emfThresh : Nat := 4
  /-- F, facets of the station's polygon (4–12; R1, R121). -/
  facets : Nat := 8
  deriving DecidableEq, Repr

/-- one section of a BIQUAD law (R218). Spec 07_control_loops.md. -/
structure LegSection where
  /-- b0 (Q4.28; R239). -/
  b0 : Int := 0
  /-- b1 (Q4.28; R239). -/
  b1 : Int := 0
  /-- b2 (Q4.28; R239). -/
  b2 : Int := 0
  /-- a1 (Q4.28; R239). -/
  a1 : Int := 0
  /-- a2 (Q4.28; R239). -/
  a2 : Int := 0
  deriving DecidableEq, Repr

/-- one coefficient set of a loop (R217–R219, R239). Spec 07_control_loops.md. -/
structure LegCoef where
  /-- KP (Q4.28; R239). -/
  kp : Int := 0
  /-- KI (Q4.28; R239). -/
  ki : Int := 0
  /-- KD (Q4.28; R239). -/
  kd : Int := 0
  /-- KF (Q4.28, (0, 1]; R239). -/
  kf : Int := 268435456
  /-- KFF (Q4.28; R239). -/
  kff : Int := 0
  /-- D_ON_ERROR (0, 1; R239). -/
  dOnError : Bool := false
  /-- BIQUAD sections (1–4; R239). -/
  sections : List LegSection := []
  /-- K1–K4 of the STATE law (up to 4 × Q4.28; R239). -/
  k : List Int := []
  deriving DecidableEq, Repr

/-- one gain-scheduling region (R220). Spec 07_control_loops.md. -/
structure LegRegion where
  /-- SP_LO (loop's unit; R239). -/
  spLo : Int := 0
  /-- SP_HI (loop's unit; R239). -/
  spHi : Int := 0
  /-- X_LO (loop's unit; R239). -/
  xLo : Int := 0
  /-- X_HI (loop's unit; R239). -/
  xHi : Int := 0
  /-- SET (0–7; R239). -/
  set : Nat := 0
  deriving DecidableEq, Repr

/-- loop section, one loop's fields (R239). Spec 07_control_loops.md. -/
structure LegLoop where
  /-- ENABLE (0, 1; R239). -/
  enable : Bool := false
  /-- ENGINE (0–3; R239). -/
  engine : Nat := 0
  /-- PHASE (0 to period/10,000 − 1; R239). -/
  phase : Nat := 0
  /-- LAW (3; R239). -/
  law : LoopLaw := .pid
  /-- MEAS_FS (1–65,535; R239). -/
  measFs : Nat := 1
  /-- G_EXP (−8 to +8; R239). -/
  gexp : Int := 0
  /-- U_LO (Q1.31; R239). -/
  uLo : Int := -2147483648
  /-- U_HI (Q1.31; R239). -/
  uHi : Int := 2147483647
  /-- U0 (Q1.31; R239). -/
  u0 : Int := 0
  /-- COEF (8 sets; R239). -/
  coefs : List LegCoef := []
  /-- state sources (up to 4; R239). -/
  sources : List (StateSource × Nat) := []
  /-- REGION (1–8; R239). -/
  regions : List LegRegion := []
  /-- X_SOURCE (4; R239). -/
  xSource : XSource := .none
  /-- the other loop of X_SOURCE (0–63; R239). -/
  xLoop : Nat := 0
  /-- HYST_SP (0–65,535; R239). -/
  hystSp : Nat := 0
  /-- HYST_X (0–65,535; R239). -/
  hystX : Nat := 0
  /-- BUMP_SHIFT (1–15; R239). -/
  bumpShift : Nat := 1
  /-- V_MAX (0–2^31 − 1; R239). -/
  vMax : Nat := 0
  /-- A_MAX (0–2^31 − 1; R239). -/
  aMax : Nat := 0
  /-- J_MAX (0–2^31 − 1; R239). -/
  jMax : Nat := 0
  /-- FE_LIMIT (1–65,535; R239). -/
  feLimit : Nat := 1
  /-- FE_BAND (1–65,535; R239). -/
  feBand : Nat := 1
  /-- FE_TIMER (1–65,535; R239). -/
  feTimer : Nat := 1
  /-- FE_SETTLE (1–65,535; R239). -/
  feSettle : Nat := 1
  /-- SAFE_SETTLE (1–65,535; R239). -/
  safeSettle : Nat := 1
  deriving DecidableEq, Repr

/-- loop section, one HV channel's fields (R226, R239). Spec 07_control_loops.md. -/
structure LegHv where
  /-- VMON_FS (−4,000 to +4,000 V; R239). -/
  vmonFs : Int := -4000
  /-- IMON_FS (1–10,000 µA; R239). -/
  imonFs : Nat := 1
  /-- SP (8 V; R239). -/
  sp : List Int := []
  /-- SAFE_SP (V; R239). -/
  safeSp : Int := 0
  /-- OV_LIMIT (V; R239). -/
  ovLimit : Int := 0
  /-- SAFE_CODE (0–65,535; R239). -/
  safeCode : Nat := 0
  deriving DecidableEq, Repr

/-- loop section, one station's developer AC (R231, R239). Spec 07_control_loops.md. -/
structure LegAc where
  /-- AC_FREQ (1,000–3,000 Hz; R239). -/
  freq : Nat := 1000
  /-- AC_SP (8 × 0 or 100–2,000 V; R239). -/
  sp : List Nat := []
  /-- WAVE, index ((T × 4 + H) × 256) + point (4 × 4 × 256; R239). -/
  wave : List Int := []
  deriving DecidableEq, Repr

/-- loop section, one heater zone (R234, R235, R239). Spec 07_control_loops.md. -/
structure LegZone where
  /-- SENSOR (0–15; R239). -/
  sensor : Nat := 0
  /-- SENSOR2 (none or 0–15; R239). -/
  sensor2 : Option Nat := none
  /-- MODE (DC or AC_ZC; R239). -/
  acZc : Bool := false
  /-- DUTY_MAX (1–65,535; R239). -/
  dutyMax : Nat := 65535
  /-- SP_INIT (−400 to 4,500 × 0.1 °C; R239). -/
  spInit : Int := -400
  /-- HEAT_SAT_TIME (1–3,600 s; R239). -/
  satTime : Nat := 1
  deriving DecidableEq, Repr

/-- loop section of the legend (R239). Spec 07_control_loops.md. -/
structure LegLoops where
  /-- loops (64; R239). -/
  loops : Vector LegLoop 64 := Vector.replicate 64 {}
  /-- HV channels (18; R239). -/
  hv : Vector LegHv 18 := Vector.replicate 18 {}
  /-- developer AC (6; R239). -/
  ac : Vector LegAc 6 := Vector.replicate 6 {}
  /-- HUM_FS (1–1,000 × 0.1 %RH per mV; R239). -/
  humFs : Nat := 1
  /-- HUM_T1 (1–99 %RH; R239). -/
  humT1 : Nat := 1
  /-- HUM_T2 (1–99 %RH; R239). -/
  humT2 : Nat := 2
  /-- HUM_T3 (1–99 %RH; R239). -/
  humT3 : Nat := 3
  /-- heater zones (8; R239). -/
  zones : Vector LegZone 8 := Vector.replicate 8 {}
  deriving DecidableEq, Repr

/-- motion section, one servo's fields (R269). Spec 08_motion.md. -/
structure LegServo where
  /-- ENABLE (0, 1; R269). -/
  enable : Bool := true
  /-- POLE_PAIRS (1–16; R269). -/
  polePairs : Nat := 1
  /-- COMM_NUM (1–65,535; R269). -/
  commNum : Nat := 1
  /-- COMM_DEN (1–65,535; R269). -/
  commDen : Nat := 1
  /-- COMM_OFFSET (0–4,095 or unknown; R269). -/
  commOffset : Option Nat := some 0
  /-- I_ALIGN (1–65,535 mA; R269). -/
  iAlign : Nat := 1
  /-- ALIGN_TIME (10–2,000 ms; R269). -/
  alignTime : Nat := 10
  /-- ALIGN_MAX (1–65,535; R269). -/
  alignMax : Nat := 1
  /-- V_MAX (1–2^31 − 1; R269). -/
  vMax : Nat := 1
  /-- A_MAX (1–2^31 − 1; R269). -/
  aMax : Nat := 1
  /-- J_MAX (1–2^31 − 1; R269). -/
  jMax : Nat := 1
  /-- A_STOP (1–2^31 − 1; R269). -/
  aStop : Nat := 1889764
  /-- J_STOP (1–2^31 − 1; R269). -/
  jStop : Nat := 18897638
  /-- KA (Q4.28; R269). -/
  ka : Int := 0
  /-- REST_SPEED (1–65,535; R269). -/
  restSpeed : Nat := 1
  /-- V_HOME (1–2^24; R269). -/
  vHome : Nat := 1
  /-- HOME_POS (±2^31; R269). -/
  homePos : Int := 0
  /-- HOME_RANGE (1–2^31 − 1; R269). -/
  homeRange : Nat := 1
  /-- I_TRIP, by the rules of R183–R186 (1–65,535 mA; R241). -/
  iTrip : Nat := 8000
  /-- DEADTIME, by the rules of R183–R186 (20–800; R241). -/
  deadtime : Nat := 160
  /-- T_SHUNT, by the rules of R183–R186 (200–1,600; R241). -/
  tShunt : Nat := 600
  /-- SHUNT_GAIN, by the rules of R183–R186 (1–65,535 µA; R241). -/
  shuntGain : Nat := 1000
  /-- quadrature input named as the commutation source (none or 0–3; R243). -/
  commInput : Option Nat := none
  deriving DecidableEq, Repr

/-- motion section, one stepper channel's fields (R269). Spec 08_motion.md. -/
structure LegStepper where
  /-- I_FS (1–10,000 mA; R269). -/
  iFs : Nat := 1
  /-- I_RUN (1–10,000 mA; R269). -/
  iRun : Nat := 1
  /-- I_HOLD (0–10,000 mA; R269). -/
  iHold : Nat := 0
  /-- HOLD_DELAY (1–10,000 ms; R269). -/
  holdDelay : Nat := 1
  /-- T (256 × 0–4,095; R269). -/
  shape : List Nat := []
  /-- MS (0–8; R269). -/
  ms : Nat := 4
  /-- T_BLANK (1–16 × 0.25 µs; R269). -/
  tBlank : Nat := 1
  /-- T_OFF (2–128 × 0.25 µs; R269). -/
  tOff : Nat := 2
  /-- MIX (0–16; R269). -/
  mix : Nat := 0
  /-- V_START (1–2^24; R269). -/
  vStart : Nat := 1000
  /-- V_STOP (1–2^24; R269). -/
  vStop : Nat := 1000
  /-- V_BREAK (1–2^24; R269). -/
  vBreak : Nat := 3000
  /-- V_MAX (1–2^24; R269). -/
  vMax : Nat := 5000
  /-- A1 (1–2^24; R269). -/
  a1 : Nat := 100000
  /-- A2 (1–2^24; R269). -/
  a2 : Nat := 50000
  /-- D1 (1–2^24; R269). -/
  d1 : Nat := 100000
  /-- D2 (1–2^24; R269). -/
  d2 : Nat := 50000
  /-- DIR_SETUP (1–1,000 × 0.1 µs; R269). -/
  dirSetup : Nat := 10
  /-- SETTLE_TIME (0–1,000 ms; R269). -/
  settle : Nat := 20
  /-- V_HOME (1–2^24; R269). -/
  vHome : Nat := 1
  /-- HOME_POS (±2^31; R269). -/
  homePos : Int := 0
  /-- HOME_RANGE (1–2^31 − 1; R269). -/
  homeRange : Nat := 1
  deriving DecidableEq, Repr

/-- motion section of the legend (R269). Spec 08_motion.md. -/
structure LegMotion where
  /-- servos (belt, carriage, roller; R269). -/
  servos : Vector LegServo 3 := Vector.replicate 3 {}
  /-- ROLL_OFS (±2^31; R269). -/
  rollOfs : Int := 0
  /-- ROLL_NUM (1–65,535; R269). -/
  rollNum : Nat := 1
  /-- ROLL_DEN (1–65,535; R269). -/
  rollDen : Nat := 1
  /-- CARR_START (±2^31; R269). -/
  carrStart : Int := 0
  /-- CARR_NIP_POS (±2^31; R269). -/
  carrNipPos : Int := 150000
  /-- CARR_START_TOL (1–65,535; R269). -/
  carrStartTol : Nat := 1
  /-- CARR_GEAR_N (1–65,535; R269). -/
  gearN : Nat := 127
  /-- CARR_GEAR_M (1–65,535; R269). -/
  gearM : Nat := 96
  /-- CONTACT_OFFSET (1–2^31 − 1; R269). -/
  contactOffset : Nat := 20000
  /-- APPROACH_LEAD (50–5,000 ms; R269). -/
  approachLead : Nat := 500
  /-- CARR_SEP_COUNTS (0–2^24; R269). -/
  sepCounts : Nat := 7557
  /-- CARR_TRACK_FE (1–65,535; R269). -/
  trackFe : Nat := 1
  /-- CARR_TRACK_TIMER (1–65,535; R269). -/
  trackTimer : Nat := 1
  /-- CARR_ABORT_DEC (1–2^31 − 1; R269). -/
  abortDec : Nat := 10000000
  /-- CARR_SEP_SPEED (1–2^31 − 1; R269). -/
  sepSpeed : Nat := 1
  /-- CARR_CLEAR (1–2^31 − 1; R269). -/
  clear : Nat := 1
  /-- steppers (Z0–Z3, F0–F5; R269). -/
  steppers : Vector LegStepper 10 := Vector.replicate 10 {}
  /-- STEP_NM (1–65,535 nm; R269). -/
  stepNm : Nat := 625
  /-- Z_SKEW_MAX (1–65,535; R269). -/
  skewMax : Nat := 1
  /-- V_UV (200–900 × 0.1 V; R269). -/
  vUv : Nat := 360
  /-- V1 (200–900 × 0.1 V; R269). -/
  v1 : Nat := 560
  /-- V2 (200–900 × 0.1 V; R269). -/
  v2 : Nat := 600
  /-- V3 (200–900 × 0.1 V; R269). -/
  v3 : Nat := 640
  /-- V1_HYST (5–100 × 0.1 V; R269). -/
  v1Hyst : Nat := 20
  /-- CHOP_I_MIN (1–200 × 0.1 A; R269). -/
  chopIMin : Nat := 5
  /-- CHOP_DETECT (2–64; R269). -/
  chopDetect : Nat := 8
  /-- CHOP_SLOPE (1–1,000 V/ms; R269). -/
  chopSlope : Nat := 20
  /-- CHOP_R (1–1,000 Ω; R269). -/
  chopR : Nat := 1
  /-- CHOP_TAU (1–600 s; R269). -/
  chopTau : Nat := 1
  /-- CHOP_E_MAX (1–65,535 J; R269). -/
  chopEMax : Nat := 1
  deriving DecidableEq, Repr

/-- thermal section, one external input (R288). Spec 09_thermal.md. -/
structure LegTin where
  /-- TYPE (8; R288). -/
  type : TinType := .unused
  /-- WIRING (2–4; R288). -/
  wiring : Nat := 2
  /-- CJC_SOURCE (input 0–15, or die sensor 11 (none); R288). -/
  cjc : Option Nat := none
  /-- PHASE (0–3,999; R288). -/
  phase : Nat := 0
  /-- TEMP_LO (−2,000 to 18,000 × 0.1 °C; R288). -/
  lo : Int := -2000
  /-- TEMP_HI (−2,000 to 18,000 × 0.1 °C; R288). -/
  hi : Int := 18000
  deriving DecidableEq, Repr

/-- thermal section of the legend (R288). Spec 09_thermal.md. -/
structure LegThermal where
  /-- inputs (16; R288). -/
  inputs : Vector LegTin 16 := Vector.replicate 16 {}
  /-- DRUM_SENSOR (none or 0–15; R288). -/
  drumSensor : Vector (Option Nat) 6 := Vector.replicate 6 none
  /-- DRUM_T1 (−400 to 1,500 × 0.1 °C; R288). -/
  drumT1 : Int := -400
  /-- DRUM_T2 (−400 to 1,500 × 0.1 °C; R288). -/
  drumT2 : Int := -399
  /-- DRUM_T3 (−400 to 1,500 × 0.1 °C; R288). -/
  drumT3 : Int := -398
  /-- DRUM_HYST (5–100 × 0.1 °C; R288). -/
  drumHyst : Nat := 5
  /-- DIE_HYST (1–10 °C; R288). -/
  dieHyst : Nat := 3
  /-- THROT_GAIN (1–256; R288). -/
  throtGain : Nat := 51
  /-- THROT_MIN (16–64; R288). -/
  throtMin : Nat := 29
  /-- CRIT_MARGIN (0–10,000 ms; R288). -/
  critMargin : Nat := 100
  /-- ZONE_LIMIT (−400 to 4,500 × 0.1 °C; R288). -/
  zoneLimit : Vector Int 8 := Vector.replicate 8 4500
  /-- ZONE_SPAN (5–1,000 × 0.1 °C; R288). -/
  zoneSpan : Vector Nat 8 := Vector.replicate 8 10
  deriving DecidableEq, Repr

/-- power section, one rail (R319). Spec 10_power_sequencing.md. -/
structure LegRail where
  /-- USE (0, 1; R319). -/
  use : Bool := false
  /-- KEEP_ON (0, 1; R319). -/
  keepOn : Bool := false
  /-- PG_POL (0, 1; R319). -/
  pgHigh : Bool := true
  /-- PG_FILT (1–10,000 µs; R319). -/
  pgFilt : Nat := 1
  /-- PG_LATE_TIME (1–100,000 × 0.1 ms; R319). -/
  pgLateTime : Nat := 1
  /-- OFF_TIME (1–100,000 × 0.1 ms; R319). -/
  offTime : Nat := 1
  /-- MON (none or PS_MON_n; R319). -/
  mon : Option Nat := none
  /-- MON_GAIN (1–65,535; R319). -/
  monGain : Nat := 1
  /-- UV_LIMIT (0–655,350 mV; R319). -/
  uvLimit : Nat := 0
  /-- OV_LIMIT (0–655,350 mV; R319). -/
  ovLimit : Nat := 655350
  /-- OFF_V (0–655,350 mV; R319). -/
  offV : Nat := 0
  /-- FAIL_UP_CLASS (4 classes; R319). -/
  failUpClass : FaultClass := .degraded
  /-- PG_LOST_CLASS (4 classes; R319). -/
  pgLostClass : FaultClass := .severe
  /-- UV_CLASS (4 classes; R319). -/
  uvClass : FaultClass := .degraded
  /-- OV_CLASS (4 classes; R319). -/
  ovClass : FaultClass := .severe
  deriving DecidableEq, Repr

/-- power section of the legend (R319). Spec 10_power_sequencing.md. -/
structure LegPower where
  /-- rails (24; R319). -/
  rails : Vector LegRail 24 := Vector.replicate 24 {}
  /-- step words (UP, DOWN, BROWNOUT, U0–U3; R319). -/
  programs : Vector (List (BitVec 64)) 7 := Vector.replicate 7 [0]
  /-- PROG_TIMEOUT (1–3,600 s; R319). -/
  progTimeout : Nat := 1
  /-- HOLDUP_TIME (1–10,000 ms; R319). -/
  holdupTime : Nat := 100
  /-- IN_FAIL_FILT (10–10,000 µs; R319). -/
  inFailFilt : Nat := 200
  /-- VCORE_INIT (720–900 mV; R319). -/
  vcoreInit : Nat := 720
  /-- PMBUS_ADDR (0x08–0x77; R319). -/
  pmbusAddr : Nat := 0x08
  /-- ULB_ENABLE (0, 1; R319). -/
  ulbEnable : Bool := false
  /-- ULB_LAYER (1–253; R319). -/
  ulbLayer : Nat := 1
  /-- DOWN_BASE (ULB_LAYER + 2 to 255; R319). -/
  downBase : Nat := 3
  /-- ULB_ABORT_PROG (NONE, DOWN; R319). -/
  ulbAbortDown : Bool := false
  /-- ULB_D_MAX (0–2^40 − 1; R319). -/
  ulbDMax : Nat := 0
  deriving DecidableEq, Repr

/-- fault section, one source's fields (R346). Spec 11_faults.md. -/
structure LegSource where
  /-- N (1–255; R346, R328). -/
  n : Nat := 255
  /-- W (1–3,600,000 ms; R346, R328). -/
  w : Nat := 3600000
  /-- CAP (base class to Grave; none: equal to the base class; R346, R328). -/
  cap : Option FaultClass := none
  /-- RESTRICT (4 codes; R346). -/
  restrict : Restriction := .none
  /-- RESTRICT_SPEED (16–64; R346). -/
  speed : Nat := 64
  /-- LOG_LIMIT (1–255; R346). -/
  logLimit : Nat := 16
  deriving DecidableEq, Repr

/-- fault section of the legend (R346). Spec 11_faults.md. -/
structure LegFaults where
  /-- sources with an entry (per source number; R346). -/
  sources : List (Nat × LegSource) := []
  /-- FAULT_CQ (0–13; R346). -/
  cq : Nat := 0
  /-- ALIVE_PERIOD (1–40 × 0.25 ms; R346). -/
  alivePeriod : Nat := 4
  /-- WDOG_TIMEOUT (10–1,000 ms; R346). -/
  wdogTimeout : Nat := 100
  /-- LSAFE_QUAL (1–10,000 ms; R346). -/
  lsafeQual : Nat := 100
  deriving DecidableEq, Repr

/-- a LOOP_TRACE source (R424). Spec 14_telemetry_codec.md. -/
structure LegLoopSource where
  /-- LOOP (0–52; R424). -/
  loop : Nat := 0
  /-- STREAM (0–11; R424). -/
  stream : Nat := 0
  /-- DECIM (1–65,535; R424). -/
  decim : Nat := 1
  deriving DecidableEq, Repr

/-- a privileged stream's fields (R424). Spec 14_telemetry_codec.md. -/
structure LegSnap where
  /-- CHAIN (device address; R424). -/
  chain : Nat := 0
  /-- SNAP_MASK: the source numbers whose bit is set (256 bits; R424). -/
  mask : List Nat := []
  /-- SNAP_CLASS (4 classes; R424). -/
  cls : FaultClass := .notice
  /-- SNAP_LOOPS (up to 4 loops 0–52; R424). -/
  loops : List Nat := []
  /-- PRE_SAMPLES (0–256; R424). -/
  pre : Nat := 0
  /-- POST_SAMPLES (0–256; R424). -/
  post : Nat := 0
  /-- RING_BASE (device address; R424). -/
  ringBase : Nat := 0
  deriving DecidableEq, Repr

/-- telemetry section of the legend (R424). Spec 14_telemetry_codec.md. -/
structure LegTelemetry where
  /-- the section is in the legend (section present; R436). -/
  present : Bool := false
  /-- CONTEXT_BASE (device address; R424). -/
  contextBase : Nat := 0
  /-- LOOP_TRACE sources (sources; R424). -/
  sources : List LegLoopSource := []
  /-- LANE_STREAM (none or 0–11; R424). -/
  laneStream : Vector (Option Nat) 6 := Vector.replicate 6 none
  /-- LANE_PERIOD (0 or 10–60,000 ms; R424). -/
  lanePeriod : Vector Nat 6 := Vector.replicate 6 0
  /-- privileged streams (T12–T15; R424). -/
  snaps : Vector LegSnap 4 := Vector.replicate 4 {}
  deriving DecidableEq, Repr

/-- BOOT section of the legend (R456, R510). Spec 15_boot_legend_discovery.md. -/
structure LegBoot where
  /-- ENABLE (0, 1; R456). -/
  portEnable : Vector Bool 8 := Vector.replicate 8 false
  /-- PERMIT per port and unit (up to 4 TYPE values; R456). -/
  permit : Vector (List Nat) 32 := Vector.replicate 32 []
  /-- REQUIRED per station (units 0–2; R456). -/
  required : Vector (List Nat) 6 := Vector.replicate 6 []
  /-- REQUIRED per auxiliary port (0, 1; R456). -/
  auxRequired : Vector Bool 2 := Vector.replicate 2 false
  /-- WEAR_ENABLE (0, 1; R456). -/
  wearEnable : Bool := false
  /-- SUBSYS_VENDOR (16 bits; R456). -/
  subsysVendor : Nat := 0
  /-- SUBSYS_ID (16 bits; R456). -/
  subsysId : Nat := 0
  /-- SLEW_GATE (0–3; R510). -/
  slewGate : Nat := 0
  /-- SLEW_STEP (0–3; R510). -/
  slewStep : Nat := 0
  /-- SLEW_DAC (0–3; R510). -/
  slewDac : Nat := 0
  /-- SLEW_POS (0–3; R510). -/
  slewPos : Nat := 0
  /-- SLEW_GEN (0–3; R510). -/
  slewGen : Nat := 0
  deriving DecidableEq, Repr

/-- header of a legend copy (R434). Spec 15_boot_legend_discovery.md. -/
structure LegendHeader where
  /-- TOTAL_LEN (304–4,194,304; R434). -/
  totalLen : Nat := 0
  /-- BUILD_ID (64 bits; R434). -/
  buildId : Nat := 0
  /-- GENERATION (32 bits; R434). -/
  generation : Nat := 0
  deriving DecidableEq, Repr

/-- what one antifuse word reads at the two margins, as bits that differ from those programmed (R463). Spec 16_otp.md. -/
structure OtpFlip where
  /-- word (10 bits; R463). -/
  addr : Nat := 0
  /-- bits that the nominal reference reads inverted (40 bits; R463). -/
  nominal : BitVec 40 := 0
  /-- bits that the tightened reference reads inverted (40 bits; R463). -/
  tight : BitVec 40 := 0
  deriving DecidableEq, Repr

/-- survey section of the legend (R497). Spec 17_ageing_and_spares.md. -/
structure LegSurvey where
  /-- SURVEY_INTERVAL (1–10 min; R497). -/
  interval : Nat := 10
  /-- SLACK_MIN (0–252 ps; R497). -/
  slackMin : Nat := 0
  /-- SLACK_BAND (4–128 ps; R497). -/
  slackBand : Nat := 4
  /-- VSTEP (10–30 mV; R497). -/
  vstep : Nat := 10
  /-- VCORE_MIN (720–900 mV; R497). -/
  vcoreMin : Nat := 720
  /-- VCORE_MAX (720–900 mV; R497). -/
  vcoreMax : Nat := 720
  /-- DRIFT_CAL (1–1,000 × 0.01 %; R497). -/
  driftCal : Nat := 1
  /-- ASSIST_T1 (1–5,000 × 0.01 %; R497). -/
  assistT1 : Nat := 1
  /-- ASSIST_T2 (1–5,000 × 0.01 %; R497). -/
  assistT2 : Nat := 2
  /-- ASSIST_T3 (1–5,000 × 0.01 %; R497). -/
  assistT3 : Nat := 3
  /-- CORR_LIMIT (1–255; R497). -/
  corrLimit : Nat := 1
  /-- CORR_WINDOW (1–168 h; R497). -/
  corrWindow : Nat := 1
  /-- SRAM_SPARE_ENABLE (0, 1; R497). -/
  sramSpare : Bool := false
  /-- LE_SPARE_ENABLE (0, 1; R497). -/
  leSpare : Bool := false
  /-- SE_SPARE_ENABLE (0, 1; R497). -/
  seSpare : Bool := false
  deriving DecidableEq, Repr

/-- what one survey measures (R481, R482). Spec 17_ageing_and_spares.md. -/
structure SurveyReading where
  /-- DEGRADE of each ring oscillator (48 × 0.01 %; R481). -/
  degrade : Vector Int 48 := Vector.replicate 48 0
  /-- the oscillator's count lies within 50 % to 150 % of its reference (48 bits; R481). -/
  inRange : Vector Bool 48 := Vector.replicate 48 true
  /-- SLACK of each canary, 0 to 63; none when it fails at delay 0 (24 × 4 ps; R482). -/
  slack : Vector (Option Nat) 24 := Vector.replicate 24 none
  deriving DecidableEq, Repr

/-- the legend's decoded content: every section's fields (R4, R436). Spec 15_boot_legend_discovery.md. -/
structure Legend where
  /-- BOOT (section; R456, R510). -/
  boot : LegBoot := {}
  /-- LAYER (section; R50). -/
  layer : LegLayer := {}
  /-- DECODER (section; R80). -/
  decoder : LegDecoder := {}
  /-- PIXEL (6 sections; R116). -/
  pixels : Vector LegPixel 6 := Vector.replicate 6 {}
  /-- SCAN (section; R149). -/
  scan : LegScan := {}
  /-- POSITION (section; R181). -/
  position : LegPosition := {}
  /-- POLYGON (6 sections; R207). -/
  polygons : Vector LegPoly 6 := Vector.replicate 6 {}
  /-- LOOP (section; R239). -/
  loops : LegLoops := {}
  /-- MOTION (section; R269). -/
  motion : LegMotion := {}
  /-- THERMAL (section; R288). -/
  thermal : LegThermal := {}
  /-- POWER (section; R319). -/
  power : LegPower := {}
  /-- FAULT (section; R346). -/
  faults : LegFaults := {}
  /-- TELEMETRY (section; R424). -/
  telemetry : LegTelemetry := {}
  /-- SURVEY (section; R497). -/
  survey : LegSurvey := {}
  deriving DecidableEq, Repr

/-- The maintenance commands with their arguments (R365); the argument ranges are those of its table. -/
inductive MqOp where
  | layerAbort (seq : Nat)
  | layerResume
  | layerFlush
  | setExposure (set : Nat)
  | setSpeed (code : Nat)
  | setHeater (mask : BitVec 8) (setPoint : Int)
  | setZStep (nm : Nat)
  | regSet (mask : BitVec 8) (xscan inscan : Int)
  | faultThresh (src n w : Nat)
  | faultClear (scope src inst : Nat)
  | polyCtrl (mask : BitVec 8) (action : Nat)
  | hvCtrl (mask : BitVec 8) (action : Nat)
  | motionStop (mask : BitVec 16)
  | motionHome (mask : BitVec 16)
  | powerDown
  | powerUp
  | powerProg (n : Nat)
  | survey
  | logRead (log first count addr : Nat)
  | warmReset (force : Bool)
  | nop
  deriving DecidableEq, Repr

/-- What the outside shows to a maintenance command as it acts. -/
structure MqOutside where
  /-- instances whose owning subsystem still reports the condition (R341), by source and instance -/
  reported : List (Nat × Nat) := []
  /-- whether the DDR4 controller would enter self-refresh within 2 µs (R427) -/
  kept : Bool := true
  deriving DecidableEq, Repr

/-- What one Jenzan poll reports of a lane under training (R108): lock, the lane identity, the configuration CRC-8. -/
structure LaneReport where
  /-- lane lock -/
  lock : Bool
  /-- lane identity it saw -/
  id : Nat
  /-- CRC-8 of the last configuration frame -/
  crc : Nat
  deriving DecidableEq, Repr

/-- What a Jenzan request does (R444, R445, R447): a poll of the status block, or a read of the identity block. -/
inductive JzRequest where
  | poll
  | identity
  deriving DecidableEq, Repr

/-- What a lane sends, one run after another (R100): a control symbol some number of times, or data bytes. -/
inductive LaneRun where
  | symbols (s : LaneSymbol) (n : Nat)
  | bytes (b : List (BitVec 8))
  deriving DecidableEq, Repr

/-- An SSI frame as the master clocks it in (R153): the bits of the position field, the bits behind it, and the line after
the last clock edge. -/
structure SsiBits where
  /-- position field as received, its first bit the most significant -/
  code : Nat
  /-- bit in the place of the parity bit -/
  parityBit : Bool := false
  /-- bit in the place of the error bit, 1 for an error -/
  errorBit : Bool := false
  /-- ns after the last clock edge from which the data line stays high; none while it stays low -/
  high : Option Nat := some 0
  /-- first falling clock edge, ns -/
  edgeNs : Nat := 0
  deriving DecidableEq, Repr

/-- What one external temperature input converts in its window of 100 ms (R271, R273). -/
structure TinRaw where
  /-- result of the 24-bit modulator, signed -/
  code : Int := 0
  /-- the RTD excitation source has lost compliance -/
  lost : Bool := false
  /-- resistance of an RTD in mΩ, or voltage of a thermocouple in nV -/
  value : Int := 0
  deriving DecidableEq, Repr

/-- An edge at a station's bearing input (R139, R140). -/
structure BdEdge where
  /-- station-time cycle of the edge -/
  cycle : Nat
  /-- datum-line tap that the edge lies at, before the correction map -/
  tap : Nat
  /-- direction of the edge -/
  falling : Bool := false
  /-- level of the input beyond the edge, mV: the highest one of a rising pulse, the lowest one of a falling pulse -/
  level : Nat := 1100
  /-- PXA cycles for which the input then stays active -/
  width : Nat := 63
  /-- latest pair of the timebase bridge -/
  pair : ClockPair := {}
  deriving DecidableEq, Repr

/-- What the analog front end holds at a loop's sampling instant (R184, R215, R226). -/
structure AnalogInput where
  /-- conversions of the shunts of phases U, V and W, counts -/
  shunts : Int × Int × Int := (0, 0, 0)
  /-- voltage monitor of an HV channel, mV -/
  mon : Nat := 0
  /-- current monitor of an HV channel, mV -/
  cur : Nat := 0
  deriving DecidableEq, Repr

/-- A zero crossing of a phase's EMF against the virtual neutral, as its comparator stamps it (R201). -/
structure EmfCrossing where
  /-- phase: 0 U, 1 V, 2 W -/
  phase : Fin 3
  /-- direction of the crossing -/
  rising : Bool
  /-- LOOP cycle of the crossing -/
  cycle : Nat
  /-- divided phase voltage beyond the crossing, mV -/
  level : Nat := 1020
  deriving DecidableEq, Repr

/-- What a datum line's code-density measurement collects (R137): samples per tap, and how many samples showed the taps out
of their order. -/
structure TapMeasure where
  /-- samples whose edge lay at each of the 128 taps -/
  hist : List Nat := List.replicate 128 8192
  /-- samples in which the tap outputs did not change in tap order -/
  disorder : Nat := 0
  deriving DecidableEq, Repr

/-- One legend copy as the boot ROM reads it (R434 to R438). The layouts of the section bodies are not in the manual, so what
the bodies decode to comes with the bytes (log entry 25). -/
structure LegendCopy where
  /-- the flash could not be read -/
  readError : Bool
  /-- bytes from the copy's first on -/
  bytes : List (BitVec 8)
  /-- section types whose body length is not the layout's -/
  badLength : List Nat
  /-- what the section bodies decode to -/
  content : Legend
  /-- section type and field index of every on/off or enumerated field whose value in the body is none of its settings -/
  outOfSet : List (Nat × Nat) := []
  deriving DecidableEq, Repr

/-- A unit found in the 50 ms of discovery, with the identity block it answers (R447, R451). -/
structure JzFound where
  /-- port -/
  port : Fin 8
  /-- unit behind the port -/
  unit : Fin 3
  /-- identity block as read -/
  block : Vector (BitVec 8) 64
  deriving DecidableEq, Repr

/-- How a program operation on one antifuse word goes (R474, R477): every requested bit reads 1 after some pulses; 8 pulses
form only some of the bits, and the word reads some of the formed bits at the nominal margin; or a reset cuts it. -/
inductive OtpPulse where
  | formed (pulses : Fin 8)
  | failed (bits nominal : BitVec 40)
  | cut (bits : BitVec 40)
  deriving DecidableEq, Repr

/-- What host memory answers when a telemetry buffer fills: NEXT read again, and the next buffer descriptor; none for an
access that ends in an error (R417, R420). -/
structure TlmAnswer where
  /-- NEXT as read -/
  next : Option (BitVec 64)
  /-- the descriptor that NEXT names -/
  desc : Option (Vector (BitVec 8) 32)
  deriving DecidableEq, Repr

/-- A byte whose value the manual leaves open, the `n`-th free value used (log entry 5). -/
opaque Config.freeByte : Nat → BitVec 8

/-- A number whose value the manual leaves open, the `n`-th free value used (log entry 5). -/
opaque Config.freeNat : Nat → Nat

/-- A yes or no that the manual leaves open, the `n`-th free value used (log entry 5). -/
opaque Config.freeBool : Nat → Bool

/-- The check bits that the Hsiao SEC-DED code of OTP words gives 32 data bits; R458 does not give its matrix, and data 0
has check bits 0 (log entry 23). -/
opaque Config.hsiao : BitVec 32 → BitVec 8

/-- ROM_REV, the boot ROM revision of this device, which the manual does not state (log entry 5). -/
opaque Config.romRev : Nat

/-- The island whose DEGRADE the shared SRAM arrays 120 to 127 follow, which R488 does not name (log entry 5). -/
opaque Config.sharedArrayIsland : Nat


/-- What the observer's tracking loop of bandwidth OBS_BW adds to its angle and to its speed for an error of the angle: R192 gives the
bandwidth and no gains (log entry 145). -/
opaque Config.track (bandwidth : Nat) (error : Int) : Int × Int

/-- The temperature in 0.1 °C that IEC 60751 or IEC 60584 gives for an input of TYPE `type`, its resistance in mΩ or its voltage in nV, and,
for a thermocouple, the temperature of its cold junction; the manual names the standards and holds none of their values (R271; log
entry 160). -/
opaque Config.temperature (type : Nat) (value cold : Int) : Int

/-- What counter `i` of a unit of TYPE `t` gains for an increment of `n`: the meaning of the three counters is the partner's
(R452; log entry 5). -/
opaque Config.wearShare (t n i : Nat) : Nat

/-- What the measurements and trainings of a layer boundary give (R487): the survey's reading, the reports to each station's
spare lane, the code-density measurement of each station's datum line (R137), and what the waiting
commands meet. -/
structure BoundaryInput where
  /-- the survey's reading -/
  reading : SurveyReading := {}
  /-- reports of a station's lane L4 under training -/
  lanes : Vector (List LaneReport) 6 := Vector.replicate 6 []
  /-- code-density measurement of a station's datum line -/
  taps : Vector TapMeasure 6 := Vector.replicate 6 {}
  /-- what the waiting commands meet -/
  outside : MqOutside := {}
  deriving DecidableEq, Repr

end Sys2Proof
end

