-- ==== Sys2Proof/Syntax.lean ====
section
/-! DEFINITION. The commands of the block: one constructor per row of spec/opcode_table.json. -/

namespace Sys2Proof

/-- One command per row of spec/opcode_table.json: what the outside does to the device, or an event of the device's own, each whole
and indivisible (95_what_each_step_holds.md). The operands carry what the state does not hold: what the host wrote, what a
measurement or a read returned, what a level became. -/
inductive Instr where
  /-- LQ_DOORBELL (R354). A host write to LQ_TAIL offers new layer-queue entries, and the device takes them one at a time while the bounds of R355 hold. Operands: the value written to LQ_TAIL. -/
  | lqDoorbell (tail : Fin 64)
  /-- MQ_DOORBELL (R354). A host write to MQ_TAIL offers new maintenance-queue entries, and the device takes them while the bounds of R355 hold. Operands: the value written to MQ_TAIL. -/
  | mqDoorbell (tail : Fin 64)
  /-- LQ_ENTRY_ACCEPT (R356). The device takes one LQ entry: it reads it, assigns a sequence number, makes ACCEPTED durable, writes ACCEPTED to CQ0 and advances LQ_HEAD. Operands: the entry as read from host memory, the end of the ACCEPTED mark's write. -/
  | lqEntryAccept (entry : Vector (BitVec 8) 128) (verdict : MarkResult)
  /-- RING_READ_ERROR (R356). A read of a ring entry that ends in an error completion or a timeout sets ERROR, stops the ring and raises HOST.RING_READ. Operands: the maintenance queue's ring (true) or the layer queue's. -/
  | ringReadError (mq : Bool)
  /-- MQ_ENTRY_TAKE (R364). The device takes one MQ entry, checks its queue, opcode, range and reserved bytes, and either completes it with RANGE or BAD_COMMAND, executes it now, or holds it for a boundary. Operands: the entry as read; what the command meets as it acts. -/
  | mqEntryTake (entry : Vector Byte 64) (outside : MqOutside)
  /-- LAYER_ABORT (R46). The MQ command LAYER_ABORT aborts, cancels or refuses the job named by SEQ according to that job's state. Operands: header of the entry; SEQ names the job. -/
  | layerAbort (h : MqHeader)
  /-- LAYER_RESUME (R28). At a layer boundary, LAYER_RESUME homes every uncertain axis, returns the carriage to its start position and clears HOLD. Operands: header of the entry. -/
  | layerResume (h : MqHeader)
  /-- LAYER_FLUSH (R28). At a layer boundary, LAYER_FLUSH ends every job not yet ARMED as REJECTED_AT_ADMISSION with cause HOST_CANCEL and clears HOLD. Operands: header of the entry. -/
  | layerFlush (h : MqHeader)
  /-- SET_EXPOSURE (R228). At a layer boundary, the exposure set index changes and the HV channels receive new profile targets. Operands: header of the entry, exposure set. -/
  | setExposure (h : MqHeader) (set : BitVec 8)
  /-- SET_SPEED (R130). The process speed code changes: the request is applied at once, held DEFERRED, or refused. Operands: header of the entry, speed code. -/
  | setSpeed (h : MqHeader) (code : BitVec 8)
  /-- SET_HEATER (R236). At a layer boundary, the set-points of the named heater zones change, and each change is profiled. Operands: header of the entry, zones, set-point in 0.1 °C. -/
  | setHeater (h : MqHeader) (mask : BitVec 8) (setPoint : BitVec 16)
  /-- SET_Z_STEP (R257). At a layer boundary, the Z step in nm used for later LOWER moves changes. Operands: header of the entry, Z step. -/
  | setZStep (h : MqHeader) (nm : BitVec 32)
  /-- REG_SET (R175). At a layer boundary, REG_XSCAN and REG_INSCAN of the named stations are written and their held updates are discarded. Operands: header of the entry, stations, offsets. -/
  | regSet (h : MqHeader) (mask : BitVec 8) (xscan : BitVec 32) (inscan : BitVec 16)
  /-- FAULT_THRESH (R343). At a layer boundary, N and W of a source whose base class is Notice change and its counts restart; any other source completes NOT_LIVE. Operands: header of the entry, source, N, W in ms. -/
  | faultThresh (h : MqHeader) (src n : BitVec 8) (w : BitVec 32)
  /-- FAULT_CLEAR (R341). At a layer boundary, the named fault instances are cleared according to their state, and the command completes with one status. Operands: header of the entry, mode, source, instance; what is still reported. -/
  | faultClear (h : MqHeader) (scope src inst : BitVec 8) (outside : MqOutside)
  /-- POLY_CTRL (R203). The named polygons are started, or stopped through STOPPING; a stop of an imaging station of a job past QUEUED waits for a boundary. Operands: header of the entry, stations, 0 stop or 1 start. -/
  | polyCtrl (h : MqHeader) (mask action : BitVec 8)
  /-- HV_CTRL (R228). The HV channels of the named stations are sent to their safe set-points or returned to their layer set-points. Operands: header of the entry, stations, 0 safe or 1 return. -/
  | hvCtrl (h : MqHeader) (mask action : BitVec 8)
  /-- MOTION_STOP (R528). The named steppers stop at once and the named servos make controlled stops and set HOLD; axes of a job past QUEUED wait for a boundary. Operands: header of the entry, axes. -/
  | motionStop (h : MqHeader) (mask : BitVec 16)
  /-- MOTION_HOME (R259). At a layer boundary, exactly the axes named in the mask are homed. Operands: header of the entry, axes. -/
  | motionHome (h : MqHeader) (mask : BitVec 16)
  /-- POWER_DOWN (R301). At a layer boundary, the PSE starts the DOWN program. Operands: header of the entry. -/
  | powerDown (h : MqHeader)
  /-- POWER_UP (R301). After a shutdown that R307 leaves to the host, the PSE starts UP, or the command completes BUSY. Operands: header of the entry. -/
  | powerUp (h : MqHeader)
  /-- POWER_PROG (R301). At a layer boundary, the PSE starts user program U0–U3 when UP has ended and no program runs, and otherwise the command completes BUSY. Operands: header of the entry, user program. -/
  | powerProg (h : MqHeader) (n : BitVec 8)
  /-- SURVEY (R483). The MQ command SURVEY requests a survey at the next layer boundary. Operands: header of the entry, what the survey measures where it runs at once. -/
  | survey (h : MqHeader) (reading : SurveyReading)
  /-- LOG_READ (R366). Records of the named MRAM log are copied to host memory in index order, and then the COMMAND record is written. Operands: header of the entry, log, first record, count, host address. -/
  | logRead (h : MqHeader) (log : BitVec 8) (first : BitVec 32) (count : BitVec 16) (addr : BitVec 64)
  /-- WARM_RESET (R369). A command warm reset is performed at a layer boundary, or at once with FORCE, after the command's COMMAND record is written. Operands: header of the entry, FORCE; whether DDR4 self-refresh is entered within 2 µs. -/
  | warmReset (h : MqHeader) (force : Bool) (outside : MqOutside)
  /-- NOP (R365). The MQ command NOP completes with no effect. Operands: header of the entry. -/
  | nop (h : MqHeader)
  /-- RING_ENABLE (R353). A write that sets ENABLE of LQ or MQ takes the base and size and sets the ring's head and tail to 0. Operands: MQ_CTRL (true) or LQ_CTRL, the value written. -/
  | ringEnable (mq : Bool) (value : BitVec 32)
  /-- CQ_ENABLE (R358). A write to CQ_CTRL that sets ENABLE takes the base, SLOT64 and SIZE_LOG2 and sets the tail, head and phase. Operands: the queue, the value written. -/
  | cqEnable (n : Fin 14) (value : BitVec 32)
  /-- CQ_HEAD_WRITE (R359). A host write to CQn_HEAD frees slots of the completion queue; writes out of range or to a disabled queue are ignored. Operands: the queue, the value written, the ends of the REPORTED marks' writes that were not durable, by sequence number. -/
  | cqHeadWrite (n : Fin 14) (head : Fin 4096) (verdicts : List (Nat × MarkResult))
  /-- HOST_WIN_WRITE (R352). A write to HOST_WIN moves the BAR2 window for every request that arrives after its completion. Operands: the value written. -/
  | hostWinWrite (value : BitVec 32)
  /-- BAR2_READ (R352). A host read through BAR2 returns DRAM data, 0 beyond installed DRAM, or a poisoned completion for an uncorrectable codeword. Operands: the offset in the window, the bytes read, codewords of DRAM that the read finds uncorrectable. -/
  | bar2Read (off : Fin 268435456) (len : Nat) (bad : List Nat)
  /-- BAR2_WRITE (R352). A host write through BAR2 writes DRAM by the codeword rules of R526, or is discarded beyond installed DRAM. Operands: the offset in the window, the bytes written, codewords of DRAM that a merge read finds uncorrectable. -/
  | bar2Write (off : Fin 268435456) (data : List (BitVec 8)) (bad : List Nat)
  /-- PARTIAL_WRITE (R10). A BAR0 write whose byte enables are not all set is discarded and recorded as HOST.PARTIAL_WRITE. -/
  | partialWrite
  /-- LOW_HALF_READ (R11). A read of the low half of a 64-bit register copies the high half into the holding register. Operands: the register, by its offset in words, and the bytes enabled. -/
  | lowHalfRead (word : Fin 262144) (be : BitVec 4)
  /-- REGISTER_WRITE (R13). A host write to a register without behaviour of its own sets its RW fields as the access codes give. Operands: the register, by its offset in words, and the value written. -/
  | registerWrite (word : Fin 262144) (value : BitVec 32)
  /-- CONFIG_REQUEST (R350). A PCI Express configuration request is answered with CRS before configuration opens and normally afterwards. -/
  | configRequest
  /-- BAR_ACCESS_BEFORE_READY (R432). A BAR0 or BAR2 read before READY, or while halted, completes with Unsupported Request, and a write is discarded. Operands: a write (true) or a read. -/
  | barAccessBeforeReady (write : Bool)
  /-- HOST_LINK_RESET (R349). A hot reset, DL_Down or FLR resets only the HOST island, the configuration space and the host queue block, and the device's work goes on. Operands: SPEED and WIDTH codes of the link that comes up again. -/
  | hostLinkReset (speed width : Fin 4)
  /-- CQ_RECORD_WRITE (R359). A held record is written to its completion queue as one posted write once the queue is enabled and has room. Operands: the queue; whether DDR4 self-refresh is entered within 2 µs where a command warm reset follows. -/
  | cqRecordWrite (n : Fin 14) (kept : Bool)
  /-- CQ_WAIT_LONG (R378). A record that has waited more than 1 s for room in its queue raises HOST.CQ_WAIT. Operands: the queue. -/
  | cqWaitLong (n : Fin 14)
  /-- COAL_TIMER_EXPIRY (R361). COAL_TIME × 4 µs after the first record not yet signalled, the queue signals its MSI-X vector. Operands: the queue. -/
  | coalTimerExpiry (n : Fin 14)
  /-- FINAL_RECORD (R363). A job's FINAL record is written to CQ0 in sequence order, once every earlier job's FINAL record has been written. -/
  | finalRecord
  /-- RESTART_RECORDS (R374). When the host enables CQ0 after a restart, the device writes the RESTART record, then the replayed records, and then begins to take LQ entries. -/
  | restartRecords
  /-- ATLAS_MARK_WRITE (R370). An atlas mark is written and verified in copy A and then in copy B, with two retries before ATLAS.WRITE is raised. Operands: the end of the mark's write. -/
  | atlasMarkWrite (verdict : MarkResult)
  /-- PRIMING_START (R25). A station begins priming the admission candidate once its earlier jobs' last lines are emitted, and its decoder fills the line ring. Operands: the station. -/
  | primingStart (x : Fin 6)
  /-- ADMISSION_EVALUATION (R26). The layer engine tests every admission condition for the candidate, and admits it, keeps it QUEUED, or rejects it. -/
  | admissionEvaluation
  /-- ADMIT_TIMEOUT (R27). On expiry of the admission timer, the job ends REJECTED_AT_ADMISSION with the cause of the lowest-numbered failing wait condition. -/
  | admitTimeout
  /-- ADMITTED_REQUEUE (R29). A wait condition that ceases to hold before arming begins returns an ADMITTED job to QUEUED and releases the feed reservation. -/
  | admittedRequeue
  /-- ARMING_START (R32). The layer engine begins to arm an ADMITTED job by choosing Ô and writing STARTED to the atlas. -/
  | armingStart
  /-- ARMING_COMPLETE (R32). When STARTED is durable, the meridian entries are written, checked and enabled, and the job becomes ARMED. -/
  | armingComplete
  /-- OVERLAP_TEST (R40). While job n is in RETURN, the overlap conditions for arming job n+1 are tested again as the belt moves. -/
  | overlapTest
  /-- ARMED_RETEST_FAIL (R34). A re-tested admission condition that fails in ARMED ends the job REJECTED_AT_ADMISSION with that condition's cause. -/
  | armedRetestFail
  /-- LAYER_ABORT_SEQUENCE (R43). An abort trigger drives force-off, HV safe set-points, the LEN drop on LSAFE_N, the station stop and the belt stop in order. -/
  | layerAbortSequence
  /-- ABORT_END (R43). When belt and carriage are at rest after an abort, the job ends SCRAPPED in the atlas, its final record is written and HOLD is set. -/
  | abortEnd
  /-- POST_FAULT_END (R21). A job in LOWER or RETURN stopped by a fault ends ENDED_OK with POST_FAULT once the stopped axes are at rest. -/
  | postFaultEnd
  /-- LAYER_BOUNDARY_ACTIONS (R487). At a layer boundary the waiting actions run in order: survey, VDD_CORE steps, frequency requests, repairs and spare engines, swaps, calibrations, and the waiting commands. Operands: what the measurements and trainings of the boundary give. -/
  | layerBoundaryActions (b : BoundaryInput)
  /-- STREAM_HEADER_READ (R66). When a station begins priming, its decoder reads the stream header through its feed channel and checks it by R54. Operands: the station, RS codewords corrected in the read, whether one was uncorrectable. -/
  | streamHeaderRead (x : Fin 6) (corrected : Nat) (uncorrectable : Bool)
  /-- LINE_DECODE (R68). The decoder takes the symbols of one line at one per cycle, checks the next header, writes the codewords and tags the ring slot. Operands: the station, ring codewords corrected, whether one was uncorrectable. -/
  | lineDecode (x : Fin 6) (ringCorr : Nat) (ringBad : Bool)
  /-- FEED_READ (R392). A read of a station's stream by its feed channel returns into the fetch-ahead buffer, with RS correction or an uncorrectable result. Operands: the station, bytes read, codewords corrected, offset of an uncorrectable codeword. -/
  | feedRead (x : Fin 6) (len corrected : Nat) (bad : Option Nat)
  /-- SWEEP_FRAME_START (R82). At XSYNC(k−1), or at the meridian for the first sweep, the sweep frame of sweep k starts on the lanes. Operands: the station, ring codewords corrected by the reads, lines with an uncorrectable codeword. -/
  | sweepFrameStart (x : Fin 6) (corrected : Nat) (bad : List Nat)
  /-- SWEEP_FRAME_COMPLETE (R45). A frame completes with EOF and CRC-8 on every active lane, and its lines count as emitted. Operands: the station. -/
  | sweepFrameComplete (x : Fin 6)
  /-- XSYNC_EXPOSURE (R106). XSYNC(k) rises with the XCLK edge that begins cell 0, and exposure of sweep k begins. Operands: the station. -/
  | xsyncExposure (x : Fin 6)
  /-- PROBE_SAMPLE (R96). The probe emitter is lit before XSYNC(k), its amplitude is sampled, and the fast loop adjusts the trim. Operands: the station, the amplitude sampled in ADC counts, none when missing. -/
  | probeSample (x : Fin 6) (amp : Option Nat)
  /-- SLOW_LOOP_SAMPLE (R97). Once per drum revolution for each track, the surface potential is sampled and the track offset moves by 1. Operands: the station, the probe track, the surface potential in V. -/
  | slowLoopSample (x : Fin 6) (track : Fin 4) (volts : Int)
  /-- BD_ON (R112). BD_ON is sent on every trained lane of a station after a force-off ends or after the last sweep's exposure. Operands: the station. -/
  | bdOn (x : Fin 6)
  /-- LANE_TRAINING (R108). A lane is trained with IDLE, TRAIN sets and a configuration frame, checked over Jenzan polls, for up to 3 attempts. Operands: the station, the physical lane, the reports of successive Jenzan polls. -/
  | laneTraining (x : Fin 6) (lane : Fin 5) (reports : List LaneReport)
  /-- TRIM_SAVE (R98). At each layer end the supervisor saves the emitter trims in MRAM under the driver module's serial number. Operands: the station. -/
  | trimSave (x : Fin 6)
  /-- BEARING_STAMP (R140). An active BD_x edge inside the acceptance window is stamped to the tap as the bearing. Operands: the station, the edge at BD_x. -/
  | bearingStamp (x : Fin 6) (edge : BdEdge)
  /-- BEARING_WINDOW_CLOSE (R141). An acceptance window that closes empty substitutes b̂ and raises BEAR_x.MISS; a second consecutive miss signals the loss to the drive. Operands: the station. -/
  | bearingWindowClose (x : Fin 6)
  /-- STRAY_EDGE (R141). An edge outside the window, or a later edge inside it, is ignored and raises BEAR_x.STRAY. Operands: the station, the edge at BD_x. -/
  | strayEdge (x : Fin 6) (edge : BdEdge)
  /-- FACET_ID_CHECK (R142). The facet identity is checked every revolution by interval signature, and a change raises BEAR_x.FACET_RUN or BEAR_x.FACET_IDLE. Operands: the station. -/
  | facetIdCheck (x : Fin 6)
  /-- SCHEDULE_TICK (R143). A sweep-schedule tick occurs and the schedule state advances by the slew rule or by a jump. Operands: the station. -/
  | scheduleTick (x : Fin 6)
  /-- CROSSING_TIME_DELIVERY (R166). MOTN delivers the interpolated crossing time of a lattice point, and the schedule error e_j is computed. Operands: the station, the latest pair of the timebase bridge. -/
  | crossingTimeDelivery (x : Fin 6) (pair : ClockPair)
  /-- PIXEL_PLL_RELOCK (R129). The pixel clocks stop, N is written, the PLL relocks, the clocks restart and the DLLs lock. -/
  | pixelPllRelock
  /-- PIXEL_PLL_UNLOCK (R131). Loss of pixel PLL lock raises CLK.PX_UNLOCK_RUN or CLK.PX_UNLOCK_IDLE, stops the clocks and starts the relock. -/
  | pixelPllUnlock
  /-- REF_LOSS (R131). Four missing REF_25M edges raise CLK.REF_LOSS, which is Grave. -/
  | refLoss
  /-- CTL_SYS_PLL_UNLOCK (R131). Loss of lock of the control or system PLL raises CLK.CTL_UNLOCK or CLK.SYS_UNLOCK, which are Grave. Operands: the system PLL (true) or the control PLL. -/
  | ctlSysPllUnlock (sys : Bool)
  /-- FREQUENCY_REQUEST (R130). A frequency request from the speed code, thermal throttling, a Degraded restriction or a survey cap is applied, or held DEFERRED, replacing any held request. Operands: the source of the request. -/
  | frequencyRequest (src : ReqSource)
  /-- DLL_UNLOCK (R136). A DLL whose delay differs from one period by more than 2 taps for 64 cycles raises DATUM_x.UNLOCK_RUN or DATUM_x.UNLOCK_IDLE. Operands: the station. -/
  | dllUnlock (x : Fin 6)
  /-- DATUM_CALIBRATION (R137). The datum line's tap positions are measured by code density over 2^20 samples and a new correction map is built. Operands: the station, the histogram of the samples. -/
  | datumCalibration (x : Fin 6) (m : TapMeasure)
  /-- CALIBRATION_DUE (R137). When the calibration interval for the present die band runs out, a calibration is scheduled. Operands: the station. -/
  | calibrationDue (x : Fin 6)
  /-- ENCODER_EDGE (R152). A filtered quadrature edge is counted and stamped; an illegal transition raises ENCn.QUAD_RUN or ENCn.QUAD_IDLE. Operands: the input, the new levels of QA and QB, the MOTN cycle of the sample, how many samples up to it have shown them. -/
  | encoderEdge (e : Fin 4) (qa qb : Bool) (cycle held : Nat)
  /-- SSI_FRAME (R153). An SSI frame is clocked and checked, and its position is taken or the frame is discarded. Operands: the master; the bits clocked in and when the data line went high. -/
  | ssiFrame (n : Fin 4) (frame : SsiBits)
  /-- MARK_EDGE (R154). A filtered mark-sensor edge is stamped and converted to belt travel. Operands: the sensor, the edge, the MOTN cycle of the sample, how many samples up to it have shown the new level. -/
  | markEdge (m : Fin 4) (rising : Bool) (cycle held : Nat)
  /-- BELT_INDEX (R157). A QZ edge of the belt sets the belt position at the first index, and later indices are checked against it. Operands: the input, the MOTN cycle of the sample, how many samples up to it have shown the new QZ level. -/
  | beltIndex (e : Fin 4) (cycle held : Nat)
  /-- COMPARE_FIRE (R160). A compare entry fires when the position reaches its target, and its output or station event follows. Operands: meridian of station 0–5 or list 6–13 (CMP0–CMP7), the MOTN cycle. -/
  | compareFire (u : Fin 14) (t : Nat)
  /-- ENTRY_FOUND_BEHIND (R161). An entry whose target lies at or behind the position when armed or when it becomes head is marked MISSED. Operands: meridian of station 0–5, or list CMP0–CMP7 as 6–13. -/
  | entryFoundBehind (u : Fin 14)
  /-- REGISTRATION_MEASURE (R171). For each layer the supervisor matches mark edges to marks and computes the errors and held updates. -/
  | registrationMeasure
  /-- EMULATION_EDGE (R178). An emulated quadrature edge follows the source edge that demands it, and EMUn.OVERSPEED is raised when the output falls behind. Operands: the output, the MOTN cycle. -/
  | emulationEdge (n : Fin 2) (t : Nat)
  /-- POLY_START (R188). A polygon start enters LISTEN with the gates off. Operands: the station. -/
  | polyStart (x : Fin 6)
  /-- LISTEN_TIMEOUT (R188). LISTEN_TIME with no crossing moves the drive to CALIBRATE; SPINDOWN_TIMEOUT sends it to FAULT. Operands: the station, for how long no crossing has been seen, in µs. -/
  | listenTimeout (x : Fin 6) (quietUs : Nat)
  /-- SHUNT_CALIBRATE (R188). CALIBRATE takes 256 shunt samples, stores the offsets, and on an offset beyond limits raises POLY_x.SHUNT. Operands: the station, the sums of the 256 samples of its three shunts in counts. -/
  | shuntCalibrate (x : Fin 6) (u v w : Int)
  /-- ALIGN_PULSES (R190). ALIGN applies 12 saturation pulses and finds θ̂ and polarity, repeating once or failing the attempt. Operands: the station, the three shunt conversions of each pulse in counts. -/
  | alignPulses (x : Fin 6) (c : Vector (Int × Int × Int) 12)
  /-- OBSERVER_HANDOVER (R193). When the observer agrees for 64 samples, the drive enters OBSERVER; otherwise POLY_x.START_OBS fails the attempt. Operands: the station. -/
  | observerHandover (x : Fin 6)
  /-- BEARING_HANDOVER (R195). With bearings present above BD_COMM_RPM, the drive measures θ_ALIGN over one revolution and enters BEARING. Operands: the station. -/
  | bearingHandover (x : Fin 6)
  /-- SPEED_TICK (R196). At each facet tick the speed loop computes the q reference. Operands: the station. -/
  | speedTick (x : Fin 6)
  /-- OBSERVER_LOSS (R199). An observer residual above OBS_RESID for 8 samples, or a large angle disagreement, raises POLY_x.OBS_LOSS. Operands: the station. -/
  | observerLoss (x : Fin 6)
  /-- ROTOR_LOSS_COAST (R200). A lost observer with bearings absent turns the gates off into COAST and raises POLY_x.ROTOR_LOST_RUN or POLY_x.ROTOR_LOST_IDLE. Operands: the station. -/
  | rotorLossCoast (x : Fin 6)
  /-- COAST_EXPIRY (R201). After 5 ms of COAST the drive enters RECATCH. Operands: the station. -/
  | coastExpiry (x : Fin 6)
  /-- RECATCH_ENGAGE (R201). Qualifying zero crossings preset the observer, and the drive engages into OBSERVER. Operands: the station, the frame at which the drive engages, four consecutive crossings, oldest first. -/
  | recatchEngage (x : Fin 6) (frame : Nat) (crossings : Vector EmfCrossing 4)
  /-- RECATCH_FAIL (R202). A failed re-catch attempt raises POLY_x.RECATCH and coasts again, or gives up with POLY_x.RECATCH_FAIL. Operands: the station, the latest crossings seen, oldest first. -/
  | recatchFail (x : Fin 6) (crossings : List EmfCrossing)
  /-- POLY_STOP_COMPLETE (R203). In STOPPING, when the speed reaches OBS_RPM, the gates go off and the drive enters OFF. Operands: the station. -/
  | polyStopComplete (x : Fin 6)
  /-- OVERCURRENT_TRIP (R186). A shunt current above I_TRIP turns the bridge gates off by hardware and raises the overcurrent source. Operands: the bridge: polygons A–F, then belt, carriage, roller. -/
  | overcurrentTrip (b : Fin 9)
  /-- POLY_SPEED_FAULT (R206). A speed error above SPEED_BAND for SPEED_TIMER raises POLY_x.SPEED_RUN or POLY_x.SPEED_IDLE. Operands: the station. -/
  | polySpeedFault (x : Fin 6)
  /-- LOOP_SAMPLE (R215). At a loop's sampling instant its inputs are held, and the loop is computed from its data-ready time. Operands: the loop, the frame number, the analog inputs held at the instant. -/
  | loopSample (n : Fin 64) (frame : Nat) (held : AnalogInput)
  /-- LOOP_OUTPUT (R213). At a loop's output instant its new output takes effect. Operands: the loop. -/
  | loopOutput (n : Fin 64)
  /-- DEADLINE_MISS (R212). A computation not ended at its output instant halts the engine, sends its outputs to safe values and raises LE_n.DEADLINE. Operands: the loop. -/
  | deadlineMiss (n : Fin 64)
  /-- PROFILE_TARGET (R222). The profile generator takes a new target and plans a jerk-limited curve. Operands: the loop. -/
  | profileTarget (n : Fin 64)
  /-- FOLLOWING_ERROR (R224). When the following-error count reaches FE_TIMER, the loop's following-error source is raised. Operands: the loop. -/
  | followingError (n : Fin 32)
  /-- HV_SAFE_STEP (R229). On a Severe fault or the abort input, every HV channel takes SAFE_CODE by hardware and then regulates to SAFE_SP. Operands: the channel. -/
  | hvSafeStep (k : Fin 18)
  /-- HV_MONITOR_RANGE (R230). A monitor out of range for 16 samples raises HV_x.ch_MON and holds the channel at SAFE_CODE. Operands: the channel. -/
  | hvMonitorRange (k : Fin 18)
  /-- HV_RETURN (R228). After a safe step, the channels return to their layer set-points by profile when HOLD is clear and no Severe or Grave fault stands. -/
  | hvReturn
  /-- DEVAC_PERIOD_START (R231). At point 0 of an AC period, a new gain and table take effect. Operands: the station, its DEV voltage monitor in mV at each of the 256 table points of the period that ends. -/
  | devacPeriodStart (x : Fin 6) (mon : List Nat)
  /-- HUMIDITY_BAND_CHANGE (R232). The humidity band rises or falls past its thresholds. Operands: HUM_IN in mV. -/
  | humidityBandChange (mv : Nat)
  /-- HEATER_PERIOD (R235). The heater duty is applied over the next 100 ms period in DC or AC_ZC mode. Operands: the zone. -/
  | heaterPeriod (z : Fin 8)
  /-- HEATER_SATURATION (R235). A duty held at DUTY_MAX for HEAT_SAT_TIME raises HEAT_n.SAT. Operands: the zone. -/
  | heaterSaturation (z : Fin 8)
  /-- POS_INSTANT (R242). At each POS sampling instant ME0 writes the trajectory set-point, v_ff and a_ff of every servo. Operands: the frame number. -/
  | posInstant (frame : Nat)
  /-- SERVO_ALIGN (R243). An axis with an unknown commutation offset is aligned with I_ALIGN on the d axis before any move. Operands: the axis. -/
  | servoAlign (a : Fin 3)
  /-- SERVO_STOP (R245). A servo stop replaces the present trajectory at the next POS instant with a stop by the stop limits. Operands: the belt or the carriage. -/
  | servoStop (a : Fin 2)
  /-- BELT_START (R246). The belt ramps to process speed once the bus is normal, and HOLD or a standing Severe no longer holds it. -/
  | beltStart
  /-- CARRIAGE_APPROACH_START (R249). The carriage approach begins when travel reaches Ô − 256 × APPROACH_COUNTS. -/
  | carriageApproachStart
  /-- CARRIAGE_LOCK (R249). At the end of T_a the carriage is on the gear relation and locks to the belt. -/
  | carriageLock
  /-- LEADING_EDGE_AT_NIP (R250). Travel reaches Ô with the carriage locked, and the job becomes TRANSFUSE. -/
  | leadingEdgeAtNip
  /-- CARRIAGE_SEPARATION (R251). Travel reaches the separation point, the carriage unlocks, and the job leaves TRANSFUSE. -/
  | carriageSeparation
  /-- CARRIAGE_RETURN (R251). In RETURN with the carriage at rest, it moves to CARR_START, and the feed moves then begin. -/
  | carriageReturn
  /-- CARRIAGE_TRACK_FAULT (R250). A locked carriage's following error above CARR_TRACK_FE for CARR_TRACK_TIMER raises SRV_CARR.TRACK_RUN. -/
  | carriageTrackFault
  /-- SERVO_FOLLOWING_ERROR (R268). A servo following error raises SRV_a.FE_RUN or SRV_a.FE_IDLE. Operands: the axis. -/
  | servoFollowingError (a : Fin 3)
  /-- STEPPER_STEP (R256). The step timer expires and the channel issues its next step, advancing the electrical position. Operands: the channel, the MOTN cycle. -/
  | stepperStep (n : Fin 10) (cycle : Nat)
  /-- STEPPER_CHOP_TRIP (R255). A phase's comparator trips after T_BLANK and the off-time begins. Operands: the channel, phase B or A, the MOTN cycle. -/
  | stepperChopTrip (n : Fin 10) (phaseB : Bool) (cycle : Nat)
  /-- STEPPER_OFF_TIME_END (R255). After T_OFF the phase is driven on again. Operands: the channel, phase B or A, the MOTN cycle. -/
  | stepperOffTimeEnd (n : Fin 10) (phaseB : Bool) (cycle : Nat)
  /-- STEPPER_MOVE_COMPLETE (R256). A stepper move completes SETTLE_TIME after its last step. Operands: the channel. -/
  | stepperMoveComplete (n : Fin 10)
  /-- HOLD_CURRENT_DELAY (R254). HOLD_DELAY after a channel comes to rest, it holds I_HOLD in place of I_RUN. Operands: the channel. -/
  | holdCurrentDelay (n : Fin 10)
  /-- STEPPER_IMMEDIATE_STOP (R258). A fault, MOTION_STOP, soft limit or gantry fault stops a channel's steps at once and may set POSITION_UNCERTAIN. Operands: the channel. -/
  | stepperImmediateStop (n : Fin 10)
  /-- HOMING (R259). An axis homes by SSI frame, home switch or QZ edge, which clears POSITION_UNCERTAIN and sets HOMED. Operands: the axis (1 carriage, 3–6 Z0–Z3, 7–12 F0–F5), what it meets. -/
  | homing (ax : Fin 13) (ev : HomeEvent)
  /-- SERVO_REST_REENTRY (R261). A coasting axis at rest for 100 ms re-enters when its loops run again, with its set-point at the measured position. Operands: the axis. -/
  | servoRestReentry (a : Fin 3)
  /-- BUS_SAMPLE (R262). VBUS_SENSE is sampled at every CUR instant and tested against V_UV, V1 and V2. Operands: the bus voltage in 10 mV, the chopper current in mA. -/
  | busSample (volt chopMa : Nat)
  /-- CHOPPER_HOT (R263). Chopper energy above CHOP_E_MAX raises BUS.CHOPPER_HOT and applies the regeneration clamp. -/
  | chopperHot
  /-- CHOPPER_FAIL (R264). Chopper current below CHOP_I_MIN or a fast bus rise for CHOP_DETECT samples marks the chopper FAILED. -/
  | chopperFail
  /-- CHOPPER_SELF_TEST (R264). The chopper is pulsed for 100 µs and FAILED clears when the current reaches CHOP_I_MIN. Operands: the chopper current in mA during the pulse. -/
  | chopperSelfTest (chopMa : Nat)
  /-- BUS_OV3 (R265). The V3 hardware comparator turns every bridge off and raises BUS.OV3, which is Grave. -/
  | busOv3
  /-- REGEN_CLAMP_RELEASE (R266). When the clamp ends, ME0 re-plans any remaining stop from the measured state. -/
  | regenClampRelease
  /-- TIN_RESULT (R273). A 100 ms ΔΣ result of an external input is converted and checked for OPEN, SHORT and RANGE. Operands: the input, the frame in which its window ends, what it converts. -/
  | tinResult (n : Fin 16) (frame : Nat) (raw : TinRaw)
  /-- DIE_SENSOR_READ (R276). The twelve die sensors are read every 1 ms and T_d is taken as the largest valid reading. Operands: the twelve readings in 0.1 °C. -/
  | dieSensorRead (t : Vector Int 12)
  /-- DIE_BAND_CHANGE (R277). The die band rises at a read, or falls after 1 s below the limit less DIE_HYST. -/
  | dieBandChange
  /-- THERMAL_THROTTLE (R281). Every 10 ms above 100 °C the supervisor computes k_d and issues a thermal frequency request when it changes. -/
  | thermalThrottle
  /-- CRITICAL_DECISION (R282). At Critical entry and every 10 ms after, the supervisor decides whether the open window fits before Trip, and otherwise aborts it. -/
  | criticalDecision
  /-- THERMAL_SHUTDOWN (R283). THERM.SHUTDOWN is raised, the jobs are settled, and the PSE starts DOWN. -/
  | thermalShutdown
  /-- THERMAL_TRIP (R285). A 115 °C comparator held for 10 µs raises THERM.TRIP, which is Grave. Operands: the comparator's sensor. -/
  | thermalTrip (k : Fin 12)
  /-- PSE_STEP (R297). The PSE executes one step of the running program. -/
  | pseStep
  /-- PSE_WAIT_END (R297). A WAIT, WAITPG, DEP or SYNC step ends at its condition or timeout, and the program goes on. -/
  | pseWaitEnd
  /-- PROGRAM_START (R301). A power program starts when its trigger occurs and its conditions hold. Operands: supplies 25–31 in µV as they have stood for 1 ms, the level of ULB_ABORT_N. -/
  | programStart (own : Vector Nat 7) (abortHigh : Bool)
  /-- PROGRAM_PREEMPT (R302). A higher-priority program ends the running one PREEMPTED after its present step and starts one PSE cycle later. -/
  | programPreempt
  /-- PROGRAM_END (R306). At END of DOWN or BROWNOUT every enabled rail not KEEP_ON is disabled in ascending order. -/
  | programEnd
  /-- PROG_TIMEOUT (R300). The program watchdog expires, the program ends TIMEOUT after its step, and PWR.PROG_TIMEOUT is raised. -/
  | progTimeout
  /-- INPUT_FAIL (R304). PWR_IN_OK low for IN_FAIL_FILT fails the input, logs IN_FAIL and may trigger BROWNOUT. Operands: for how long PWR_IN_OK has been low, in µs. -/
  | inputFail (lowUs : Nat)
  /-- INPUT_QUALIFIED (R304). PWR_IN_OK high for 50 ms qualifies the input. -/
  | inputQualified
  /-- INPUT_RETURN (R304). A return of the input during a program is logged as IN_RETURN. -/
  | inputReturn
  /-- BROWNOUT_RECOVERY (R307). After a shutdown with the input failed, UP starts with RECOVERY set once the input is qualified. Operands: supplies 25–31 in µV as they have stood for 1 ms, the level of ULB_ABORT_N. -/
  | brownoutRecovery (own : Vector Nat 7) (abortHigh : Bool)
  /-- UP_END_RESUME (R530). When UP ends after a shutdown, HV, heaters and polygons resume as at READY. -/
  | upEndResume
  /-- RAIL_EVENT (R294). A rail UV, OV, PG_LATE, PG_LOST or OFF_FAIL event is counted and raises its source. Operands: the rail, the sample at its monitor pin in mV. -/
  | railEvent (n : Fin 24) (pin : Nat)
  /-- PG_FILTER_CHANGE (R294). PS_PG_n counts as good or not good after holding its level for PG_FILT. Operands: the rail, the level of PS_PG_n, for how long it has held, in µs. -/
  | pgFilterChange (n : Fin 24) (level : Bool) (heldUs : Nat)
  /-- COUNTER_RECORD_WRITE (R308). A changed rail counter is written to the other MRAM slot with a higher sequence number within 100 µs. Operands: the rail or own supply. -/
  | counterRecordWrite (n : Fin 32)
  /-- POWER_LOG_WRITE (R310). A record is written to the power log ring in MRAM. -/
  | powerLogWrite
  /-- OWN_SUPPLY_FAULT (R290). An own supply beyond a limit for 10 µs raises PWR.OWN_UV or PWR.OWN_OV, which are Grave. Operands: supply 25 + k, its voltage in µV, held beyond a limit for 10 µs. -/
  | ownSupplyFault (k : Fin 7) (uv : Nat)
  /-- VCORE_STEP (R291). VDD_CORE is moved one step of at most 10 mV every 100 µs through PMBus. -/
  | vcoreStep
  /-- READ_VOUT_POLL (R291). READ_VOUT is read every 10 ms and a read-back more than 15 mV off raises PWR.PMBUS. Operands: the read-back in mV. -/
  | readVoutPoll (mv : Fin 1024)
  /-- PMBUS_FAILURE (R291). A third failed PMBus transaction raises PWR.PMBUS and freezes the request. -/
  | pmbusFailure
  /-- ULIBER_RISE (R311). A qualified rise of ULB_SYNC_N advances every member's counter, and members reassert the line 12 AON cycles later. -/
  | uliberRise
  /-- SYNC_TIMEOUT (R312). A SYNC step at its timeout sets its flag, logs ULB_TIMEOUT and makes the member DETACHED. -/
  | syncTimeout
  /-- ULIBER_LAYER_RELEASE (R314). A member with an ADMITTED candidate releases ULB_SYNC_N at the first belt edge onto a multiple of 64 counts. -/
  | uliberLayerRelease
  /-- ULIBER_ABORT_PULSE_RECEIVED (R315). A qualified falling edge on ULB_ABORT_N aborts or rejects the member's job according to its state. -/
  | uliberAbortPulseReceived
  /-- ULIBER_ABORT_LEVEL (R316). ULB_ABORT_N low for 1 ms starts every member's ULB_ABORT_PROG. -/
  | uliberAbortLevel
  /-- FAULT_EVENT (R326). The collector classifies a queued event, counts it against its window, may promote it, reacts by class and logs it. -/
  | faultEvent
  /-- FAULT_FAST_PATH (R330). A Severe or Grave fast-path event drives the abort input, the HV multiplexer and the motion inputs by hardware. -/
  | faultFastPath
  /-- FAULT_QUEUE_OVERFLOW (R329). An event arriving at a full queue is counted in FLT_DROPPED and FAULT.STORM is raised once per episode. Operands: the source and the instance of the event that arrives. -/
  | faultQueueOverflow (src : Source) (inst : Fin 64)
  /-- CLASS_FALLBACK (R327). W after an instance's last event or fall-back step, its effective class falls back one step and a FALLBACK record is logged. Operands: the source and the instance. -/
  | classFallback (src : Fin 256) (inst : Fin 64)
  /-- GRAVE_LATCH (R336). The Grave latch is set and every output goes safe, LEN falls, ULB_ABORT_N is driven and DOWN starts. -/
  | graveLatch
  /-- SUPPRESSED_RECORD (R337). When W has passed after Notice events beyond LOG_LIMIT, one SUPPRESSED record gives their number. Operands: the source and the instance. -/
  | suppressedRecord (src : Fin 256) (inst : Fin 64)
  /-- FAULT_LOG_WRITE (R338). A fault record is written to the MRAM ring and made durable within 100 µs. Operands: whether the record's write was verified. -/
  | faultLogWrite (verified : Bool)
  /-- ALIVE_PERIOD_END (R339). At the end of each ALIVE period, ALIVE toggles only if no Severe stands, Grave is clear and the heartbeat was written. -/
  | alivePeriodEnd
  /-- HEARTBEAT_WRITE (R339). The supervisor writes its heartbeat. -/
  | heartbeatWrite
  /-- WATCHDOG_RESET (R339). WDOG_TIMEOUT after the last heartbeat, AON performs a warm reset. Operands: whether DDR4 self-refresh was entered within 2 µs. -/
  | watchdogReset (kept : Bool)
  /-- LSAFE_ASSERT (R340). LSAFE_N asserted forces off every lane within 12 ns, deasserts LEN within 100 ns and raises FAULT.LSAFE. -/
  | lsafeAssert
  /-- LEN_ASSERT (R340). LEN is asserted once LSAFE_N has been deasserted for LSAFE_QUAL and the other conditions hold. -/
  | lenAssert
  /-- DMA_RUN (R386). RUN in IDLE takes the chain head and fetches it. Operands: channel. -/
  | dmaRun (n : Fin 32)
  /-- DMA_RESUME (R386). RESUME continues a channel in END from its kept NEXT, or continues a HALTED channel past its failed descriptor. Operands: channel; the NEXT field that host memory returns, none for an error. -/
  | dmaResume (n : Fin 32) (host : Option (Vector Byte 8))
  /-- DMA_RESET (R386). RESET returns a channel in END or HALTED to IDLE. Operands: channel. -/
  | dmaReset (n : Fin 32)
  /-- DMA_DISABLE (R402). DISABLE drops a channel's work at once and the channel drains its outstanding reads. Operands: channel; reads outstanding, those of host memory, posted writes outstanding; an access error of the same cycle (offset, on the destination, a data error, by the read-back). -/
  | dmaDisable (n : Fin 32) (reads : Fin 17) (hostReads : Fin 17) (writes : Fin 65) (err : Option (Nat × Bool × Bool × Bool))
  /-- DMA_DISABLE_CLEAR (R402). Clearing DISABLE returns a DISABLED channel to IDLE. Operands: channel. -/
  | dmaDisableClear (n : Fin 32)
  /-- DMA_DRAIN_DONE (R402). The last outstanding read of a DRAINING channel returns and the channel becomes DISABLED. Operands: channel. -/
  | dmaDrainDone (n : Fin 32)
  /-- DESCRIPTOR_FETCH (R385). A descriptor is fetched and checked, ending in FETCH_ERROR or DESC_ERROR on failure. Operands: channel; what host memory returns, none for an error; codewords found uncorrectable, true for image SRAM; reads with corrected RS symbols. -/
  | descriptorFetch (n : Fin 32) (bytes : Option (Vector Byte 32)) (found : List (Bool × Nat)) (corrected : Nat)
  /-- DESCRIPTOR_COMPLETE (R389). A descriptor completes when its reads, writes and any read-back have returned, and its record is written. Operands: channel; bytes that host memory returns for the source and the destination; reads with corrected RS symbols. -/
  | descriptorComplete (n : Fin 32) (hostSrc hostDst : List Byte) (corrected : Nat)
  /-- DMA_ACCESS_ERROR (R392). A bus or data error stops the channel, latches the address, writes the record and halts it. Operands: channel; an error that host memory reports (offset, on the destination, poisoned, by the read-back); bytes that host memory returned; codewords found uncorrectable; reads with corrected RS symbols. -/
  | dmaAccessError (n : Fin 32) (host : Option (Nat × Bool × Bool × Bool)) (hostSrc hostDst : List Byte) (found : List (Bool × Nat)) (corrected : Nat)
  /-- DMA_RECORD_WRITE (R390). A DMA completion record is written in chain order and, with IRQ, signalled at once. Operands: channel. -/
  | dmaRecordWrite (n : Fin 32)
  /-- FEED_CHANNEL_ERROR (R395). A bus or descriptor error of a feed channel raises DMA.FEED_ERROR for its station. Operands: station. -/
  | feedChannelError (x : Fin 6)
  /-- CAPTURE_RECORD (R407). A capture record is taken from its source and staged in its stream, or lost when no room is left. Operands: 0 to 52: an output instant of that loop; 53 to 58: LANE_STATS of stations A to F. -/
  | captureRecord (src : Fin 59)
  /-- BLOCK_CODE (R413). The codec takes a stream's block, codes it and writes it out through DMA channel 6 or 7. Operands: the coded payload; what host memory answers at each change of buffer; codewords found uncorrectable, of image SRAM or DRAM. -/
  | blockCode (payload : List Byte) (answers : List TlmAnswer) (found : List (Bool × Nat))
  /-- TLM_START (R415). START begins a new host stream with a stream header at the chain that TLM_HEAD_n names. Operands: the first buffer descriptor, where host memory holds it; none for an error. -/
  | tlmStart (n : Fin 16) (desc : Option (Vector Byte 32))
  /-- TLM_STOP (R415). STOP codes the last block with FINAL, writes the STOPPED record and stops the stream. Operands: stream. -/
  | tlmStop (n : Fin 16)
  /-- TLM_FLUSH (R414). FLUSH ends the open block of a privileged stream early. Operands: value written to TLM_FLUSH. -/
  | tlmFlush (value : BitVec 32)
  /-- TLM_REARM (R421). REARM restarts a stopped or preserved privileged stream at the head of its chain. Operands: value written to TLM_REARM. -/
  | tlmRearm (value : BitVec 32)
  /-- SNAPSHOT_TRIGGER (R416). A matching fault event stages a snapshot record, the pre-trigger samples and the post-trigger samples, then FLUSH. Operands: stream T12 + n. -/
  | snapshotTrigger (n : Fin 4)
  /-- TLM_WRITE_ERROR (R420). A bus or data error on a stream's output or descriptor fetch stops the stream. Operands: stream; whether a descriptor fetch failed. -/
  | tlmWriteError (n : Fin 16) (fetch : Bool)
  /-- POWER_ON_RESET (R505). The VDD_AON detector releases power-on reset and the boot starts at step 1. Operands: levels of RESET_N, PERST# and TEST_EN. -/
  | powerOnReset (resetN perstN testEn : Bool)
  /-- POWER_ON_RESET_ASSERT (R505). VDD_AON below 0.64 V for 1 µs asserts power-on reset. -/
  | powerOnResetAssert
  /-- EXTERNAL_WARM_RESET (R427). RESET_N low for 1 µs or a PERST# falling edge drives the layer safety steps, stops DMA, puts DRAM in self-refresh and resets the islands. Operands: PERST# rather than RESET_N; whether DDR4 self-refresh was entered within 2 µs. -/
  | externalWarmReset (perst kept : Bool)
  /-- BOOT_OTP_SENSE (R463). At boot step 3 every OTP word is sensed at nominal and tightened margins into the shadows. Operands: `temp`: the sense diode's reading in 0.1 °C; `flips`: words that read otherwise than programmed, at either margin. -/
  | bootOtpSense (temp : Int) (flips : List OtpFlip)
  /-- BOOT_LEGEND (R438). The legend copies are read, checked and authenticated, and one is chosen or the boot halts. Operands: dummy cycles that the flash's SFDP table gives for 1-4-4, 1-1-4 (none: not advertised) and 1-1-1 reads; copies A and B as read. -/
  | bootLegend (quad dual : Option (Fin 64)) (fast : Fin 64) (a b : LegendCopy)
  /-- BOOT_DDR_TRAIN (R440). The DDR4 controller trains fully or warm, or halts the boot after two failures. Operands: whether training passed, its duration, DRAM installed in MiB; `softBad`: a soft-map record fails its CRC. -/
  | bootDdrTrain (ok : Bool) (ms sizeMib : Nat) (softBad : Bool)
  /-- BOOT_DISCOVERY (R451). The LX6 listens on every enabled Jenzan port for 50 ms and identifies every unit that appears. Operands: the units that appear, with their identity blocks. -/
  | bootDiscovery (found : List JzFound)
  /-- CONFIG_OPEN (R429). PCI Express configuration opens once PERST# is high. Operands: the link as it trains, coded as HQ_STATUS. -/
  | configOpen (speed width : Fin 4)
  /-- BOOT_RECOVERY (R441). DRAM is filled when its content was not kept, and the atlas outcomes are made durable. Operands: codewords that the stream reads find uncorrectable. -/
  | bootRecovery (bad : List Nat)
  /-- READY (R453). READY is reported, BAR access opens, and ALIVE, the polygons, belt, HV and homing start. -/
  | ready
  /-- BOOT_HALT (R430). A boot that cannot go on halts at its stage and opens configuration with the halt reported. Operands: the link as it trains, coded as HQ_STATUS. -/
  | bootHalt (speed width : Fin 4)
  /-- JENZAN_POLL (R445). Each present unit of a bound port is polled every 10 ms and its status block is taken. Operands: the unit polled and the status block it answers. -/
  | jenzanPoll (port : Fin 8) (unit : Fin 3) (status : Vector Byte 16)
  /-- JENZAN_REPLY_MISSING (R444). A reply not started within 40 µs, failing CRC, or with the wrong SEQ is taken as missing and the request is repeated once. Operands: what was asked; `badCrc`: a reply came and failed its CRC. -/
  | jenzanReplyMissing (port : Fin 8) (unit : Fin 3) (request : JzRequest) (badCrc : Bool)
  /-- ANNOUNCE_RECEIVED (R446). A valid ANNOUNCE frame is received, and the third binds the port. Operands: the port. -/
  | announceReceived (port : Fin 8)
  /-- UNIT_IDENTIFY (R449). A unit that appears has its identity block read and becomes PRESENT or FAILED, or is HELD during a window. Operands: the identity block as read. -/
  | unitIdentify (port : Fin 8) (unit : Fin 3) (block : Vector Byte 64)
  /-- UNIT_DETACH (R450). A unit missing three polls or reported absent is detached and raises JZ_n.DETACH_RUN or JZ_n.DETACH_IDLE. Operands: the unit. -/
  | unitDetach (port : Fin 8) (unit : Fin 3)
  /-- WEAR_WRITE (R452). After a job end, each PRESENT unit's wear counters are written as absolute values. Operands: drum revolutions since the last write; `acked`: the write was acknowledged, at once or repeated. -/
  | wearWrite (port : Fin 8) (unit : Fin 3) (revolutions : Nat) (acked : Bool)
  /-- OTP_PROGRAM (R474). PROGRAM pulses OTP_DATA and its check bits into the word at OTP_ADDR, verifying after each pulse. Operands: `key`: KEY of OTP_CMD; `pulse`: how the antifuse takes the pulses. -/
  | otpProgram (key : BitVec 16) (pulse : OtpPulse)
  /-- OTP_LOCK (R474). LOCK programs the lock pattern of the named region. Operands: KEY and REGION of OTP_CMD; what the region's words read; how the lock word takes the pulses. -/
  | otpLock (key : BitVec 16) (region : Fin 8) (flips : List OtpFlip) (pulse : OtpPulse)
  /-- OTP_ADVANCE (R474). ADVANCE programs the next LIFE_CYCLE word. Operands: `key`: KEY of OTP_CMD; `pulse`: how the LIFE_CYCLE word takes the pulses. -/
  | otpAdvance (key : BitVec 16) (pulse : OtpPulse)
  /-- VERIFY_REGION (R475). VERIFY_REGION reads every word of the region at both margins and reports CHECK_OK or the first marginal word. Operands: KEY and REGION of OTP_CMD; what the region's words read at the two margins. -/
  | verifyRegion (key : BitVec 16) (region : Fin 8) (flips : List OtpFlip)
  /-- SURVEY_INTERVAL_EXPIRY (R483). SURVEY_INTERVAL after the last survey, a survey becomes due at the next layer boundary. -/
  | surveyIntervalExpiry
  /-- RS_CORRECTION_MARK (R489). A corrected or uncorrectable SRAM read is located and may mark a row or column for repair. Operands: the array, row and column of the corrected symbol, or the row of an uncorrectable read. -/
  | rsCorrectionMark (array : Fin 128) (row : Fin 2048) (col : Fin 256) (uncorrectable : Bool)
  /-- SE_PARITY (R492). A parity error of a station engine raises SE_x.PARITY and marks the engine for replacement. Operands: the station. -/
  | seParity (x : Fin 6)
  /-- DLL_RELOCK (R136). A datum-line DLL that was unlocked regains lock, so the station's schedule may return to LOCKED. Operands: the station. -/
  | dllRelock (x : Fin 6)
  /-- LSAFE_N_RELEASE (R340). LSAFE_N is deasserted at the ball, which starts the LSAFE_QUAL qualification and allows BD_ON after a force-off. -/
  | lsafeNRelease
  /-- RESET_N_RELEASE (R517). RESET_N held low at power-on, or after a warm reset, is released and the boot continues from step 3 of R429. -/
  | resetNRelease
  /-- TEST_EN_ASSERT (R508). TEST_EN is driven high, every island other than AON is held in reset, and LEN goes low. -/
  | testEnAssert
  /-- AER_ERROR (R378). An uncorrectable or correctable PCI Express error is logged in AER and raises HOST.AER_UNCORR or HOST.AER_CORR. Operands: an uncorrectable (true) or a correctable error. -/
  | aerError (uncorrectable : Bool)
  /-- MAINS_ZERO_CROSSING (R235). A MAINS_ZC crossing is counted, and an AC_ZC heater output switches on or off at it. -/
  | mainsZeroCrossing
  deriving DecidableEq, Repr

end Sys2Proof
end

