-- ==== Sys2Proof/Decode.lean ====
section
/-! DEFINITION. The command that a table word spells: spec/opcode_table.json gives no row any bits (its fields are
empty), so no word spells a command (log entry 2). -/

namespace Sys2Proof

/-- The command spelled by the word `w` of `nbits` bits: none, since the table gives no bits. -/
def decodeTableWord (_nbits _w : Nat) : Option Instr := none

end Sys2Proof
end

