-- ==== Sys2Proof/Machine/Codes.lean ====
section
/-! DEFINITION. The numeric codes that registers and records show for the named values (R16, R20 and the register
tables of every chapter). -/

namespace Sys2Proof

/-- Code of `JobState` by position in the spec's table (01_layer_cycle.md). -/
def JobState.code : JobState → Nat
  | .none => 0
  | .queued => 1
  | .admitted => 2
  | .armed => 3
  | .imaging => 4
  | .transfer => 5
  | .transfuse => 6
  | .lower => 7
  | .returning => 8
  | .ended => 9

/-- Code of `EndStatus` by position in the spec's table (01_layer_cycle.md). -/
def EndStatus.code : EndStatus → Nat
  | .none => 0
  | .endedOk => 1
  | .scrapped => 2
  | .interrupted => 3
  | .dataLost => 4
  | .rejected => 5

/-- Code of `Cause` by position in the spec's table (01_layer_cycle.md). -/
def Cause.code : Cause → Nat
  | .none => 0
  | .badJob => 1
  | .streamRange => 2
  | .streamRs => 3
  | .lineCrc => 4
  | .lineHeader => 5
  | .primeTimeout => 6
  | .feedTimeout => 7
  | .rateLimit => 8
  | .partnerTimeout => 9
  | .polyTimeout => 10
  | .hvTimeout => 11
  | .heatTimeout => 12
  | .noMeridian => 13
  | .boundaryTimeout => 14
  | .syncTimeout => 15
  | .hostCancel => 16
  | .faultBeforeStart => 17
  | .meridianMissed => 18
  | .faultStation => 32
  | .faultOther => 33
  | .grave => 34
  | .lsafe => 35
  | .uliberAbort => 36
  | .thermalCritical => 37
  | .hostAbort => 38
  | .carriageNotReady => 39
  | .restart => 48
  | .powerLoss => 49
  | .brownout => 50

/-- Code of `CarriagePhase` by position in the spec's table (01_layer_cycle.md). -/
def CarriagePhase.code : CarriagePhase → Nat
  | .atStart => 0
  | .approach => 1
  | .locked => 2
  | .inNip => 3
  | .separated => 4
  | .returning => 5
  | .away => 6

/-- Code of `KrcState` by position in the spec's table (02_kyrex_raster_code.md). -/
def KrcState.code : KrcState → Nat
  | .idle => 0
  | .streamHeader => 1
  | .decoding => 2
  | .ringFull => 3
  | .done => 4
  | .stopped => 5

/-- Code of `KrcCheck` by position in the spec's table (02_kyrex_raster_code.md). -/
def KrcCheck.code : KrcCheck → Nat
  | .none => 0
  | .streamHeader => 1
  | .lineIndex => 2
  | .pixels => 3
  | .mode => 4
  | .modeValues => 5
  | .budget => 6
  | .size => 7
  | .restart => 8
  | .lineCrc => 9
  | .lineFormat => 10
  | .feedRs => 11
  | .ringRs => 12

/-- Code of `SlotTag` by position in the spec's table (02_kyrex_raster_code.md). -/
def SlotTag.code : SlotTag → Nat
  | .free => 0
  | .data => 1
  | .zero => 2
  | .solid => 3

/-- Code of `LineMode` by position in the spec's table (02_kyrex_raster_code.md). -/
def LineMode.code : LineMode → Nat
  | .blank => 0
  | .solid => 1
  | .run => 2
  | .ref => 3
  | .literal => 4

/-- Code of `PxState` by position in the spec's table (03_pixel_path.md). -/
def PxState.code : PxState → Nat
  | .idle => 0
  | .framing => 1
  | .forcedOff => 2
  | .training => 3

/-- Code of `LaneState` by position in the spec's table (03_pixel_path.md). -/
def LaneState.code : LaneState → Nat
  | .down => 0
  | .training => 1
  | .trained => 2
  | .failed => 3

/-- Code of `ForceSource` by position in the spec's table (03_pixel_path.md). -/
def ForceSource.code : ForceSource → Nat
  | .abortInput => 0
  | .lsafe => 1
  | .warmReset => 2

/-- Code of `LaneSymbol` by position in the spec's table (03_pixel_path.md). -/
def LaneSymbol.code : LaneSymbol → Nat
  | .idle => 0
  | .sof => 1
  | .soc => 2
  | .eof => 3
  | .train => 4
  | .bdOn => 5
  | .forceOff => 6
  | .reserved => 7

/-- Code of `TrainStep` by position in the spec's table (03_pixel_path.md). -/
def TrainStep.code : TrainStep → Nat
  | .lock => 0
  | .config => 1

/-- Code of `SchedState` by position in the spec's table (04_scan_timing.md). -/
def SchedState.code : SchedState → Nat
  | .stopped => 0
  | .free => 1
  | .acquire => 2
  | .locked => 3
  | .slip => 4

/-- Code of `ReqState` by position in the spec's table (04_scan_timing.md). -/
def ReqState.code : ReqState → Nat
  | .none => 0
  | .pending => 1
  | .deferred => 2
  | .applying => 3
  | .applied => 4
  | .refused => 5
  | .superseded => 6

/-- Code of `ReqSource` by position in the spec's table (04_scan_timing.md). -/
def ReqSource.code : ReqSource → Nat
  | .speedCode => 0
  | .thermal => 1
  | .degraded => 2
  | .surveyCap => 3

/-- Code of `FacetId` by position in the spec's table (04_scan_timing.md). -/
def FacetId.code : FacetId → Nat
  | .unknown => 0
  | .noneMode => 1
  | .identified => 2

/-- Code of `EncAxis` by position in the spec's table (05_registration.md). -/
def EncAxis.code : EncAxis → Nat
  | .none => 0
  | .belt => 1
  | .carriage => 2
  | .roller => 3

/-- Code of `MerState` by position in the spec's table (05_registration.md). -/
def MerState.code : MerState → Nat
  | .none => 0
  | .armed => 1
  | .fired => 2
  | .missed => 3
  | .disabled => 4

/-- Code of `PosSource` by position in the spec's table (05_registration.md). -/
def PosSource.code : PosSource → Nat
  | .none => 0
  | .enc => 1
  | .ssi => 2
  | .steps => 3

/-- Code of `CmpAction` by position in the spec's table (05_registration.md). -/
def CmpAction.code : CmpAction → Nat
  | .pulse => 0
  | .set => 1
  | .clear => 2
  | .toggle => 3

/-- Code of `PolyMode` by position in the spec's table (06_polygon_drives.md). -/
def PolyMode.code : PolyMode → Nat
  | .off => 0
  | .listen => 1
  | .calibrate => 2
  | .align => 3
  | .openLoop => 4
  | .observer => 5
  | .bearing => 6
  | .coast => 7
  | .recatch => 8
  | .stopping => 9
  | .fault => 10

/-- Code of `FaultEntry` by position in the spec's table (06_polygon_drives.md). -/
def FaultEntry.code : FaultEntry → Nat
  | .none => 0
  | .startFail => 1
  | .shunt => 2
  | .overcurrent => 3
  | .grave => 4

/-- Code of `AngleSource` by position in the spec's table (06_polygon_drives.md). -/
def AngleSource.code : AngleSource → Nat
  | .none => 0
  | .ramp => 1
  | .observer => 2
  | .bearing => 3

/-- Code of `LoopClass` by position in the spec's table (07_control_loops.md). -/
def LoopClass.code : LoopClass → Nat
  | .cur => 0
  | .vel => 1
  | .pos => 2
  | .hv => 3
  | .heat => 4
  | .facet => 5

/-- Code of `LoopLaw` by position in the spec's table (07_control_loops.md). -/
def LoopLaw.code : LoopLaw → Nat
  | .pid => 0
  | .biquad => 1
  | .state => 2

/-- Code of `EngineState` by position in the spec's table (07_control_loops.md). -/
def EngineState.code : EngineState → Nat
  | .off => 0
  | .run => 1
  | .halted => 2
  | .spareIdle => 3

/-- Code of `HvMode` by position in the spec's table (07_control_loops.md). -/
def HvMode.code : HvMode → Nat
  | .off => 0
  | .layer => 1
  | .safe => 2
  | .grave => 3

/-- Code of `HeaterMode` by position in the spec's table (07_control_loops.md). -/
def HeaterMode.code : HeaterMode → Nat
  | .off => 0
  | .control => 1
  | .forcedOff => 2

/-- Code of `StateSource` by position in the spec's table (07_control_loops.md). -/
def StateSource.code : StateSource → Nat
  | .measurement => 0
  | .change => 1
  | .prevOutput => 2
  | .other => 3

/-- Code of `XSource` by position in the spec's table (07_control_loops.md). -/
def XSource.code : XSource → Nat
  | .none => 0
  | .current => 1
  | .speed => 2
  | .other => 3

/-- Code of `ServoMode` by position in the spec's table (08_motion.md). -/
def ServoMode.code : ServoMode → Nat
  | .off => 0
  | .hold => 1
  | .move => 2
  | .velocity => 3
  | .geared => 4
  | .stopping => 5
  | .coast => 6
  | .align => 7

/-- Code of `LastStop` by position in the spec's table (08_motion.md). -/
def LastStop.code : LastStop → Nat
  | .none => 0
  | .controlled => 1
  | .abort => 2
  | .coast => 3

/-- Code of `StepState` by position in the spec's table (08_motion.md). -/
def StepState.code : StepState → Nat
  | .idle => 0
  | .moving => 1
  | .holding => 2
  | .off => 3

/-- Code of `StepSegment` by position in the spec's table (08_motion.md). -/
def StepSegment.code : StepSegment → Nat
  | .start => 0
  | .accelerate => 1
  | .cruise => 2
  | .decelerate => 3

/-- Code of `BusState` by position in the spec's table (08_motion.md). -/
def BusState.code : BusState → Nat
  | .under => 0
  | .normal => 1
  | .chopping => 2
  | .clamped => 3
  | .overV2 => 4
  | .overV3 => 5

/-- Code of `ChopPhase` by position in the spec's table (08_motion.md). -/
def ChopPhase.code : ChopPhase → Nat
  | .on => 0
  | .offFast => 1
  | .offSlow => 2
  | .idle => 3

/-- Code of `TrajKind` by position in the spec's table (08_motion.md). -/
def TrajKind.code : TrajKind → Nat
  | .none => 0
  | .move => 1
  | .ramp => 2
  | .line => 3
  | .stop => 4
  | .approach => 5
  | .gear => 6
  | .linearStop => 7
  | .separate => 8

/-- Code of `HomeEvent` by position in the spec's table (08_motion.md). -/
def HomeEvent.code : HomeEvent → Nat
  | .begin => 0
  | .switch => 1
  | .release => 2
  | .missing => 3

/-- Code of `MoveGoal` by position in the spec's table (08_motion.md). -/
def MoveGoal.code : MoveGoal → Nat
  | .none => 0
  | .layer => 1
  | .home => 2
  | .resume => 3

/-- Code of `TinState` by position in the spec's table (09_thermal.md). -/
def TinState.code : TinState → Nat
  | .ok => 0
  | .open => 1
  | .short => 2
  | .range => 3

/-- Code of `TinType` by position in the spec's table (09_thermal.md). -/
def TinType.code : TinType → Nat
  | .unused => 0
  | .pt100 => 1
  | .pt1000 => 2
  | .tcJ => 3
  | .tcK => 4
  | .tcN => 5
  | .tcT => 6
  | .tcE => 7

/-- Code of `DieBand` by position in the spec's table (09_thermal.md). -/
def DieBand.code : DieBand → Nat
  | .cold => 0
  | .normal => 1
  | .warm => 2
  | .hot => 3
  | .critical => 4
  | .trip => 5

/-- Code of `Program` by position in the spec's table (10_power_sequencing.md). -/
def Program.code : Program → Nat
  | .none => 0
  | .up => 1
  | .down => 2
  | .brownout => 3
  | .u0 => 4
  | .u1 => 5
  | .u2 => 6
  | .u3 => 7

/-- Code of `ProgStatus` by position in the spec's table (10_power_sequencing.md). -/
def ProgStatus.code : ProgStatus → Nat
  | .none => 0
  | .ended => 1
  | .flagged => 2
  | .preempted => 3
  | .timeout => 4

/-- Code of `ProgCause` by position in the spec's table (10_power_sequencing.md). -/
def ProgCause.code : ProgCause → Nat
  | .start => 0
  | .recovery => 1
  | .host => 2
  | .thermal => 3
  | .grave => 4
  | .ulbAbort => 5
  | .inputFail => 6

/-- Code of `RailState` by position in the spec's table (10_power_sequencing.md). -/
def RailState.code : RailState → Nat
  | .off => 0
  | .rising => 1
  | .on => 2
  | .falling => 3

/-- Code of `PseWait` by position in the spec's table (10_power_sequencing.md). -/
def PseWait.code : PseWait → Nat
  | .none => 0
  | .time => 1
  | .pg => 2
  | .dep => 3
  | .sync => 4

/-- Code of `FaultClass` by position in the spec's table (10_power_sequencing.md). -/
def FaultClass.code : FaultClass → Nat
  | .notice => 0
  | .degraded => 1
  | .severe => 2
  | .grave => 3

/-- Code of `Restriction` by position in the spec's table (11_faults.md). -/
def Restriction.code : Restriction → Nat
  | .none => 0
  | .noOverlap => 1
  | .speed => 2
  | .hold => 3

/-- Code of `FaultKind` by position in the spec's table (11_faults.md). -/
def FaultKind.code : FaultKind → Nat
  | .event => 1
  | .clear => 2
  | .suppressed => 3
  | .fallback => 4

/-- Code of `MqStatus` by position in the spec's table (12_host_link_and_jobs.md). -/
def MqStatus.code : MqStatus → Nat
  | .ok => 0
  | .deferred => 1
  | .refused => 2
  | .notAbortable => 3
  | .noJob => 4
  | .busy => 5
  | .stillActive => 6
  | .graveLatched => 7
  | .notLive => 8
  | .badCommand => 9
  | .range => 10

/-- Code of `DoorReason` by position in the spec's table (12_host_link_and_jobs.md). -/
def DoorReason.code : DoorReason → Nat
  | .aheadLimit => 0
  | .atlasFull => 1
  | .cqFull => 2
  | .mqLimit => 3
  | .readError => 4
  | .cqDisabled => 5
  | .atlasWrite => 6

/-- Code of `RestartKind` by position in the spec's table (12_host_link_and_jobs.md). -/
def RestartKind.code : RestartKind → Nat
  | .powerOn => 0
  | .perst => 1
  | .watchdog => 2
  | .mqWarmReset => 3
  | .linkReset => 4

/-- Code of `RecordKind` by position in the spec's table (12_host_link_and_jobs.md). -/
def RecordKind.code : RecordKind → Nat
  | .accepted => 1
  | .final => 2
  | .command => 3
  | .fault => 4
  | .doorbell => 5
  | .clock => 6
  | .restart => 7

/-- Code of `MarkResult` by position in the spec's table (12_host_link_and_jobs.md). -/
def MarkResult.code : MarkResult → Nat
  | .durable => 0
  | .failA => 1
  | .failB => 2

/-- Code of `DmaState` by position in the spec's table (13_dma_engine.md). -/
def DmaState.code : DmaState → Nat
  | .idle => 0
  | .active => 1
  | .ended => 2
  | .halted => 3
  | .draining => 4
  | .disabled => 5

/-- Code of `DmaStatus` by position in the spec's table (13_dma_engine.md). -/
def DmaStatus.code : DmaStatus → Nat
  | .ok => 0
  | .empty => 1
  | .mismatch => 2
  | .busError => 3
  | .dataError => 4
  | .descError => 5
  | .fetchError => 6

/-- Code of `DmaOp` by position in the spec's table (13_dma_engine.md). -/
def DmaOp.code : DmaOp → Nat
  | .copy => 1
  | .fill => 2
  | .compare => 3
  | .link => 4

/-- Code of `TlmState` by position in the spec's table (14_telemetry_codec.md). -/
def TlmState.code : TlmState → Nat
  | .idle => 0
  | .running => 1
  | .stopping => 2
  | .stopped => 3
  | .preserved => 4

/-- Code of `TlmStatus` by position in the spec's table (14_telemetry_codec.md). -/
def TlmStatus.code : TlmStatus → Nat
  | .none => 0
  | .bufferFull => 16
  | .stopped => 17
  | .overflow => 18
  | .busError => 19
  | .descError => 20

/-- Code of `BootStage` by position in the spec's table (15_boot_legend_discovery.md). -/
def BootStage.code : BootStage → Nat
  | .por => 0
  | .aonUp => 1
  | .otp => 2
  | .rom => 3
  | .otpPolicy => 4
  | .legend => 5
  | .islands => 6
  | .ddr => 7
  | .spares => 8
  | .discovery => 9
  | .hostOpen => 10
  | .recovery => 11
  | .ready => 12
  | .haltOtp => 224
  | .haltLegend => 225
  | .haltDdr => 226

/-- Code of `ResetCause` by position in the spec's table (15_boot_legend_discovery.md). -/
def ResetCause.code : ResetCause → Nat
  | .powerOn => 0
  | .resetN => 1
  | .perst => 2
  | .watchdog => 3
  | .mqWarmReset => 4

/-- Code of `LegResult` by position in the spec's table (15_boot_legend_discovery.md). -/
def LegResult.code : LegResult → Nat
  | .notRead => 0
  | .ok => 1
  | .readError => 2
  | .header => 3
  | .framing => 4
  | .signature => 5
  | .content => 6

/-- Code of `JzLink` by position in the spec's table (15_boot_legend_discovery.md). -/
def JzLink.code : JzLink → Nat
  | .idle => 0
  | .announced => 1
  | .bound => 2
  | .disabled => 3

/-- Code of `UnitState` by position in the spec's table (15_boot_legend_discovery.md). -/
def UnitState.code : UnitState → Nat
  | .absent => 0
  | .held => 1
  | .identifying => 2
  | .present => 3
  | .failed => 4

/-- Code of `LifeCycle` by position in the spec's table (16_otp.md). -/
def LifeCycle.code : LifeCycle → Nat
  | .blank => 0
  | .vendorTest => 1
  | .provision => 2
  | .deployed => 3
  | .retired => 4
  | .invalid => 7

/-- Code of `OtpStatus` by position in the spec's table (16_otp.md). -/
def OtpStatus.code : OtpStatus → Nat
  | .ok => 0
  | .busy => 1
  | .key => 2
  | .range => 3
  | .state => 4
  | .locked => 5
  | .notBlank => 6
  | .verifyFail => 7
  | .condition => 8
  | .prereq => 9

/-- Code of `SurveyState` by position in the spec's table (17_ageing_and_spares.md). -/
def SurveyState.code : SurveyState → Nat
  | .idle => 0
  | .due => 1
  | .running => 2

end Sys2Proof
end

