-- ==== Sys2Proof/Machine/Sources.lean ====
section
/-! DEFINITION. The number and the base class of every fault source (11_faults R322 to R325 and the chapters'
fault-source tables). -/

namespace Sys2Proof

/-- The source number: block base plus row index (R322). -/
def Source.number : Source → Nat
  | .faultLsafe => 0x00
  | .faultWatchdog => 0x01
  | .faultStorm => 0x02
  | .faultLogWrite => 0x03
  | .krcHeader => 0x10
  | .krcBudget => 0x11
  | .krcLineCrc => 0x12
  | .krcLineFormat => 0x13
  | .krcStreamLength => 0x14
  | .feedRsCorr => 0x15
  | .feedRsUncorr => 0x16
  | .ringRsCorr => 0x17
  | .ringRsUncorr => 0x18
  | .laneLockRun => 0x20
  | .laneLockIdle => 0x21
  | .laneFrameDrop => 0x22
  | .laneConfig => 0x23
  | .laneTrain => 0x24
  | .laneSpareUsed => 0x25
  | .pixProbeAmp => 0x26
  | .pixTrimLimit => 0x27
  | .pixSurface => 0x28
  | .clkRefLoss => 0x30
  | .clkCtlUnlock => 0x31
  | .clkSysUnlock => 0x32
  | .clkPxUnlockRun => 0x33
  | .clkPxUnlockIdle => 0x34
  | .clkDivFloor => 0x35
  | .datumUnlockRun => 0x36
  | .datumUnlockIdle => 0x37
  | .datumSpareUsed => 0x38
  | .datumFailed => 0x39
  | .bearMiss => 0x3A
  | .bearStray => 0x3B
  | .bearLost => 0x3C
  | .bearFacetRun => 0x3D
  | .bearFacetIdle => 0x3E
  | .schedSlipRun => 0x3F
  | .schedSlipIdle => 0x40
  | .encQuadRun => 0x50
  | .encQuadIdle => 0x51
  | .ssiFrame => 0x52
  | .ssiLost => 0x53
  | .posBeltIndex => 0x54
  | .posCarrLimitRun => 0x55
  | .posCarrLimitIdle => 0x56
  | .posZLimit => 0x57
  | .merMissed => 0x58
  | .cmpMissed => 0x59
  | .regMarkMiss => 0x5A
  | .regRange => 0x5B
  | .regOutOfBand => 0x5C
  | .emuOverspeed => 0x5D
  | .polyShunt => 0x60
  | .polyStartAngle => 0x61
  | .polyStartObs => 0x62
  | .polyStartFail => 0x63
  | .polyObsLoss => 0x64
  | .polyRotorLostRun => 0x65
  | .polyRotorLostIdle => 0x66
  | .polyRecatch => 0x67
  | .polyRecatchFail => 0x68
  | .polyOvercurrent => 0x69
  | .polySpeedRun => 0x6A
  | .polySpeedIdle => 0x6B
  | .polyPhaseRun => 0x6C
  | .polyPhaseIdle => 0x6D
  | .leDeadline => 0x70
  | .loopRegionGap => 0x71
  | .hvFeRun => 0x72
  | .hvFeIdle => 0x73
  | .hvDevacFeRun => 0x74
  | .hvDevacFeIdle => 0x75
  | .hvOv => 0x76
  | .hvMon => 0x77
  | .heatFe => 0x78
  | .heatSat => 0x79
  | .humRange => 0x7A
  | .srvFeRun => 0x80
  | .srvFeIdle => 0x81
  | .srvOvercurrent => 0x82
  | .srvAlign => 0x83
  | .srvCarrTrackRun => 0x84
  | .srvCarrNotHomed => 0x85
  | .stpUncertain => 0x86
  | .stpHomeFail => 0x87
  | .gantrySkew => 0x88
  | .busUv => 0x89
  | .busChopperFailRun => 0x8A
  | .busChopperFailIdle => 0x8B
  | .busChopperHot => 0x8C
  | .busOv2 => 0x8D
  | .busOv3 => 0x8E
  | .tempOpen => 0x90
  | .tempShort => 0x91
  | .tempRange => 0x92
  | .dieSensor => 0x93
  | .thermSensorsLost => 0x94
  | .thermHot => 0x95
  | .thermCritical => 0x96
  | .thermShutdown => 0x97
  | .thermTrip => 0x98
  | .heatOver => 0x99
  | .psPgLate => 0xA0
  | .psFailUp => 0xA1
  | .psPgLost => 0xA2
  | .psUv => 0xA3
  | .psOv => 0xA4
  | .psOffFail => 0xA5
  | .pwrOwnUv => 0xA6
  | .pwrOwnOv => 0xA7
  | .pwrPmbus => 0xA8
  | .pwrProgTimeout => 0xA9
  | .pwrInFail => 0xAA
  | .ulbSyncTimeout => 0xAB
  | .hostPartialWrite => 0xB0
  | .hostLinkReset => 0xB1
  | .hostAerUncorr => 0xB2
  | .hostAerCorr => 0xB3
  | .hostRingRead => 0xB4
  | .hostCqWait => 0xB5
  | .hostEventLost => 0xB6
  | .hostWindow => 0xB7
  | .atlasWrite => 0xB8
  | .atlasRepair => 0xB9
  | .dmaBusError => 0xC0
  | .dmaDataError => 0xC1
  | .dmaDescError => 0xC2
  | .dmaNoRecord => 0xC3
  | .dmaRsCorr => 0xC4
  | .dmaFeedError => 0xC5
  | .tlmOverflow => 0xD0
  | .tlmBusError => 0xD1
  | .tlmDescError => 0xD2
  | .tlmInputLost => 0xD3
  | .tlmContextLost => 0xD4
  | .tlmSnapMissed => 0xD5
  | .legendCopyABad => 0xE0
  | .legendNone => 0xE1
  | .legendUnsigned => 0xE2
  | .bootDdrTrain => 0xE3
  | .bootSpareMap => 0xE4
  | .jzDetachRun => 0xE5
  | .jzDetachIdle => 0xE6
  | .jzLink => 0xE7
  | .otpMarginal => 0xE8
  | .otpUncorrectable => 0xE9
  | .otpCorrected => 0xEA
  | .otpRegionCheck => 0xEB
  | .otpLifeCycle => 0xEC
  | .otpProgramFail => 0xED
  | .otpPolicyHalt => 0xEE
  | .surveyRoRange => 0xF0
  | .surveySlackFail => 0xF1
  | .surveyNoMargin => 0xF2
  | .spareSramUsed => 0xF3
  | .spareSramExhausted => 0xF4
  | .spareLeUsed => 0xF5
  | .spareSeUsed => 0xF6
  | .seParity => 0xF7
  | .spareExhausted => 0xF8

/-- The base class; for a source with two, the RUN class, and for one set by the legend per rail, the default
(R321, R325, R318). -/
def Source.base : Source → FaultClass
  | .faultLsafe => .severe
  | .faultWatchdog => .severe
  | .faultStorm => .degraded
  | .faultLogWrite => .notice
  | .krcHeader => .severe
  | .krcBudget => .severe
  | .krcLineCrc => .notice
  | .krcLineFormat => .notice
  | .krcStreamLength => .notice
  | .feedRsCorr => .notice
  | .feedRsUncorr => .severe
  | .ringRsCorr => .notice
  | .ringRsUncorr => .severe
  | .laneLockRun => .severe
  | .laneLockIdle => .degraded
  | .laneFrameDrop => .severe
  | .laneConfig => .degraded
  | .laneTrain => .degraded
  | .laneSpareUsed => .notice
  | .pixProbeAmp => .notice
  | .pixTrimLimit => .degraded
  | .pixSurface => .notice
  | .clkRefLoss => .grave
  | .clkCtlUnlock => .grave
  | .clkSysUnlock => .grave
  | .clkPxUnlockRun => .severe
  | .clkPxUnlockIdle => .degraded
  | .clkDivFloor => .degraded
  | .datumUnlockRun => .severe
  | .datumUnlockIdle => .degraded
  | .datumSpareUsed => .notice
  | .datumFailed => .degraded
  | .bearMiss => .notice
  | .bearStray => .notice
  | .bearLost => .severe
  | .bearFacetRun => .severe
  | .bearFacetIdle => .degraded
  | .schedSlipRun => .severe
  | .schedSlipIdle => .degraded
  | .encQuadRun => .severe
  | .encQuadIdle => .degraded
  | .ssiFrame => .notice
  | .ssiLost => .severe
  | .posBeltIndex => .degraded
  | .posCarrLimitRun => .severe
  | .posCarrLimitIdle => .degraded
  | .posZLimit => .degraded
  | .merMissed => .notice
  | .cmpMissed => .notice
  | .regMarkMiss => .notice
  | .regRange => .degraded
  | .regOutOfBand => .degraded
  | .emuOverspeed => .notice
  | .polyShunt => .degraded
  | .polyStartAngle => .notice
  | .polyStartObs => .notice
  | .polyStartFail => .degraded
  | .polyObsLoss => .notice
  | .polyRotorLostRun => .severe
  | .polyRotorLostIdle => .degraded
  | .polyRecatch => .notice
  | .polyRecatchFail => .degraded
  | .polyOvercurrent => .severe
  | .polySpeedRun => .severe
  | .polySpeedIdle => .degraded
  | .polyPhaseRun => .severe
  | .polyPhaseIdle => .notice
  | .leDeadline => .severe
  | .loopRegionGap => .notice
  | .hvFeRun => .severe
  | .hvFeIdle => .degraded
  | .hvDevacFeRun => .severe
  | .hvDevacFeIdle => .degraded
  | .hvOv => .severe
  | .hvMon => .severe
  | .heatFe => .degraded
  | .heatSat => .notice
  | .humRange => .notice
  | .srvFeRun => .severe
  | .srvFeIdle => .degraded
  | .srvOvercurrent => .severe
  | .srvAlign => .degraded
  | .srvCarrTrackRun => .severe
  | .srvCarrNotHomed => .notice
  | .stpUncertain => .notice
  | .stpHomeFail => .degraded
  | .gantrySkew => .severe
  | .busUv => .severe
  | .busChopperFailRun => .severe
  | .busChopperFailIdle => .degraded
  | .busChopperHot => .degraded
  | .busOv2 => .severe
  | .busOv3 => .grave
  | .tempOpen => .degraded
  | .tempShort => .degraded
  | .tempRange => .degraded
  | .dieSensor => .degraded
  | .thermSensorsLost => .severe
  | .thermHot => .notice
  | .thermCritical => .degraded
  | .thermShutdown => .severe
  | .thermTrip => .grave
  | .heatOver => .degraded
  | .psPgLate => .notice
  | .psFailUp => .degraded
  | .psPgLost => .severe
  | .psUv => .degraded
  | .psOv => .severe
  | .psOffFail => .degraded
  | .pwrOwnUv => .grave
  | .pwrOwnOv => .grave
  | .pwrPmbus => .degraded
  | .pwrProgTimeout => .degraded
  | .pwrInFail => .notice
  | .ulbSyncTimeout => .degraded
  | .hostPartialWrite => .notice
  | .hostLinkReset => .degraded
  | .hostAerUncorr => .degraded
  | .hostAerCorr => .notice
  | .hostRingRead => .degraded
  | .hostCqWait => .notice
  | .hostEventLost => .notice
  | .hostWindow => .notice
  | .atlasWrite => .severe
  | .atlasRepair => .notice
  | .dmaBusError => .notice
  | .dmaDataError => .notice
  | .dmaDescError => .notice
  | .dmaNoRecord => .notice
  | .dmaRsCorr => .notice
  | .dmaFeedError => .severe
  | .tlmOverflow => .notice
  | .tlmBusError => .notice
  | .tlmDescError => .notice
  | .tlmInputLost => .notice
  | .tlmContextLost => .notice
  | .tlmSnapMissed => .notice
  | .legendCopyABad => .degraded
  | .legendNone => .severe
  | .legendUnsigned => .notice
  | .bootDdrTrain => .severe
  | .bootSpareMap => .degraded
  | .jzDetachRun => .severe
  | .jzDetachIdle => .notice
  | .jzLink => .degraded
  | .otpMarginal => .degraded
  | .otpUncorrectable => .degraded
  | .otpCorrected => .notice
  | .otpRegionCheck => .degraded
  | .otpLifeCycle => .degraded
  | .otpProgramFail => .notice
  | .otpPolicyHalt => .severe
  | .surveyRoRange => .notice
  | .surveySlackFail => .severe
  | .surveyNoMargin => .degraded
  | .spareSramUsed => .notice
  | .spareSramExhausted => .degraded
  | .spareLeUsed => .notice
  | .spareSeUsed => .notice
  | .seParity => .severe
  | .spareExhausted => .degraded

/-- Every source, in number order. -/
def Source.all : List Source :=
  [.faultLsafe, .faultWatchdog, .faultStorm, .faultLogWrite, .krcHeader, .krcBudget, .krcLineCrc, .krcLineFormat,
   .krcStreamLength, .feedRsCorr, .feedRsUncorr, .ringRsCorr, .ringRsUncorr, .laneLockRun, .laneLockIdle, .laneFrameDrop,
   .laneConfig, .laneTrain, .laneSpareUsed, .pixProbeAmp, .pixTrimLimit, .pixSurface, .clkRefLoss, .clkCtlUnlock,
   .clkSysUnlock, .clkPxUnlockRun, .clkPxUnlockIdle, .clkDivFloor, .datumUnlockRun, .datumUnlockIdle, .datumSpareUsed, .datumFailed,
   .bearMiss, .bearStray, .bearLost, .bearFacetRun, .bearFacetIdle, .schedSlipRun, .schedSlipIdle, .encQuadRun,
   .encQuadIdle, .ssiFrame, .ssiLost, .posBeltIndex, .posCarrLimitRun, .posCarrLimitIdle, .posZLimit, .merMissed,
   .cmpMissed, .regMarkMiss, .regRange, .regOutOfBand, .emuOverspeed, .polyShunt, .polyStartAngle, .polyStartObs,
   .polyStartFail, .polyObsLoss, .polyRotorLostRun, .polyRotorLostIdle, .polyRecatch, .polyRecatchFail, .polyOvercurrent, .polySpeedRun,
   .polySpeedIdle, .polyPhaseRun, .polyPhaseIdle, .leDeadline, .loopRegionGap, .hvFeRun, .hvFeIdle, .hvDevacFeRun,
   .hvDevacFeIdle, .hvOv, .hvMon, .heatFe, .heatSat, .humRange, .srvFeRun, .srvFeIdle,
   .srvOvercurrent, .srvAlign, .srvCarrTrackRun, .srvCarrNotHomed, .stpUncertain, .stpHomeFail, .gantrySkew, .busUv,
   .busChopperFailRun, .busChopperFailIdle, .busChopperHot, .busOv2, .busOv3, .tempOpen, .tempShort, .tempRange,
   .dieSensor, .thermSensorsLost, .thermHot, .thermCritical, .thermShutdown, .thermTrip, .heatOver, .psPgLate,
   .psFailUp, .psPgLost, .psUv, .psOv, .psOffFail, .pwrOwnUv, .pwrOwnOv, .pwrPmbus,
   .pwrProgTimeout, .pwrInFail, .ulbSyncTimeout, .hostPartialWrite, .hostLinkReset, .hostAerUncorr, .hostAerCorr, .hostRingRead,
   .hostCqWait, .hostEventLost, .hostWindow, .atlasWrite, .atlasRepair, .dmaBusError, .dmaDataError, .dmaDescError,
   .dmaNoRecord, .dmaRsCorr, .dmaFeedError, .tlmOverflow, .tlmBusError, .tlmDescError, .tlmInputLost, .tlmContextLost,
   .tlmSnapMissed, .legendCopyABad, .legendNone, .legendUnsigned, .bootDdrTrain, .bootSpareMap, .jzDetachRun, .jzDetachIdle,
   .jzLink, .otpMarginal, .otpUncorrectable, .otpCorrected, .otpRegionCheck, .otpLifeCycle, .otpProgramFail, .otpPolicyHalt,
   .surveyRoRange, .surveySlackFail, .surveyNoMargin, .spareSramUsed, .spareSramExhausted, .spareLeUsed, .spareSeUsed, .seParity,
   .spareExhausted]

/-- The source that a number names, if a row occupies it (R322). -/
def Source.ofNumber (n : Nat) : Option Source := Source.all.find? fun x => x.number == n

end Sys2Proof
end

