-- ==== Sys2Proof/Machine/Bits.lean ====
section
/-! DEFINITION. Bit fields, byte orders, check codes and whole-number arithmetic that the chapters share
(00_scope R8, R9, R13; 02 R56; 03 R102; 08 R256). -/

namespace Sys2Proof.Machine

open Sys2Proof

/-- A whole number's bits [msb:lsb] (R8). -/
def field (v msb lsb : Nat) : Nat := v / 2 ^ lsb % 2 ^ (msb + 1 - lsb)

/-- Bit `n` of a whole number (R8). -/
def bitOf (v n : Nat) : Bool := v / 2 ^ n % 2 == 1

/-- A flag as a one-bit number. -/
def b2n (b : Bool) : Nat := if b then 1 else 0

/-- A field placed at bit `lsb`, `w` bits wide, of a register value. -/
def put (v w lsb : Nat) : Nat := v % 2 ^ w * 2 ^ lsb

/-- A signed value as `w` two's complement bits. -/
def twos (w : Nat) (v : Int) : Nat := (v % (2 ^ w : Int)).toNat

/-- `w` bits as a signed two's complement value. -/
def signed (w v : Nat) : Int :=
  let u := v % 2 ^ w
  if u < 2 ^ (w - 1) then (u : Int) else (u : Int) - 2 ^ w

/-- A counter of `w` bits that saturates, `n` higher. -/
def satAdd (w v n : Nat) : Nat := min (v + n) (2 ^ w - 1)

/-- A counter of `w` bits that wraps, `n` higher. -/
def wrapAdd (w v n : Nat) : Nat := (v + n) % 2 ^ w

/-- A value held within `lo` to `hi`. -/
def clampI (lo hi v : Int) : Int := if v < lo then lo else if hi < v then hi else v

/-- A number within a range. -/
def inN (lo hi v : Nat) : Bool := decide (lo ≤ v) && decide (v ≤ hi)

/-- A signed number within a range. -/
def inI (lo hi v : Int) : Bool := decide (lo ≤ v) && decide (v ≤ hi)

/-- Rounding of `a / b` to the nearest whole number, ties toward plus infinity (R217). -/
def roundDiv (a : Int) (b : Nat) : Int := (2 * a + b).fdiv (2 * b)

/-- A shift right by `n` bits, rounded to nearest, ties toward plus infinity (R217). -/
def roundShift (a : Int) (n : Nat) : Int := if n = 0 then a else (a + 2 ^ (n - 1)).fdiv (2 ^ n)

/-- Saturation to Q1.31 (R217). -/
def satQ31 (v : Int) : Int := clampI (-2147483648) 2147483647 v

/-- Bit descent of the whole square root: `bits` bits from the top. -/
def isqrtGo (n : Nat) : Nat → Nat → Nat
  | 0, r => r
  | k + 1, r => if (r + 2 ^ k) * (r + 2 ^ k) ≤ n then isqrtGo n k (r + 2 ^ k) else isqrtGo n k r

/-- The largest whole number whose square is at most `n`. -/
def isqrt (n : Nat) : Nat := isqrtGo n (n.log2 / 2 + 1) 0

/-- A whole number as `n` little-endian bytes (R9). -/
def le : Nat → Nat → List Byte
  | 0, _ => []
  | n + 1, v => BitVec.ofNat 8 v :: le n (v / 256)

/-- A whole number as `n` big-endian bytes. -/
def be (n v : Nat) : List Byte := (le n v).reverse

/-- Little-endian bytes as a whole number (R9). -/
def leNat : List Byte → Nat
  | [] => 0
  | b :: bs => b.toNat + 256 * leNat bs

/-- Big-endian bytes as a whole number. -/
def beNat (bs : List Byte) : Nat := leNat bs.reverse

/-- `n` bytes of a structure from byte `off` (R9), as a little-endian number; bytes beyond its end read 0. -/
def leAt (bs : List Byte) (off n : Nat) : Nat := leNat ((bs.drop off).take n)

/-- Byte `off` of a structure. -/
def byteAt (bs : List Byte) (off : Nat) : Nat := leAt bs off 1

/-- A list padded with 0 to `n` bytes and cut to them. -/
def padTo (n : Nat) (bs : List Byte) : List Byte := (bs ++ List.replicate n 0).take n

/-- Whether every byte is 0 (reserved bytes, R14). -/
def allZero (bs : List Byte) : Bool := bs.all (· == 0)

/-- One step of a CRC fed most significant bit first: width `w`, polynomial `p`. -/
def crcBitMsb (w p crc : Nat) : Nat :=
  if crc / 2 ^ (w - 1) % 2 = 1 then (crc * 2 % 2 ^ w) ^^^ p else crc * 2 % 2 ^ w

/-- A byte into a most-significant-first CRC of `w` bits. -/
def crcByteMsb (w p crc : Nat) (b : Byte) : Nat :=
  (List.range 8).foldl (fun c _ => crcBitMsb w p c) (crc ^^^ (b.toNat * 2 ^ (w - 8)))

/-- LCRC: CRC-16 with polynomial 0x1021, start value 0xFFFF, most significant bit first (R56). -/
def crc16 (bs : List Byte) : Nat := bs.foldl (crcByteMsb 16 0x1021) 0xFFFF

/-- CRC-8 with polynomial 0x07, start value 0, of lanes and Jenzan frames. -/
def crc8 (bs : List Byte) : Nat := bs.foldl (crcByteMsb 8 0x07) 0

/-- A byte into the reflected CRC-32. -/
def crc32Byte (crc : Nat) (b : Byte) : Nat :=
  (List.range 8).foldl (fun c _ => if c % 2 = 1 then (c / 2) ^^^ 0xEDB88320 else c / 2) (crc ^^^ b.toNat)

/-- HCRC: the CRC-32 of ISO 3309 (R56). -/
def crc32 (bs : List Byte) : Nat := (bs.foldl crc32Byte 0xFFFFFFFF) ^^^ 0xFFFFFFFF

/-- Entry `i` of a vector, or `d` outside it. -/
def getN {α : Type} {n : Nat} (v : Vector α n) (i : Nat) (d : α) : α := if h : i < n then v[i] else d

/-- A vector with entry `i` changed by `f`; unchanged when `i` lies outside. -/
def modN {α : Type} {n : Nat} (v : Vector α n) (i : Nat) (f : α → α) : Vector α n :=
  if h : i < n then v.set i (f v[i]) h else v

/-- Every entry changed by `f`. -/
def mapV {α β : Type} {n : Nat} (f : α → β) (v : Vector α n) : Vector β n := Vector.ofFn fun i => f v[i]

/-- Every entry changed by `f`, which is given the entry's index. -/
def mapIdxV {α β : Type} {n : Nat} (f : Nat → α → β) (v : Vector α n) : Vector β n :=
  Vector.ofFn fun i => f i.val v[i]

/-- Whether an entry of the vector meets `p`. -/
def anyV {α : Type} {n : Nat} (p : α → Bool) (v : Vector α n) : Bool := (List.finRange n).any fun i => p v[i]

/-- Whether every entry of the vector meets `p`. -/
def allV {α : Type} {n : Nat} (p : α → Bool) (v : Vector α n) : Bool := (List.finRange n).all fun i => p v[i]

/-- The stations A to F. -/
def stations : List (Fin 6) := List.finRange 6

/-- The entry of a list at `i`, or `d` beyond its end. -/
def nth {α : Type} (l : List α) (i : Nat) (d : α) : α := (l[i]?).getD d

end Sys2Proof.Machine
end

