-- ==== Sys2Proof/Machine/State.lean ====
section
/-! DEFINITION. The state of the LX6 as plain data: every register, queue, counter, memory and mode that the manual
names, block by block, each field's default its value after reset (the register tables' Reset column where there is
one; log entry 4 where the manual gives none). -/

namespace Sys2Proof.Machine

open Sys2Proof

/-- Why the machine stops with a fault. -/
inductive Fault where
  /-- Raised by every command after TEST_EN was driven high and before a power-on reset: the device is not
  specified (R525). Safe: the hardware does something the manual gives no effect for. -/
  | unspecifiedAfterTestEn
  deriving DecidableEq, Repr

/-- Why a command has no meaning. -/
inductive Refusal where
  /-- The arm of `exec` for a row not yet modelled. Safe. -/
  | notModelled (mnemonic : String)
  deriving DecidableEq, Repr

/-- end flags of one job (R49). Spec 01_layer_cycle.md. -/
structure EndFlags where
  /-- bit 0, PARTIAL_FUSE (1 bit; R49). -/
  partialFuse : Bool := false
  /-- bit 1, LINES_REPLACED (1 bit; R49). -/
  linesReplaced : Bool := false
  /-- bit 2, POST_FAULT (1 bit; R49). -/
  postFault : Bool := false
  /-- bit 3, OVERLAPPED (1 bit; R49). -/
  overlapped : Bool := false
  /-- bit 4, THROTTLED (1 bit; R49). -/
  throttled : Bool := false
  /-- bit 5, COUNTS_UNKNOWN (1 bit; R49). -/
  countsUnknown : Bool := false
  deriving DecidableEq, Repr

/-- one accepted layer job and its progress (R20, R21, R32, R45). Spec 01_layer_cycle.md. -/
structure Job where
  /-- sequence number (64 bits; R356). -/
  seq : Nat := 0
  /-- the job entry as taken (128 bytes; R357). -/
  entry : List (BitVec 8) := []
  /-- state code (4 bits; R20). -/
  state : JobState := .none
  /-- the origin Ô chosen at arming, 1/256 count of travel (64 bits; R165). -/
  origin : Int := 0
  /-- step 1 of arming has begun (1 bit; R29, R32). -/
  arming : Bool := false
  /-- STARTED is durable in both copies (1 bit; R32). -/
  startedDurable : Bool := false
  /-- cause of a condition that failed while step 1 ran (8 bits; R29). -/
  armFail : Cause := .none
  /-- stations whose meridian has fired (6 bits; R21, R372). -/
  startedMask : BitVec 6 := 0
  /-- lines emitted per station (6 × 16 bits; R45, R51). -/
  emitted : Vector Nat 6 := Vector.replicate 6 0
  /-- lines replaced per station (6 × 16 bits; R39). -/
  replaced : Vector Nat 6 := Vector.replicate 6 0
  /-- the station has emitted its last line (6 bits; R21). -/
  stationEnd : Vector Bool 6 := Vector.replicate 6 false
  /-- condition 2: an uncorrectable codeword in a stream's first 64 KiB (1 bit; R26). -/
  rsBad : Bool := false
  /-- condition 3: a stream header or a line CRC-16 failed before the window (1 bit; R26). -/
  crcBad : Bool := false
  /-- condition 4: a line header failed before the window (1 bit; R26). -/
  headerBad : Bool := false
  /-- final status once ENDED (8 bits; R47). -/
  status : EndStatus := .none
  /-- its cause (8 bits; R48). -/
  cause : Cause := .none
  /-- source number of the fault of a SCRAPPED job (8 bits; R48). -/
  source : Nat := 0
  /-- instance of that fault (6 bits; R362). -/
  inst : Nat := 0
  /-- end flags (8 bits; R49). -/
  flags : EndFlags := {}
  /-- the layer-start state of the shared belt has been reached for this job (1 bit; R314). -/
  syncReady : Bool := false
  /-- when RETURN began (AON µs; R40). -/
  returnUs : Nat := 0
  /-- the feed moves of RETURN have begun (1 bit; R251). -/
  feedStarted : Bool := false
  deriving DecidableEq, Repr

/-- the layer engine (R5, R51). Spec 01_layer_cycle.md. -/
structure Layer where
  /-- accepted jobs in acceptance order, until their FINAL record is written (up to 64 jobs; R20, R23). -/
  jobs : List Job := []
  /-- HOLD (1 bit; R28, R51). -/
  hold : Bool := false
  /-- LAYER_RESUME commands whose carriage return is under way (commands; R28). -/
  resumes : List MqHeader := []
  /-- the job that holds the DRAM feed reservation (sequence number; R26, R41). -/
  feedOwner : Option Nat := none
  /-- LYR_ADMIT_UNMET (17 bits; R26, R51). -/
  unmet : BitVec 17 := 0
  /-- the candidate whose admission timer was started (sequence number; R27). -/
  timerSeq : Option Nat := none
  /-- admission time left when the timer last stopped or started (22 bits in ms; R27, R51). -/
  timerRemainUs : Nat := 0
  /-- the admission timer runs (1 bit; R27, R51). -/
  timerRunning : Bool := false
  /-- when the timer last began to run (AON µs; R27). -/
  timerStartUs : Nat := 0
  /-- steps 1 to 6 have acted and step 7 is to come (1 bit; R43, R46). -/
  abortRunning : Bool := false
  /-- the aborted job (64 bits; R43). -/
  abortSeq : Nat := 0
  /-- the cause of the first trigger (8 bits; R46). -/
  abortCause : Cause := .none
  /-- the source number of the trigger (8 bits; R48). -/
  abortSource : Nat := 0
  /-- LYR_LAST_END STATUS (8 bits; R51). -/
  lastStatus : EndStatus := .none
  /-- LYR_LAST_END CAUSE (8 bits; R51). -/
  lastCause : Cause := .none
  /-- LYR_LAST_END FLAGS (8 bits; R51). -/
  lastFlags : EndFlags := {}
  /-- LYR_LINES of the last ended job (6 × 16 bits; R51). -/
  lastEmitted : Vector Nat 6 := Vector.replicate 6 0
  /-- LYR_CNT_OK (32 bits, wraps; R51). -/
  cntOk : Nat := 0
  /-- LYR_CNT_SCRAPPED (32 bits, wraps; R51). -/
  cntScrapped : Nat := 0
  /-- LYR_CNT_REJECTED (32 bits, wraps; R51). -/
  cntRejected : Nat := 0
  deriving DecidableEq, Repr

/-- one slot of a station's line ring (R69). Spec 02_kyrex_raster_code.md. -/
structure RingSlot where
  /-- slot tag (2 bits; R69). -/
  tag : SlotTag := .free
  /-- index of the line the slot holds (16 bits; R70). -/
  line : Nat := 0
  /-- the line's PIXELS (16 bits; R69). -/
  pixels : Nat := 0
  /-- SOLID_LEVEL of a SOLID slot (4 bits; R69). -/
  level : Nat := 0
  /-- decoded levels of a DATA slot (up to 32,768 × 4 bits; R69). -/
  levels : List Nat := []
  deriving DecidableEq, Repr

/-- a line header that passed its checks (R55). Spec 02_kyrex_raster_code.md. -/
structure LineHeader where
  /-- LINE_INDEX (16 bits; R55). -/
  line : Nat := 0
  /-- PIXELS (16 bits; R55). -/
  pixels : Nat := 0
  /-- SYMBOLS (16 bits; R55). -/
  symbols : Nat := 0
  /-- MODE (3 bits; R55). -/
  mode : LineMode := .blank
  /-- SOLID_LEVEL (4 bits; R55). -/
  level : Nat := 0
  /-- PAYLOAD_BYTES (16 bits; R55). -/
  payload : Nat := 0
  deriving DecidableEq, Repr

/-- one station's decoder, its fetch-ahead buffer and line ring (R66–R81). Spec 02_kyrex_raster_code.md. -/
structure Decoder where
  /-- KRC_STATUS STATE (3 bits; R81). -/
  state : KrcState := .idle
  /-- REF_CHAIN (1 bit; R77, R81). -/
  refChain : Bool := false
  /-- NEXT_LINE (16 bits; R81). -/
  nextLine : Nat := 0
  /-- LINE_COUNT of the stream (16 bits; R81). -/
  lineCount : Nat := 0
  /-- LINE_LENGTH of the stream (16 bits; R81). -/
  lineLength : Nat := 0
  /-- RESTART_INTERVAL of the stream (16 bits; R53). -/
  restartInterval : Nat := 0
  /-- STREAM_BYTES of the stream (64 bits; R53). -/
  streamBytes : Nat := 0
  /-- KRC_REPLACED (16 bits; R81). -/
  replaced : Nat := 0
  /-- indexes of the lines replaced in this job, to count those emitted (line indexes; R39, R78). -/
  replacedLines : List Nat := []
  /-- KRC_ERR CHECK (4 bits; R81). -/
  errCheck : KrcCheck := .none
  /-- KRC_ERR LINE (16 bits; R81). -/
  errLine : Nat := 0
  /-- KRC_FEED_RS CORRECTED (16 bits, saturates; R81). -/
  feedCorr : Nat := 0
  /-- KRC_FEED_RS UNCORRECTABLE (16 bits, saturates; R81). -/
  feedUncorr : Nat := 0
  /-- KRC_RING_RS CORRECTED (16 bits, saturates; R81). -/
  ringCorr : Nat := 0
  /-- KRC_RING_RS UNCORRECTABLE (16 bits, saturates; R81). -/
  ringUncorr : Nat := 0
  /-- KRC_LINES DECODED (32 bits, wraps; R81). -/
  lines : Nat := 0
  /-- the job being primed or decoded (64 bits; R25). -/
  jobSeq : Option Nat := none
  /-- fetch-ahead buffer: fetched and not yet consumed (64 KiB; R26, R67). -/
  buffer : List (BitVec 8) := []
  /-- bytes of the stream fetched (64 bits; R25). -/
  fetched : Nat := 0
  /-- bytes of the stream consumed (64 bits; R72). -/
  consumed : Nat := 0
  /-- stream offset at which the record ends whose header check failed, while a read of it may still find an uncorrectable codeword (64 bits; R78). -/
  failedEnd : Option Nat := none
  /-- header of the next line, read and checked (16 bytes; R66). -/
  header : Option LineHeader := none
  /-- index of the last REF-free line (16 bits; R65). -/
  lastFree : Option Nat := none
  /-- the line ring (64 slots; R69). -/
  ring : Vector RingSlot 64 := Vector.replicate 64 {}
  deriving DecidableEq, Repr

/-- one physical emitter lane of a station (R108, R117). Spec 03_pixel_path.md. -/
structure Lane where
  /-- STATE (2 bits; R117). -/
  state : LaneState := .down
  /-- ATTEMPTS (2 bits; R117). -/
  attempts : Nat := 0
  /-- LOCK_LOSSES (8 bits, saturates; R117). -/
  lockLosses : Nat := 0
  /-- FRAME_DROPS (16 bits, saturates; R117). -/
  frameDrops : Nat := 0
  /-- times of the frame drops of the last hour (AON µs; R113). -/
  dropTimes : List Nat := []
  /-- marked for replacement (1 bit; R113). -/
  marked : Bool := false
  /-- step of the training under way (1 bit; R108). -/
  step : TrainStep := .lock
  /-- polls of the step under way (2 bits; R108). -/
  polls : Nat := 0
  /-- a training is due at the next layer boundary (1 bit; R108). -/
  pending : Bool := false
  /-- control symbol the lane last began to send (1 symbol; R100). -/
  last : LaneSymbol := .idle
  /-- the symbols of the latest frame, training attempt, BD_ON or force-off, in order; IDLE fills the lane after them (symbols; R100, R101, R108, R109, R111). -/
  sent : List LaneRun := []
  /-- the last configuration block sent (106 bytes; R109). -/
  config : List (BitVec 8) := []
  deriving DecidableEq, Repr

/-- the sweep frame in flight (R101, R102). Spec 03_pixel_path.md. -/
structure SweepFrame where
  /-- the job's sequence number (64 bits; R102). -/
  job : Nat := 0
  /-- k (17 bits; R86). -/
  sweep : Int := 0
  /-- FIRST (1 bit; R102). -/
  first : Bool := false
  /-- LAST (1 bit; R102). -/
  last : Bool := false
  /-- FACET (4 bits; R102, R529). -/
  facet : Nat := 0
  /-- PROBE_EMITTER (5 bits; R102). -/
  probe : Nat := 0
  /-- TRIM_EMITTER (5 bits; R102). -/
  trimEmitter : Nat := 0
  /-- TRIM_VALID (1 bit; R102). -/
  trimValid : Bool := false
  /-- TRIM_VALUE (8 bits; R102). -/
  trimValue : Int := 0
  /-- the frame's bytes between SOF and EOF (header and blocks of four logical lanes; R101, R103). -/
  data : Vector (List (BitVec 8)) 4 := Vector.replicate 4 []
  /-- p of the stream that the frame was built from (16 bits; R88, R101). -/
  lineLength : Nat := 0
  deriving DecidableEq, Repr

/-- a trim update that a later frame carries (R96). Spec 03_pixel_path.md. -/
structure TrimUpdate where
  /-- emitter (5 bits; R96). -/
  emitter : Nat := 0
  /-- new trim (8 bits; R96). -/
  value : Int := 0
  /-- the sweep whose frame carries it (17 bits; R96). -/
  sweep : Int := 0
  deriving DecidableEq, Repr

/-- one station's pixel path and lanes (R82–R117). Spec 03_pixel_path.md. -/
structure Pixel where
  /-- PX_STATUS STATE (2 bits; R117). -/
  state : PxState := .idle
  /-- BD_SOURCE (1 bit; R112, R117). -/
  bdSource : Bool := false
  /-- the exposure of the LAST sweep has begun and BD_ON follows its end (1 bit; R112). -/
  bdWaitLast : Bool := false
  /-- latched exposure set (3 bits; R117). -/
  expoSet : Nat := 0
  /-- latched drum band (2 bits; R117). -/
  drumBand : Nat := 0
  /-- FRAMES (16 bits; R117). -/
  frames : Nat := 0
  /-- L0–L4 (5 lanes; R117). -/
  lanes : Vector Lane 5 := Vector.replicate 5 {}
  /-- PX_LANE_MAP: physical lane of each logical lane (4 × 3 bits; R117). -/
  map : Vector Nat 4 := Vector.ofFn fun i => i.val
  /-- SPARE_FREE (1 bit; R117). -/
  spareFree : Bool := true
  /-- PX_FORCE_OFF COUNT (16 bits, saturates; R117). -/
  forceCount : Nat := 0
  /-- LAST_SOURCE (2 bits; R117). -/
  forceSource : ForceSource := .abortInput
  /-- a force-off has acted and no BD_ON has followed (1 bit; R112). -/
  forced : Bool := false
  /-- NEXT_EMITTER (5 bits; R117). -/
  nextProbe : Nat := 0
  /-- LAST_AMP (16 bits; R117). -/
  lastAmp : Nat := 0
  /-- LAST_EMITTER (5 bits; R117). -/
  lastProbe : Nat := 0
  /-- PX_SLOW track offsets (4 × 8 bits; R117). -/
  offsets : Vector Int 4 := Vector.replicate 4 0
  /-- consecutive samples held at the clamp (4 × 5 bits; R97). -/
  clampRevs : Vector Nat 4 := Vector.replicate 4 0
  /-- PX_TRIM (32 × 8 bits; R117). -/
  trims : Vector Int 32 := Vector.replicate 32 0
  /-- trim updates computed and not yet carried (up to 3; R96, R99). -/
  updates : List TrimUpdate := []
  /-- the job whose sweeps the station runs (64 bits; R82). -/
  job : Option Nat := none
  /-- the next sweep to be framed (17 bits; R86). -/
  k : Int := 0
  /-- first sweep (17 bits; R86). -/
  k0 : Int := 0
  /-- last sweep (17 bits; R86). -/
  k1 : Int := 0
  /-- the frame in flight (1 frame; R82). -/
  frame : Option SweepFrame := none
  /-- the complete frame awaiting its XSYNC (1 frame; R82). -/
  ready : Option SweepFrame := none
  /-- the sweep under exposure (17 bits; R83). -/
  exposing : Option Int := none
  /-- the datum line's present phase (32 bits, taps; R89). -/
  phase : Int := 0
  /-- the datum line's target at the end of the exposure (32 bits, taps; R89). -/
  target : Int := 0
  /-- single-tap steps of the present exposure (32 bits; R89, R90). -/
  steps : Nat := 0
  /-- a configuration refresh at ARMED awaits its report (1 bit; R98, R115). -/
  refresh : Bool := false
  /-- lines already charged with RING_x.RS_UNCORR (line indexes; R84). -/
  ringErrLines : List Nat := []
  /-- serial number of the driver module in use (64 bits; R98). -/
  moduleSerial : Nat := 0
  deriving DecidableEq, Repr

/-- a frequency request (R130). Spec 04_scan_timing.md. -/
structure FreqRequest where
  /-- its source (2 bits; R130, R150). -/
  source : ReqSource := .speedCode
  /-- the σ it would apply (13 bits; R150). -/
  sigma : Nat := 0
  /-- the speed code it names (4 bits; R130). -/
  code : Nat := 0
  /-- it needs a new N (1 bit; R150). -/
  relock : Bool := false
  deriving DecidableEq, Repr

/-- one station's schedule, bearing input and datum line (R133–R150). Spec 04_scan_timing.md. -/
structure ScanStation where
  /-- SCH_STATUS STATE (3 bits; R150). -/
  state : SchedState := .stopped
  /-- DLL_LOCKED (1 bit; R150). -/
  dllLocked : Bool := false
  /-- CHAIN (1 bit; R150). -/
  chain : Nat := 0
  /-- SPARE_FREE (1 bit; R150). -/
  spareFree : Bool := true
  /-- no usable chain remains (1 bit; R138). -/
  failed : Bool := false
  /-- the datum line is marked for replacement (1 bit; R138). -/
  marked : Bool := false
  /-- times of DATUM_x.UNLOCK events in the last hour (AON µs; R138). -/
  unlocks : List Nat := []
  /-- CAL_VALID (1 bit; R150). -/
  calValid : Bool := false
  /-- the correction map in use (128 taps; R137). -/
  calMap : List Nat := []
  /-- a map built and not yet loaded (128 taps; R137). -/
  newMap : Option (List Nat) := none
  /-- time of the last calibration, from which CAL_AGE reads (AON µs; R150). -/
  calUs : Nat := 0
  /-- a calibration waits (1 bit; R137). -/
  calDue : Bool := false
  /-- TAP (7 bits; R150). -/
  tap : Nat := 0
  /-- FACET (4 bits; R150). -/
  facet : Nat := 0
  /-- FACET_ID (2 bits; R150). -/
  facetId : FacetId := .unknown
  /-- facet of the latest bearing stamped, which substituted bearings do not change (4 bits; R529). -/
  stampFacet : Nat := 0
  /-- the other rotation that scored best last (4 bits; R142). -/
  rival : Nat := 0
  /-- consecutive revolutions it scored best (3 bits; R142). -/
  rivalRuns : Nat := 0
  /-- rotation in use: the bearing number that is facet 0 (4 bits; R142). -/
  origin : Nat := 0
  /-- D_INT (6 bits; R150). -/
  dInt : Nat := 0
  /-- D_FRAC (24 bits; R150). -/
  dFrac : Nat := 0
  /-- SCH_ERR e_j in taps (32 bits; R150). -/
  err : Int := 0
  /-- SCH_RESID r_k in taps (32 bits; R150). -/
  resid : Int := 0
  /-- SCH_TICK: the last tick in taps (55 bits; R150). -/
  tick : Nat := 0
  /-- the lattice index j of the last tick, once aligned (48 bits; R143). -/
  tickIndex : Int := 0
  /-- the ticks have been matched with the lattice points since the schedule was last FREE (1 bit; R143). -/
  aligned : Bool := false
  /-- t_(j+1) in taps, already fixed (55 bits; R143). -/
  nextTick : Nat := 0
  /-- slew that the tick after next takes (12 bits, taps; R143). -/
  correction : Int := 0
  /-- slew of a crossing that came before its own tick, taken one tick later (12 bits, taps; R143). -/
  early : Int := 0
  /-- consecutive ticks with error within LOCK_BAND (5 bits; R143). -/
  lockRun : Nat := 0
  /-- consecutive ticks with error beyond UNLOCK_BAND (3 bits; R143). -/
  slipRun : Nat := 0
  /-- BD_STAMP: the last bearing stamp in taps (55 bits; R150). -/
  stamp : Nat := 0
  /-- the latest bearing stamps, newest first (5 × 12 + 1 stamps; R141, R142). -/
  history : List Nat := []
  /-- bearings since acquisition began (48 bits; R141, R142). -/
  count : Nat := 0
  /-- consecutive missing bearings (2 bits; R141). -/
  missRun : Nat := 0
  /-- the present acceptance window already has its bearing (1 bit; R141). -/
  windowHit : Bool := false
  /-- BD_COUNTS MISSES (16 bits, saturates; R150). -/
  misses : Nat := 0
  /-- BD_COUNTS STRAYS (16 bits, saturates; R150). -/
  strays : Nat := 0
  /-- DATUM_STEPS (32 bits, wraps; R150). -/
  datumSteps : Nat := 0
  /-- latest pair of the timebase bridge (1 pair; R143, R194). -/
  pair : ClockPair := {}
  /-- φ_k, the first-cell phase of the sweep whose bearing has been stamped (55 bits, taps; R145). -/
  phi : Option Int := none
  /-- facet of the bearing φ_k came from (4 bits; R529). -/
  phiFacet : Nat := 0
  /-- lattice point j_m of the job's meridian (48 bits; R145). -/
  meridianTick : Int := 0
  deriving DecidableEq, Repr

/-- clocks, the held frequency request and the stations' scan timing (R118–R150). Spec 04_scan_timing.md. -/
structure Scan where
  /-- CLK_PX_PLL N (8 bits; R150). -/
  pllN : Nat := 0
  /-- LOCKED (1 bit; R150). -/
  pllLocked : Bool := false
  /-- GATED (1 bit; R150). -/
  gated : Bool := true
  /-- RELOCKS (16 bits, saturates; R150). -/
  relocks : Nat := 0
  /-- a relock is under way (1 bit; R129). -/
  relocking : Bool := false
  /-- CLK_REQ STATE (3 bits; R150). -/
  reqState : ReqState := .none
  /-- CLK_REQ SOURCE, RELOCK, SIGMA_Q (16 bits; R150). -/
  req : FreqRequest := {}
  /-- the request being applied had been DEFERRED: a CLOCK record follows its relock (1 bit; R362). -/
  clockDue : Bool := false
  /-- the held request (1 request; R130). -/
  held : Option FreqRequest := none
  /-- CLK_SPEED SIGMA_Q (13 bits; R150). -/
  sigma : Nat := 0
  /-- CLK_SPEED CODE (4 bits; R150). -/
  code : Nat := 0
  /-- CLK_SSC DEPTH (5 bits; R150). -/
  sscDepth : Nat := 0
  /-- CLK_SSC RATE (4 bits; R150). -/
  sscRate : Nat := 0
  /-- CTL_LOCKED (1 bit; R150). -/
  ctlLocked : Bool := false
  /-- SYS_LOCKED (1 bit; R150). -/
  sysLocked : Bool := false
  /-- LANE_LOCKED (1 bit; R150). -/
  laneLocked : Bool := false
  /-- REF_OK (1 bit; R150). -/
  refOk : Bool := false
  /-- FLOOR_HIT (6 bits; R150). -/
  floorHit : BitVec 6 := 0
  /-- the stations (6 stations; R150). -/
  stations : Vector ScanStation 6 := Vector.replicate 6 {}
  deriving DecidableEq, Repr

/-- one quadrature input (R152, R159). Spec 05_registration.md. -/
structure Encoder where
  /-- last filtered level of QA (1 bit; R152). -/
  qa : Bool := false
  /-- last filtered level of QB (1 bit; R152). -/
  qb : Bool := false
  /-- t_n, stamp of the latest edge (MOTN cycles; R159). -/
  stamp : Nat := 0
  /-- Δ, unknown until two edges (MOTN cycles; R159). -/
  interval : Option Nat := none
  /-- direction of the latest edge (1 bit; R159). -/
  forward : Bool := true
  /-- the last two edges had one direction (1 bit; R159). -/
  sameDir : Bool := false
  /-- an edge has been stamped since the island started (1 bit; R159). -/
  seen : Bool := false
  /-- counts since start (32 bits, signed; R152, R243). -/
  count : Int := 0
  /-- QUAD_ERRS (16 bits, saturates; R182). -/
  quadErrs : Nat := 0
  /-- stamp of the latest QZ edge (MOTN cycles; R152). -/
  indexStamp : Nat := 0
  deriving DecidableEq, Repr

/-- one SSI master (R153). Spec 05_registration.md. -/
structure SsiMaster where
  /-- VALID (1 bit; R182). -/
  valid : Bool := false
  /-- consecutive discarded frames (2 bits; R153). -/
  badRun : Nat := 0
  /-- FRAME_ERRS (16 bits, saturates; R182). -/
  frameErrs : Nat := 0
  /-- stamp of the last valid position (ns; R153). -/
  stamp : Int := 0
  /-- last valid position (up to 40 bits; R153). -/
  position : Int := 0
  deriving DecidableEq, Repr

/-- a carriage, roller or Z counter (R158). Spec 05_registration.md. -/
structure Axis where
  /-- POS_AXIS: the reported position (32 bits, signed; R182). -/
  position : Int := 0
  /-- OVER: counts beyond the limit; POS_OVER shows its low 16 bits (32 bits, signed; R158, R182). -/
  beyond : Int := 0
  /-- limit flag, LIM_LO (1 bit; R182). -/
  atLo : Bool := false
  /-- limit flag, LIM_HI (1 bit; R182). -/
  atHi : Bool := false
  deriving DecidableEq, Repr

/-- one station's meridian entry (R165, R182). Spec 05_registration.md. -/
structure Meridian where
  /-- SLOT (6 bits; R182). -/
  slot : Nat := 0
  /-- STATE (3 bits; R182). -/
  state : MerState := .none
  /-- MISSED (16 bits, saturates; R182). -/
  missed : Nat := 0
  /-- MER_TARGET (64 bits; R182). -/
  target : Int := 0
  /-- MER_FOUND (64 bits; R182). -/
  found : Int := 0
  /-- the job the entry belongs to (64 bits; R165). -/
  job : Nat := 0
  /-- a belt edge has reached the target: the entry fires (1 bit; R160). -/
  due : Bool := false
  deriving DecidableEq, Repr

/-- one general compare list and its output (R168, R182). Spec 05_registration.md. -/
structure Compare where
  /-- NEXT (6 bits; R182). -/
  next : Nat := 0
  /-- ARMED (1 bit; R182). -/
  armed : Bool := false
  /-- the head's target has been reached: it fires (1 bit; R160, R162). -/
  due : Bool := false
  /-- entries found behind and not yet marked, each with the position at which it was found (up to 64; R161). -/
  behind : List (Nat × Int) := []
  /-- entries marked MISSED (up to 64; R161). -/
  gone : List Nat := []
  /-- OUT (1 bit; R182). -/
  out : Bool := false
  /-- length of the latest action's pulse, when it was PULSE (MOTN cycles; R168). -/
  pulse : Option Nat := none
  /-- when that pulse began (µs; R168). -/
  pulseFrom : Nat := 0
  /-- FIRED (8 bits; R182). -/
  fired : Nat := 0
  /-- MISSED (8 bits; R182). -/
  missed : Nat := 0
  /-- entries EXPIRED at the job's end (8 bits; R169). -/
  expired : Nat := 0
  /-- CMP_FOUND (64 bits; R182). -/
  found : Int := 0
  /-- Ô of the job the list is armed for (64 bits; R168). -/
  origin : Int := 0
  /-- the job the list is armed for (64 bits; R169). -/
  job : Nat := 0
  deriving DecidableEq, Repr

/-- one station's registration values (R173, R182). Spec 05_registration.md. -/
structure RegStation where
  /-- REG_XSCAN (32 bits, signed; R182). -/
  xscan : Int := 0
  /-- REG_INSCAN (16 bits, signed; R182). -/
  inscan : Int := 0
  /-- E_X (16 bits, signed; R182). -/
  ex : Int := 0
  /-- E_I (16 bits, signed; R182). -/
  ei : Int := 0
  /-- U_X (16 bits, signed; R182). -/
  ux : Int := 0
  /-- U_I (16 bits, signed; R182). -/
  ui : Int := 0
  /-- an update is held (1 bit; R173). -/
  held : Bool := false
  /-- IN_BAND (1 bit; R182). -/
  inBand : Bool := false
  /-- MEASURED (1 bit; R182). -/
  measured : Bool := false
  /-- consecutive measured layers out of band (2 bits; R180). -/
  outRun : Nat := 0
  /-- Q_x changed and 16 ticks in band have not followed (1 bit; R174). -/
  slewing : Bool := false
  /-- REG_XSCAN latched at ARMED (32 bits, signed; R174). -/
  xLatched : Int := 0
  /-- REG_INSCAN latched at ARMED (16 bits, signed; R174). -/
  iLatched : Int := 0
  deriving DecidableEq, Repr

/-- one stamped mark edge (R154). Spec 05_registration.md. -/
structure MarkStamp where
  /-- mark input (2 bits; R154). -/
  sensor : Nat := 0
  /-- edge direction (1 bit; R154). -/
  rising : Bool := false
  /-- belt travel of the edge, 1/256 count (64 bits; R154). -/
  travel : Int := 0
  deriving DecidableEq, Repr

/-- a lattice crossing of a station (R159, R166). Spec 05_registration.md. -/
structure Crossing where
  /-- lattice index j (48 bits; R143). -/
  index : Int := 0
  /-- crossing time c (1/64 MOTN cycle; R159). -/
  time64 : Nat := 0
  deriving DecidableEq, Repr

/-- one emulated output (R178, R182). Spec 05_registration.md. -/
structure Emulation where
  /-- output count (64 bits; R178). -/
  position : Int := 0
  /-- EMUn_QZ level (1 bit; R178). -/
  index : Bool := false
  /-- EMUn_QA level (1 bit; R178). -/
  qa : Bool := false
  /-- EMUn_QB level (1 bit; R178). -/
  qb : Bool := false
  /-- the output is catching up (1 bit; R179). -/
  behind : Bool := false
  /-- when the latest output edge was emitted (MOTN cycles; R179). -/
  lastEdge : Option Nat := none
  /-- OVERSPEED (16 bits, saturates; R182). -/
  overspeed : Nat := 0
  deriving DecidableEq, Repr

/-- position feedback and registration (R151–R182). Spec 05_registration.md. -/
structure Position where
  /-- belt travel at the latest edge (64 bits, 1/256 count; R156). -/
  travel : Int := 0
  /-- belt position minus whole count of travel, set by the first index (counts; R157). -/
  indexOffset : Int := 0
  /-- SYNCED (1 bit; R182). -/
  synced : Bool := false
  /-- FORWARD (1 bit; R182). -/
  forward : Bool := true
  /-- quadrature inputs (4; R151). -/
  encoders : Vector Encoder 4 := Vector.replicate 4 {}
  /-- SSI masters (4; R151). -/
  ssi : Vector SsiMaster 4 := Vector.replicate 4 {}
  /-- carriage, roller, Z0–Z3 (6; R182). -/
  axes : Vector Axis 6 := Vector.replicate 6 {}
  /-- meridian entries (6; R182). -/
  meridians : Vector Meridian 6 := Vector.replicate 6 {}
  /-- general lists (8; R182). -/
  cmps : Vector Compare 8 := Vector.replicate 8 {}
  /-- registration (6; R182). -/
  reg : Vector RegStation 6 := Vector.replicate 6 {}
  /-- the latest MOTN cycle of which a sample or an event is known (MOTN cycles; R151, R159). -/
  motn : Nat := 0
  /-- the lattice crossing of each station that MOTN has computed and not yet delivered (6; R166). -/
  crossings : Vector (Option Crossing) 6 := Vector.replicate 6 none
  /-- mark edges not yet matched (edges of the layer; R171). -/
  marks : List MarkStamp := []
  /-- emulated outputs (2; R182). -/
  emus : Vector Emulation 2 := Vector.replicate 2 {}
  /-- the offsets in use changed and the registration record is not yet rewritten (1 bit; R371). -/
  regDirty : Bool := false
  deriving DecidableEq, Repr

/-- one test pulse of ALIGN as the bridge applied it (R189). Spec 06_polygon_drives.md. -/
structure SatPulse where
  /-- i of its angle i × 30° (4 bits; R189). -/
  index : Nat := 0
  /-- high-side times of the pulse's vector (LOOP cycles; R183, R189). -/
  duty : Nat × Nat × Nat := (0, 0, 0)
  /-- SAT_PULSE in use (µs; R189). -/
  onUs : Nat := 0
  /-- V0 after it, the shunts sampled in its middle (µs; R189). -/
  zeroUs : Nat := 1
  /-- SAT_GAP with the gates off (µs; R189). -/
  offUs : Nat := 0
  deriving DecidableEq, Repr

/-- the back-EMF observer of a drive (R192, R193, R199). Spec 06_polygon_drives.md. -/
structure Observer where
  /-- θ_obs at the last sample (2^−32 turn, electrical; R192). -/
  theta : Nat := 0
  /-- ω_obs (2^−32 turn a sample, electrical; R192). -/
  omega : Int := 0
  /-- residual at the last sample (mA; R192). -/
  resid : Nat := 0
  /-- measured current of the last sample, α and β (mA; R192). -/
  current : Int × Int := (0, 0)
  /-- consecutive samples with the residual beyond OBS_RESID (4 bits; R199). -/
  residRun : Nat := 0
  /-- consecutive samples that agree with the ramp (7 bits; R193). -/
  agreeRun : Nat := 0
  /-- samples since the ramp reached OBS_RPM (9 bits; R193). -/
  rampRun : Nat := 0
  /-- consecutive samples of a lost observer within OBS_RESID (7 bits; R199). -/
  okRun : Nat := 0
  /-- bearings over which it stayed within 10° of θ_bd (5 bits; R199). -/
  closeRun : Nat := 0
  /-- samples since the engagement, up to 64 (7 bits; R202). -/
  engageRun : Nat := 64
  /-- electrical angle passed since the last multiple of 360° × p / F (2^−32 turn × F; R196). -/
  tickAngle : Int := 0
  deriving DecidableEq, Repr

/-- one station's polygon drive (R183–R208). Spec 06_polygon_drives.md. -/
structure Polygon where
  /-- STATE (4 bits; R208). -/
  state : PolyMode := .off
  /-- OBS_OK (1 bit; R208). -/
  obsOk : Bool := false
  /-- BD_PRESENT (1 bit; R208). -/
  bdPresent : Bool := false
  /-- RAMPING (1 bit; R208). -/
  ramping : Bool := false
  /-- PHASE_LOCK (1 bit; R208). -/
  phaseLock : Bool := false
  /-- REGEN_CLAMP (1 bit; R208). -/
  regenClamp : Bool := false
  /-- START_TRY (3 bits; R208). -/
  startTry : Nat := 0
  /-- MEASURED (20 bits, 0.1 rpm; R208). -/
  speed : Nat := 0
  /-- REFERENCE (20 bits, 0.1 rpm; R208). -/
  reference : Nat := 0
  /-- target speed (20 bits, 0.1 rpm; R198). -/
  target : Nat := 0
  /-- E_PHI (32 bits, taps; R208). -/
  ePhi : Int := 0
  /-- IQ (16 bits, mA; R208). -/
  iq : Int := 0
  /-- ID (16 bits, mA; R208). -/
  id : Int := 0
  /-- q reference in use from the next current-loop sample (mA; R185, R196). -/
  iqRef : Int := 0
  /-- commutation angle at the last sample; THETA shows its upper 12 bits (2^−32 turn, electrical; R208). -/
  theta : Nat := 0
  /-- θ_obs − θ_bd; DIFF shows its upper 12 bits (2^−32 turn, electrical; R208). -/
  diff : Int := 0
  /-- THETA_HAT (12 bits; R208). -/
  thetaHat : Nat := 0
  /-- MARGIN (8 bits; R208). -/
  margin : Nat := 0
  /-- DOUBLED (1 bit; R208). -/
  doubled : Bool := false
  /-- STARTS (8 bits, saturates; R208). -/
  starts : Nat := 0
  /-- RECATCH_OK (8 bits, saturates; R208). -/
  recatchOk : Nat := 0
  /-- RECATCH_FAILS (8 bits, saturates; R208). -/
  recatchFails : Nat := 0
  /-- OBS_LOSSES (8 bits, saturates; R208). -/
  obsLosses : Nat := 0
  /-- OFS_U (10 bits; R208). -/
  ofsU : Int := 0
  /-- OFS_V (10 bits; R208). -/
  ofsV : Int := 0
  /-- OFS_W (10 bits; R208). -/
  ofsW : Int := 0
  /-- the bridge drives its gates (6 gates; R183). -/
  gates : Bool := false
  /-- angle source (2 bits; R187). -/
  source : AngleSource := .none
  /-- high-side times of the three phases in effect (LOOP cycles; R183). -/
  duty : Nat × Nat × Nat := (0, 0, 0)
  /-- those in effect before the last counter peak (LOOP cycles; R183). -/
  dutyPrev : Nat × Nat × Nat := (0, 0, 0)
  /-- test pulses of the last ALIGN, in order (12 or 24 pulses; R189). -/
  pulses : List SatPulse := []
  /-- back-EMF observer (1 observer; R192). -/
  obs : Observer := {}
  /-- sampling instant of the last current-loop computation (LOOP cycles; R213). -/
  sampleAt : Nat := 0
  /-- speed of the angle source at the last sample (2^−32 turn a sample; R185). -/
  omega : Int := 0
  /-- commutation angle less that of the angle source, moved to 0 by at most 1° a sample (2^−32 turn; R193, R195, R200). -/
  blend : Int := 0
  /-- speed ramp, advanced at every current-loop sample (0.1 rpm / 4,000; R191, R196). -/
  rampFine : Nat := 0
  /-- θ_ol (2^−32 turn; R191). -/
  thetaOl : Nat := 0
  /-- b_q, the last delivered bearing (1/64 LOOP cycle; R194). -/
  bq : Nat := 0
  /-- T_rev (1/64 LOOP cycle; R194). -/
  tRev : Nat := 0
  /-- bearings still to come of the revolution over which θ_ALIGN is taken (4 bits; R195). -/
  alignLeft : Nat := 0
  /-- sums of cosine and sine over that revolution (2^−30; R195). -/
  alignSum : Int × Int := (0, 0)
  /-- θ_ALIGN is being taken (1 bit; R195). -/
  alignRun : Bool := false
  /-- a facet tick has occurred and is not yet computed (1 bit; R196). -/
  tickDue : Bool := false
  /-- facet counter (4 bits; R194). -/
  q : Nat := 0
  /-- θ_ALIGN of the last alignment (2^−32 turn; R195). -/
  thetaAlign : Option Nat := none
  /-- bearings delivered since the last substituted one (8 bits; R195). -/
  subRun : Nat := 255
  /-- bearings delivered since the last loss, up to F + 1 (8 bits; R195). -/
  sinceLoss : Nat := 0
  /-- failed re-catch attempts of this loss (4 bits; R202). -/
  attempts : Nat := 0
  /-- consecutive bearings within PHASE_BAND (5 bits; R197). -/
  phaseIn : Nat := 0
  /-- consecutive bearings beyond PHASE_UNLOCK (3 bits; R197). -/
  phaseOut : Nat := 0
  /-- how FAULT was entered (3 bits; R187). -/
  entry : FaultEntry := .none
  /-- coasting because the motor bus was above V2 (1 bit; R205). -/
  busCoast : Bool := false
  /-- POLY_CTRL stopped the polygon since the last READY (1 bit; R530). -/
  hostStopped : Bool := false
  /-- the coast of a failed start attempt, which leads to LISTEN (1 bit; R187, R193). -/
  toListen : Bool := false
  /-- since when the drive listens, coasts or re-catches, or the bus is back in its band (AON µs; R188, R201, R202). -/
  coastUs : Nat := 0
  /-- since when the speed has been beyond SPEED_BAND (AON µs; R206). -/
  offUs : Option Nat := none
  /-- the speed source has been raised since (1 bit; R206). -/
  speedRaised : Bool := false
  deriving DecidableEq, Repr

/-- one loop engine (R210, R212, R240). Spec 07_control_loops.md. -/
structure Engine where
  /-- STATE (2 bits; R240). -/
  state : EngineState := .off
  /-- SERVES (3 bits; R240). -/
  serves : Nat := 7
  /-- DEADLINES (8 bits, saturates; R240). -/
  deadlines : Nat := 0
  /-- LOAD_MAX (14 bits; R240). -/
  loadMax : Nat := 0
  /-- the frame that load counts (frames; R211). -/
  frame : Nat := 0
  /-- cycles computed in that frame (LOOP cycles; R211). -/
  load : Nat := 0
  deriving DecidableEq, Repr

/-- a set-point curve of the profile generator (R222). Spec 07_control_loops.md. -/
structure Curve where
  /-- set-point at the start (Q1.31; R222). -/
  start : Int := 0
  /-- target (Q1.31; R222). -/
  target : Int := 0
  /-- sampling instants since the start (loop periods; R222). -/
  periods : Nat := 0
  deriving DecidableEq, Repr

/-- the d loop that a CUR loop computes beside its q loop (R185, R209). Spec 07_control_loops.md. -/
structure DAxis where
  /-- integrator (Q1.31; R217). -/
  i : Int := 0
  /-- output in effect (Q1.31; R213). -/
  out : Int := 0
  /-- output computed (Q1.31; R213). -/
  next : Int := 0
  /-- d current at the last sample (Q1.31; R185). -/
  meas : Int := 0
  /-- the last output was at U_LO or U_HI (1 bit; R217). -/
  clamped : Bool := false
  /-- the last output was at U_HI (1 bit; R217). -/
  clampHi : Bool := false
  deriving DecidableEq, Repr

/-- one control loop (R209–R225, R240). Spec 07_control_loops.md. -/
structure Loop where
  /-- the loop runs (1 bit; R209). -/
  running : Bool := false
  /-- REGION (3 bits; R240). -/
  region : Nat := 0
  /-- the curve under way; PROFILE_BUSY while one is (1 curve; R222, R240). -/
  curve : Option Curve := none
  /-- a target held until the curve ends (Q1.31; R223). -/
  heldTarget : Option Int := none
  /-- CLAMPED (1 bit; R240). -/
  clamped : Bool := false
  /-- the last output was at U_HI (1 bit; R217). -/
  clampHi : Bool := false
  /-- IN_BAND (1 bit; R240). -/
  inBand : Bool := false
  /-- consecutive periods within FE_BAND since PROFILE_BUSY cleared (16 bits; R225). -/
  bandRun : Nat := 0
  /-- FE_OVER (1 bit; R240). -/
  feOver : Bool := false
  /-- SAFE (1 bit; R240). -/
  safe : Bool := false
  /-- periods left of SAFE_SETTLE (16 bits; R224). -/
  settle : Nat := 0
  /-- FE_TIMER (16 bits; R240). -/
  feTimer : Nat := 0
  /-- the source has been raised since the count restarted (1 bit; R224). -/
  feRaised : Bool := false
  /-- LOOP_SP (Q1.31; R240). -/
  sp : Int := 0
  /-- LOOP_MEAS (Q1.31; R240). -/
  meas : Int := 0
  /-- y_prev (Q1.31; R217). -/
  measPrev : Int := 0
  /-- LOOP_OUT: the output in effect (Q1.31; R240). -/
  out : Int := 0
  /-- the output computed and not yet in effect (Q1.31; R213). -/
  next : Option Int := none
  /-- that output is at U_LO (1 bit; R217). -/
  nextLo : Bool := false
  /-- that output is at U_HI (1 bit; R217). -/
  nextHi : Bool := false
  /-- the d loop of a CUR loop (1 loop; R185). -/
  dAxis : DAxis := {}
  /-- LOOP_FE_PEAK (Q1.31; R240). -/
  fePeak : Int := 0
  /-- FE_EVENTS (16 bits, saturates; R240). -/
  feEvents : Nat := 0
  /-- REGION_CHANGES (16 bits, saturates; R240). -/
  regionChanges : Nat := 0
  /-- integrator i, or z of the STATE law (Q1.31; R217). -/
  i : Int := 0
  /-- e_prev (Q1.31; R217). -/
  ePrev : Int := 0
  /-- derivative state d (Q1.31; R217). -/
  d : Int := 0
  /-- the next sample is the first (1 bit; R217). -/
  first : Bool := true
  /-- section states s1, s2 (up to 4 × Q1.31 pairs; R218). -/
  sections : List (Int × Int) := []
  /-- bump term (Q1.31 with 32 guard bits; R221). -/
  bump : Int := 0
  deriving DecidableEq, Repr

/-- one HV channel (R226–R230, R240). Spec 07_control_loops.md. -/
structure HvChannel where
  /-- MODE (2 bits; R240). -/
  mode : HvMode := .off
  /-- MON_OK (1 bit; R240). -/
  monOk : Bool := false
  /-- HV_x.ch_MON has been raised for the present run (1 bit; R230). -/
  monRaised : Bool := false
  /-- consecutive samples out of monitor range (5 bits; R230). -/
  monRun : Nat := 0
  /-- MEASURED (16 bits, 0.1 V; R240). -/
  volt : Int := 0
  /-- CURRENT (16 bits, µA; R240). -/
  curr : Int := 0
  /-- CODE, the PWM-DAC code in use (16 bits; R240). -/
  code : Nat := 0
  /-- first-order accumulator of the PWM-DAC (16 bits; R227). -/
  acc : Nat := 0
  /-- on-time of the PWM-DAC period under way (LOOP cycles; R227). -/
  on : Nat := 0
  /-- the hardware multiplexer holds SAFE_CODE (1 bit; R229). -/
  mux : Bool := false
  /-- HV_CTRL sent the channel to its safe set-point (1 bit; R228). -/
  commanded : Bool := false
  deriving DecidableEq, Repr

/-- one station's developer AC waveform (R231, R232, R240). Spec 07_control_loops.md. -/
structure DevAc where
  /-- T_BAND (2 bits; R240). -/
  tBand : Nat := 0
  /-- H_BAND (2 bits; R240). -/
  hBand : Nat := 0
  /-- RUNNING (1 bit; R240). -/
  running : Bool := false
  /-- AMP (16 bits, V; R240). -/
  amp : Nat := 0
  /-- GAIN in use (16 bits; R240). -/
  gain : Nat := 0
  /-- first-order accumulator of the point period (LOOP cycles × 256 × AC_FREQ; R231). -/
  acc : Nat := 0
  /-- point periods of the AC period under way (256 × LOOP cycles; R231). -/
  points : List Nat := []
  /-- pulses of the AC period under way (256 × LOOP cycles; R231). -/
  pulses : List Nat := []
  /-- g that takes effect at point 0 (16 bits; R231). -/
  nextGain : Nat := 0
  /-- drum band that takes effect at point 0 (2 bits; R232). -/
  nextT : Nat := 0
  /-- humidity band that takes effect at point 0 (2 bits; R232). -/
  nextH : Nat := 0
  deriving DecidableEq, Repr

/-- one heater zone's output (R234, R235, R240). Spec 07_control_loops.md. -/
structure Heater where
  /-- MODE (2 bits; R240). -/
  mode : HeaterMode := .off
  /-- THROTTLED (1 bit; R240). -/
  throttled : Bool := false
  /-- SAT (1 bit; R240). -/
  sat : Bool := false
  /-- when the duty reached DUTY_MAX (AON µs; R235). -/
  satUs : Nat := 0
  /-- HEAT_n.SAT has been raised (1 bit; R235). -/
  satRaised : Bool := false
  /-- DUTY (16 bits; R240). -/
  duty : Nat := 0
  /-- duty of the next heater period (16 bits; R235). -/
  nextDuty : Nat := 0
  /-- MAINS_ZC crossings since the zone's last output instant, H at the next (8 bits, saturates; R235). -/
  zc : Nat := 0
  /-- AC_ZC: half-cycles left to be on (half-cycles; R235). -/
  onHalf : Nat := 0
  /-- HTRn is switched on (1 bit; R235). -/
  on : Bool := false
  /-- DC: cycles of the period for which it stays on (LOOP cycles; R235). -/
  onCycles : Nat := 0
  /-- when the heater period began (AON µs; R235). -/
  periodUs : Nat := 0
  /-- MEASURED (16 bits, 0.1 °C; R240). -/
  temp : Int := 0
  /-- TARGET (16 bits, 0.1 °C; R240). -/
  target : Int := 0
  deriving DecidableEq, Repr

/-- loop engines, HV channels, developer AC and heaters (R209–R240). Spec 07_control_loops.md. -/
structure Loops where
  /-- LE0–LE4 (5; R240). -/
  engines : Vector Engine 5 := Vector.replicate 5 {}
  /-- loops (64; R240). -/
  loops : Vector Loop 64 := Vector.replicate 64 {}
  /-- HV channels (18; R240). -/
  hv : Vector HvChannel 18 := Vector.replicate 18 {}
  /-- HV periods that each station's channels spent at layer set-points since its last job end (6 × 32 bits; R452). -/
  hvPeriods : Vector Nat 6 := Vector.replicate 6 0
  /-- HVEN_x (6 bits; R226, R240). -/
  hven : Vector Bool 6 := Vector.replicate 6 false
  /-- developer AC (6; R240). -/
  ac : Vector DevAc 6 := Vector.replicate 6 {}
  /-- heater zones (8; R240). -/
  heaters : Vector Heater 8 := Vector.replicate 8 {}
  /-- RH (10 bits, 0.1 %RH; R240). -/
  rh : Nat := 0
  /-- BAND (2 bits; R240). -/
  humBand : Nat := 0
  /-- HUM_IN is out of range (1 bit; R238). -/
  humOut : Bool := false
  /-- exposure set index in use (3 bits; R228, R432). -/
  expoSet : Nat := 0
  deriving DecidableEq, Repr

/-- a servo trajectory (R245), lengths in counts, speeds in counts/s, scaled by 2^24. Spec 08_motion.md. -/
structure Traj where
  /-- kind (3 bits; R245). -/
  kind : TrajKind := .none
  /-- position at the start (2^−24 count; R245). -/
  start : Int := 0
  /-- signed distance of a move (2^−24 count; R245). -/
  dist : Int := 0
  /-- velocity at the start (2^−24 count/s; R245). -/
  v0 : Int := 0
  /-- end velocity of a ramp (2^−24 count/s; R245). -/
  v1 : Int := 0
  /-- acceleration at the start (2^−24 count/s²; R245). -/
  a0 : Int := 0
  /-- peak acceleration (2^−24 count/s²; R245, R249). -/
  apk : Nat := 0
  /-- jerk time (2^−24 s; R245, R249). -/
  tj : Nat := 0
  /-- duration (2^−24 s; R245, R249). -/
  total : Nat := 0
  /-- POS instants since the start (POS periods; R245). -/
  periods : Nat := 0
  /-- what the move serves (2 bits; R251, R28). -/
  goal : MoveGoal := .none
  deriving DecidableEq, Repr

/-- one servo (R242–R252, R260, R270). Spec 08_motion.md. -/
structure Servo where
  /-- MODE (3 bits; R270). -/
  mode : ServoMode := .off
  /-- HOMED (1 bit; R270). -/
  homed : Bool := false
  /-- carriage homing: 0 none, 1 to the HOME input, 2 to the QZ edge (2 bits; R259). -/
  homePhase : Nat := 0
  /-- position at which homing began (2^−24 count; R259). -/
  homeFrom : Int := 0
  /-- REGEN_CLAMP (1 bit; R270). -/
  regen : Bool := false
  /-- RETIMED (1 bit; R270). -/
  retimed : Bool := false
  /-- LAST_STOP (2 bits; R270). -/
  lastStop : LastStop := .none
  /-- FE_EVENTS (16 bits, saturates; R270). -/
  feEvents : Nat := 0
  /-- SRV_VEL (32 bits; R270). -/
  vel : Int := 0
  /-- SRV_FE (32 bits; R270). -/
  fe : Int := 0
  /-- SRV_FE_PEAK (32 bits; R270). -/
  fePeak : Nat := 0
  /-- SRV_STOP REMAIN_US (32 bits; R270). -/
  remainUs : Nat := 0
  /-- high-side times of the three phases in effect (LOOP cycles; R183). -/
  duty : Nat × Nat × Nat := (0, 0, 0)
  /-- commutation angle at the last current-loop sample (2^−32 turn; R243). -/
  theta : Nat := 0
  /-- measured q current (mA; R242). -/
  iq : Int := 0
  /-- measured d current (mA; R242). -/
  id : Int := 0
  /-- position at the last sample of the velocity loop (2^−24 count; R215). -/
  velAt : Int := 0
  /-- position at the last POS instant (2^−24 count; R242). -/
  posAt : Int := 0
  /-- when the alignment began (AON µs; R243). -/
  alignUs : Nat := 0
  /-- position at which it began (2^−24 count; R243). -/
  alignFrom : Int := 0
  /-- COMM_OFFSET in use, unknown until known (12 bits; R243). -/
  commOffset : Option Nat := none
  /-- trajectory under way (1 trajectory; R245). -/
  traj : Traj := {}
  /-- position set-point (2^−24 count; R242). -/
  sp : Int := 0
  /-- v_ff (2^−24 count/s; R242). -/
  vff : Int := 0
  /-- a_ff (2^−24 count/s²; R242). -/
  aff : Int := 0
  /-- a stop takes the trajectory's place at the next POS instant (2 bits; R245). -/
  stopDue : LastStop := .none
  /-- difference at lock, halved every POS period (2^−24 count; R250). -/
  lockDiff : Int := 0
  /-- since when a coasting axis has been below REST_SPEED (AON µs; R261). -/
  restUs : Nat := 0
  /-- periods with gear tracking error (16 bits; R250). -/
  trackRun : Nat := 0
  /-- the axis is at rest (1 bit; R43, R261). -/
  atRest : Bool := true
  deriving DecidableEq, Repr

/-- one stepper phase's chopper (R255). Spec 08_motion.md. -/
structure ChopperPhase where
  /-- chopper phase (2 bits; R255). -/
  phase : ChopPhase := .idle
  /-- phase current in force (1/4,095 mA; R254). -/
  current : Int := 0
  /-- phase current of the next on-phase (1/4,095 mA; R255). -/
  nextCurrent : Int := 0
  /-- threshold of the comparator (8 bits; R253). -/
  dac : Nat := 0
  /-- when the on-phase or the off-time began (MOTN cycles; R255). -/
  since : Nat := 0
  /-- bridge input 1 (1 bit; R253). -/
  in1 : Bool := false
  /-- bridge input 2 (1 bit; R253). -/
  in2 : Bool := false
  deriving DecidableEq, Repr

/-- one stepper channel (R253–R259, R270). Spec 08_motion.md. -/
structure Stepper where
  /-- STATE, reset 0x3 (2 bits; R270). -/
  state : StepState := .off
  /-- UNCERTAIN, reset 1 (1 bit; R270). -/
  uncertain : Bool := true
  /-- SEGMENT (2 bits; R270). -/
  segment : StepSegment := .start
  /-- ELEC_POS m (10 bits; R270). -/
  elec : Nat := 0
  /-- STEPS (32 bits, signed; R270). -/
  steps : Int := 0
  /-- MOVES (16 bits, saturates; R270). -/
  moves : Nat := 0
  /-- STOPS (16 bits, saturates; R270). -/
  stops : Nat := 0
  /-- HOMED (1 bit; R259). -/
  homed : Bool := false
  /-- steps left of the move (32 bits; R256). -/
  left : Nat := 0
  /-- steps of the move (32 bits; R256). -/
  total : Nat := 0
  /-- direction of the move (1 bit; R256). -/
  backward : Bool := false
  /-- v² of the present speed, exact (steps²/s²; R256). -/
  v2 : Nat := 0
  /-- interval to the next step (1/16 MOTN cycle; R256). -/
  interval : Nat := 0
  /-- fraction carried to the next interval (4 bits; R256). -/
  frac : Nat := 0
  /-- the last step is issued and SETTLE_TIME runs (1 bit; R256). -/
  settling : Bool := false
  /-- time of the last step (AON µs; R258). -/
  dueUs : Nat := 0
  /-- when the channel came to rest (AON µs; R254). -/
  restUs : Nat := 0
  /-- when the next step is due (MOTN cycles; R256). -/
  dueAt : Nat := 0
  /-- step count at which homing began (steps; R259). -/
  homeFrom : Int := 0
  /-- a step has been issued since start (1 bit; R258). -/
  stepped : Bool := false
  /-- the channel holds I_HOLD (1 bit; R254). -/
  holdCurrent : Bool := false
  /-- the move is a homing move (1 bit; R259). -/
  homing : Bool := false
  /-- homing is backing off the switch (1 bit; R259). -/
  backOff : Bool := false
  /-- what the move serves (2 bits; R257). -/
  goal : MoveGoal := .none
  /-- phase A (1 phase; R253). -/
  phaseA : ChopperPhase := {}
  /-- phase B (1 phase; R253). -/
  phaseB : ChopperPhase := {}
  deriving DecidableEq, Repr

/-- motor bus and chopper (R262–R266, R270). Spec 08_motion.md. -/
structure Bus where
  /-- STATE (3 bits; R270). -/
  state : BusState := .under
  /-- CHOP_ON (1 bit; R270). -/
  chopOn : Bool := false
  /-- CHOP_FAILED (1 bit; R270). -/
  chopFailed : Bool := false
  /-- CHOP_HOT (1 bit; R270). -/
  chopHot : Bool := false
  /-- CHOP_I (16 bits, mA; R270). -/
  chopI : Nat := 0
  /-- VBUS (16 bits, 10 mV; R270). -/
  volt : Nat := 0
  /-- PEAK (16 bits, 10 mV; R270). -/
  peak : Nat := 0
  /-- V1_EVENTS (8 bits, saturates; R270). -/
  v1Events : Nat := 0
  /-- V2_EVENTS (8 bits, saturates; R270). -/
  v2Events : Nat := 0
  /-- V3_EVENTS (8 bits, saturates; R270). -/
  v3Events : Nat := 0
  /-- CHOP_FAILS (8 bits, saturates; R270). -/
  chopFails : Nat := 0
  /-- energy in the resistor model (0.1 nJ; R263). -/
  energy : Nat := 0
  /-- consecutive samples below V_UV (4 bits; R262). -/
  uvRun : Nat := 0
  /-- consecutive failing chopper samples (7 bits; R264). -/
  detectRun : Nat := 0
  /-- bridges coast since the bus passed V2 (1 bit; R265). -/
  coasting : Bool := false
  /-- a chopper self-test is due (1 bit; R264). -/
  testDue : Bool := false
  deriving DecidableEq, Repr

/-- servos, steppers and the motor bus (R241–R270). Spec 08_motion.md. -/
structure Motion where
  /-- belt, carriage, roller (3; R270). -/
  servos : Vector Servo 3 := Vector.replicate 3 {}
  /-- Z0–Z3, F0–F5 (10; R270). -/
  steppers : Vector Stepper 10 := Vector.replicate 10 {}
  /-- motor bus (1; R270). -/
  bus : Bus := {}
  /-- SKEW_PEAK (16 bits; R270). -/
  skewPeak : Nat := 0
  /-- BRAKE_RELEASED, level of ZBRAKE_REL (1 bit; R270). -/
  brakeReleased : Bool := false
  /-- RESIDUE (16 bits, nm; R270). -/
  residue : Nat := 0
  /-- LAST_STEPS (16 bits; R270). -/
  lastSteps : Nat := 0
  /-- Z step in use (32 bits, nm; R257). -/
  zStep : Nat := 0
  /-- where the carriage stands in the layer's travel (3 bits; R44). -/
  carrPhase : CarriagePhase := .atStart
  /-- the job whose approach, run-in or nip travel it is (64 bits; R249). -/
  carrJob : Nat := 0
  /-- axes whose homing waits: servo 0–2, stepper 3–12 (13 bits; R259). -/
  homeDue : BitVec 13 := 0
  /-- the last POS sampling instant (MOTN cycles; R242). -/
  posAt : Nat := 0
  /-- LAYER_RESUME returns the carriage before HOLD clears (1 bit; R28). -/
  resumeReturn : Bool := false
  deriving DecidableEq, Repr

/-- one external temperature input (R273, R274, R289). Spec 09_thermal.md. -/
structure TempInput where
  /-- TH_IN TEMP (16 bits, 0.1 °C; R289). -/
  temp : Int := 0
  /-- STATE (2 bits; R289). -/
  state : TinState := .ok
  /-- FAULTS (8 bits, saturates; R289). -/
  faults : Nat := 0
  /-- the state the last result showed (2 bits; R273). -/
  badState : TinState := .ok
  /-- consecutive results that show it (2 bits; R273). -/
  badRun : Nat := 0
  /-- consecutive results that show OK while faulted (4 bits; R273). -/
  okRun : Nat := 0
  deriving DecidableEq, Repr

/-- one die sensor (R276, R289). Spec 09_thermal.md. -/
structure DieSensor where
  /-- TH_DIE TEMP (16 bits, 0.1 °C; R289). -/
  temp : Int := 0
  /-- VALID (1 bit; R289). -/
  valid : Bool := true
  /-- consecutive reads off the median (5 bits; R276). -/
  offRun : Nat := 0
  deriving DecidableEq, Repr

/-- one station's drum band (R275, R289). Spec 09_thermal.md. -/
structure Drum where
  /-- BAND (2 bits; R289). -/
  band : Nat := 0
  /-- LATCHED (2 bits; R289). -/
  latched : Nat := 0
  /-- TEMP (16 bits, 0.1 °C; R289). -/
  temp : Int := 0
  deriving DecidableEq, Repr

/-- one heater zone's throttle (R280, R289). Spec 09_thermal.md. -/
structure Zone where
  /-- FACTOR (16 bits; R289). -/
  factor : Nat := 0xFFFF
  /-- OVER (1 bit; R289). -/
  beyond : Bool := false
  /-- since when k_n has been 0 (AON µs; R280). -/
  zeroUs : Option Nat := none
  deriving DecidableEq, Repr

/-- temperature inputs, die band and throttling (R271–R289). Spec 09_thermal.md. -/
structure Thermal where
  /-- DIE_BAND, reset 0x1 (3 bits; R289). -/
  band : DieBand := .normal
  /-- REFRESH_2X (1 bit; R289). -/
  refresh2x : Bool := false
  /-- CRIT_LATCHED (1 bit; R289). -/
  critLatched : Bool := false
  /-- ABORT_DECIDED (1 bit; R289). -/
  abortDecided : Bool := false
  /-- a finish decision stands (1 bit; R282, R283). -/
  finishing : Bool := false
  /-- die sensors (12; R289). -/
  sensors : Vector DieSensor 12 := Vector.replicate 12 {}
  /-- fewer than 6 sensors are valid (1 bit; R276). -/
  sensorsLost : Bool := false
  /-- TEMP, T_d (16 bits, 0.1 °C; R289). -/
  td : Int := 0
  /-- PEAK (16 bits, 0.1 °C; R289). -/
  peak : Int := 0
  /-- T_d of the last 1,100 reads, newest first (1,100 × 0.1 °C; R277, R282). -/
  history : List Int := []
  /-- since when T_d has been below 100 °C less DIE_HYST (AON µs; R284). -/
  coolUs : Option Nat := none
  /-- SLOPE (16 bits, 0.01 °C/s; R289). -/
  slope : Int := 0
  /-- T_TRIP_MS (16 bits; R289). -/
  tTripMs : Nat := 0xFFFF
  /-- T_REM_MS (16 bits; R289). -/
  tRemMs : Nat := 0
  /-- REQUESTED (7 bits; R289). -/
  requested : Nat := 0x40
  /-- APPLIED (7 bits; R289). -/
  applied : Nat := 0x40
  /-- drum bands (6; R289). -/
  drums : Vector Drum 6 := Vector.replicate 6 {}
  /-- external inputs (16; R289). -/
  inputs : Vector TempInput 16 := Vector.replicate 16 {}
  /-- heater zones (8; R289). -/
  zones : Vector Zone 8 := Vector.replicate 8 {}
  /-- the last shutdown was a thermal one (1 bit; R283, R284). -/
  shutdown : Bool := false
  /-- Trip comparators held for 10 µs (12 bits; R285). -/
  trip : BitVec 12 := 0
  deriving DecidableEq, Repr

/-- event counters of one rail or own supply (R308). Spec 10_power_sequencing.md. -/
structure RailCounts where
  /-- RAIL_UV (32 bits, saturates; R320). -/
  uv : Nat := 0
  /-- RAIL_OV (32 bits, saturates; R320). -/
  ov : Nat := 0
  /-- RAIL_PG_LATE (32 bits, saturates; R320). -/
  pgLate : Nat := 0
  /-- RAIL_PG_LOST (32 bits, saturates; R320). -/
  pgLost : Nat := 0
  /-- RAIL_OFF_FAIL (32 bits, saturates; R320). -/
  offFail : Nat := 0
  /-- RAIL_SEQ (32 bits, wraps; R320). -/
  seq : Nat := 0
  /-- the slot that holds the current record (1 bit; R308). -/
  slot : Nat := 1
  /-- a change is not yet in a slot (1 bit; R308). -/
  dirty : Bool := false
  deriving DecidableEq, Repr

/-- one rail channel (R293, R294, R320). Spec 10_power_sequencing.md. -/
structure Rail where
  /-- EN, level of PS_EN_n (1 bit; R320). -/
  en : Bool := false
  /-- PG (1 bit; R320). -/
  pg : Bool := false
  /-- PG has been good since this EN (1 bit; R294). -/
  pgSinceEn : Bool := false
  /-- PG_LATE has been judged for this EN (1 bit; R294). -/
  lateDone : Bool := true
  /-- OFF_FAIL has been judged for this DIS (1 bit; R294). -/
  offDone : Bool := true
  /-- time of the last EN or DIS (AON µs; R294). -/
  switchUs : Nat := 0
  /-- MON (mV; 16 bits of 10 mV in RAIL_STAT; R320). -/
  mon : Nat := 0
  /-- consecutive samples below UV_LIMIT (3 bits; R294). -/
  uvRun : Nat := 0
  /-- consecutive samples above OV_LIMIT (3 bits; R294). -/
  ovRun : Nat := 0
  deriving DecidableEq, Repr

/-- the PSE, rails, own supplies and the Uliber line (R290–R320). Spec 10_power_sequencing.md. -/
structure Power where
  /-- PROGRAM (3 bits; R320). -/
  program : Program := .none
  /-- UP_DONE (1 bit; R320). -/
  upDone : Bool := false
  /-- SHUT_OFF (1 bit; R320). -/
  shutOff : Bool := false
  /-- INPUT_OK (1 bit; R320). -/
  inputOk : Bool := false
  /-- STEP (8 bits; R320). -/
  step : Nat := 0
  /-- what the present step waits for (3 bits; R297). -/
  wait : PseWait := .none
  /-- when the wait began (AON µs; R297). -/
  waitUs : Nat := 0
  /-- when the program started (AON µs; R300). -/
  startUs : Nat := 0
  /-- cause of the running program (4 bits; R320). -/
  cause : ProgCause := .start
  /-- the program that starts one PSE cycle later (1 program; R302). -/
  preempt : Option (Program × ProgCause) := none
  /-- the watchdog expired; the program ends after its step (1 bit; R300). -/
  timeoutDue : Bool := false
  /-- PWR_LAST PROGRAM (3 bits; R320). -/
  lastProgram : Program := .none
  /-- PWR_LAST STATUS (3 bits; R320). -/
  lastStatus : ProgStatus := .none
  /-- PWR_LAST CAUSE (4 bits; R320). -/
  lastCause : ProgCause := .start
  /-- DURATION (20 bits, ms; R320). -/
  lastDuration : Nat := 0
  /-- program flags 0–63 (64 bits; R298). -/
  flags : BitVec 64 := 0
  /-- LEVEL of PWR_IN_OK (1 bit; R320). -/
  inLevel : Bool := false
  /-- FAILS (8 bits, saturates; R320). -/
  inFails : Nat := 0
  /-- since when PWR_IN_OK has held its level, or qualification began (AON µs; R304). -/
  inUs : Nat := 0
  /-- the input failed before or during the shutdown (1 bit; R307). -/
  inFailed : Bool := false
  /-- VOUT_REQ (10 bits, mV; R320). -/
  voutReq : Nat := 0
  /-- request toward which VDD_CORE steps (10 bits, mV; R291). -/
  voutTarget : Nat := 0
  /-- VOUT_READ (10 bits, mV; R320). -/
  voutRead : Nat := 0
  /-- ERRORS (8 bits, saturates; R320). -/
  pmbErrors : Nat := 0
  /-- FROZEN (1 bit; R320). -/
  frozen : Bool := false
  /-- failures of the transaction under way (2 bits; R291). -/
  pmbTries : Nat := 0
  /-- time of the last step of VDD_CORE (AON µs; R291). -/
  vcoreUs : Nat := 0
  /-- PS0–PS23 (24; R293). -/
  rails : Vector Rail 24 := Vector.replicate 24 {}
  /-- supplies 24–31 within R290 (8 bits; R290, R320). -/
  ownOk : Vector Bool 8 := Vector.replicate 8 false
  /-- counters of rails and own supplies (32; R308). -/
  counts : Vector RailCounts 32 := Vector.replicate 32 {}
  /-- power-log records formed and not yet in the ring (records of 12 bytes; R310). -/
  logQueue : List (List (BitVec 8)) := []
  /-- the power section whose programs the PSE runs (power section; R292). -/
  stored : Option LegPower := none
  /-- UP has started since power-on reset (1 bit; R301). -/
  upEver : Bool := false
  /-- the last shutdown was started by a Grave fault or THERM.TRIP (1 bit; R307). -/
  shutGrave : Bool := false
  /-- the last shutdown was started by THERM.SHUTDOWN (1 bit; R307). -/
  shutThermal : Bool := false
  /-- the running UP, or the last, followed a shutdown with no reset between (1 bit; R530). -/
  afterShut : Bool := false
  /-- UP has ended after a shutdown; the outputs are to be taken up (1 bit; R530). -/
  resumeDue : Bool := false
  /-- Uliber counter (8 bits; R320). -/
  ulbState : Nat := 0
  /-- SYNC_LEVEL (1 bit; R320). -/
  syncLevel : Bool := false
  /-- level of ULB_ABORT_N as the other members drive it, last seen (1 bit; R320). -/
  abortLevel : Bool := true
  /-- the last qualified falling edge, none once the line was seen high (AON µs; R316). -/
  abortFall : Option Nat := none
  /-- the line has stayed low for 1 ms since that edge (1 bit; R316). -/
  abortLong : Bool := false
  /-- SYNC_DRIVE (1 bit; R320). -/
  syncDrive : Bool := true
  /-- ABORT_DRIVE: held low as a level (1 bit; R320). -/
  abortDrive : Bool := false
  /-- when the last 20 µs layer pulse began (AON µs; R315). -/
  abortPulse : Option Nat := none
  /-- DETACHED (1 bit; R320). -/
  detached : Bool := false
  /-- RISES (16 bits, saturates; R320). -/
  rises : Nat := 0
  /-- PULSES (16 bits, saturates; R320). -/
  pulses : Nat := 0
  /-- LEVELS (16 bits, saturates; R320). -/
  levels : Nat := 0
  /-- the member released the line in the present state (1 bit; R311). -/
  released : Bool := false
  /-- P_ULB, travel at the last multiple of 64 counts before the rise (64 bits; R314). -/
  pUlb : Int := 0
  /-- released in ULB_LAYER for an ADMITTED candidate (1 bit; R314). -/
  layerReleased : Bool := false
  deriving DecidableEq, Repr

/-- an event in the collector's queue (R329). Spec 11_faults.md. -/
structure FaultEvent where
  /-- source number (8 bits; R322). -/
  src : Nat := 0
  /-- instance number (6 bits; R323). -/
  inst : Nat := 0
  /-- base class of the event (2 bits; R325). -/
  base : FaultClass := .notice
  /-- stamp, µs from AON start (48 bits; R329). -/
  timeUs : Nat := 0
  /-- DETAIL (6 bytes; R338). -/
  detail : List (BitVec 8) := []
  /-- a committed window was open (1 bit; R338). -/
  inWindow : Bool := false
  /-- sequence number of the job running then, 0 for none (64 bits; R338). -/
  jobSeq : Nat := 0
  /-- its state code (4 bits; R338). -/
  jobState : Nat := 0
  deriving DecidableEq, Repr

/-- state of one instance (R321, R326). Spec 11_faults.md. -/
structure FaultInst where
  /-- source number (8 bits; R322). -/
  src : Nat := 0
  /-- instance number (6 bits; R323). -/
  inst : Nat := 0
  /-- base class (2 bits; R325). -/
  base : FaultClass := .notice
  /-- effective class (2 bits; R326). -/
  cls : FaultClass := .notice
  /-- stamps of the counted events, newest first (up to 255 stamps; R326). -/
  counted : List Nat := []
  /-- the last event or fall-back step (AON µs; R327). -/
  lastUs : Nat := 0
  /-- a Severe stands (1 bit; R332). -/
  standing : Bool := false
  /-- the source's restriction stands through this instance (1 bit; R333). -/
  restricted : Bool := false
  /-- the instance set the Grave latch (1 bit; R341). -/
  setGrave : Bool := false
  /-- stamps of the Notice records logged within W (up to 255 stamps; R337). -/
  logged : List Nat := []
  /-- Notice events counted and not logged (16 bits; R337). -/
  suppressed : Nat := 0
  /-- time of the last Severe event record (AON µs; R335). -/
  recordUs : Option Nat := none
  /-- events of the instance since power-on reset (32 bits; R347). -/
  events : Nat := 0
  deriving DecidableEq, Repr

/-- a fault record formed and not yet durable (R338). Spec 11_faults.md. -/
structure FaultRecord where
  /-- the record without its SEQ and CRC (32 bytes; R338). -/
  bytes : List (BitVec 8) := []
  deriving DecidableEq, Repr

/-- fault collector, Grave latch, ALIVE, LSAFE_N and LEN (R321–R347). Spec 11_faults.md. -/
structure Faults where
  /-- the event queue (up to 64 events; R329). -/
  queue : List FaultEvent := []
  /-- an overflow episode is in progress (1 bit; R347). -/
  storm : Bool := false
  /-- FAULT.STORM of the episode waits for a free slot of the queue (1 bit; R329). -/
  stormDue : Bool := false
  /-- FLT_DROPPED QUEUE (16 bits, saturates; R347). -/
  dropped : Nat := 0
  /-- LOG_FAILS (16 bits, saturates; R347). -/
  logFails : Nat := 0
  /-- armed events detected whose hardware reaction is to come (events; R330). -/
  fast : List FaultEvent := []
  /-- instances that have had an event (256 × 64 instances, sparse; R321). -/
  insts : List FaultInst := []
  /-- the Grave latch (1 bit; R347). -/
  grave : Bool := false
  /-- the Grave gates are driven and the latch is to be set (1 bit; R336). -/
  gravePending : Bool := false
  /-- FLT_GRAVE SOURCE (8 bits; R347). -/
  graveSrc : Nat := 0
  /-- FLT_GRAVE INSTANCE (6 bits; R347). -/
  graveInst : Nat := 0
  /-- FLT_GRAVE VALID (1 bit; R347). -/
  graveValid : Bool := false
  /-- FLT_FIRST_SEVERE SOURCE (8 bits; R347). -/
  firstSrc : Nat := 0
  /-- FLT_FIRST_SEVERE INSTANCE (6 bits; R347). -/
  firstInst : Nat := 0
  /-- FLT_FIRST_SEVERE VALID (1 bit; R347). -/
  firstValid : Bool := false
  /-- FLT_RESTRICT HOLD (1 bit; R347). -/
  holdRestrict : Bool := false
  /-- ALIVE_LEVEL (1 bit; R347). -/
  alive : Bool := false
  /-- ALIVE_RUN (1 bit; R347). -/
  aliveRun : Bool := false
  /-- SUP_OK (1 bit; R347). -/
  supOk : Bool := false
  /-- FLT_ALIVE STOPS (16 bits, saturates; R347). -/
  stops : Nat := 0
  /-- start of the present ALIVE period (AON µs; R339). -/
  periodUs : Nat := 0
  /-- heartbeat written in the present period (1 bit; R339). -/
  beat : Bool := false
  /-- consecutive periods ended without a write (2 bits; R339). -/
  missed : Nat := 0
  /-- last heartbeat write, or READY (AON µs; R339). -/
  beatUs : Nat := 0
  /-- LEN_LEVEL (1 bit; R347). -/
  len : Bool := false
  /-- LSAFE_LEVEL, true while LSAFE_N is deasserted (1 bit; R347). -/
  lsafe : Bool := true
  /-- since when LSAFE_N has been deasserted (AON µs; R340). -/
  lsafeUs : Nat := 0
  /-- records not yet in the MRAM ring (records; R338). -/
  records : List FaultRecord := []
  /-- FLT_LOG_SEQ (32 bits, wraps; R347). -/
  logSeq : Nat := 0
  /-- FLT_LOG_HEAD (10 bits; R347). -/
  logHead : Nat := 0
  /-- FLT_EVENTS per class (4 × 32 bits, wrap; R347). -/
  counts : Vector Nat 4 := Vector.replicate 4 0
  /-- live values set by FAULT_THRESH (source, N, W; R343). -/
  thresholds : List (Nat × Nat × Nat) := []
  deriving DecidableEq, Repr

/-- a submission ring (R353, R379). Spec 12_host_link_and_jobs.md. -/
structure Ring where
  /-- BASE, a byte address (52 bits at [63:12]; R379). -/
  base : Nat := 0
  /-- ENABLE (1 bit; R379). -/
  enable : Bool := false
  /-- ERROR (1 bit; R379). -/
  error : Bool := false
  /-- TAIL as last written (6 bits; R379). -/
  tail : Nat := 0
  /-- HEAD (6 bits; R379). -/
  head : Nat := 0
  /-- a doorbell offers entries that taking has not yet stopped before (1 bit; R354, R374). -/
  rung : Bool := false
  deriving DecidableEq, Repr

/-- a record waiting for its completion queue (R359). Spec 12_host_link_and_jobs.md. -/
structure Held where
  /-- KIND (8 bits; R362). -/
  kind : RecordKind := .accepted
  /-- SEQ (64 bits; R362). -/
  seq : Nat := 0
  /-- REPLAY (1 bit; R362). -/
  replay : Bool := false
  /-- bytes 16–63 (48 bytes; R362). -/
  body : List (BitVec 8) := []
  /-- when the record began to wait (AON µs; R378). -/
  sinceUs : Nat := 0
  /-- HOST.CQ_WAIT has been raised for it (1 bit; R378). -/
  waitRaised : Bool := false
  /-- a 16-byte DMA or telemetry record (1 bit; R358, R390). -/
  dma : Bool := false
  /-- DMA record signalled at once (1 bit; R390). -/
  irq : Bool := false
  deriving DecidableEq, Repr

/-- a completion queue (R358, R379). Spec 12_host_link_and_jobs.md. -/
structure CompQueue where
  /-- BASE, a byte address (52 bits at [63:12]; R379). -/
  base : Nat := 0
  /-- ENABLE (1 bit; R379). -/
  enable : Bool := false
  /-- SLOT64 (1 bit; 1 for CQ0; R379). -/
  slot64 : Bool := false
  /-- SIZE_LOG2 (4 bits; R379). -/
  sizeLog2 : Nat := 0
  /-- VECTOR (4 bits; R379). -/
  vector : Nat := 0
  /-- IRQ_ENABLE (1 bit; R379). -/
  irqEnable : Bool := false
  /-- COAL_COUNT (8 bits; R379). -/
  coalCount : Nat := 0
  /-- COAL_TIME (8 bits; R379). -/
  coalTime : Nat := 0
  /-- HEAD (12 bits; R379). -/
  head : Nat := 0
  /-- TAIL (12 bits; R379). -/
  tail : Nat := 0
  /-- PHASE (1 bit; R379). -/
  phase : Bool := true
  /-- records held for the queue, oldest first (records; R379). -/
  waiting : List Held := []
  /-- records written since the queue's last signal (16 bits; R361). -/
  unsignalled : Nat := 0
  /-- time of the first record not yet signalled (AON µs; R361). -/
  firstUs : Nat := 0
  /-- slots of CQ0 that hold FINAL records not yet passed (slot, sequence number; R372). -/
  finals : List (Nat × Nat) := []
  deriving DecidableEq, Repr

/-- one MSI-X table entry (R361, R379). Spec 12_host_link_and_jobs.md. -/
structure MsixEntry where
  /-- message address (64 bits; R379). -/
  addr : Nat := 0
  /-- message data (32 bits; R379). -/
  data : Nat := 0
  /-- vector control mask (1 bit; R379). -/
  masked : Bool := true
  deriving DecidableEq, Repr

/-- a posted write of the device into host memory (R359). Spec 12_host_link_and_jobs.md. -/
structure HostWrite where
  /-- PCIe address (63 bits; R359). -/
  addr : Nat := 0
  /-- data (one TLP; R359). -/
  bytes : List (BitVec 8) := []
  deriving DecidableEq, Repr

/-- one job slot of one atlas copy (R370). Spec 12_host_link_and_jobs.md. -/
structure AtlasSlot where
  /-- entry copy (128 bytes; R370). -/
  entry : List (BitVec 8) := []
  /-- ACCEPTED, STARTED, ENDED, REPORTED (4 × 64 bytes; R370). -/
  marks : Vector (List (BitVec 8)) 4 := Vector.replicate 4 []
  deriving DecidableEq, Repr

/-- the header of one atlas copy (R371). Spec 12_host_link_and_jobs.md. -/
structure AtlasHeader where
  /-- NEXT_SEQ, 1 when the device is first used (64 bits; R371). -/
  nextSeq : Nat := 1
  /-- life counts of R47's statuses (5 × 64 bits; R371). -/
  life : Vector Nat 5 := Vector.replicate 5 0
  /-- registration record REG_XSCAN (6 × 32 bits; R371). -/
  xscan : Vector Int 6 := Vector.replicate 6 0
  /-- registration record REG_INSCAN (6 × 16 bits; R371). -/
  inscan : Vector Int 6 := Vector.replicate 6 0
  /-- BUILD_ID of the registration record (64 bits; R371). -/
  buildId : Nat := 0
  /-- the registration record is valid (1 bit; R371). -/
  regValid : Bool := false
  deriving DecidableEq, Repr

/-- one copy of the atlas (R370). Spec 12_host_link_and_jobs.md. -/
structure AtlasCopy where
  /-- header (header; R371). -/
  header : AtlasHeader := {}
  /-- job slots (64 slots; R370). -/
  slots : Vector AtlasSlot 64 := Vector.replicate 64 {}
  deriving DecidableEq, Repr

/-- an atlas mark due and not yet written (R370, R372). Spec 12_host_link_and_jobs.md. -/
structure MarkTodo where
  /-- SEQ (64 bits; R370). -/
  seq : Nat := 0
  /-- KIND of the mark: 2 STARTED, 3 ENDED (2 bits; R370). -/
  kind : Nat := 0
  /-- BODY (32 bytes; R370). -/
  body : List (BitVec 8) := []
  deriving DecidableEq, Repr

/-- the atlas in MRAM (R370–R373). Spec 12_host_link_and_jobs.md. -/
structure Atlas where
  /-- copies A and B (2 copies; R370). -/
  copies : Vector AtlasCopy 2 := Vector.replicate 2 {}
  /-- marks due and not yet durable (marks; R372). -/
  todo : List MarkTodo := []
  /-- slots of accepted jobs not yet reported (sequence number, slot; R370). -/
  slotOf : List (Nat × Nat) := []
  /-- FINAL records due, whose ENDED mark is durable (sequence number, 48 bytes; R363). -/
  finals : List (Nat × List (BitVec 8)) := []
  /-- jobs whose FINAL record has been placed on CQ0 since the last restart (sequence numbers; R363). -/
  written : List Nat := []
  /-- jobs whose FINAL record carries REPLAY (sequence numbers; R373, R374). -/
  again : List Nat := []
  deriving DecidableEq, Repr

/-- PCI Express, rings, completion queues and commands (R348–R379). Spec 12_host_link_and_jobs.md. -/
structure HostPort where
  /-- layer queue (1; R379). -/
  lq : Ring := {}
  /-- maintenance queue (1; R379). -/
  mq : Ring := {}
  /-- LINK_UP (1 bit; R379). -/
  linkUp : Bool := false
  /-- SPEED (2 bits; R379). -/
  linkSpeed : Nat := 0
  /-- WIDTH (2 bits; R379). -/
  linkWidth : Nat := 0
  /-- records of R374 not yet written, REPLAYING while not 0 (counter; R374, R379). -/
  replayLeft : Nat := 0
  /-- HQ_EVENTS_LOST (16 bits, saturates; R379). -/
  eventsLost : Nat := 0
  /-- HQ_LINK_RESETS (16 bits, saturates; R379). -/
  linkResets : Nat := 0
  /-- HOST_WIN GRANULE (7 bits; R379). -/
  win : Nat := 0
  /-- completion queues; SLOT64 of CQ0 is 1 (14; R379). -/
  cqs : Vector CompQueue 14 := Vector.ofFn fun i => if i.val = 0 then { slot64 := true } else {}
  /-- MSI-X table (16; R379). -/
  msix : Vector MsixEntry 16 := Vector.replicate 16 {}
  /-- MSI-X pending bits (16 bits; R379). -/
  pba : BitVec 16 := 0
  /-- MQ_OPEN: commands taken and without a COMMAND record (5 bits; R355, R379). -/
  taken : Nat := 0
  /-- commands that wait for a boundary, in ring order (up to 16 commands; R365). -/
  mqWaiting : List (MqHeader × MqOp) := []
  /-- PCI Express configuration is open (1 bit; R350). -/
  configOpen : Bool := false
  /-- value the last host read returned, in the bytes of lastEnables alone; none for a read that was not accepted (32 bits; R10, R11, R432). -/
  lastReply : Option (BitVec 32) := none
  /-- the bytes that the last host read addressed (4 bits; R10). -/
  lastEnables : BitVec 4 := 0
  /-- data the last BAR2 read returned (bytes; R352). -/
  lastBytes : List (BitVec 8) := []
  /-- the last BAR2 completion was poisoned (1 bit; R352). -/
  poisoned : Bool := false
  /-- the last request completed with Unsupported Request (1 bit; R432). -/
  unsupported : Bool := false
  /-- the last configuration request was answered with CRS (1 bit; R350). -/
  crs : Bool := false
  /-- a command warm reset follows the writing of its COMMAND record (1 bit; R369). -/
  resetDue : Bool := false
  /-- holding registers in use: the BAR0 offset of a high half and the copy that its next read returns (32 bits per 64-bit quantity; R11). -/
  holding : List (Nat × BitVec 32) := []
  /-- writes into host memory, newest first (posted writes; R359). -/
  writes : List HostWrite := []
  /-- MSI-X messages sent, newest first (vectors; R361). -/
  msixSent : List Nat := []
  /-- the atlas (MRAM; R370). -/
  atlas : Atlas := {}
  /-- RESTART_KIND of the last restart (3 bits; R374). -/
  restartKind : RestartKind := .powerOn
  /-- the last reset was of the host link: BOOT_RESET.KIND reads LINK_RESET (1 bit; R432). -/
  linkLast : Bool := false
  /-- a RESTART record and its replays wait for CQ0 (1 bit; R374). -/
  restartDue : Bool := false
  /-- LQ entries may be taken: no replay is due (1 bit; R374). -/
  lqOpen : Bool := true
  /-- jobs requeued by the restart (8 bits; R362). -/
  requeued : Nat := 0
  /-- jobs the restart ended INTERRUPTED (8 bits; R362). -/
  interrupted : Nat := 0
  /-- jobs the restart ended DATA_LOST (8 bits; R362). -/
  dataLost : Nat := 0
  deriving DecidableEq, Repr

/-- a fetched descriptor (R382). Spec 13_dma_engine.md. -/
structure Descriptor where
  /-- address it was fetched from (64 bits; R387). -/
  addr : Nat := 0
  /-- OPCODE (4 bits; R382). -/
  op : DmaOp := .copy
  /-- CMP_SRC (1 bit; R382). -/
  cmpSrc : Bool := false
  /-- CQ (4 bits; R382). -/
  cq : Nat := 0
  /-- RECORD (1 bit; R382). -/
  record : Bool := false
  /-- IRQ (1 bit; R382). -/
  irq : Bool := false
  /-- FENCE (1 bit; R382). -/
  fence : Bool := false
  /-- READBACK (1 bit; R382). -/
  readback : Bool := false
  /-- LAST (1 bit; R382). -/
  last : Bool := false
  /-- LENGTH (32 bits; R382). -/
  length : Nat := 0
  /-- SOURCE or PATTERN (64 bits; R382). -/
  source : Nat := 0
  /-- DEST (64 bits; R382). -/
  dest : Nat := 0
  /-- NEXT (64 bits; R382). -/
  next : Nat := 0
  deriving DecidableEq, Repr

/-- one DMA channel (R380–R405). Spec 13_dma_engine.md. -/
structure DmaChannel where
  /-- STATE (3 bits; R405). -/
  state : DmaState := .idle
  /-- LAST_STATUS (8 bits; R405). -/
  lastStatus : DmaStatus := .ok
  /-- OUT_READS of a draining channel (5 bits; R405). -/
  outReads : Nat := 0
  /-- those of them that read host memory, for PCIE_TAGS (6 bits; R397, R405). -/
  outHost : Nat := 0
  /-- OUT_WRITES of a draining channel (7 bits; R405). -/
  outWrites : Nat := 0
  /-- records completed and waiting to be written (up to 4 records, queue; R390, R405). -/
  held : List (Held × Nat) := []
  /-- DISABLE (1 bit; R405). -/
  disable : Bool := false
  /-- WEIGHT (3 bits; R405). -/
  weight : Nat := 0
  /-- ERR_CQ (4 bits; R405). -/
  errCq : Nat := 0
  /-- ERR_CQ_EN (1 bit; R405). -/
  errCqEn : Bool := false
  /-- HEAD, a byte address (59 bits at [63:5]; R405). -/
  head : Nat := 0
  /-- CUR (64 bits; R405). -/
  cur : Nat := 0
  /-- ADDR (64 bits; R405). -/
  errAddr : Nat := 0
  /-- DIRECTION, true for write (1 bit; R405). -/
  errDir : Bool := false
  /-- READBACK (1 bit; R405). -/
  errReadback : Bool := false
  /-- FETCH (1 bit; R405). -/
  errFetch : Bool := false
  /-- STATUS of the latched error (8 bits; R405). -/
  errStatus : DmaStatus := .ok
  /-- RESIDUE (32 bits; R405). -/
  residue : Nat := 0
  /-- DONE (32 bits, wraps; R405). -/
  done : Nat := 0
  /-- HALTS (16 bits, saturates; R405). -/
  halts : Nat := 0
  /-- RS_CORR (16 bits, saturates; R405). -/
  rsCorr : Nat := 0
  /-- the descriptor fetched and executing, kept or failed (32 bytes; R385). -/
  desc : Option Descriptor := none
  /-- fetched ahead of the one executing (up to 2 descriptors; R385). -/
  ahead : List Descriptor := []
  /-- address of the next descriptor to fetch (64 bits; R386). -/
  next : Option Nat := none
  deriving DecidableEq, Repr

/-- DMA engine (R380–R405). Spec 13_dma_engine.md. -/
structure Dma where
  /-- channels (32; R405). -/
  channels : Vector DmaChannel 32 := Vector.replicate 32 {}
  deriving DecidableEq, Repr

/-- a telemetry buffer descriptor in use (R417). Spec 14_telemetry_codec.md. -/
structure TlmBuffer where
  /-- its address (64 bits; R417). -/
  addr : Nat := 0
  /-- CQ (4 bits; R417). -/
  cq : Nat := 0
  /-- RECORD (1 bit; R417). -/
  record : Bool := false
  /-- IRQ (1 bit; R417). -/
  irq : Bool := false
  /-- SIZE (32 bits; R417). -/
  size : Nat := 0
  /-- BASE (64 bits; R417). -/
  base : Nat := 0
  /-- NEXT as read when the buffer came into use (64 bits; R417). -/
  next : Nat := 0
  /-- bytes written into the buffer (32 bits; R418). -/
  used : Nat := 0
  deriving DecidableEq, Repr

/-- one LOOP_TRACE sample (R407). Spec 14_telemetry_codec.md. -/
structure Sample where
  /-- loop number (6 bits; R407). -/
  loop : Nat := 0
  /-- stamp (48 bits; R407). -/
  timeUs : Nat := 0
  /-- set-point, measurement, output and fe (16 bytes; R407). -/
  body : List (BitVec 8) := []
  deriving DecidableEq, Repr

/-- one telemetry stream (R406–R425). Spec 14_telemetry_codec.md. -/
structure Stream where
  /-- STATE (3 bits; R425). -/
  state : TlmState := .idle
  /-- SNAPSHOT (1 bit; R425). -/
  snapshot : Bool := false
  /-- LAST_STATUS (8 bits; R425). -/
  lastStatus : TlmStatus := .none
  /-- staged input bytes not yet coded (2 × 4,096 bytes; R408). -/
  staged : List (BitVec 8) := []
  /-- bytes of each record among them, oldest first (lengths; R408, R418). -/
  lens : List Nat := []
  /-- HEAD (64 bits; R425). -/
  head : Nat := 0
  /-- CUR (64 bits; R425). -/
  cur : Nat := 0
  /-- USED of the buffer in use: end of the last complete block or header (32 bits; R425). -/
  complete : Nat := 0
  /-- buffer descriptor in use (32 bytes; R417). -/
  buffer : Option TlmBuffer := none
  /-- IN_TOTAL (32 bits, wraps; R425). -/
  inTotal : Nat := 0
  /-- OUT_TOTAL (32 bits, wraps; R425). -/
  outTotal : Nat := 0
  /-- BLOCKS (24 bits, saturates; R425). -/
  blocks : Nat := 0
  /-- blocks STORED, from which STORED_PCT reads (24 bits, saturates; R425). -/
  storedBlocks : Nat := 0
  /-- RECORDS lost (16 bits, saturates; R425). -/
  lost : Nat := 0
  /-- SNAP_MISSED (16 bits, saturates; R425). -/
  missed : Nat := 0
  /-- records lost in the present loss episode (32 bits; R408). -/
  episode : Nat := 0
  /-- SEQ of the next record (16 bits, wraps; R407). -/
  seq : Nat := 0
  /-- the last input bytes, newest first (32,768 bytes; R412). -/
  history : List (BitVec 8) := []
  /-- the next block is coded with HISTORY_RESET (1 bit; R412). -/
  resetNext : Bool := false
  /-- a FLUSH is pending (1 bit; R414). -/
  flushDue : Bool := false
  /-- ERR_CQ (4 bits; R425). -/
  errCq : Nat := 0
  /-- ERR_CQ_EN (1 bit; R425). -/
  errCqEn : Bool := false
  /-- ring of pre-trigger samples, newest first (4 × 256 samples; R416). -/
  preRing : List Sample := []
  /-- triggering events not yet acted on (fault log records; R416). -/
  triggers : List (List (BitVec 8)) := []
  /-- samples of the snapshot that wait for room in the staging buffers (samples; R416). -/
  drain : List Sample := []
  /-- post-trigger samples still to be taken (loop, count; R416). -/
  postLeft : List (Nat × Nat) := []
  /-- periods since the last LOOP_TRACE record of each source (loop, periods; R407). -/
  decimCount : List (Nat × Nat) := []
  deriving DecidableEq, Repr

/-- telemetry streams and codec (R406–R425). Spec 14_telemetry_codec.md. -/
structure Telemetry where
  /-- the stream whose context the codec holds (4 bits; R412). -/
  context : Option Nat := none
  /-- T0–T15 (16; R425). -/
  streams : Vector Stream 16 := Vector.replicate 16 {}
  /-- the host stream whose turn is next (4 bits; R413). -/
  turn : Nat := 0
  /-- time of each station's last periodic LANE_STATS record (AON µs; R407). -/
  laneUs : Vector Nat 6 := Vector.replicate 6 0
  /-- LOOP_TRACE samples taken at output instants and not yet handed to their streams, oldest first, those of one stamp by loop (records; R407). -/
  due : List Sample := []
  /-- a job of the station has ended and its LANE_STATS record is to come (6 bits; R407). -/
  laneDue : Vector Bool 6 := Vector.replicate 6 false
  deriving DecidableEq, Repr

/-- one gazetteer entry (R447, R448, R457). Spec 15_boot_legend_discovery.md. -/
structure Unit where
  /-- STATE (3 bits; R457). -/
  state : UnitState := .absent
  /-- TYPE (16 bits; R447, R457). -/
  type : Nat := 0
  /-- VARIANT (16 bits; R457). -/
  variant : Nat := 0
  /-- SERIAL (64 bits; R457). -/
  serial : Nat := 0
  /-- FW_REV (32 bits; R457). -/
  fwRev : Nat := 0
  /-- emitters supported, of a driver module (8 bits; R447). -/
  emitters : Nat := 0
  /-- lanes, of a driver module (8 bits; R447). -/
  lanes : Nat := 0
  /-- WEAR0–WEAR2 (3 × 32 bits; R457). -/
  wear : Vector Nat 3 := Vector.replicate 3 0
  /-- wear increments not yet written (3 × 32 bits; R452). -/
  kept : Vector Nat 3 := Vector.replicate 3 0
  /-- CRC_ERRORS (8 bits, saturates; R457). -/
  crcErrors : Nat := 0
  /-- NO_REPLY (8 bits, saturates; R457). -/
  noReply : Nat := 0
  /-- WEAR_LOST (8 bits, saturates; R457). -/
  wearLost : Nat := 0
  /-- ATTACHES (8 bits, saturates; R457). -/
  attaches : Nat := 0
  /-- consecutive missed polls (2 bits; R450). -/
  misses : Nat := 0
  /-- identity CRC failures of this identification (2 bits; R448). -/
  crcRun : Nat := 0
  /-- unit 0 has reported the unit absent (1 bit; R450). -/
  gone : Bool := false
  /-- the partner has reset and the identity is to be read again (1 bit; R450). -/
  reread : Bool := false
  /-- a wear write is due after a job end (1 bit; R452). -/
  wearDue : Bool := false
  /-- sweep frames carried since the last wear write, of a driver module (32 bits; R452). -/
  frames : Nat := 0
  /-- HV periods at layer set-points since the last wear write, of an HV module (32 bits; R452). -/
  periods : Nat := 0
  /-- DROPPED of the last poll (16 bits; R445). -/
  dropped : Nat := 0
  /-- LANE_LOCK of the last poll (5 bits; R445). -/
  laneLock : BitVec 5 := 0
  /-- LANE_ID of the last poll (3 bits; R445). -/
  laneId : Nat := 0
  /-- CONFIG_CRC of the last poll (8 bits; R445). -/
  configCrc : Nat := 0
  /-- TEMP of the last poll (8 bits; R445). -/
  temp : Int := 0
  deriving DecidableEq, Repr

/-- one Jenzan port (R443, R446, R457). Spec 15_boot_legend_discovery.md. -/
structure JzPort where
  /-- LINK (2 bits; R457). -/
  link : JzLink := .idle
  /-- MISSES (8 bits; R457). -/
  misses : Nat := 0
  /-- BAD_FRAMES (16 bits, saturates; R457). -/
  badFrames : Nat := 0
  /-- valid ANNOUNCE frames received while not bound (2 bits; R446). -/
  announces : Nat := 0
  /-- the outstanding request has been repeated once (1 bit; R444). -/
  repeated : Bool := false
  deriving DecidableEq, Repr

/-- reset, boot, identity, legend status and the gazetteer (R426–R457). Spec 15_boot_legend_discovery.md. -/
structure Boot where
  /-- STAGE (8 bits; R432, R457). -/
  stage : BootStage := .por
  /-- READY (1 bit; R432, R457). -/
  ready : Bool := false
  /-- LAST_RESET (3 bits; R457). -/
  lastReset : ResetCause := .powerOn
  /-- DRAM_KEPT (1 bit; R457). -/
  dramKept : Bool := false
  /-- OTP_ALARM (1 bit; R457). -/
  otpAlarm : Bool := false
  /-- WARM_RESETS (16 bits, saturates; R457). -/
  warmResets : Nat := 0
  /-- VENDOR_ID (16 bits; R457). -/
  vendorId : Nat := 0
  /-- DEVICE_ID (16 bits; R457). -/
  deviceId : Nat := 0
  /-- ROM_REV (8 bits; R457). -/
  romRev : Nat := 0
  /-- PATCHES (7 bits; R457). -/
  patches : Nat := 0
  /-- SERIAL (64 bits; R457). -/
  serial : Nat := 0
  /-- SIZE_MIB (16 bits; R457). -/
  dramMib : Nat := 0
  /-- MS, GS_BOOT_TIME (32 bits; R432, R457). -/
  bootMs : Nat := 0
  /-- release of the reset that started the boot (AON µs; R432). -/
  startUs : Nat := 0
  /-- COPY (2 bits; R457). -/
  copy : Nat := 0
  /-- RESULT_A (3 bits; R457). -/
  resultA : LegResult := .notRead
  /-- RESULT_B (3 bits; R457). -/
  resultB : LegResult := .notRead
  /-- UNSIGNED (1 bit; R457). -/
  unsigned : Bool := false
  /-- LEG_FAIL_A TYPE, FIELD (16 + 16 bits; R457). -/
  failA : Nat × Nat := (0, 0)
  /-- LEG_FAIL_B TYPE, FIELD (16 + 16 bits; R457). -/
  failB : Nat × Nat := (0, 0)
  /-- BUILD_ID, TOTAL_LEN, GENERATION of the copy in use (64 bytes; R457). -/
  header : LegendHeader := {}
  /-- FLASH_INFO MODE (2 bits; R457). -/
  flashMode : Nat := 0
  /-- FLASH_INFO DUMMY (6 bits; R457). -/
  flashDummy : Nat := 0
  /-- all six QSPI signals are released to high impedance (1 bit; R433). -/
  qspiReleased : Bool := false
  /-- TRAIN (2 bits; R457). -/
  train : Nat := 0
  /-- FILLED (1 bit; R457). -/
  filled : Bool := false
  /-- TRAIN_MS (16 bits; R457). -/
  trainMs : Nat := 0
  /-- failed trainings of this boot (2 bits; R440). -/
  trainFails : Nat := 0
  /-- Jenzan ports (8; R457). -/
  ports : Vector JzPort 8 := Vector.replicate 8 {}
  /-- gazetteer, entry 4 × port + unit (32; R457). -/
  units : Vector Unit 32 := Vector.replicate 32 {}
  /-- level of RESET_N (1 bit; R517). -/
  resetN : Bool := true
  /-- level of PERST# (1 bit; R426). -/
  perstN : Bool := true
  /-- power-on reset has been released (1 bit; R505). -/
  aonUp : Bool := false
  /-- trims saved in MRAM by driver module (serial, 32 trims; R98). -/
  savedTrims : List (Nat × List Int) := []
  deriving DecidableEq, Repr

/-- one raw antifuse word (R458). Spec 16_otp.md. -/
structure OtpWord where
  /-- data bits (32 bits; R458). -/
  data : BitVec 32 := 0
  /-- check bits, never visible at BAR0 (8 bits; R458). -/
  check : BitVec 8 := 0
  deriving DecidableEq, Repr

/-- the OTP array, its shadows, alarm and command engine (R458–R479). Spec 16_otp.md. -/
structure Otp where
  /-- raw antifuse bits; no reset clears them (1,024 × 40 bits; R458). -/
  array : Vector OtpWord 1024 := Vector.replicate 1024 {}
  /-- OTP_SHADOW, shadow data (1,024 × 32 bits; R464, R479). -/
  shadows : Vector (BitVec 32) 1024 := Vector.replicate 1024 0
  /-- OTP_MARGINAL (1,024 bits; R464, R479). -/
  marginal : Vector Bool 1024 := Vector.replicate 1024 false
  /-- OTP_UNCORR (1,024 bits; R464, R479). -/
  uncorr : Vector Bool 1024 := Vector.replicate 1024 false
  /-- OTP_COUNTS MARGINAL (11 bits; R479). -/
  countMarginal : Nat := 0
  /-- OTP_COUNTS UNCORRECTABLE (11 bits; R479). -/
  countUncorr : Nat := 0
  /-- OTP_COUNTS CORRECTED (10 bits, saturates; R479). -/
  countCorr : Nat := 0
  /-- OTP_SENSE TEMP (16 bits, 0.1 °C; R463, R479). -/
  senseTemp : Int := 0
  /-- OTP_SENSE SENSE_US (16 bits, µs; R479). -/
  senseUs : Nat := 0
  /-- ALARM (1 bit; R470, R479). -/
  alarm : Bool := false
  /-- CAUSES: MARGINAL, UNCORRECTABLE, REGION_CHECK, LIFE_CYCLE or LOCK (4 bits; R479). -/
  causes : BitVec 4 := 0
  /-- POLICY in effect (2 bits; R471, R479). -/
  policy : Nat := 0
  /-- CUSTOMER_IGNORED, OTP_REGION_5 IGNORED (1 bit; R471, R479). -/
  customerIgnored : Bool := false
  /-- OTP_ADDR (10 bits; R479). -/
  addr : Nat := 0
  /-- OTP_DATA (32 bits; R479). -/
  data : BitVec 32 := 0
  /-- until when the last command runs; BUSY reads 1 before (AON µs; R472, R479). -/
  busyUntil : Nat := 0
  /-- a command was refused with BUSY while the last command runs (1 bit; R472, R479). -/
  busySeen : Bool := false
  /-- STATUS (8 bits; R479). -/
  status : OtpStatus := .ok
  /-- CHECK_OK of OTP_RESULT (1 bit; R475, R479). -/
  checkOk : Bool := false
  /-- FOUND_MARGINAL (1 bit; R475, R479). -/
  foundMarginal : Bool := false
  /-- WORD (10 bits; R475, R479). -/
  word : Nat := 0
  /-- PULSES of the last program operation (4 bits; R474, R479). -/
  pulses : Nat := 0
  /-- OTP_REGION CHECK_OK as sensed (6 bits; R470, R479). -/
  regionOk : Vector Bool 6 := Vector.replicate 6 false
  /-- ROM overlay: ROM_ADDR and REPLACEMENT, lowest entry first (up to 63 entries; R462). -/
  overlay : List (Nat × BitVec 32) := []
  deriving DecidableEq, Repr

/-- margin of one island (R485, R498). Spec 17_ageing_and_spares.md. -/
structure IslandMargin where
  /-- cap; 375 MHz when uncapped (Hz; R485, R498). -/
  cap : Nat := 375000000
  /-- SLACK_PS (8 bits; R498). -/
  slackPs : Nat := 0
  /-- consecutive surveys with SLACK_MIN + SLACK_BAND (2 bits; R485). -/
  highRuns : Nat := 0
  deriving DecidableEq, Repr

/-- one benchmark ring oscillator (R481, R498). Spec 17_ageing_and_spares.md. -/
structure RingOsc where
  /-- DEGRADE (16 bits, 0.01 %; R498). -/
  degrade : Int := 0
  /-- EXCLUDED (1 bit; R498). -/
  excluded : Bool := false
  deriving DecidableEq, Repr

/-- one path canary (R482, R498). Spec 17_ageing_and_spares.md. -/
structure Canary where
  /-- SLACK (6 bits, 4 ps; R498). -/
  slack : Nat := 0
  /-- FAIL (1 bit; R498). -/
  fail : Bool := false
  deriving DecidableEq, Repr

/-- one SRAM array of the image SRAM (R488, R498). Spec 17_ageing_and_spares.md. -/
structure SramArray where
  /-- ROWS_USED (7 bits; R498). -/
  rowsUsed : Nat := 0
  /-- COLS_USED (4 bits; R498). -/
  colsUsed : Nat := 0
  /-- ASSIST (2 bits; R486, R498). -/
  assist : Nat := 0
  /-- consecutive surveys below each threshold less 0.10 % (3 × 2 bits; R486). -/
  assistRuns : Vector Nat 3 := Vector.replicate 3 0
  /-- CORRECTED (16 bits, saturates; R498). -/
  corrected : Nat := 0
  /-- spare rows in use (64 bits; R490). -/
  rowSpares : BitVec 64 := 0
  /-- spare columns in use (8 bits; R490). -/
  colSpares : BitVec 8 := 0
  deriving DecidableEq, Repr

/-- one corrected symbol located in the image SRAM (R489). Spec 17_ageing_and_spares.md. -/
structure Correction where
  /-- array (7 bits; R489). -/
  array : Nat := 0
  /-- row (11 bits; R489). -/
  row : Nat := 0
  /-- column (8 bits; R489). -/
  col : Nat := 0
  /-- when it was corrected (AON µs; R489). -/
  timeUs : Nat := 0
  deriving DecidableEq, Repr

/-- one soft-map record in MRAM (R490). Spec 17_ageing_and_spares.md. -/
structure SoftRecord where
  /-- SEQ (32 bits, wraps; R490). -/
  seq : Nat := 0
  /-- ENTRY (32 bits; R490, R461). -/
  entry : BitVec 32 := 0
  deriving DecidableEq, Repr

/-- spares in use as MRAM keeps them (R493, R442). Spec 17_ageing_and_spares.md. -/
structure SpareRecord where
  /-- the engine LE4 serves (2 bits; R493). -/
  le4 : Option Nat := none
  /-- the station SE-S serves (3 bits; R493). -/
  ses : Option Nat := none
  /-- the logical lane the spare lane carries, per station (6 × 2 bits; R493). -/
  lanes : Vector (Option Nat) 6 := Vector.replicate 6 none
  /-- driver-module serial with which the lane spare is in use (6 × 64 bits; R114). -/
  laneSerial : Vector Nat 6 := Vector.replicate 6 0
  /-- stations on their spare tap chain (6 bits; R493). -/
  chains : BitVec 6 := 0
  deriving DecidableEq, Repr

/-- survey, margins, spares and repair maps (R480–R498). Spec 17_ageing_and_spares.md. -/
structure Survey where
  /-- STATE (2 bits; R498). -/
  state : SurveyState := .idle
  /-- FIRST_DONE (1 bit; R498). -/
  firstDone : Bool := false
  /-- SURVEYS (16 bits, saturates; R498). -/
  surveys : Nat := 0
  /-- end of the last survey, from which AGE_S and the interval count (AON µs; R483, R498). -/
  lastUs : Nat := 0
  /-- PLANNED (10 bits, mV; R498). -/
  planned : Nat := 0
  /-- AT_CEILING (1 bit; R498). -/
  atCeiling : Bool := false
  /-- SLACK_PS of SV_WORST (8 bits; R498). -/
  worstPs : Nat := 0
  /-- ISLAND of SV_WORST (4 bits; R498). -/
  worstIsland : Nat := 0
  /-- islands (14; R498). -/
  islands : Vector IslandMargin 14 := Vector.replicate 14 {}
  /-- ring oscillators (48; R498). -/
  ros : Vector RingOsc 48 := Vector.replicate 48 {}
  /-- canaries (24; R498). -/
  canaries : Vector Canary 24 := Vector.replicate 24 {}
  /-- consecutive surveys with s_min at least SLACK_MIN + SLACK_BAND (2 bits; R484). -/
  highRuns : Nat := 0
  /-- k_s in 64ths (7 bits; R485). -/
  ks : Nat := 64
  /-- mean DEGRADE of the station's island at its last calibration, times 12 (6 × 0.01 %/12; R486). -/
  degradeAtCal : Vector Int 6 := Vector.replicate 6 0
  /-- SRAM arrays (128; R488, R498). -/
  arrays : Vector SramArray 128 := Vector.replicate 128 {}
  /-- corrections of the last CORR_WINDOW, newest first (corrections; R489). -/
  corrections : List Correction := []
  /-- rows marked for repair (array, row; R489). -/
  rowMarks : List (Nat × Nat) := []
  /-- columns marked for repair (array, column; R489). -/
  colMarks : List (Nat × Nat) := []
  /-- hard repair map applied (repair entries; R442, R461). -/
  hardMap : List (BitVec 32) := []
  /-- soft map in MRAM (up to 1,024 records; R490). -/
  softMap : List SoftRecord := []
  /-- the halted engine whose takeover waits (2 bits; R491). -/
  lePending : Option Nat := none
  /-- the station whose engine is marked (3 bits; R492). -/
  sePending : Option Nat := none
  /-- SES_SERVES (3 bits; R498). -/
  ses : Option Nat := none
  /-- SP_PENDING CAP (1 bit; R498). -/
  capDue : Bool := false
  /-- spares in use kept in MRAM (MRAM; R493). -/
  record : SpareRecord := {}
  /-- spare log ring in MRAM (128 × 16 bytes; R494). -/
  log : Vector (List (BitVec 8)) 128 := Vector.replicate 128 []
  /-- next slot of the spare log (7 bits; R494). -/
  logHead : Nat := 0
  /-- SP_LOG_SEQ (32 bits, wraps; R494, R498). -/
  logSeq : Nat := 0
  deriving DecidableEq, Repr

/-- pins and pad state not held by another block (R504–R525). Spec 18_electrical.md. -/
structure Pins where
  /-- level of TEST_EN (1 bit; R508). -/
  testEn : Bool := false
  /-- TEST_EN was driven high and no power-on reset has followed (1 bit; R525). -/
  unspecified : Bool := false
  /-- LSAFE_N level as AON saw it before power-on reset was released (1 bit; R508). -/
  lsafePin : Bool := false
  deriving DecidableEq, Repr

/-- a memory under the RS code (R404, R526). Spec 00_scope.md. -/
structure Ram where
  /-- bytes that differ from 0, addresses strictly rising, relative to the region's base (bytes; R7, R441). -/
  cells : List Host.Cell := []
  /-- 32-byte codewords found uncorrectable and not yet rewritten whole (codeword indexes; R526). -/
  bad : List Nat := []
  deriving DecidableEq, Repr

/-- DRAM and image SRAM (R7). Spec 00_scope.md. -/
structure Memory where
  /-- DRAM, addresses from its base (up to 32 GiB; R7). -/
  dram : Ram := {}
  /-- image SRAM (8 MiB; R7). -/
  sram : Ram := {}
  deriving DecidableEq, Repr

/-- MRAM log rings and counter slots (R308–R310, R335–R338). Spec 00_scope.md. -/
structure Logs where
  /-- fault log (1,024 × 32 bytes; R338). -/
  faults : Vector (List (BitVec 8)) 1024 := Vector.replicate 1024 []
  /-- power log (256 × 16 bytes; R310). -/
  power : Vector (List (BitVec 8)) 256 := Vector.replicate 256 []
  /-- next slot of the power log (8 bits; R310). -/
  powerHead : Nat := 0
  /-- SEQ of the next power-log record (32 bits, wraps; R310). -/
  powerSeq : Nat := 0
  /-- rail event counter slots (32 × 2 × 32 bytes; R309). -/
  counters : Vector (Vector (List (BitVec 8)) 2) 32 := Vector.replicate 32 (Vector.replicate 2 [])
  deriving DecidableEq, Repr

/-- the whole block: the commands waiting, then every chapter's state (00_scope R2, R5; all chapters). Spec 00_scope.md. -/
structure State where
  /-- MODEL'S OWN: the commands waiting to be taken, first in, first out (queue; R2). -/
  pending : List Instr := []
  /-- MODEL'S OWN: number of free values used so far, which the opaque constants of Config are applied to (counter; R2). -/
  free : Nat := 0
  /-- microseconds since AON start (48 bits; R329). -/
  timeUs : Nat := 0
  /-- the legend applied at R429 step 7 (configuration; R4, R6, R434). -/
  legend : Legend := {}
  /-- step 7 of R429 has applied the legend to the islands (1 bit; R429, R439, R504). -/
  legendApplied : Bool := false
  /-- layer engine (block; R51). -/
  layer : Layer := {}
  /-- stations' decoders (6 blocks; R81). -/
  decoders : Vector Decoder 6 := Vector.replicate 6 {}
  /-- stations' pixel paths (6 blocks; R117). -/
  pixels : Vector Pixel 6 := Vector.replicate 6 {}
  /-- clocks and scan timing (block; R150). -/
  scan : Scan := {}
  /-- position feedback (block; R182). -/
  position : Position := {}
  /-- polygon drives (6 blocks; R208). -/
  polygons : Vector Polygon 6 := Vector.replicate 6 {}
  /-- control loops (block; R240). -/
  loops : Loops := {}
  /-- motion (block; R270). -/
  motion : Motion := {}
  /-- thermal (block; R289). -/
  thermal : Thermal := {}
  /-- power (block; R320). -/
  power : Power := {}
  /-- fault collector (block; R347). -/
  faults : Faults := {}
  /-- host link (block; R379). -/
  host : HostPort := {}
  /-- DMA engine (block; R405). -/
  dma : Dma := {}
  /-- telemetry (block; R425). -/
  telemetry : Telemetry := {}
  /-- boot, legend status and gazetteer (block; R432, R457). -/
  boot : Boot := {}
  /-- one-time-programmable memory (block; R479). -/
  otp : Otp := {}
  /-- survey and spares (block; R498). -/
  survey : Survey := {}
  /-- pins (block; R504, R508). -/
  pins : Pins := {}
  /-- DRAM and image SRAM (memories; R7). -/
  memory : Memory := {}
  /-- log rings in MRAM (MRAM; R310, R338). -/
  logs : Logs := {}
  deriving DecidableEq, Repr

/-- The state right after reset: VDD_AON's detector still asserts power-on reset (R505), every register at its
Reset value, memories and queues empty, MRAM and OTP as first used (log entry 4). -/
def State.reset : State := {}

end Sys2Proof.Machine
end

