-- ==== Sys2Proof/Machine/Update.lean ====
section
/-! DEFINITION. One update per part of the state, which every operation goes through. -/

namespace Sys2Proof.Machine

open Sys2Proof

/-- The state with `free` changed by `f`. -/
def State.modFree (f : Nat → Nat) (s : State) : State :=
  { s with free := f s.free }

/-- The state with `timeUs` changed by `f`. -/
def State.modTimeUs (f : Nat → Nat) (s : State) : State :=
  { s with timeUs := f s.timeUs }

/-- The state with `legend` changed by `f`. -/
def State.modLegend (f : Legend → Legend) (s : State) : State :=
  { s with legend := f s.legend }

/-- The state with `legendApplied` changed by `f`. -/
def State.modLegendApplied (f : Bool → Bool) (s : State) : State :=
  { s with legendApplied := f s.legendApplied }

/-- The state with `layer` changed by `f`. -/
def State.modLayer (f : Layer → Layer) (s : State) : State :=
  { s with layer := f s.layer }

/-- The state with one station's part of `decoders` changed by `f`. -/
def State.modDecoder (x : Fin 6) (f : Decoder → Decoder) (s : State) : State :=
  { s with decoders := s.decoders.set x.val (f s.decoders[x]) }

/-- The state with every station's part of `decoders` changed by `f`. -/
def State.allDecoders (f : Decoder → Decoder) (s : State) : State :=
  { s with decoders := mapV f s.decoders }

/-- The state with one station's part of `pixels` changed by `f`. -/
def State.modPixel (x : Fin 6) (f : Pixel → Pixel) (s : State) : State :=
  { s with pixels := s.pixels.set x.val (f s.pixels[x]) }

/-- The state with every station's part of `pixels` changed by `f`. -/
def State.allPixels (f : Pixel → Pixel) (s : State) : State :=
  { s with pixels := mapV f s.pixels }

/-- The state with `scan` changed by `f`. -/
def State.modScan (f : Scan → Scan) (s : State) : State :=
  { s with scan := f s.scan }

/-- The state with `position` changed by `f`. -/
def State.modPosition (f : Position → Position) (s : State) : State :=
  { s with position := f s.position }

/-- The state with one station's part of `polygons` changed by `f`. -/
def State.modPolygon (x : Fin 6) (f : Polygon → Polygon) (s : State) : State :=
  { s with polygons := s.polygons.set x.val (f s.polygons[x]) }

/-- The state with every station's part of `polygons` changed by `f`. -/
def State.allPolygons (f : Polygon → Polygon) (s : State) : State :=
  { s with polygons := mapV f s.polygons }

/-- The state with `loops` changed by `f`. -/
def State.modLoops (f : Loops → Loops) (s : State) : State :=
  { s with loops := f s.loops }

/-- The state with `motion` changed by `f`. -/
def State.modMotion (f : Motion → Motion) (s : State) : State :=
  { s with motion := f s.motion }

/-- The state with `thermal` changed by `f`. -/
def State.modThermal (f : Thermal → Thermal) (s : State) : State :=
  { s with thermal := f s.thermal }

/-- The state with `power` changed by `f`. -/
def State.modPower (f : Power → Power) (s : State) : State :=
  { s with power := f s.power }

/-- The state with `faults` changed by `f`. -/
def State.modFaults (f : Faults → Faults) (s : State) : State :=
  { s with faults := f s.faults }

/-- The state with `host` changed by `f`. -/
def State.modHost (f : HostPort → HostPort) (s : State) : State :=
  { s with host := f s.host }

/-- The state with `dma` changed by `f`. -/
def State.modDma (f : Dma → Dma) (s : State) : State :=
  { s with dma := f s.dma }

/-- The state with `telemetry` changed by `f`. -/
def State.modTelemetry (f : Telemetry → Telemetry) (s : State) : State :=
  { s with telemetry := f s.telemetry }

/-- The state with `boot` changed by `f`. -/
def State.modBoot (f : Boot → Boot) (s : State) : State :=
  { s with boot := f s.boot }

/-- The state with `otp` changed by `f`. -/
def State.modOtp (f : Otp → Otp) (s : State) : State :=
  { s with otp := f s.otp }

/-- The state with `survey` changed by `f`. -/
def State.modSurvey (f : Survey → Survey) (s : State) : State :=
  { s with survey := f s.survey }

/-- The state with `pins` changed by `f`. -/
def State.modPins (f : Pins → Pins) (s : State) : State :=
  { s with pins := f s.pins }

/-- The state with `memory` changed by `f`. -/
def State.modMemory (f : Memory → Memory) (s : State) : State :=
  { s with memory := f s.memory }

/-- The state with `logs` changed by `f`. -/
def State.modLogs (f : Logs → Logs) (s : State) : State :=
  { s with logs := f s.logs }

end Sys2Proof.Machine
end

