-- ==== Sys2Proof/Machine/Flags.lean ====
section
/-! DEFINITION. The conditions that many commands test: fault classes, job states, the committed window, the layer
boundary, elapsed time, what is out of reset (11 R325; 01 R20, R36; 00_scope R17, R18; 15 R429, R432). -/

namespace Sys2Proof.Machine

open Sys2Proof

/-- Whether class `a` is at least `b` (R325). -/
def atLeast (a b : FaultClass) : Bool := b.code ≤ a.code

/-- The class with a code, Grave for any above 3 (R325). -/
def classOf : Nat → FaultClass
  | 0 => .notice
  | 1 => .degraded
  | 2 => .severe
  | _ => .grave

/-- The higher of two classes (R325). -/
def maxClass (a b : FaultClass) : FaultClass := if atLeast a b then a else b

/-- Whether `n` microseconds have passed since `t`. -/
def State.elapsed (s : State) (t n : Nat) : Bool := t + n ≤ s.timeUs

/-- The level of a compare output at a time: a pulse ends after its WIDTH of MOTN cycles, 400 in a microsecond (R168). -/
def Compare.level (now : Nat) (c : Compare) : Bool :=
  c.out && (match c.pulse with
    | none => true
    | some w => decide (400 * (now - c.pulseFrom) < w))

/-- A job that is past QUEUED and not ended (R20, R24). -/
def Job.past (j : Job) : Bool :=
  match j.state with
  | .none | .queued | .ended => false
  | _ => true

/-- A job inside its committed window: from its first meridian to the end of TRANSFUSE (R17, R36). -/
def Job.inWindow (j : Job) : Bool :=
  match j.state with
  | .imaging | .transfer | .transfuse => true
  | _ => false

/-- A job that is ARMED or later (R21, R232). -/
def Job.armedOn (j : Job) : Bool :=
  match j.state with
  | .armed | .imaging | .transfer | .transfuse | .lower | .returning => true
  | _ => false

/-- Whether a committed window is open (R17, R36). -/
def State.windowOpen (s : State) : Bool := s.layer.jobs.any Job.inWindow

/-- Whether the AON island runs: power-on reset is released (R429 step 2, R505). -/
def State.aonUp (s : State) : Bool := s.boot.aonUp

/-- A shutdown program (R302). -/
def isShutdown (p : Program) : Bool := p == .down || p == .brownout

/-- Whether the islands run with the legend applied (R429 step 7). -/
def State.islandsUp (s : State) : Bool := s.legendApplied

/-- What a register shows of a legend value: the reset value 0 until the legend is applied (00_scope, the Reset column). -/
def State.shown (s : State) (v : Nat) : Nat := if s.legendApplied then v else 0

/-- Whether a layer boundary stands: after READY, no job from ARMED to RETURN; it stands while a job is only ADMITTED, its
arming begun or not (R17, R18; log entry 7). -/
def State.boundary (s : State) : Bool := s.boot.ready && !s.layer.jobs.any Job.armedOn

/-- Whether BAR0 and BAR2 accesses act: READY has been reached and the link is up (R432, R349). -/
def State.barOpen (s : State) : Bool := s.boot.ready

/-- The running job: the accepted job furthest along among those past QUEUED, the first in acceptance order (R46, R51). -/
def State.runningJob (s : State) : Option Job := s.layer.jobs.find? Job.past

/-- The accepted job of a sequence number. -/
def State.jobOf (s : State) (seq : Nat) : Option Job := s.layer.jobs.find? fun j => j.seq == seq

/-- The admission candidate: the oldest accepted job that is still QUEUED (R23). -/
def State.candidate (s : State) : Option Job := s.layer.jobs.find? fun j => j.state == .queued

/-- Whether a Severe instance stands (R332, R334). -/
def State.severeStands (s : State) : Bool := s.faults.insts.any (·.standing)

/-- The legend entry of a source, or that of an absent one (R328), under the live values of FAULT_THRESH (R343). -/
def State.sourceEntry (s : State) (src : Nat) : LegSource :=
  let e := ((s.legend.faults.sources.find? fun p => p.1 == src).map Prod.snd).getD {}
  match s.faults.thresholds.find? fun p => p.1 == src with
  | some (_, n, w) => { e with n := n, w := w }
  | none => e

/-- The state of an instance that has had an event (R321). -/
def State.faultInst (s : State) (src inst : Nat) : Option FaultInst :=
  s.faults.insts.find? fun f => f.src == src && f.inst == inst

/-- Whether overlap is forbidden by a standing NO_OVERLAP restriction (R333). -/
def State.restrictOverlap (s : State) : Bool :=
  s.faults.insts.any fun f => f.restricted && (s.sourceEntry f.src).restrict == .noOverlap

/-- Whether an input is a resistance thermometer, which a cold junction may be taken from (R271). -/
def rtdInput (g : LegTin) : Bool := g.type == .pt100 || g.type == .pt1000

/-- The least factor of the standing SPEED restrictions, in 64ths (R333). -/
def State.restrictSpeed (s : State) : Nat :=
  s.faults.insts.foldl (fun k f => if f.restricted && (s.sourceEntry f.src).restrict == .speed
    then min k (s.sourceEntry f.src).speed else k) 64

end Sys2Proof.Machine
end

