-- ==== Sys2Proof/Machine/Ops.lean ====
section
/-! DEFINITION. The operations that every chapter's commands share: how a command ends, raising a fault event
(11 R329, R330), free values (log entry 5), changing one job. -/

namespace Sys2Proof.Machine

open Sys2Proof

/-- How a command ends: in the state it leaves, or in the fault of R525 while the device is not specified. -/
def live (s t : State) : Host.Outcome State Fault Refusal :=
  if s.pins.unspecified then .fault .unspecifiedAfterTestEn else .next t

/-- A command whose occurrence condition `c` does not hold has no effect (DESIGN CHOICE, log entry 8). -/
def liveIf (c : Bool) (s t : State) : Host.Outcome State Fault Refusal := live s (if c then t else s)

/-- A byte the manual leaves open, and the state with the counter of free values advanced (log entry 5). -/
def State.takeByte (s : State) : Byte × State := (Config.freeByte s.free, { s with free := s.free + 1 })

/-- A number the manual leaves open (log entry 5). -/
def State.takeNat (s : State) : Nat × State := (Config.freeNat s.free, { s with free := s.free + 1 })

/-- A yes or no the manual leaves open (log entry 5). -/
def State.takeBool (s : State) : Bool × State := (Config.freeBool s.free, { s with free := s.free + 1 })

/-- `n` bytes the manual leaves open (log entry 5). -/
def State.takeBytes (n : Nat) (s : State) : List Byte × State :=
  ((List.range n).map fun i => Config.freeByte (s.free + i), { s with free := s.free + n })

/-- The class at which an event of an instance acts on the fast path: the higher of its base class and the effective
class of the instance (R330). -/
def State.armedClass (s : State) (src inst : Nat) (base : FaultClass) : FaultClass :=
  match s.faultInst src inst with
  | some f => maxClass base f.cls
  | none => base

/-- An event into the 64-entry queue of the collector, or lost to overflow (R329). -/
def Faults.enqueue (e : FaultEvent) (f : Faults) : Faults :=
  if f.queue.length < 64 then { f with queue := f.queue ++ [e] }
  else { f with dropped := satAdd 16 f.dropped 1, storm := true, stormDue := f.stormDue || !f.storm }

/-- An event as the collector stamps it: the time, the window and the running job (R329, R338). -/
def State.stampEvent (s : State) (src inst : Nat) (base : FaultClass) (detail : List Byte) : FaultEvent :=
  { src := src, inst := inst, base := base, timeUs := s.timeUs, detail := padTo 6 detail, inWindow := s.windowOpen
    jobSeq := (s.runningJob.map (·.seq)).getD 0, jobState := (s.runningJob.map (·.state.code)).getD 0 }

/-- Raising an event of a source's instance with a base class of its own: it enters the queue, and on the fast path
when the instance is armed at Severe or Grave (R329, R330). The hardware's reaction is FAULT_FAST_PATH (log entry 9). -/
def State.raiseAs (src : Source) (inst : Nat) (base : FaultClass) (detail : List Byte) (s : State) : State :=
  let e := s.stampEvent src.number inst base detail
  let cls := s.armedClass src.number inst base
  s.modFaults fun f =>
    let f := f.enqueue e
    if atLeast cls .severe then { f with fast := f.fast ++ [{ e with base := cls }] } else f

/-- Raising an event of a source's instance at the source's base class, with no DETAIL (R325, R338). -/
def State.raise (src : Source) (inst : Nat) (s : State) : State := s.raiseAs src inst src.base []

/-- Raising an event with DETAIL bytes (R338). -/
def State.raiseD (src : Source) (inst : Nat) (detail : List Byte) (s : State) : State := s.raiseAs src inst src.base detail

/-- Raising the source when the condition holds. -/
def State.raiseIf (c : Bool) (src : Source) (inst : Nat) (s : State) : State := if c then s.raise src inst else s

/-- Raising the RUN source inside a run, otherwise the IDLE source (R325). -/
def State.raiseRun (run : Bool) (srcRun srcIdle : Source) (inst : Nat) (s : State) : State :=
  if run then s.raise srcRun inst else s.raise srcIdle inst

/-- One job changed by `f` (R20). -/
def State.modJob (seq : Nat) (f : Job → Job) (s : State) : State :=
  s.modLayer fun l => { l with jobs := l.jobs.map fun j => if j.seq = seq then f j else j }

/-- A state changed only when the condition holds. -/
def State.when (c : Bool) (f : State → State) (s : State) : State := if c then f s else s

/-- A change made for each entry of a list in turn. -/
def State.each {α : Type} (l : List α) (f : α → State → State) (s : State) : State := l.foldl (fun t a => f a t) s

end Sys2Proof.Machine
end

