-- ==== Sys2Proof/Machine/Axes.lean ====
section
/-! DEFINITION. Interpolated positions, axis counters with their soft limits, and the general compare lists as data
(05_registration R158 to R162, R168, R169). -/

namespace Sys2Proof.Machine

open Sys2Proof

/-- Whether a quadrature input interpolates: the interval of its last two edges is known and at most 65,535 cycles, and they had one
direction (R159). -/
def Encoder.steady (c : Encoder) : Bool := c.sameDir && ((c.interval.map fun d => decide (d ≤ 65535)).getD false)

/-- How far the position has moved since the latest edge at MOTN cycle `t`, in 1/256 count: up to 255/256 in the direction of motion,
and behind the edge for an earlier cycle (R159). -/
def Encoder.ahead (t : Nat) (c : Encoder) : Int :=
  if c.steady then
    let k := min ((256 * ((t : Int) - c.stamp)).fdiv (c.interval.getD 1)) 255
    if c.forward then k else -k
  else 0

/-- Belt travel p(t) at MOTN cycle `t`, in 1/256 count (R156, R159). -/
def State.travelAt (s : State) (t : Nat) : Int :=
  s.position.travel + (getN s.position.encoders s.legend.position.beltInput {}).ahead t

/-- Belt travel at the latest MOTN cycle of which a sample or an event is known (R159). -/
def State.travelNow (s : State) : Int := s.travelAt s.position.motn

/-- The MOTN clock seen at cycle `t`. -/
def State.atCycle (t : Nat) (s : State) : State := s.modPosition fun p => { p with motn := max p.motn t }

/-- What an axis counter becomes when its true position moves: the reported position stays at a limit, the rest
accumulates in OVER, and the flag clears once OVER is 0 and the position has left the limit (R158). -/
def Axis.moveTo (g : LegAxis) (limits : Bool) (p : Int) (a : Axis) : Axis :=
  if !limits then { a with position := p, beyond := 0 }
  else
    let r := clampI g.lo g.hi p
    let beyond := p - r
    { a with
      position := r, beyond := beyond,
      atLo := beyond < 0 || (a.atLo && r == g.lo), atHi := 0 < beyond || (a.atHi && r == g.hi) }

/-- The target of an entry on its list's base: travel relative to Ô, or a position of the axis (R168). -/
def Compare.target (g : LegCmp) (e : LegCmpEntry) (c : Compare) : Int :=
  match g.axis with
  | none => c.origin + e.pos
  | some _ => e.pos

/-- Whether an entry's direction is backward: on an axis alone (R168). -/
def cmpBack (g : LegCmp) (e : LegCmpEntry) : Bool := g.axis.isSome && e.backward

/-- Whether an entry's target lies at or behind a position in its direction (R161). -/
def Compare.reached (g : LegCmp) (pos : Int) (e : LegCmpEntry) (c : Compare) : Bool :=
  if cmpBack g e then decide (pos ≤ c.target g e) else decide (c.target g e ≤ pos)

/-- The entries of a list that have neither fired nor been found behind, by index, in order (R161, R162). -/
def Compare.pending (g : LegCmp) (c : Compare) : List Nat :=
  (List.range' c.next (g.entries.length - c.next)).filter fun i => !c.gone.contains i && !c.behind.any (fun b => b.1 == i)

/-- NEXT moved to the head: the first pending entry (R162). -/
def Compare.settle (g : LegCmp) (c : Compare) : Compare := { c with next := (c.pending g).headD g.entries.length }

/-- The entries that become head one after another and are found behind at a position (R161). -/
def Compare.sweep (g : LegCmp) (pos : Int) : List Nat → Compare → Compare
  | [], c => c
  | i :: rest, c =>
    if ((g.entries[i]?).map fun e => c.reached g pos e).getD false then
      Compare.sweep g pos rest { c with behind := c.behind ++ [(i, pos)] }
    else c

/-- The head entries of a list that fire together: equal targets and directions, up to four (R162). -/
def Compare.group (g : LegCmp) (c : Compare) : List Nat :=
  match c.pending g with
  | [] => []
  | i :: rest =>
    let e := nth g.entries i {}
    (i :: rest.takeWhile fun k => let f := nth g.entries k {}
                                  f.pos == e.pos && cmpBack g f == cmpBack g e).take 4

/-- The output after an entry's action at a time (R168). -/
def Compare.act (e : LegCmpEntry) (now : Nat) (c : Compare) : Compare :=
  match e.action with
  | .pulse => { c with out := true, pulse := some e.width, pulseFrom := now }
  | .set => { c with out := true, pulse := none }
  | .clear => { c with out := false, pulse := none }
  | .toggle => { c with out := !c.level now, pulse := none }

/-- The head entries fire at a position (R162, R168): the output takes the action of the last of them. Further entries of the same
target fire next; another one that becomes head is checked against the position (R161). -/
def Compare.fire (g : LegCmp) (pos : Int) (now : Nat) (c : Compare) : Compare :=
  match (c.group g).getLast? with
  | none => c
  | some last =>
    let e := nth g.entries last {}
    let c := { c.act e now with next := last + 1, fired := satAdd 8 c.fired (c.group g).length, due := false }
    match c.pending g with
    | [] => c.settle g
    | i :: _ =>
      let f := nth g.entries i {}
      if f.pos == e.pos && cmpBack g f == cmpBack g e then { c.settle g with due := true }
      else (Compare.sweep g pos (c.pending g) c).settle g

/-- The base of an armed list moves from one position to another: the head is due when its target is reached in its own direction
(R160, R162). -/
def Compare.moved (g : LegCmp) (old new : Int) (c : Compare) : Compare :=
  match c.pending g with
  | [] => c
  | i :: _ =>
    let e := nth g.entries i {}
    let t := c.target g e
    { c with due := c.due || (c.armed && (if cmpBack g e then decide (new ≤ t ∧ t < old) else decide (old < t ∧ t ≤ new))) }

/-- A list armed for a job at a position: every entry is checked, and those at or behind it are found behind (R161, R169). What an
earlier job's entries still had pending is EXPIRED. -/
def Compare.arm (g : LegCmp) (pos origin : Int) (seq : Nat) (c : Compare) : Compare :=
  let left := (c.pending g).length
  let c := { c with
    armed := true, due := false, next := 0, fired := 0, missed := 0, origin := origin, job := seq, behind := [], gone := [],
    expired := if c.armed then min left 255 else c.expired }
  let found := (List.range g.entries.length).filter fun i => ((g.entries[i]?).map fun e => c.reached g pos e).getD false
  { c with behind := found.map fun i => (i, pos) }.settle g

/-- A list disarmed; the entries left are EXPIRED (R169). -/
def Compare.disarm (g : LegCmp) (c : Compare) : Compare :=
  if c.armed then { c with armed := false, due := false, expired := min (c.pending g).length 255 } else c

/-- The first entry found behind is marked MISSED, the position of the job's first one latched (R161). -/
def Compare.miss (g : LegCmp) (c : Compare) : Compare :=
  match c.behind with
  | [] => c
  | (i, pos) :: rest =>
    { c with
      behind := rest, gone := i :: c.gone, missed := satAdd 8 c.missed 1, found := if c.missed = 0 then pos else c.found }.settle g

/-- Every general list changed by `f`, which is given its legend (R168). -/
def State.eachCompare (f : LegCmp → Compare → Compare) (s : State) : State :=
  s.modPosition fun p => { p with cmps := mapIdxV (fun i c => f (getN s.legend.position.cmps i {}) c) p.cmps }

/-- Every general list at its idle level (R168). -/
def State.compareIdle (s : State) : State := s.eachCompare fun g c => { c with out := g.idle, pulse := none }

end Sys2Proof.Machine
end

