-- ==== Sys2Proof/Machine/JobEntry.lean ====
section
/-! DEFINITION. The fields of a layer job's 128-byte entry (12 R357) and the stations it images (01 R20, R26). -/

namespace Sys2Proof.Machine

open Sys2Proof

/-- Bit `x` of STATION_MASK (R357). -/
def Job.inMask (j : Job) (x : Nat) : Bool := bitOf (byteAt j.entry 2) x && x < 6

/-- NO_OVERLAP of JOB_FLAGS (R357). -/
def Job.noOverlap (j : Job) : Bool := bitOf (byteAt j.entry 3) 0

/-- HOST_TAG (R357). -/
def Job.hostTag (j : Job) : Nat := leAt j.entry 8 8

/-- STREAM_ADDR of a station (R357). -/
def Job.streamAddr (j : Job) (x : Nat) : Nat := leAt j.entry (16 + 8 * x) 8

/-- The lines of a station: LINE_COUNT, and 0 for a station outside the mask (R357). -/
def Job.lines (j : Job) (x : Nat) : Nat := if j.inMask x then leAt j.entry (64 + 2 * x) 2 else 0

/-- FEED_STEPS of a channel, whatever the mask (R257, R357). -/
def Job.feedSteps (j : Job) (x : Nat) : Nat := leAt j.entry (76 + 2 * x) 2

/-- An imaging station: its stream holds one or more lines (R20). -/
def Job.images (j : Job) (x : Nat) : Bool := 0 < j.lines x

/-- Whether any station images (R22). -/
def Job.imagesAny (j : Job) : Bool := stations.any fun x => j.images x.val

/-- The largest line count (R26). -/
def Job.maxLines (j : Job) : Nat := stations.foldl (fun m x => max m (j.lines x.val)) 0

/-- The TRIM entries of the polygon's facets, the only ones used (R116). -/
def facetTrims (g : LegPixel) (facets : Nat) : List Int := (List.range facets).map fun i => nth g.facetTrim i 0

/-- The largest TRIM of the polygon's facets (R107). -/
def largestTrim (g : LegPixel) (facets : Nat) : Int :=
  match facetTrims g facets with
  | [] => 0
  | v :: vs => vs.foldl max v

/-- The entry's own part of admission condition 0: FORMAT, mask, flags, reserved bytes, tag, alignment and ECRC
(R26, R357). -/
def Job.entryOk (j : Job) : Bool :=
  j.entry.length == 128 && leAt j.entry 0 2 == 1 && field (byteAt j.entry 2) 7 6 == 0 &&
  byteAt j.entry 3 / 2 == 0 && allZero ((j.entry.drop 4).take 4) && j.hostTag != 0 &&
  stations.all (fun x => !j.inMask x.val || j.streamAddr x.val % 64 == 0) &&
  allZero ((j.entry.drop 88).take 36) && leAt j.entry 124 4 == crc32 (j.entry.take 124)

end Sys2Proof.Machine
end

