-- ==== Sys2Proof/Machine/Memory.lean ====
section
/-! DEFINITION. DRAM and image SRAM: canonical lists of bytes, and the codeword rules of every write (00_scope R7,
13 R526; log entry 6). -/

namespace Sys2Proof.Machine

open Sys2Proof

/-- The byte at an address; an unlisted one reads 0, what R441 fills DRAM with (log entry 6). -/
def cellsRead : List Host.Cell → Nat → Byte
  | [], _ => 0
  | (k, v) :: rest, a => if k = a then v else cellsRead rest a

/-- A byte stored in the canonical form: addresses strictly rising, no entry equal to 0. -/
def cellsWrite : List Host.Cell → Nat → Byte → List Host.Cell
  | [], a, b => if b = 0 then [] else [(a, b)]
  | (k, v) :: rest, a, b =>
    if a < k then (if b = 0 then (k, v) :: rest else (a, b) :: (k, v) :: rest)
    else if a = k then (if b = 0 then rest else (a, b) :: rest)
    else (k, v) :: cellsWrite rest a b

/-- Whether the addresses are strictly rising from `lo` and no entry is 0. -/
def cellsWf : Nat → List Host.Cell → Bool
  | _, [] => true
  | lo, (k, v) :: rest => lo ≤ k && v != 0 && cellsWf (k + 1) rest

/-- Bytes stored at consecutive addresses. -/
def cellsStore (m : List Host.Cell) : Nat → List Byte → List Host.Cell
  | _, [] => m
  | a, b :: bs => cellsStore (cellsWrite m a b) (a + 1) bs

/-- The byte at an address of a memory. -/
def Ram.read (r : Ram) (a : Nat) : Byte := cellsRead r.cells a

/-- `n` bytes from an address. -/
def Ram.readBytes (r : Ram) (a n : Nat) : List Byte := (List.range n).map fun i => r.read (a + i)

/-- Whether a codeword is uncorrectable (R526). -/
def Ram.isBad (r : Ram) (cw : Nat) : Bool := r.bad.contains cw

/-- Whether any codeword of `n` bytes from an address is uncorrectable (R526). -/
def Ram.anyBad (r : Ram) (a n : Nat) : Bool := r.bad.any fun c => a / 32 ≤ c && c * 32 < a + n

/-- A write inside one codeword: a whole one replaces it and clears the mark, a part of an uncorrectable one is not
performed (R526). The answer says whether it was performed. -/
def Ram.writeCw (r : Ram) (a : Nat) (bs : List Byte) : Ram × Bool :=
  if bs.length = 32 ∧ a % 32 = 0 then
    ({ cells := cellsStore r.cells a bs, bad := r.bad.filter (· != a / 32) }, true)
  else if r.isBad (a / 32) then (r, false)
  else ({ r with cells := cellsStore r.cells a bs }, true)

/-- A write of any length, codeword by codeword, `fuel` codewords at most; the answer names the first address whose
write was not performed (R526). -/
def Ram.writeGo : Nat → Nat → List Byte → Option Nat → Ram → Ram × Option Nat
  | 0, _, _, e, r => (r, e)
  | k + 1, a, bs, e, r =>
    match bs with
    | [] => (r, e)
    | _ =>
      let n := 32 - a % 32
      let (r', ok) := r.writeCw a (bs.take n)
      Ram.writeGo k (a + n) (bs.drop n) (if ok then e else e.or (some a)) r'

/-- A write of any length (R526), with the first address that was not written. -/
def Ram.write (r : Ram) (a : Nat) (bs : List Byte) : Ram × Option Nat :=
  Ram.writeGo (bs.length / 32 + 2) a bs none r

/-- The canonical form of both memories. -/
def Memory.wf (m : Memory) : Bool := cellsWf 0 m.dram.cells && cellsWf 0 m.sram.cells

/-- The base of DRAM in the device address space (R7). -/
def dramBase : Nat := 0x1000000000

/-- Bytes of DRAM installed (R7, R440). -/
def State.dramBytes (s : State) : Nat := s.boot.dramMib * 1048576

/-- Whether `n` bytes from a device address lie wholly inside installed DRAM (R7). -/
def State.inDram (s : State) (a n : Nat) : Bool := dramBase ≤ a && a + n ≤ dramBase + s.dramBytes

/-- `n` bytes of DRAM from a device address. -/
def State.dramRead (s : State) (a n : Nat) : List Byte := s.memory.dram.readBytes (a - dramBase) n

end Sys2Proof.Machine
end

