-- ==== Sys2Proof/Machine/Decoder.lean ====
section
/-! DEFINITION. The stations' decoders: priming, feed reads, stream headers, line headers, symbols, the line ring
(02_kyrex_raster_code R52 to R79; 01 R25). -/

namespace Sys2Proof.Machine

open Sys2Proof

/-- The raw size of a line of `p` pixels in bytes (R57). -/
def rawSize (p : Nat) : Nat := 8 * ((p + 15) / 16)

/-- Half of the pixels, rounded up: the decode budget (R64). -/
def halfUp (p : Nat) : Nat := (p + 1) / 2

/-- The line mode of a code (R55); none for a reserved one. -/
def lineModeOf : Nat → Option LineMode
  | 0 => some .blank
  | 1 => some .solid
  | 2 => some .run
  | 3 => some .ref
  | 4 => some .literal
  | _ => none

/-- Whether a stream header is valid for `count` lines and the legend's restart limit (R54). -/
def streamHeaderOk (h : List Byte) (count limit : Nat) : Bool :=
  let p := leAt h 6 2
  let n := leAt h 8 2
  let bytes := leAt h 16 8
  leAt h 0 4 == 0x3143524B && leAt h 4 2 == 1 && leAt h 60 4 == crc32 (h.take 60) &&
  allZero ((h.drop 12).take 4) && allZero ((h.drop 32).take 28) && 1 ≤ p && p ≤ 32768 && n == count &&
  leAt h 10 2 ≤ limit && 64 + 16 * n ≤ bytes && bytes ≤ 64 + n * (16 + rawSize p) && ((bytes == 64) == (n == 0))

/-- A line header checked in the order of R66; the first check that fails names the error. -/
def checkLineHeader (d : Decoder) (h : List Byte) : Except KrcCheck LineHeader :=
  let line := leAt h 0 2
  let px := leAt h 2 2
  let sym := leAt h 4 2
  let b6 := byteAt h 6
  let level := field b6 7 4
  let pay := leAt h 8 2
  if line ≠ d.nextLine then .error .lineIndex
  else if px = 0 ∨ d.lineLength < px then .error .pixels
  else match lineModeOf (field b6 2 0) with
    | none => .error .mode
    | some m =>
      if bitOf b6 3 || field (byteAt h 7) 7 1 != 0 || leAt h 10 4 != 0 || (m != .solid && level != 0) then .error .mode
      else if !(match m with
        | .blank | .solid => sym == 0 && pay == 0
        | .run => 1 ≤ sym && 2 ≤ pay
        | .ref => 1 ≤ sym && 1 ≤ pay
        | .literal => sym == (px + 15) / 16 && pay == 8 * sym) then .error .modeValues
      else if halfUp px < sym then .error .budget
      else if rawSize px < pay then .error .size
      else if m == .ref && !(match d.lastFree with
        | some j => line < j + d.restartInterval
        | none => false) then .error .restart
      else .ok { line := line, pixels := px, symbols := sym, mode := m, level := level, payload := pay }

/-- `n` pixels of a reference line from position `x`; positions outside it read level 0 (R61). -/
def refSlice (ref : List Nat) (x : Int) (n : Nat) : List Nat :=
  let lead := min n (-x).toNat
  let got := (ref.drop x.toNat).take (n - lead)
  List.replicate lead 0 ++ got ++ List.replicate (n - lead - got.length) 0

/-- Bytes as levels, the low half of a byte first (R63). -/
def nibbles (bs : List Byte) : List Nat := bs.flatMap fun b => [b.toNat % 16, b.toNat / 16]

/-- One symbol of RUN or REF mode at position `x`: the levels it places and the bytes after it; `error true` for a breach of
R59, R60 or R63 seen in the symbol itself, `error false` where the payload ends inside it (R76). -/
def takeSymbol (m : LineMode) (ref : List Nat) (x : Nat) : List Byte → Except Bool (List Nat × List Byte)
  | [] => .error false
  | b :: rest =>
    let v := b.toNat
    if v < 0x40 then
      if m = .ref then .ok (refSlice ref x (v + 1), rest) else .error true
    else if v < 0x80 then
      match rest with
      | [] => .error false
      | c :: rest => if c.toNat < 16 then .ok (List.replicate (v - 0x3F) c.toNat, rest) else .error true
    else if v < 0xA0 then
      let code := field v 4 2
      if m ≠ .ref ∨ v % 4 ≠ 0 ∨ code % 4 = 0 then .error true
      else match rest with
        | [] => .error false
        | c :: rest =>
          let d : Int := if code < 4 then (code : Int) else (4 : Int) - code
          if c.toNat < 64 then .ok (refSlice ref ((x : Int) - d) (c.toNat + 1), rest) else .error true
    else if v < 0xC0 then
      let k := v - 0xA0 + 2
      let n := (k + 1) / 2
      let ls := nibbles (rest.take n)
      if rest.length < n then .error false
      else if (ls.drop k).all (· == 0) then .ok (ls.take k, rest.drop n) else .error true
    else .error true

/-- The symbols of a line in RUN or REF mode, `count` of them from position `x` (R60); a LINE_FORMAT error is answered
with the index of the symbol at which it is found, the `i`-th being the first here: the symbol that breaks a rule, or the
line's last one for a breach that shows only in totals (R76). -/
def takeSymbols (m : LineMode) (ref : List Nat) (px : Nat) :
    Nat → Nat → Nat → List Byte → List Nat → Except Nat (List Nat)
  | 0, i, x, rest, acc => if x = px ∧ rest = [] then .ok acc else .error (i - 1)
  | k + 1, i, x, rest, acc =>
    match takeSymbol m ref x rest with
    | .error breach => .error (if breach then i else i + k)
    | .ok (ls, rest') =>
      if px < x + ls.length then .error i
      else if ls.length < 2 ∧ ¬(k = 0 ∧ px % 2 = 1) then .error i
      else takeSymbols m ref px k (i + 1) (x + ls.length) rest' (acc ++ ls)

/-- The levels of a line's payload (R58 to R63), or the symbol at which a LINE_FORMAT error is found (R76). -/
def decodeLine (h : LineHeader) (ref : List Nat) (payload : List Byte) : Except Nat (List Nat) :=
  match h.mode with
  | .blank => .ok (List.replicate h.pixels 0)
  | .solid => .ok (List.replicate h.pixels h.level)
  | .run | .ref => takeSymbols h.mode ref h.pixels h.symbols 0 0 payload []
  | .literal =>
    let ls := nibbles payload
    if (ls.drop h.pixels).all (· == 0) then .ok (ls.take h.pixels) else .error (h.symbols - 1)

/-- What a slot returns for its line's pixels (R69). -/
def RingSlot.read (r : RingSlot) : List Nat :=
  match r.tag with
  | .free => []
  | .data => r.levels
  | .zero => List.replicate r.pixels 0
  | .solid => List.replicate r.pixels r.level

/-- The slot that holds a line, if one does (R69). -/
def Decoder.slotOf (d : Decoder) (line : Nat) : Option RingSlot :=
  d.ring.toList.find? fun r => r.tag != .free && r.line == line

/-- The slots that hold a line: the ring level (R71). -/
def Decoder.ringLevel (d : Decoder) : Nat := (d.ring.toList.filter fun r => r.tag != .free).length

/-- The first free slot (R70). -/
def Decoder.freeSlot (d : Decoder) : Option Nat := d.ring.toList.findIdx? fun r => r.tag == .free

/-- The length of a line record with its pad (R55). -/
def LineHeader.recordLen (h : LineHeader) : Nat := 16 + 8 * ((h.payload + 7) / 8)

/-- KRC_ERR holds the first error of the job (R78). -/
def Decoder.latch (c : KrcCheck) (line : Nat) (d : Decoder) : Decoder :=
  if d.errCheck = .none then { d with errCheck := c, errLine := line } else d

/-- All slots released and what was fetched discarded (R70, R74). -/
def Decoder.release (d : Decoder) : Decoder :=
  { d with ring := Vector.replicate 64 {}, buffer := [], header := none, refChain := false }

/-- The decoder stopped by an abort or a rejection, its ring released (R74). -/
def Decoder.stop (d : Decoder) : Decoder :=
  match d.state with
  | .idle => d
  | _ => { d.release with state := .stopped, jobSeq := none }

/-- An error before the window: the flag of the admission condition it fails (R75, R26). -/
def Job.failCondition (c : KrcCheck) (j : Job) : Job :=
  match c with
  | .feedRs | .ringRs => { j with rsBad := true }
  | .streamHeader | .lineCrc => { j with crcBad := true }
  | .none => j
  | _ => { j with headerBad := true }

/-- The fault source of an error found in the window (R75, R79). -/
def krcSource : KrcCheck → Source
  | .budget | .size => .krcBudget
  | .lineCrc => .krcLineCrc
  | .lineFormat => .krcLineFormat
  | .feedRs => .feedRsUncorr
  | .ringRs => .ringRsUncorr
  | _ => .krcHeader

/-- Whether the job a decoder works for is in its committed window (R75). -/
def State.decoderInWindow (s : State) (x : Fin 6) : Bool :=
  match s.decoders[x].jobSeq with
  | none => false
  | some q => ((s.jobOf q).map Job.inWindow).getD false

/-- An error that ends the job before the window and the layer inside it (R75): latched, the decoder stopped, the
condition failed or the source raised. -/
def State.decoderError (x : Fin 6) (c : KrcCheck) (line : Nat) (s : State) : State :=
  let win := s.decoderInWindow x
  let seq := s.decoders[x].jobSeq.getD 0
  let s := s.modDecoder x fun d => { d.latch c line with state := .stopped, refChain := false }
  if win then s.raise (krcSource c) x.val else s.modJob seq (Job.failCondition c)

/-- A header check of the record at stream offset `start` fails: the decoder stops; a read of the record's rest may still find an
uncorrectable codeword, which then decides (R78). -/
def State.headerError (x : Fin 6) (c : KrcCheck) (line start : Nat) (s : State) : State :=
  let d := s.decoders[x]
  let pay := leAt (d.buffer.drop (start - d.consumed)) 8 2
  (s.decoderError x c line).modDecoder x fun e => { e with failedEnd := some (start + 16 + 8 * ((pay + 7) / 8)) }

/-- Whether every earlier job has no line left to emit on the station (R25). -/
def State.stationFree (s : State) (x : Fin 6) (seq : Nat) : Bool :=
  (s.layer.jobs.takeWhile fun j => j.seq != seq).all fun j =>
    j.state == .ended || j.stationEnd[x] || !j.images x.val

/-- PRIMING_START (R25): a station begins to prime the admission candidate, once no earlier job has a line left for it. -/
def execPrimingStart (x : Fin 6) (s : State) : Host.Outcome State Fault Refusal :=
  match s.candidate with
  | none => live s s
  | some j =>
    liveIf (s.boot.ready && j.inMask x.val && s.stationFree x j.seq && s.decoders[x].jobSeq != some j.seq) s <|
      s.modDecoder x fun d =>
        { d.release with
          state := .streamHeader, jobSeq := some j.seq, fetched := 0, consumed := 0, failedEnd := none, lastFree := none,
          nextLine := 0, lineCount := 0, lineLength := 0, restartInterval := 0, streamBytes := 0,
          replaced := 0, replacedLines := [], errCheck := .none, errLine := 0 }

/-- STREAM_HEADER_READ (R66, R54, R73): the header is read from DRAM and checked. -/
def execStreamHeaderRead (x : Fin 6) (corrected : Nat) (uncorrectable : Bool) (s : State) :
    Host.Outcome State Fault Refusal :=
  let d := s.decoders[x]
  match d.jobSeq.bind s.jobOf with
  | none => live s s
  | some j =>
    let a := j.streamAddr x.val
    let h := s.dramRead a 64
    let s0 := (s.modDecoder x fun d => { d with
      replaced := 0, replacedLines := [], errCheck := .none, errLine := 0, feedCorr := satAdd 16 d.feedCorr corrected }).raiseIf
      (0 < corrected) .feedRsCorr x.val
    liveIf (d.state == .streamHeader) s <|
      if !s.inDram a 64 then s0.modDecoder x fun d => { d with state := .stopped }
      else if uncorrectable || s.memory.dram.anyBad (a - dramBase) 64 then
        (s0.modDecoder x fun d => { d with feedUncorr := satAdd 16 d.feedUncorr 1 }).decoderError x .feedRs 0
      else if !streamHeaderOk h (j.lines x.val) s.legend.decoder.restartLimit then s0.decoderError x .streamHeader 0
      else s0.modDecoder x fun d => { d with
        lineLength := leAt h 6 2, lineCount := leAt h 8 2, restartInterval := leAt h 10 2, streamBytes := leAt h 16 8,
        fetched := 64, consumed := 64, state := if leAt h 8 2 = 0 then .done else .decoding }

/-- How far into the stream its feed channel may read: to STREAM_BYTES, and beyond it for what the next record needs while lines
remain (R72); once the last line is decoded, to the end of the bytes that condition 2 checks (R26); of a record whose header
check failed, to its end (R78). -/
def Decoder.feedEnd (d : Decoder) : Nat :=
  match d.state with
  | .decoding | .ringFull =>
    let need := d.consumed + (match d.header with
      | some h => h.recordLen
      | none => 16)
    if d.nextLine < d.lineCount then max d.streamBytes need else d.streamBytes
  | .done => min 65536 d.streamBytes
  | .stopped => d.failedEnd.getD 0
  | _ => 0

/-- An uncorrectable codeword in a read of the stream (R75, R78). It decides over a header failure of the same record, whichever is
found first: before the window the job then fails condition 2 alone, and KRC_ERR takes FEED_RS in the failure's place. LINE is the
next line to be decoded, not the line whose record was fetched ahead (DESIGN CHOICE, log entry 130). -/
def State.feedUncorrectable (x : Fin 6) (s : State) : State :=
  let d := s.decoders[x]
  let s := s.modDecoder x fun e => { e with feedUncorr := satAdd 16 e.feedUncorr 1, failedEnd := none }
  match d.failedEnd with
  | none => s.decoderError x .feedRs d.nextLine
  | some _ =>
    let win := s.decoderInWindow x
    let s := s.modDecoder x fun e => { e with errCheck := .feedRs }
    if win then s.raise .feedRsUncorr x.val
    else s.modJob (d.jobSeq.getD 0) fun j => { j with rsBad := true, headerBad := false }

/-- FEED_READ (R392, R395, R75, R78): a read of the stream returns `len` bytes into the fetch-ahead buffer; `bad` is the
offset within them of the first byte of an uncorrectable codeword. -/
def execFeedRead (x : Fin 6) (len corrected : Nat) (bad : Option Nat) (s : State) :
    Host.Outcome State Fault Refusal :=
  let d := s.decoders[x]
  match d.jobSeq.bind s.jobOf with
  | none => live s s
  | some j =>
    let n := min len (min (65536 - d.buffer.length) (d.feedEnd - d.fetched))
    let a := j.streamAddr x.val + d.fetched
    let marked := s.memory.dram.anyBad (a - dramBase) n
    let first := if marked then some 0 else bad.filter (· < n)
    let s0 := (s.modDecoder x fun d => { d with
      buffer := d.buffer ++ s.dramRead a n, fetched := d.fetched + n, feedCorr := satAdd 16 d.feedCorr corrected }).raiseIf
      (0 < corrected) .feedRsCorr x.val
    liveIf (0 < n && s.inDram a n && !s.layer.abortRunning) s <|
      match first with
      | none => s0
      | some _ => s0.feedUncorrectable x

/-- The next line's header from the front of the buffer: read, checked, its slot and mode noted (R66, R70). -/
def State.readLineHeader (x : Fin 6) (s : State) : State :=
  let d := s.decoders[x]
  if d.header.isSome || d.lineCount ≤ d.nextLine || d.buffer.length < 16 || d.state == .stopped then s
  else
    match checkLineHeader d (d.buffer.take 16) with
    | .error c => s.headerError x c d.nextLine d.consumed
    | .ok h => s.modDecoder x fun d => { d with
        header := some h, lastFree := if h.mode = .ref then d.lastFree else some h.line,
        state := if d.freeSlot.isNone then .ringFull else d.state }

/-- A decoded or replaced line into the ring: its slot tagged, the counts raised, the record consumed (R68 to R72). -/
def State.placeLine (x : Fin 6) (h : LineHeader) (slot : Nat) (r : RingSlot) (wasReplaced chain : Bool) (s : State) : State :=
  let s := s.modDecoder x fun d => { d with
    ring := modN d.ring slot fun _ => { r with line := h.line, pixels := h.pixels }, lines := wrapAdd 32 d.lines 1,
    nextLine := d.nextLine + 1, consumed := d.consumed + h.recordLen, buffer := d.buffer.drop h.recordLen,
    header := none, refChain := chain, replaced := if wasReplaced then wrapAdd 16 d.replaced 1 else d.replaced,
    replacedLines := if wasReplaced then h.line :: d.replacedLines else d.replacedLines, state := .decoding }
  let d := s.decoders[x]
  if d.lineCount ≤ d.nextLine then
    (s.modDecoder x fun d => { d with state := .done, refChain := false }).raiseIf (d.consumed != d.streamBytes) .krcStreamLength x.val
  else s.readLineHeader x

/-- The check that the header of the line after `h` fails, when its bytes are fetched: it is read while `h`'s line
decodes (R66, R68). -/
def Decoder.nextHeaderError (d : Decoder) (h : LineHeader) : Option KrcCheck :=
  let bs := (d.buffer.drop h.recordLen).take 16
  if h.line + 1 < d.lineCount && bs.length == 16 then
    match checkLineHeader { d with nextLine := h.line + 1 } bs with
    | .error c => some c
    | .ok _ => none
  else none

/-- A line replaced by level 0 in the window: the error latched and its Notice raised (R75, R77). -/
def State.replaceLine (x : Fin 6) (c : KrcCheck) (h : LineHeader) (slot : Nat) (s : State) : State :=
  ((s.modDecoder x fun d => d.latch c h.line).raise (krcSource c) x.val).placeLine x h slot { tag := .zero } true true

/-- The slot that a line decoded without error fills (R69). -/
def decodedSlot (h : LineHeader) (levels : List Nat) : RingSlot :=
  match h.mode with
  | .blank => { tag := .zero }
  | .solid => { tag := .solid, level := h.level }
  | _ => { tag := .data, levels := levels }

/-- A LINE_FORMAT error (R76), found before, with or after a failure of the next header (R78). Where both fall in one cycle R78
does not say which of the two KRC_ERR holds: here the header failure, with its own line (DESIGN CHOICE, log entry 130). -/
def State.lineFormatError (x : Fin 6) (h : LineHeader) (slot sym : Nat) (next : Option KrcCheck) (s : State) : State :=
  let win := s.decoderInWindow x
  let after := s.decoders[x].consumed + h.recordLen
  match next with
  | none => if win then s.replaceLine x .lineFormat h slot else s.decoderError x .lineFormat h.line
  | some c =>
    if 1 < sym then s.headerError x c (h.line + 1) after
    else if win then
      let s := if sym = 1 then s.modDecoder x fun d => d.latch c (h.line + 1) else s
      s.replaceLine x .lineFormat h slot
    else if sym = 1 then s.headerError x c (h.line + 1) after
    else s.decoderError x .lineFormat h.line

/-- A line whose record is in the buffer is taken into a free slot (R66 to R72, R75 to R78). Codewords of the ring are read only for
a REF line outside a chain whose reference slot holds decoded levels (R69, R77). A line whose LCRC fails before the window is not
counted in KRC_LINES: its slot is never tagged, though step 6 of R68 compared its LCRC (DESIGN CHOICE, log entry 130). -/
def State.takeLine (x : Fin 6) (h : LineHeader) (slot ringCorr : Nat) (ringBad : Bool) (s : State) : State :=
  let d := s.decoders[x]
  let record := d.buffer.take h.recordLen
  let isRef := h.mode == .ref
  let refSlot := d.slotOf (h.line - 1)
  let ref := (refSlot.map RingSlot.read).getD []
  let reads := isRef && !d.refChain && ((refSlot.map fun r => r.tag == .data).getD false)
  let s := (s.modDecoder x fun d => { d with ringCorr := satAdd 16 d.ringCorr (if reads then ringCorr else 0) }).raiseIf
    (reads && 0 < ringCorr) .ringRsCorr x.val
  let next := d.nextHeaderError h
  let after := d.consumed + h.recordLen
  if reads && ringBad then
    (s.modDecoder x fun d => { d with ringUncorr := satAdd 16 d.ringUncorr 1 }).decoderError x .ringRs h.line
  else if isRef && d.refChain then
    match next with
    | some c => s.headerError x c (h.line + 1) after
    | none => s.placeLine x h slot { tag := .zero } true true
  else match decodeLine h ref ((record.drop 16).take h.payload) with
    | .error sym => s.lineFormatError x h slot sym next
    | .ok levels =>
      match next with
      | some c => s.headerError x c (h.line + 1) after
      | none =>
        if leAt record 14 2 != crc16 (record.take 14 ++ record.drop 16) then
          if s.decoderInWindow x then s.replaceLine x .lineCrc h slot else s.decoderError x .lineCrc h.line
        else s.placeLine x h slot (decodedSlot h levels) false false

/-- LINE_DECODE (R66 to R72, R75 to R78): the next line is decoded into the ring once its record is fetched and a slot is
free. `ringCorr` codewords of the reference were corrected; `ringBad` says one was uncorrectable. -/
def execLineDecode (x : Fin 6) (ringCorr : Nat) (ringBad : Bool) (s : State) : Host.Outcome State Fault Refusal :=
  liveIf (s.decoders[x].state == .decoding || s.decoders[x].state == .ringFull) s <|
    let s0 := s.readLineHeader x
    let d := s0.decoders[x]
    match d.header with
    | none => s0
    | some h =>
      if d.state == .stopped || d.buffer.length < h.recordLen then s0
      else match d.freeSlot with
        | none => s0.modDecoder x fun d => { d with state := .ringFull }
        | some slot => s0.takeLine x h slot ringCorr ringBad

end Sys2Proof.Machine
end

