-- ==== Sys2Proof/Machine/LayerOps.lean ====
section
/-! DEFINITION. The transitions of a layer job that many commands cause: its end, its return to QUEUED, the end of
imaging (01_layer_cycle R21, R28, R29, R41, R45 to R49; 12 R362, R370 to R372). -/

namespace Sys2Proof.Machine

open Sys2Proof

/-- The end flags as their byte (R49). -/
def EndFlags.code (f : EndFlags) : Nat :=
  b2n f.partialFuse + 2 * b2n f.linesReplaced + 4 * b2n f.postFault + 8 * b2n f.overlapped + 16 * b2n f.throttled +
    32 * b2n f.countsUnknown

/-- A job moved to a state (R21). -/
def State.setJobState (seq : Nat) (st : JobState) (s : State) : State := s.modJob seq fun j => { j with state := st }

/-- The feed reservation released by a job (R26, R29). -/
def State.releaseFeed (seq : Nat) (s : State) : State :=
  s.modLayer fun l => { l with feedOwner := if l.feedOwner = some seq then none else l.feedOwner }

/-- Bytes 16 to 63 of a job's FINAL record (R362). -/
def finalBody (sigma : Nat) (j : Job) : List Byte :=
  padTo 48 (le 1 j.status.code ++ le 1 j.cause.code ++ le 1 j.flags.code ++ le 1 j.inst ++ le 1 j.source ++
    le 1 j.startedMask.toNat ++ le 2 sigma ++ j.emitted.toList.flatMap (le 2) ++ j.replaced.toList.flatMap (le 2) ++
    le 8 j.hostTag)

/-- An atlas mark due: SEQ, KIND and BODY (R370). -/
def State.markDue (seq kind : Nat) (body : List Byte) (s : State) : State :=
  s.modHost fun h => { h with atlas := { h.atlas with
    todo := h.atlas.todo ++ [{ seq := seq, kind := kind, body := padTo 32 body }] } }

/-- The counter of an end (R51). -/
def Layer.countEnd (st : EndStatus) (l : Layer) : Layer :=
  match st with
  | .endedOk => { l with cntOk := wrapAdd 32 l.cntOk 1 }
  | .scrapped => { l with cntScrapped := wrapAdd 32 l.cntScrapped 1 }
  | .rejected => { l with cntRejected := wrapAdd 32 l.cntRejected 1 }
  | _ => l

/-- The stations of a job that ends: rings released, decoders and pixel paths freed, meridian entries still armed
disabled, compare lists disarmed (R70, R74, R43 step 5, R169). -/
def State.freeStations (seq : Nat) (st : EndStatus) (s : State) : State :=
  let s := s.allDecoders fun d =>
    if d.jobSeq = some seq then (if st = .endedOk then { d.release with jobSeq := none } else d.stop) else d
  let s := s.allPixels fun p => if p.job = some seq then { p with job := none } else p
  let s := s.modPosition fun p => { p with
    meridians := mapV (fun m => if m.job = seq ∧ m.state = .armed then { m with state := .disabled } else m) p.meridians }
  s.eachCompare fun g c => if c.job = seq then c.disarm g else c

/-- The wear write that falls due at a job end with one execution (R452): every PRESENT unit, a driver module with the
sweep frames its station carried for the job, an HV module with its station's HV periods at layer set-points. -/
def State.wearFalls (j : Job) (s : State) : State :=
  let frames (e : Nat) : Nat := if e % 4 = 0 ∧ j.images (e / 4) then (getN s.pixels (e / 4) {}).frames else 0
  let periods (e : Nat) : Nat := if e % 4 = 2 ∧ j.inMask (e / 4) then getN s.loops.hvPeriods (e / 4) 0 else 0
  s.modBoot fun b => { b with units := mapIdxV (fun e (u : Unit) =>
    if u.state = .present then { u with wearDue := true, frames := u.frames + frames e, periods := u.periods + periods e } else u) b.units }

/-- The accepted job of a sequence number that has not ended (R47). -/
def State.openJob (seq : Nat) (s : State) : Option Job := s.layer.jobs.find? fun j => j.seq == seq && j.state != .ended

/-- A job ends (R21, R47, R48): its ENDED mark falls due, the stations are freed, the registers of the last end are set,
HOLD is set by SCRAPPED or POST_FAULT (R28), its stations' LANE_STATS records fall due (R407), its admission timer is idle
(R51). A job ends once: one that has ended is left as it is. -/
def State.endJob (seq : Nat) (st : EndStatus) (cause : Cause) (src inst : Nat) (s : State) : State :=
  match s.openJob seq with
  | none => s
  | some j =>
    let j := { j with state := .ended, status := st, cause := cause, source := src, inst := inst }
    let s := (s.releaseFeed seq).freeStations seq st
    let s := s.modTelemetry fun t => { t with laneDue := mapIdxV (fun x due => due || j.inMask x) t.laneDue }
    let s := s.modLayer fun l =>
      { l.countEnd st with
        jobs := l.jobs.map fun k => if k.seq = seq then j else k
        lastStatus := st, lastCause := cause, lastFlags := j.flags, lastEmitted := j.emitted
        timerSeq := if l.timerSeq = some seq then none else l.timerSeq
        timerRunning := l.timerRunning && l.timerSeq != some seq
        timerRemainUs := if l.timerSeq = some seq then 0 else l.timerRemainUs
        hold := l.hold || st == .scrapped || j.flags.postFault }
    let s := s.when (s.legend.boot.wearEnable && (st == .endedOk || st == .scrapped)) (·.wearFalls j)
    let s := s.modLoops fun l => { l with hvPeriods := mapIdxV (fun x n => if j.inMask x then 0 else n) l.hvPeriods }
    s.markDue seq 3 ((finalBody s.scan.sigma j).take 32)

/-- A job ended REJECTED_AT_ADMISSION with a cause (R21). -/
def State.rejectJob (seq : Nat) (cause : Cause) (s : State) : State := s.endJob seq .rejected cause 0 0

/-- An ADMITTED job returns to QUEUED and releases the feed reservation, keeping its decoded lines (R29). -/
def State.requeueJob (seq : Nat) (s : State) : State := (s.releaseFeed seq).setJobState seq .queued

/-- TRANSFER passes into TRANSFUSE once the leading edge is at the nip with the carriage locked (R20, R21, R250). -/
def State.enterTransfuse (seq : Nat) (s : State) : State :=
  s.when (s.motion.carrPhase == .inNip && s.motion.carrJob == seq &&
    ((s.jobOf seq).map (·.state == .transfer)).getD false) (·.setJobState seq .transfuse)

/-- The last imaging station has emitted its last line: IMAGING ends, the feed reservation passes on (R21, R41). -/
def State.imagingDone (seq : Nat) (s : State) : State :=
  match s.jobOf seq with
  | none => s
  | some j =>
    s.when (j.state == .imaging && stations.all fun x => !j.images x.val || j.stationEnd[x]) fun s =>
      ((s.releaseFeed seq).setJobState seq .transfer).enterTransfuse seq

end Sys2Proof.Machine
end

