-- ==== Sys2Proof/Machine/Loops.lean ====
section
/-! DEFINITION. Control loops: laws, gain scheduling, profiles, following errors, the high-voltage channels, developer AC
and the heater zones (07_control_loops R209 to R238). -/

namespace Sys2Proof.Machine

open Sys2Proof

/-- The class of a loop number (R209). -/
def loopClass (n : Nat) : LoopClass :=
  if n < 24 then .hv
  else if n < 32 then .heat
  else if n < 38 then .cur
  else if n < 44 then .facet
  else match (n - 44) % 3 with
    | 0 => .cur
    | 1 => .vel
    | _ => .pos

/-- The period of a class in frames of 10,000 LOOP cycles (R213, R214); FACET loops follow their ticks. -/
def periodFrames : LoopClass → Nat
  | .cur | .facet => 1
  | .vel | .hv => 4
  | .pos => 8
  | .heat => 4000

/-- The legend's fields of a loop (R239). -/
def State.legLoop (s : State) (n : Nat) : LegLoop := getN s.legend.loops.loops n {}

/-- The fixed cycles of a loop's computation (R211). -/
def loopCycles (n : Nat) (g : LegLoop) : Nat :=
  match loopClass n with
  | .cur => 900
  | .facet => 120
  | c =>
    if n < 24 ∧ 18 ≤ n then 160 + 80
    else
      (match g.law with
        | .pid => 64
        | .biquad => 24 + 20 * ((g.coefs.head?.map (·.sections.length)).getD 1)
        | .state => 32 + 12 * g.sources.length) + (if c = .hv ∨ c = .vel ∨ c = .pos ∨ c = .heat then 80 else 0)

/-- The engine that computes a loop: the one the legend assigns, or LE4 once it serves that set (R210, R212). -/
def State.engineOf (s : State) (n : Nat) : Nat :=
  let e := (s.legLoop n).engine
  if s.loops.engines[4].state = .run ∧ s.loops.engines[4].serves = e then 4 else e

/-- Whether a loop's engine runs (R212). -/
def State.engineRuns (s : State) (n : Nat) : Bool := (getN s.loops.engines (s.engineOf n) {}).state == .run

/-- One loop's state. -/
def State.loop (s : State) (n : Nat) : Loop := getN s.loops.loops n {}

/-- One loop changed by `f`. -/
def State.modLoop (n : Nat) (f : Loop → Loop) (s : State) : State :=
  s.modLoops fun l => { l with loops := modN l.loops n f }

/-- One HV channel changed by `f`. -/
def State.modHv (k : Nat) (f : HvChannel → HvChannel) (s : State) : State :=
  s.modLoops fun l => { l with hv := modN l.hv k f }

/-- One station's developer AC changed by `f`. -/
def State.modAc (x : Nat) (f : DevAc → DevAc) (s : State) : State :=
  s.modLoops fun l => { l with ac := modN l.ac x f }

/-- One heater zone changed by `f`. -/
def State.modHeater (z : Nat) (f : Heater → Heater) (s : State) : State :=
  s.modLoops fun l => { l with heaters := modN l.heaters z f }

/-- A value in the loop's unit as a fraction of MEAS_FS, Q1.31, rounded and saturated (R216). The value is `num / den`. -/
def fraction (measFs : Nat) (num : Int) (den : Nat) : Int := satQ31 (roundDiv (num * 2147483648) (measFs * den))

/-- A Q1.31 signal in the loop's unit times `scale`, rounded (R216). -/
def inUnit (measFs scale : Nat) (v : Int) : Int := roundShift (v * measFs * scale) 31

/-- An accumulation of products of Q4.28 coefficients, shifted right by 28 and multiplied by 2^G_EXP, rounded (R216). -/
def scaled (gexp acc : Int) : Int :=
  let p := roundShift acc 28
  if 0 ≤ gexp then p * 2 ^ gexp.toNat else roundShift p (-gexp).toNat

/-- An accumulation of two parts of which G_EXP multiplies only the first, rounded once (R216, R218; log entry 18). -/
def scaledPart (gexp a b : Int) : Int :=
  if 0 ≤ gexp then roundShift (a * 2 ^ gexp.toNat + b) 28
  else roundShift (a + b * 2 ^ (-gexp).toNat) (28 + (-gexp).toNat)

/-- What a law computes: its output before the clamp, and the loop with its stored states. -/
abbrev LawStep := Int × Loop

/-- Whether the last output stands at U_HI, or was reduced afterwards and counts as clamped there (R217, R235). -/
def Loop.atHi (l : Loop) : Bool := l.clamped && l.clampHi

/-- Whether the last output stands at U_LO (R217). -/
def Loop.atLo (l : Loop) : Bool := l.clamped && !l.clampHi

/-- The PID law (R217). -/
def pidLaw (g : LegLoop) (c : LegCoef) (r y : Int) (l : Loop) : LawStep :=
  let e := satQ31 (r - y)
  let iNew := if (l.atHi && 0 < e) || (l.atLo && e < 0) then l.i else satQ31 (l.i + scaled g.gexp (c.ki * e))
  let ePrev := if l.first then e else l.ePrev
  let yPrev := if l.first then y else l.measPrev
  let delta := if c.dOnError then -(e - ePrev) else y - yPrev
  let d := satQ31 (l.d + roundShift (c.kf * (-(scaled g.gexp (c.kd * delta)) - l.d)) 28)
  let u := scaled g.gexp (c.kp * e + c.kff * r) + iNew + d + g.u0
  (u, { l with i := iNew, d := d, ePrev := e, measPrev := y })

/-- The cascade of sections in direct form II transposed, from input `x` (R218). -/
def biquadSections (gexp : Int) (hold : Bool) : List LegSection → List (Int × Int) → Int → Int × List (Int × Int)
  | [], _, x => (x, [])
  | c :: cs, ss, x =>
    let (s1, s2) := ss.headD (0, 0)
    let w := satQ31 (scaled gexp (c.b0 * x) + s1)
    let st := if hold then (s1, s2)
      else (satQ31 (scaledPart gexp (c.b1 * x) (-(c.a1 * w)) + s2), satQ31 (scaledPart gexp (c.b2 * x) (-(c.a2 * w))))
    let (y, rest) := biquadSections gexp hold cs ss.tail w
    (y, st :: rest)

/-- The BIQUAD law (R218). -/
def biquadLaw (g : LegLoop) (c : LegCoef) (r y : Int) (l : Loop) : LawStep :=
  let (w, ss) := biquadSections g.gexp l.clamped c.sections l.sections (satQ31 (r - y))
  (w + scaled g.gexp (c.kff * r) + g.u0, { l with sections := ss, ePrev := satQ31 (r - y), measPrev := y })

/-- The value of one state of the STATE law (R219). -/
def State.stateSource (s : State) (l : Loop) (y : Int) (src : StateSource × Nat) : Int :=
  match src.1 with
  | .measurement => y
  | .change => y - (if l.first then y else l.measPrev)
  | .prevOutput => l.out
  | .other => (s.loop src.2).meas

/-- The STATE law (R219), given the values of its states. -/
def stateLaw (g : LegLoop) (c : LegCoef) (xs : List Int) (r y : Int) (l : Loop) : LawStep :=
  let z := if (l.atHi && y < r) || (l.atLo && r < y) then l.i else satQ31 (l.i + scaled g.gexp (c.ki * (r - y)))
  let sum := ((c.k.zip xs).map fun p => p.1 * p.2).foldl (· + ·) 0
  (scaled g.gexp (c.kff * r - sum) + z + g.u0, { l with i := z, measPrev := y })

/-- A loop's law under one coefficient set (R217 to R219). -/
def State.runLaw (s : State) (g : LegLoop) (set : Nat) (r y : Int) (l : Loop) : LawStep :=
  let c := nth g.coefs set {}
  match g.law with
  | .pid => pidLaw g c r y l
  | .biquad => biquadLaw g c r y l
  | .state => stateLaw g c (g.sources.map (s.stateSource l y)) r y l

/-- Whether a region's box, widened by the hystereses, contains the point; `sp` is Q1.31, `x` in the loop's unit (R220). -/
def regionHolds (b : LegRegion) (g : LegLoop) (wide : Bool) (sp x : Int) : Bool :=
  let h1 : Int := if wide then g.hystSp else 0
  let h2 : Int := if wide then g.hystX else 0
  (b.spLo - h1) * 2147483648 ≤ sp * g.measFs && sp * g.measFs ≤ (b.spHi + h1) * 2147483648 &&
    (g.xSource == .none || (b.xLo - h2 ≤ x && x ≤ b.xHi + h2))

/-- The region of a point: the present one within its hysteresis, else the lowest that contains it; the second answer
says that none does (R220). -/
def selectRegion (g : LegLoop) (first : Bool) (region : Nat) (sp x : Int) : Nat × Bool :=
  let kept := !first && ((g.regions[region]?).map (regionHolds · g true sp x)).getD false
  if kept then (region, false)
  else match g.regions.findIdx? (regionHolds · g false sp x) with
    | some i => (i, false)
    | none => (if first then 0 else region, true)

/-- Fixed-point scale of the profile arithmetic. -/
def profQ : Nat := 16777216

/-- The peak acceleration of a curve of speed `v` and its jerk time, scaled; a limit of 0 is none (R222). -/
def peakOf (v aMax jMax : Nat) : Option (Nat × Nat) :=
  if jMax = 0 then (if aMax = 0 then none else some (aMax * profQ, 0))
  else
    let free := isqrt (v * jMax * profQ)
    let a := if aMax = 0 then free else min (aMax * profQ) free
    some (a, a / jMax)

/-- The time and the distance of one acceleration to speed `v`, scaled (R222). -/
def accelOf (v aMax jMax : Nat) : Nat × Nat :=
  match peakOf v aMax jMax with
  | none => (0, 0)
  | some (a, tj) =>
    let t := (if a = 0 then 0 else v * profQ / a) + tj
    (t, v * t / (2 * profQ))

/-- The largest speed, scaled, whose two accelerations fit in a distance: bit descent under V_MAX (R222). -/
def fitSpeed (dist vMax aMax jMax : Nat) : Nat → Nat → Nat
  | 0, v => v
  | k + 1, v =>
    let w := v + 2 ^ k
    if w ≤ vMax * profQ ∧ 2 * (accelOf w aMax jMax).2 ≤ dist then fitSpeed dist vMax aMax jMax k w
    else fitSpeed dist vMax aMax jMax k v

/-- Distance covered at time `t` of an acceleration from rest to `v` with peak `a` and jerk phases `tj`, scaled (R222). -/
def rampPos (a tj v t : Nat) : Nat :=
  let tAcc := (if a = 0 then 0 else v * profQ / a) + tj
  let cube (u : Nat) : Nat := if tj = 0 then 0 else a * u / profQ * u / profQ * u / (6 * tj)
  if t ≤ tj then cube t
  else if t + tj ≤ tAcc then
    let u := t - tj
    cube tj + a * tj / (2 * profQ) * u / profQ + a * u / profQ * u / (2 * profQ)
  else v * tAcc / (2 * profQ) + cube (tAcc - t) - v * (tAcc - t) / profQ

/-- Speed at time `t` of the same acceleration, scaled. -/
def rampVel (a tj v t : Nat) : Nat :=
  let tAcc := (if a = 0 then 0 else v * profQ / a) + tj
  let sq (u : Nat) : Nat := if tj = 0 then 0 else a * u / profQ * u / (2 * tj)
  if t ≤ tj then sq t
  else if t + tj ≤ tAcc then a * tj / (2 * profQ) + a * (t - tj) / profQ
  else v - sq (tAcc - t)

/-- Acceleration at time `t` of the same acceleration, scaled. -/
def rampAcc (a tj v t : Nat) : Nat :=
  let tAcc := (if a = 0 then 0 else v * profQ / a) + tj
  if t ≤ tj then (if tj = 0 then a else a * t / tj)
  else if t + tj ≤ tAcc then a
  else if tj = 0 then 0 else a * (tAcc - t) / tj

/-- Distance covered at time `t` of an acceleration to `v`, scaled (R222). -/
def accelPos (v aMax jMax t : Nat) : Nat :=
  match peakOf v aMax jMax with
  | none => 0
  | some (a, tj) => rampPos a tj v t

/-- The curve of R222 over distance `dist` at time `t`, scaled: the position, or none once the curve has ended. -/
def curveAt (dist vMax aMax jMax t : Nat) : Option Nat :=
  let v := fitSpeed dist vMax aMax jMax 56 0
  let (tAcc, dAcc) := accelOf v aMax jMax
  let cruise := if v = 0 then 0 else (dist - 2 * dAcc) * profQ / v
  let total := 2 * tAcc + cruise
  if total ≤ t then none
  else if t < tAcc then some (accelPos v aMax jMax t)
  else if t ≤ tAcc + cruise then some (dAcc + v * (t - tAcc) / profQ)
  else some (dist - accelPos v aMax jMax (total - t))

/-- The profiled set-point of a loop at its next sampling instant; a tenth of the limits' time unit passes in every
period of an HV or a heater loop (R213, R222). -/
def Curve.at (g : LegLoop) (c : Curve) (periods : Nat) : Option Int :=
  let dist := (c.target - c.start).natAbs * g.measFs * profQ / 2147483648
  match curveAt dist g.vMax g.aMax g.jMax (periods * profQ / 10) with
  | none => none
  | some d => some (satQ31 (c.start + (c.target - c.start).sign * ((d * 2147483648 / (g.measFs * profQ) : Nat) : Int)))

/-- The loop once a curve has moved on: its set-point is the curve's, or the target and the curve is over (R222). -/
def Loop.follow (c : Curve) (at' : Option Int) (l : Loop) : Loop :=
  match at' with
  | some sp => { l with sp := sp, curve := some c, bandRun := 0 }
  | none => { l with sp := c.target, curve := none, bandRun := 0 }

/-- A profiled step to the next sampling instant (R222): at the first one at or after its end the set-point is the
target and the curve is over. -/
def Loop.profileStep (g : LegLoop) (l : Loop) : Loop :=
  match l.curve with
  | none => l
  | some c => l.follow { c with periods := c.periods + 1 } (c.at g (c.periods + 1))

/-- PROFILE_BUSY: a curve is under way or a target has yet to be taken (R222, R223). -/
def Loop.busy (l : Loop) : Bool := l.curve.isSome || l.heldTarget.isSome

/-- A target that arrives; it waits until no curve runs, and a newer one replaces it (R222, R223). -/
def Loop.offerGoal (target : Int) (l : Loop) : Loop := { l with heldTarget := some target, bandRun := 0, inBand := false }

/-- A safe set-point: a step that cancels the curve and any held target (R223). -/
def Loop.safeStep (g : LegLoop) (sp : Int) (l : Loop) : Loop :=
  { l with sp := sp, curve := none, heldTarget := none, safe := true, settle := g.safeSettle, inBand := false, bandRun := 0 }

/-- Following error, band and peak of one period (R224, R225); `fe` is Q1.31. -/
def Loop.supervise (g : LegLoop) (fe : Int) (l : Loop) : Loop :=
  let big := (fe.natAbs * g.measFs : Nat)
  let beyond := g.feLimit * 2147483648 < big
  let l := { l with feOver := beyond, fePeak := max l.fePeak (min fe.natAbs 2147483647 : Nat) }
  let l := if 0 < l.settle then { l with settle := l.settle - 1 }
    else if beyond then { l with feTimer := satAdd 16 l.feTimer 1 }
    else { l with feTimer := 0, feRaised := false }
  let run := if l.busy || g.feBand * 2147483648 < big then 0 else satAdd 16 l.bandRun 1
  { l with bandRun := run, inBand := !l.safe && !l.busy && g.feSettle ≤ run }

/-- An output computed, with whether it stands at a limit (R217). -/
def Loop.computed (lo hi u : Int) (l : Loop) : Loop := { l with next := some u, nextLo := u ≤ lo, nextHi := hi ≤ u }

/-- The law, region change and bump of one period: the loop with the output to take effect, and whether no region contains the
point (R217 to R221). -/
def State.compute (s : State) (g : LegLoop) (r y x : Int) (l : Loop) : Loop × Bool :=
  let (region, gap) := selectRegion g l.first l.region r x
  let set (i : Nat) : Nat := ((g.regions[i]?).map (·.set)).getD 0
  let changed := !l.first && region != l.region
  let (raw, lNew) := s.runLaw g (set region) r y l
  let uNew := clampI g.uLo g.uHi (satQ31 raw)
  let uOld := clampI g.uLo g.uHi (satQ31 (s.runLaw g (set l.region) r y l).1)
  let left := (l.bump * (2 ^ g.bumpShift - 1)).tdiv (2 ^ g.bumpShift)
  let bump := if changed && g.law != .pid then left + (uOld - uNew) * 4294967296 else left
  let bump := if bump.natAbs < 4294967296 then 0 else bump
  let u := clampI g.uLo g.uHi (satQ31 (uNew + roundShift bump 32))
  ({ lNew.computed g.uLo g.uHi u with
      region := region, bump := bump, first := false, sp := r, meas := y,
      regionChanges := if changed then satAdd 16 l.regionChanges 1 else l.regionChanges }, gap)

/-- The fields of a loop that a set of the PID form stands for (R185, R196, R217). -/
def pidForm (p : LegPid) : LegLoop := { gexp := p.gexp, uLo := p.uLo, uHi := p.uHi, u0 := p.u0 }

/-- The coefficients of a set of the PID form (R217). -/
def pidCoef (p : LegPid) : LegCoef :=
  { kp := p.kp, ki := p.ki, kd := p.kd, kf := p.kf, kff := p.kff, dOnError := p.dOnError }

/-- One computation of a loop by the PID form (R185, R196, R217). -/
def pidPeriod (g : LegLoop) (c : LegCoef) (r y : Int) (l : Loop) : Loop :=
  let (u, l) := pidLaw g c r y l
  { l.computed g.uLo g.uHi (clampI g.uLo g.uHi (satQ31 u)) with sp := r, meas := y, first := false }

/-- One computation of the current loop's two axes, by one set each with the D term disabled: `q` and `d` are reference and
measurement (R185, R209). -/
def currentPeriod (gq gd : LegLoop) (cq cd : LegCoef) (q d : Int × Int) (l : Loop) : Loop :=
  let a := l.dAxis
  let ld := pidPeriod gd { cd with kd := 0 } d.1 d.2 { i := a.i, clamped := a.clamped, clampHi := a.clampHi }
  { pidPeriod gq { cq with kd := 0 } q.1 q.2 l with
      dAxis := { a with i := ld.i, next := ld.next.getD 0, meas := d.2 } }

/-- The output of a loop takes effect, with what its anti-windup sees of it (R213, R217). -/
def Loop.emit (u : Int) (l : Loop) : Loop :=
  { l with out := u, next := none, clamped := l.nextLo || l.nextHi, clampHi := l.nextHi }

/-- LOOP_TRACE sample of a loop at its output instant: set-point, measurement, output and fe (R407, R216). -/
def State.sampleOf (s : State) (k : Nat) : Sample :=
  let l := s.loop k
  let q (v : Int) : List Byte := le 4 (twos 32 v)
  { loop := k, timeUs := s.timeUs, body := q l.sp ++ q l.meas ++ q l.out ++ q (satQ31 (l.sp - l.meas)) }

/-- A sample among those taken: by stamp, and by loop among those of one stamp (R407). -/
def insertSample (d : Sample) : List Sample → List Sample
  | [] => [d]
  | e :: rest => if e.timeUs = d.timeUs ∧ d.loop < e.loop then d :: e :: rest else e :: insertSample d rest

/-- The output instant of a loop: its LOOP_TRACE sample is taken, where the legend's telemetry names the loop (R407, R416). -/
def State.traceOutput (k : Nat) (s : State) : State :=
  let d := s.sampleOf k
  let g := s.legend.telemetry
  s.when (g.present && (g.sources.any (·.loop == k) || g.snaps.toList.any (·.loops.contains k))) (·.modTelemetry fun t => { t with due := insertSample d t.due })

/-- The d axis's output takes effect with it (R185). -/
def DAxis.emit (g : LegLoop) (a : DAxis) : DAxis :=
  { a with out := a.next, clamped := a.next ≤ g.uLo || g.uHi ≤ a.next, clampHi := g.uHi ≤ a.next }

/-- The job whose committed window is open, if any (R17). -/
def State.windowJob (s : State) : Option Job := s.layer.jobs.find? Job.inWindow

/-- Whether a committed window is open for a job whose mask holds a station (R238). -/
def State.stationRun (s : State) (x : Nat) : Bool := s.layer.jobs.any fun j => j.inWindow && j.inMask x

/-- Measured voltage of an HV channel in 0.1 V from its monitor in mV (R226). -/
def State.hvVolt (s : State) (k mv : Nat) : Int := roundDiv ((getN s.legend.loops.hv k {}).vmonFs * 10 * mv) 2500

/-- Load current of an HV channel in µA from its monitor in mV (R226). -/
def State.hvCurr (s : State) (k mv : Nat) : Int := roundDiv (((getN s.legend.loops.hv k {}).imonFs * mv : Nat) : Int) 2500

/-! The PWM-DACs (R227). -/

/-- The first-order accumulator of a PWM-DAC after `n` periods of a code. -/
def dacAfter (code acc n : Nat) : Nat := (acc + n * (code * 1000)) % 65536

/-- The on-time of a PWM-DAC's next period under a code, floor or ceil of code × 1,000 / 65,536 LOOP cycles (R227). -/
def dacOn (code acc : Nat) : Nat := (acc + code * 1000) / 65536

/-- A PWM-DAC takes a code at the start of a period, 40 periods after the last HV output instant (R213, R227; log entry 153). -/
def HvChannel.take (code : Nat) (h : HvChannel) : HvChannel :=
  let acc := dacAfter h.code h.acc 40
  { h with code := code, acc := acc, on := dacOn code acc }

/-- SAFE_CODE of a channel as an output, Q1.31 (R229). -/
def safeOut (code : Nat) : Int := satQ31 ((code : Int) * 32768)

/-- The hardware multiplexer takes a channel's PWM-DAC to SAFE_CODE (R229, R230). -/
def State.hvMux (k : Nat) (s : State) : State :=
  let code := (getN s.legend.loops.hv k {}).safeCode
  (s.modHv k fun h => if h.mode = .grave ∨ h.mode = .off then h else { h.take code with mux := true, mode := .safe }).modLoop k
    fun l => { l with inBand := false, bandRun := 0 }

/-- DEVAC_x stops at its mid level; its amplitude loop is out of band (R225, R229). -/
def State.acStop (x : Nat) (s : State) : State :=
  (s.modAc x fun a => { a with running := false }).modLoop (18 + x) fun l => { l with inBand := false, bandRun := 0 }

/-- Step 3 of R43 and R229: every HV channel at SAFE_CODE by hardware, every DEVAC_x stopped at its mid level. -/
def State.hvHardware (s : State) : State :=
  (s.each (List.range 18) State.hvMux).each (List.range 6) State.acStop

/-- The section states, cleared but for those of the last section, with which a cascade driven by `x` answers `w` (R229). -/
def sectionsGiving (gexp w : Int) : List LegSection → Int → List (Int × Int)
  | [], _ => []
  | [c], x => [(satQ31 (scaledPart gexp (c.b1 * x) (-(c.a1 * w))), satQ31 (scaledPart gexp (c.b2 * x) (-(c.a2 * w))))]
  | c :: cs, x =>
    let v := satQ31 (scaled gexp (c.b0 * x))
    (satQ31 (scaledPart gexp (c.b1 * x) (-(c.a1 * v))), satQ31 (scaledPart gexp (c.b2 * x) (-(c.a2 * v)))) :: sectionsGiving gexp w cs v

/-- A loop's first computation with its integrator or states preset so that the output is `out` (R229). -/
def State.presetLaw (s : State) (g : LegLoop) (r y x out : Int) (l : Loop) : Loop :=
  let l := { l with first := true, i := 0, d := 0, bump := 0, sections := [], clamped := false, next := none }
  let region := (selectRegion g true 0 r x).1
  let set := ((g.regions[region]?).map (·.set)).getD 0
  let c := nth g.coefs set {}
  let (raw, new) := s.runLaw g set r y l
  let gap := out - raw
  let new := match g.law with
    | .biquad =>
      let e := satQ31 (r - y)
      { new with sections := sectionsGiving g.gexp (satQ31 ((biquadSections g.gexp false c.sections [] e).1 + gap)) c.sections e }
    | _ => { new with i := satQ31 (new.i + gap) }
  { new.computed g.uLo g.uHi out with region := region, first := false, sp := r, meas := y }

/-- A channel under SAFE_CODE at its sampling instant: the set-point becomes SAFE_SP by step, the integrator or the states are preset
so that the output equals SAFE_CODE, the multiplexer is released (R229). -/
def State.hvRegulate (k : Nat) (s : State) : State :=
  let g := s.legLoop k
  let v := getN s.legend.loops.hv k {}
  let h := getN s.loops.hv k {}
  let sp := fraction g.measFs v.safeSp 1
  let y := fraction g.measFs h.volt 10
  let x := if g.xSource = .current then h.curr else 0
  (s.modHv k fun h => { h with mux := false }).modLoop k fun l =>
    { s.presetLaw g sp y x (safeOut v.safeCode) (l.safeStep g sp) with out := safeOut v.safeCode }

/-- A channel at its layer set-point takes its safe set-point by step (R223, R228). -/
def State.hvToSafe (k : Nat) (s : State) : State :=
  let g := s.legLoop k
  let sp := fraction g.measFs (getN s.legend.loops.hv k {}).safeSp 1
  s.when ((getN s.loops.hv k {}).mode == .layer) fun s =>
    (s.modHv k fun h => { h with mode := .safe }).modLoop k fun l => l.safeStep g sp

/-- The Grave part of R229: every reference at code 0, every HVEN_x deasserted, the loops stopped. -/
def State.hvGrave (s : State) : State :=
  s.modLoops fun l => { l with
    hv := mapV (fun h => { h.take 0 with mode := .grave, mux := false }) l.hv
    hven := Vector.replicate 6 false
    ac := mapV (fun a => { a with running := false, gain := 0 }) l.ac
    loops := mapIdxV (fun n k => if n < 24 then { k with running := false, next := none, inBand := false, bandRun := 0 } else k) l.loops }

/-- HVEN_x and the channels at the start of DOWN or BROWNOUT (R226). -/
def State.hvOff (s : State) : State :=
  s.modLoops fun l => { l with
    hv := mapV (fun h => if h.mode = .grave then h else { h.take 0 with mode := .off, mux := false }) l.hv
    hven := Vector.replicate 6 false
    ac := mapV (fun a => { a with running := false }) l.ac
    loops := mapIdxV (fun n k => if n < 24 then { k with running := false, next := none, inBand := false, bandRun := 0 } else k) l.loops }

/-- Every HTR output off on a Grave fault, at the start of DOWN or BROWNOUT (R236). -/
def State.heatersOff (s : State) : State :=
  s.modLoops fun l => { l with heaters := mapV (fun h => { h with
    mode := .forcedOff, on := false, onHalf := 0, onCycles := 0, duty := 0, nextDuty := 0 }) l.heaters }

/-- The set-point in the loop's unit that a channel, an AC loop or a heater loop is to hold, as Q1.31 (R228, R233, R236). -/
def State.loopGoal (s : State) (n : Nat) : Int :=
  let g := s.legLoop n
  if n < 18 then fraction g.measFs (nth (getN s.legend.loops.hv n {}).sp s.loops.expoSet 0) 1
  else if n < 24 then fraction g.measFs (nth (getN s.legend.loops.ac (n - 18) {}).sp s.loops.expoSet 0 : Nat) 1
  else if n < 32 then fraction g.measFs (getN s.loops.heaters (n - 24) {}).target 10
  else 0

/-- A loop begins to run from its measurement: the first sample is to come (R217, R220). -/
def Loop.begin (l : Loop) : Loop := { l with
  running := true, first := true, region := 0, i := 0, d := 0, bump := 0, sections := [], next := none, clamped := false, dAxis := {} }

/-- The heater loops that an engine computes take up control: at READY, when UP ends after a shutdown, when LE4 takes over (R236, R491,
R530). -/
def State.heatersStart (s : State) : State :=
  s.each (List.range 8) fun z s => s.when ((s.legLoop (24 + z)).enable && s.engineRuns (24 + z)) fun s =>
    (s.modHeater z fun h => { h with mode := .control }).modLoop (24 + z) fun l => l.begin.offerGoal (s.loopGoal (24 + z))

/-- HV_x.ch_MON stands for a channel: its monitor is out of range, or the Severe instance has not been cleared (R230, R332; log
entry 148). -/
def State.hvMonStands (s : State) (k : Nat) : Bool :=
  let h := getN s.loops.hv k {}
  h.monRun == 16 || h.monRaised || ((s.faultInst Source.hvMon.number k).map (·.standing)).getD false

/-- The channels of a station back to their layer set-points by profile, and its AC loop (R228): not a channel that has yet to
regulate to SAFE_SP (R229) or whose monitor source stands (R230). -/
def State.hvLayer (x : Nat) (s : State) : State :=
  let s := s.each [3 * x, 3 * x + 1, 3 * x + 2] fun k s =>
    let h := getN s.loops.hv k {}
    s.when (h.mode == .safe && !h.mux && !s.hvMonStands k) fun s =>
      (s.modHv k fun h => { h with mode := .layer }).modLoop k fun l =>
        { l.offerGoal (s.loopGoal k) with safe := false, running := true }
  s.when ((s.legLoop (18 + x)).enable && getN s.loops.hven x false && !(getN s.loops.ac x {}).running) fun s =>
    (s.modAc x fun a => { a with running := true }).modLoop (18 + x) fun l =>
      { l.offerGoal (s.loopGoal (18 + x)) with safe := false }

/-- Whether the channels made safe may return (R228): HOLD is clear, no Severe or Grave fault stands, no abort runs. -/
def State.hvMayReturn (s : State) : Bool :=
  !s.layer.hold && !s.severeStands && !s.faults.grave && !s.layer.abortRunning

/-- Every station that HV_CTRL has not made safe returns to its layer set-points (R228). -/
def State.hvReturns (s : State) : State :=
  s.each stations fun x s => s.when (!(getN s.loops.hv (3 * x.val) {}).commanded) (·.hvLayer x.val)

/-- Every HVEN_x is asserted and every channel of an enabled loop regulates to its safe set-point, its AC amplitude at 0, and they
return by profile when R228 permits: at READY and when UP ends after a shutdown (R226, R453, R530). -/
def State.hvStart (s : State) : State :=
  let on (n : Nat) : Bool := (s.legLoop n).enable
  let s := s.modLoops fun l => { l with
    hven := Vector.replicate 6 true
    hv := mapIdxV (fun k h => if on k then { h with mode := .safe, mux := false } else h) l.hv
    ac := mapV (fun a => { a with running := false }) l.ac }
  let s := s.each (List.range 24) fun n s =>
    let g := s.legLoop n
    let sp := if n < 18 then fraction g.measFs (getN s.legend.loops.hv n {}).safeSp 1 else 0
    s.when g.enable (·.modLoop n fun l => l.begin.safeStep g sp)
  s.when s.hvMayReturn State.hvReturns

/-- The second variable of gain scheduling (R220); `speed` is the measured speed of the loop's axis, 0 for a loop that has none. -/
def State.secondVar (s : State) (n : Nat) (speed : Int) : Int :=
  let g := s.legLoop n
  match g.xSource with
  | .none => 0
  | .speed => speed
  | .current => (getN s.loops.hv n {}).curr
  | .other => inUnit (s.legLoop g.xLoop).measFs 1 (s.loop g.xLoop).meas

/-- A loop's computation charged to a frame of its engine: LOAD_MAX is the most that one frame takes (R211, R240). -/
def Engine.charge (frame cycles : Nat) (e : Engine) : Engine :=
  let load := (if e.frame = frame then e.load else 0) + cycles
  { e with frame := frame, load := load, loadMax := max e.loadMax (min load 16383) }

/-- A loop's computation in a frame, charged to its engine (R210, R211). -/
def State.chargeLoad (n frame : Nat) (s : State) : State :=
  let cycles := loopCycles n (s.legLoop n)
  let e := s.engineOf n
  s.modLoops fun l => { l with engines := modN l.engines e (Engine.charge frame cycles) }

/-- One supervised computation of a loop under given fields (R216 to R225). -/
def State.loopPeriodAs (g : LegLoop) (n : Nat) (r y x : Int) (s : State) : State :=
  let (l, gap) := s.compute g r y x (s.loop n)
  (s.modLoop n fun _ => l.supervise g (r - y)).raiseIf gap .loopRegionGap n

/-- One supervised computation of a loop (R216 to R225). -/
def State.loopPeriod (n : Nat) (r y x : Int) (s : State) : State := s.loopPeriodAs (s.legLoop n) n r y x

/-- Whether an HV channel's monitor reading in mV is beyond OV_LIMIT in its set-point's polarity (R230). -/
def State.hvOver (s : State) (k mon : Nat) : Bool :=
  let lim := 10 * ((getN s.legend.loops.hv k {}).ovLimit.natAbs : Int)
  if (s.loop k).sp < 0 then s.hvVolt k mon < -lim else lim < s.hvVolt k mon

/-- The HV part of a sampling instant (R230): measured voltage and current, the over-voltage trip, the count of samples
out of monitor range. -/
def State.hvSample (k mon cur : Nat) (s : State) : State :=
  let out := mon < 20 || 2480 < mon
  let h := getN s.loops.hv k {}
  let run := if out then min 16 (h.monRun + 1) else 0
  let t := s.modHv k fun h => { h with
    volt := s.hvVolt k mon, curr := s.hvCurr k cur, monRun := run, monOk := !out || (h.monOk && run < 16), monRaised := h.monRaised && out }
  t.when (s.hvOver k mon) fun t => (t.hvMux k).raise .hvOv k

/-- PROFILE_TARGET (R222, R223): the generator of a loop takes the target that waits, once no curve is under way; with
V_MAX 0 the set-point steps. -/
def execProfileTarget (n : Fin 64) (s : State) : Host.Outcome State Fault Refusal :=
  let g := s.legLoop n
  let l := s.loop n
  match l.heldTarget with
  | none => live s s
  | some t =>
    liveIf (l.curve.isNone && loopClass n != .cur && loopClass n != .facet) s <|
      s.modLoop n fun l =>
        if g.vMax = 0 ∨ t = l.sp then { l with sp := t, heldTarget := none }
        else { l with curve := some { start := l.sp, target := t, periods := 0 }, heldTarget := none }

/-- FOLLOWING_ERROR (R224, R236, R238): a loop's count has reached FE_TIMER; its source is raised once. The servo loops'
source is SERVO_FOLLOWING_ERROR's. -/
def execFollowingError (n : Fin 32) (s : State) : Host.Outcome State Fault Refusal :=
  let l := s.loop n
  liveIf (l.running && (s.legLoop n).feTimer ≤ l.feTimer && !l.feRaised) s <|
    let s := s.modLoop n fun l => { l with feRaised := true, feEvents := satAdd 16 l.feEvents 1 }
    if n.val < 18 then s.raiseRun (s.stationRun (n.val / 3)) .hvFeRun .hvFeIdle n
    else if n.val < 24 then s.raiseRun (s.stationRun (n.val - 18)) .hvDevacFeRun .hvDevacFeIdle n
    else s.raise .heatFe (n.val - 24)

/-- HV_SAFE_STEP (R229): while an abort runs or a Severe stands, a channel still at its layer set-point takes SAFE_CODE
by hardware; a channel at SAFE_CODE regulates to SAFE_SP from its next sampling instant. -/
def execHvSafeStep (k : Fin 18) (s : State) : Host.Outcome State Fault Refusal :=
  let h := s.loops.hv[k]
  if h.mux then liveIf (s.engineRuns k && (s.loop k).running && !s.hvMonStands k) s (s.hvRegulate k)
  else liveIf ((s.layer.abortRunning || s.severeStands) && h.mode == .layer) s
    ((s.hvMux k).acStop (k.val / 3))

/-- HV_MONITOR_RANGE (R230): sixteen samples out of range; the channel is held at SAFE_CODE and its source raised, Severe
inside a window of the station's job, Degraded otherwise. -/
def execHvMonitorRange (k : Fin 18) (s : State) : Host.Outcome State Fault Refusal :=
  let h := s.loops.hv[k]
  liveIf (h.monRun == 16 && !h.monRaised) s <|
    ((s.hvMux k).modHv k fun h => { h with monOk := false, monRaised := true }).raiseAs .hvMon k
      (if s.stationRun (k.val / 3) then .severe else .degraded) []

/-- HV_RETURN (R228): HOLD is clear and no Severe or Grave stands; every channel not commanded safe returns to its layer
set-point by profile. -/
def execHvReturn (s : State) : Host.Outcome State Fault Refusal :=
  liveIf s.hvMayReturn s s.hvReturns

/-! Developer AC (R231 to R233). -/

/-- A station's waveform table for a drum band and a humidity band (R232, R239). -/
def acTable (g : LegAc) (t h : Nat) : List Int := (g.wave.drop ((4 * t + h) * 256)).take 256

/-- The 256 point periods of an AC period in LOOP cycles, by the first-order accumulator that keeps their mean exact, and the
accumulator after them (R231). -/
def pointPeriods (freq acc : Nat) : List Nat × Nat :=
  let den := 256 * max 1 freq
  ((List.range 256).map fun i => (acc + (i + 1) * 400000000) / den - (acc + i * 400000000) / den,
    (acc + 256 * 400000000) % den)

/-- The pulse of a table entry at a gain in 1/65,536: round((w × g / 32,768 + 1) / 2 × point period) LOOP cycles (R231). -/
def pulseOf (freq : Nat) (gain : Nat) (w : Int) : Nat :=
  (roundDiv ((w * gain + 2147483648) * 400000000) (4294967296 * (256 * max 1 freq))).toNat

/-- The peak to peak in V of monitor samples in mV, from their correlation with the table over one AC period: the table's span times
the scale at which it fits the samples best (R233; log entry 154). -/
def peakToPeak (vmonFs : Int) (table : List Int) (mon : List Nat) : Nat :=
  let n : Int := table.length
  let m : List Int := mon.map Int.ofNat
  let sum (l : List Int) : Int := l.foldl (· + ·) 0
  let both := n * sum ((table.zip m).map fun p => p.1 * p.2) - sum table * sum (m.take table.length)
  let own := n * sum (table.map fun w => w * w) - sum table * sum table
  let span := table.foldl max (table.headD 0) - table.foldl min (table.headD 0)
  if own ≤ 0 then 0 else (roundDiv (both * span * vmonFs.natAbs) (own.toNat * 2500)).toNat

/-- DEVAC_PERIOD_START (R231 to R233): at point 0 the amplitude of the AC period that ends is known from the monitor's sample at each
of its points, and a new gain and a new table take effect: the pulses of the next AC period. -/
def execDevacPeriodStart (x : Fin 6) (mon : List Nat) (s : State) : Host.Outcome State Fault Refusal :=
  let g := s.legend.loops.ac[x]
  let v := getN s.legend.loops.hv (3 * x.val + 1) {}
  liveIf (s.loops.ac[x].running) s <|
    s.modAc x fun a =>
      let (periods, acc) := pointPeriods g.freq a.acc
      { a with
        amp := min (peakToPeak v.vmonFs (acTable g a.tBand a.hBand) mon) 65535, gain := a.nextGain, tBand := a.nextT, hBand := a.nextH,
        acc := acc, points := periods, pulses := (acTable g a.nextT a.nextH).map (pulseOf g.freq a.nextGain) }

/-- The humidity band after a reading of `rh` in 0.1 %RH (R232). -/
def humidityBand (g : LegLoops) (old rh : Nat) : Nat :=
  ([g.humT1, g.humT2, g.humT3].mapIdx fun i t => decide (10 * t ≤ if i < old then rh + 20 else rh)).foldl
    (fun n b => n + b2n b) 0

/-- HUMIDITY_BAND_CHANGE (R232, R238): a reading of HUM_IN in mV; out of range the band holds and HUM.RANGE is raised.
While no job is ARMED or later, the tables follow a change of the band at the next point 0. -/
def execHumidityBandChange (mv : Nat) (s : State) : Host.Outcome State Fault Refusal :=
  let g := s.legend.loops
  let out := mv < 20 || 2480 < mv
  if out then liveIf s.islandsUp s ((s.modLoops fun l => { l with humOut := true }).raiseIf (!s.loops.humOut) .humRange 0)
  else
    let rh := min 1000 (g.humFs * mv)
    let band := humidityBand g s.loops.humBand rh
    let moves := band != s.loops.humBand && !s.layer.jobs.any Job.armedOn
    liveIf s.islandsUp s (s.modLoops fun l => { l with
      rh := rh, humBand := band, humOut := false,
      ac := if moves then mapV (fun a => { a with nextH := band }) l.ac else l.ac })

/-! Heater zones (R234 to R236). -/

/-- The level of HTRn at a time: a DC zone is on for the first duty × 40,000,000 LOOP cycles of its period, 400 in a microsecond
(R235). -/
def Heater.level (now : Nat) (h : Heater) : Bool := h.on && (h.onCycles == 0 || decide (400 * (now - h.periodUs) < h.onCycles))

/-- HEATER_PERIOD (R235): the duty of the last computation is applied over the next 100 ms; an AC_ZC zone is on for
round(duty × H) half-cycles, a DC zone for the first duty × 40,000,000 cycles. -/
def execHeaterPeriod (z : Fin 8) (s : State) : Host.Outcome State Fault Refusal :=
  let zone := s.legend.loops.zones[z]
  let h := s.loops.heaters[z]
  let now := s.timeUs
  liveIf (h.mode == .control) s <|
    let duty := h.nextDuty
    let full := duty ≥ zone.dutyMax
    let cycles := duty * 40000000 / 65536
    s.modHeater z fun h => { h with
      duty := duty, zc := 0, sat := full, periodUs := now,
      satUs := if full && !h.sat then now else h.satUs, satRaised := h.satRaised && full,
      onHalf := if zone.acZc then (2 * duty * h.zc + 65536) / 131072 else 0,
      onCycles := if zone.acZc then 0 else cycles, on := if zone.acZc then h.on else 0 < cycles }

/-- HEATER_SATURATION (R235): a duty held at DUTY_MAX for HEAT_SAT_TIME raises HEAT_n.SAT. -/
def execHeaterSaturation (z : Fin 8) (s : State) : Host.Outcome State Fault Refusal :=
  let h := s.loops.heaters[z]
  liveIf (h.mode == .control && h.sat && !h.satRaised &&
      s.elapsed h.satUs (1000000 * s.legend.loops.zones[z].satTime)) s <|
    (s.modHeater z fun h => { h with satRaised := true }).raise .heatSat z

/-- MAINS_ZERO_CROSSING (R235): a crossing is counted, and each AC_ZC output switches at it. -/
def execMainsZeroCrossing (s : State) : Host.Outcome State Fault Refusal :=
  let zones := s.legend.loops.zones
  live s (s.modLoops fun l => { l with heaters := mapIdxV (fun z h =>
    let h := { h with zc := satAdd 8 h.zc 1 }
    if (getN zones z {}).acZc && h.mode == .control then
      { h with on := 0 < h.onHalf, onHalf := h.onHalf - 1 } else h) l.heaters })

end Sys2Proof.Machine
end

