-- ==== Sys2Proof/Machine/LogOps.lean ====
section
/-! DEFINITION. The MRAM log rings: the spare log, records for the power log (17 R494; 10 R310). -/

namespace Sys2Proof.Machine

open Sys2Proof

/-- Milliseconds since AON start (R362, R310). -/
def State.ms (s : State) : Nat := s.timeUs / 1000

/-- A ring record: SEQ, its body, and the CRC-16 of what precedes it (R309, R310, R338, R494). -/
def sealRecord (seq : Nat) (body : List Byte) : List Byte :=
  let r := le 4 seq ++ body
  r ++ le 2 (crc16 r)

/-- A record of the spare log, written at once: KIND, UNIT and DETAIL (R494). -/
def State.spareLog (kind unit detail : Nat) (s : State) : State :=
  let ms := s.ms
  s.modSurvey fun v =>
    let seq := wrapAdd 32 v.logSeq 1
    { v with
      log := modN v.log v.logHead fun _ => sealRecord seq (le 4 ms ++ le 1 kind ++ le 1 unit ++ le 4 detail)
      logHead := (v.logHead + 1) % 128, logSeq := seq }

/-- A power-log record formed, without SEQ and CRC: TIME_MS, KIND, PROGRAM, STEP, RAIL, CODE (R310). POWER_LOG_WRITE
places it in the ring. -/
def State.powerLog (kind prog step rail code : Nat) (s : State) : State :=
  let ms := s.ms
  s.modPower fun p => { p with
    logQueue := p.logQueue ++ [le 4 ms ++ le 1 kind ++ le 1 prog ++ le 1 step ++ le 1 rail ++ le 2 code] }

end Sys2Proof.Machine
end

