-- ==== Sys2Proof/Machine/Pixel.lean ====
section
/-! DEFINITION. Pixel paths and emitter lanes: geometry, exposure codes, sweep frames, the adaptation loops, lane
training, force-off, the spare lane (03_pixel_path R82 to R115, R529). -/

namespace Sys2Proof.Machine

open Sys2Proof

/-- The legend's set for a station (R116). -/
def State.legPixel (s : State) (x : Fin 6) : LegPixel := s.legend.pixels[x]

/-- The stagger span S (R86). -/
def spanOf (g : LegPixel) : Nat := 1 + ((g.stagger.take g.emitters).foldl max 0)

/-- B+, the largest positive LINE of the bow table (R88). -/
def bPlusOf (g : LegPixel) : Nat := g.bowLine.foldl (fun m v => max m v.toNat) 0

/-- B−, the magnitude of the most negative LINE (R88). -/
def bMinusOf (g : LegPixel) : Nat := g.bowLine.foldl (fun m v => max m (-v).toNat) 0

/-- The first sweep k0 (R86). -/
def firstSweep (g : LegPixel) : Int := -(((spanOf g - 1) / g.emitters : Nat) : Int)

/-- The last sweep k1 of a stream of `lines` lines (R86). -/
def lastSweep (g : LegPixel) (lines : Nat) : Int := (((lines + g.emitters - 1) / g.emitters : Nat) : Int) - 1

/-- The segment length G in cells for a line of `p` pixels (R88). -/
def segLen (p : Nat) : Nat := (p + 63) / 64

/-- The edge of XCLK at which cell `c` begins (R106). -/
def cellEdge (cellQ c : Nat) : Nat := (c * cellQ + 128) / 256

/-- The level of a cell of a line in the ring; 0 outside the stream and beyond the line's pixels (R69, R86). -/
def Decoder.levelAt (d : Decoder) (line : Int) (cell : Nat) : Nat :=
  if line < 0 ∨ (d.lineCount : Int) ≤ line then 0
  else match d.slotOf line.toNat with
    | none => 0
    | some r => match r.tag with
      | .data => if cell < r.pixels then nth r.levels cell 0 else 0
      | .solid => if cell < r.pixels then r.level else 0
      | _ => 0

/-- The drive code of a level: the LUT entry, its WIDTH moved by the track offset (R92 to R94). -/
def driveCode (g : LegPixel) (set band e level : Nat) (offset : Int) : Nat :=
  if level = 0 then 0
  else
    let v := nth g.lut (((set * 4 + band) * 32 + e) * 16 + level) 0
    let w := clampI 1 63 ((field v 9 4 : Nat) + offset)
    w.toNat * 16 + v % 16

/-- The code of cell `c` of emitter `e` in sweep `k` (R86, R88, R92, R94, R101). -/
def cellCode (g : LegPixel) (px : Pixel) (d : Decoder) (k : Int) (e c : Nat) : Nat :=
  if d.lineLength ≤ c then 0
  else
    let seg := c / segLen d.lineLength
    let line := k * g.emitters + (nth g.stagger e 0 : Nat) + nth g.bowLine seg 0
    driveCode g px.expoSet px.drumBand e (d.levelAt line c) (getN px.offsets (seg * g.tracks / 64) 0)

/-- Twenty drive codes as a 200-bit little-endian field (R103). -/
def packCodes (cs : List Nat) : List Byte := le 25 (cs.foldr (fun c acc => c % 1024 + 1024 * acc) 0)

/-- The K-codes of a control symbol, as 8b/10b data values; several only for the reserved ones, which are never sent (R100). -/
def LaneSymbol.codes : LaneSymbol → List Nat
  | .idle => [0xBC]
  | .sof => [0xFB]
  | .soc => [0x1C]
  | .eof => [0xFD]
  | .train => [0x3C]
  | .bdOn => [0xF7]
  | .forceOff => [0xFE]
  | .reserved => [0x5C, 0x7C, 0x9C, 0xDC, 0xFC]

/-- The symbols of a run as a lane launches them: whether it is a K-code, and its value (R100). -/
def LaneRun.launched : LaneRun → List (Bool × Nat)
  | .symbols k n => List.replicate n (true, (LaneSymbol.codes k).headD 0)
  | .bytes b => b.map fun v => (false, v.toNat)

/-- What a configuration frame puts on a lane (R109). -/
def configRuns (block : List Byte) : List LaneRun :=
  [.symbols .soc 1, .bytes block, .symbols .eof 1, .bytes (le 1 (crc8 block))]

/-- What one attempt of a training puts on a lane before it waits (R108): 2,048 IDLE, then 64 TRAIN ordered sets with the lane
number, the station letter and the low byte of the module's serial number. -/
def trainRuns (lane station serial : Nat) : List LaneRun :=
  .symbols .idle 2048 ::
    (List.replicate 64 [LaneRun.symbols .train 1, .bytes (le 1 lane ++ le 1 station ++ le 1 serial)]).flatten

/-- A lane that launches a frame or a symbol of its own. -/
def Lane.launch (k : LaneSymbol) (runs : List LaneRun) (l : Lane) : Lane := { l with last := k, sent := runs }

/-- A lane's header and blocks of a sweep frame, between SOF and EOF (R101 to R103). -/
def laneFrame (g : LegPixel) (px : Pixel) (d : Decoder) (f : SweepFrame) (k : Int) (lane : Nat) : List Byte :=
  let slots := g.emitters / 4
  let blocks := (d.lineLength + 19) / 20
  let header := le 2 f.sweep.toNat ++ le 1 (f.facet % 16 + 16 * b2n f.first + 32 * b2n f.last) ++
    le 1 (slots + 16 * lane) ++ le 1 f.probe ++ le 1 (f.trimEmitter + 32 * b2n f.trimValid) ++
    le 1 (twos 8 f.trimValue) ++ le 1 f.job
  let body := (List.range blocks).flatMap fun b => (List.range slots).flatMap fun j =>
    le 1 (j + 16 * ((b * slots + j) % 16)) ++
      packCodes ((List.range 20).map fun i => cellCode g px d k (4 * j + lane) (20 * b + i))
  header ++ body

/-- The station's facet count F (R1, R121). The manual names no legend field that holds it; the model keeps it in the station's polygon
set (DESIGN CHOICE, log entry 129). -/
def State.facets (s : State) (x : Fin 6) : Nat := s.legend.polygons[x].facets

/-- The frame of sweep `k` (R101 to R103, R529): its facet the one expected after the latest bearing stamped, its probe the next
emitter, its trim the update that falls to it. Without an update TRIM_EMITTER and TRIM_VALUE are 0 (DESIGN CHOICE, log entry 131). -/
def State.buildFrame (s : State) (x : Fin 6) (job : Nat) (k : Int) : SweepFrame :=
  let px := s.pixels[x]
  let g := s.legPixel x
  let u := px.updates.find? fun u => u.sweep == k
  let f : SweepFrame :=
    { job := job, sweep := k - px.k0, first := k == px.k0, last := k == px.k1,
      facet := (s.scan.stations[x].stampFacet + 1) % max 1 (s.facets x), probe := px.nextProbe, lineLength := s.decoders[x].lineLength,
      trimEmitter := (u.map (·.emitter)).getD 0, trimValid := u.isSome, trimValue := (u.map (·.value)).getD 0 }
  { f with data := Vector.ofFn fun l => laneFrame g px s.decoders[x] f k l.val }

/-- Ring slots whose lines lie below kE − B− are released at the start of sweep k (R70). -/
def Decoder.releaseBelow (bound : Int) (d : Decoder) : Decoder :=
  let ring := mapV (fun r => if r.tag != .free && (r.line : Int) < bound then {} else r) d.ring
  { d with
    ring := ring
    state := if d.state == .ringFull && anyV (fun r => r.tag == .free) ring then .decoding else d.state }

/-- An uncorrectable ring codeword found by the path: charged once per line (R84). -/
def State.ringUncorrectable (x : Fin 6) (line : Nat) (s : State) : State :=
  let s' := s.modDecoder x fun d => { d.latch .ringRs line with ringUncorr := satAdd 16 d.ringUncorr 1 }
  if s.pixels[x].ringErrLines.contains line then s'
  else (s'.raise .ringRsUncorr x.val).modPixel x fun p => { p with ringErrLines := line :: p.ringErrLines }

/-- The physical lanes that carry logical lanes, changed by `f`, which is given the logical lane (R101, R113). -/
def Pixel.mapped (f : Nat → Lane → Lane) (p : Pixel) : Pixel :=
  { p with lanes := (List.range 4).foldl (fun v l => modN v (getN p.map l 0) (f l)) p.lanes }

/-- SWEEP_FRAME_START (R82, R86, R101): the frame of the next sweep starts at XSYNC(k−1), or at the meridian for the
first sweep. `corrected` ring codewords were corrected; `bad` are the lines with an uncorrectable one. -/
def execSweepFrameStart (x : Fin 6) (corrected : Nat) (bad : List Nat) (s : State) :
    Host.Outcome State Fault Refusal :=
  let px := s.pixels[x]
  match px.job with
  | none => live s s
  | some job =>
    let g := s.legPixel x
    let ok := px.state == .framing && px.frame.isNone && px.k ≤ px.k1 &&
      (px.k == px.k0 || px.exposing == some (px.k - 1))
    liveIf ok s <|
      let f := s.buildFrame x job px.k
      let s := s.modPixel x fun p => { p.mapped (fun l => Lane.launch .sof [.symbols .sof 1, .bytes (getN f.data l [])]) with
        frame := some f, nextProbe := (p.nextProbe + 1) % g.emitters,
        updates := p.updates.filter fun u => u.sweep != px.k }
      let s := s.modDecoder x fun d => (d.releaseBelow (px.k * g.emitters - bMinusOf g))
      let s := (s.modDecoder x fun d => { d with ringCorr := satAdd 16 d.ringCorr corrected }).raiseIf
        (0 < corrected) .ringRsCorr x.val
      s.each bad (State.ringUncorrectable x)

/-- The lines of a stream of `lines` lines that sweep `k` writes (R86). -/
def sweepLines (g : LegPixel) (lines : Nat) (k : Int) : List Nat :=
  (List.range g.emitters).filterMap fun e =>
    let l := k * g.emitters + (nth g.stagger e 0 : Nat)
    if 0 ≤ l ∧ l < lines then some l.toNat else none

/-- SWEEP_FRAME_COMPLETE (R45, R82, R99): EOF and CRC-8 are sent on every active lane; the sweep's lines count as
emitted, its trim update is taken, and after the last sweep the station has emitted its last line (R21). -/
def execSweepFrameComplete (x : Fin 6) (s : State) : Host.Outcome State Fault Refusal :=
  let px := s.pixels[x]
  match px.frame with
  | none => live s s
  | some f =>
    let g := s.legPixel x
    let lines := ((s.jobOf f.job).map (·.lines x.val)).getD 0
    let ls := sweepLines g lines px.k
    let zeroed := (ls.filter fun l => s.decoders[x].replacedLines.contains l).length
    let finish (l : Nat) (k : Lane) : Lane :=
      k.launch .eof (k.sent ++ [.symbols .eof 1, .bytes (le 1 (crc8 (getN f.data l [])))])
    let s := s.modPixel x fun p => { p.mapped finish with
      frame := none, ready := some f, frames := wrapAdd 16 p.frames 1, k := p.k + 1,
      trims := if f.trimValid then modN p.trims f.trimEmitter fun _ => f.trimValue else p.trims }
    let s := s.modJob f.job fun j => { j with
      emitted := modN j.emitted x.val (· + ls.length), replaced := modN j.replaced x.val (· + zeroed),
      stationEnd := modN j.stationEnd x.val (· || f.last),
      flags := { j.flags with linesReplaced := j.flags.linesReplaced || 0 < zeroed } }
    if f.last then live s ((s.modDecoder x Decoder.release).imagingDone f.job) else live s s

/-- One PXA cycle of the datum line's walk: segment changes and the trim move the target, the line follows by at most
one tap in any two cycles (R89, R90). The state is (accumulator, target, phase, steps, cycles until a step may come). -/
def walkCycle (trim : Int) (move : Nat → Int) (w : Nat × Int × Int × Nat × Nat) (c : Nat) : Nat × Int × Int × Nat × Nat :=
  let (acc, target, phase, steps, rest) := w
  let acc := acc + 2 * trim.natAbs
  let target := target + move c + (if 1024 ≤ acc then trim.sign else 0)
  let acc := if 1024 ≤ acc then acc - 1024 else acc
  if rest = 0 ∧ phase ≠ target then (acc, target, phase + (target - phase).sign, steps + 1, 1)
  else (acc, target, phase, steps, rest - 1)

/-- What a segment boundary adds to the target in the cycle at which its first cell begins (R88, R89). -/
def bowMove (g : LegPixel) (p c : Nat) : Int :=
  (List.range 63).foldl (fun t i =>
    if (i + 1) * segLen p < p ∧ cellEdge g.cellQ ((i + 1) * segLen p) = c then t + (nth g.bowShift (i + 1) 0 - nth g.bowShift i 0)
    else t) 0

/-- The walk over the whole exposure span from a phase: the final target and phase, and the steps taken (R89, R90). -/
def datumWalk (g : LegPixel) (p facet : Nat) (phase : Int) : Int × Int × Nat :=
  let w := (List.range (cellEdge g.cellQ p)).foldl (walkCycle (nth g.facetTrim facet 0) (bowMove g p)) (0, phase, phase, 0, 0)
  (w.2.1, w.2.2.1, w.2.2.2.1)

/-- XSYNC_EXPOSURE (R83, R89, R90, R106, R112): XSYNC(k) begins the exposure of the sweep whose frame is complete; the
datum line stands at the first-cell phase φ_k and walks through the exposure of that frame's line length; the module's bearing
source goes off at the job's first XSYNC, and BD_ON is due after the LAST sweep. -/
def execXsyncExposure (x : Fin 6) (s : State) : Host.Outcome State Fault Refusal :=
  let px := s.pixels[x]
  let st := s.scan.stations[x]
  match px.ready, st.phi with
  | some f, some phi =>
    let (target, phase, steps) := datumWalk (s.legPixel x) f.lineLength st.phiFacet phi
    let s := s.modPixel x fun p => { p with
      ready := none, exposing := some (f.sweep + p.k0), phase := phase, target := target, steps := steps,
      bdSource := if f.first then false else p.bdSource, bdWaitLast := p.bdWaitLast || f.last }
    let near (t : ScanStation) (v : Int) : Int := if (v - t.tick).natAbs ≤ (v - t.nextTick).natAbs then t.tick else t.nextTick
    let off : Int := 128 * (s.legend.scan.stations[x].xOff : Nat)
    live s (s.modScan fun c => { c with stations := modN c.stations x.val fun t =>
      { t with
        datumSteps := wrapAdd 32 t.datumSteps steps, phi := none, tap := (phase % 128).toNat,
        resid := phi - off - near t (phi - off) } })
  | _, _ => live s s

/-- A trim adjusted toward the target amplitude (R96): up below the deadband, down above it. -/
def adjustTrim (g : LegPixel) (target amp : Nat) (trim : Int) : Int :=
  let next :=
    if 256 * amp < target * (256 - g.fastDeadband) then trim + 1
    else if target * (256 + g.fastDeadband) < 256 * amp then trim - 1
    else trim
  clampI (max (-128) (-(g.trimLimit : Int))) (min 127 (g.trimLimit : Int)) next

/-- PROBE_SAMPLE (R96): the amplitude of the probe emitter of the frame that awaits its XSYNC, or none when it is
missing. The update goes with frame k+2. -/
def execProbeSample (x : Fin 6) (amp : Option Nat) (s : State) : Host.Outcome State Fault Refusal :=
  let px := s.pixels[x]
  match px.ready with
  | none => live s s
  | some f =>
    let g := s.legPixel x
    let t := nth g.fastTarget f.probe 0
    match amp with
    | none => live s (s.raiseD .pixProbeAmp x.val (le 1 f.probe))
    | some a =>
      let s := s.modPixel x fun p => { p with lastAmp := a, lastProbe := f.probe }
      if 4 * a < t ∨ 4 * t < a then live s (s.raiseD .pixProbeAmp x.val (le 1 f.probe))
      else
        let old := getN px.trims f.probe 0
        let new := adjustTrim g t a old
        if !g.fastEnable || new == old then live s s
        else
          let s := s.modPixel x fun p => { p with
            updates := p.updates ++ [{ emitter := f.probe, value := new, sweep := f.sweep + px.k0 + 2 }] }
          if new.natAbs = g.trimLimit then live s (s.raiseD .pixTrimLimit x.val (le 1 f.probe)) else live s s

/-- SLOW_LOOP_SAMPLE (R97): the surface potential of a track, in volts, once per drum revolution. -/
def execSlowLoopSample (x : Fin 6) (track : Fin 4) (volts : Int) (s : State) : Host.Outcome State Fault Refusal :=
  let g := s.legPixel x
  let px := s.pixels[x]
  let aim := (nth g.slowTarget px.expoSet 0).natAbs
  let old := px.offsets[track]
  let moved := if aim + g.slowBand < volts.natAbs then old + 1
    else if volts.natAbs + g.slowBand < aim then old - 1 else old
  let lim : Int := g.slowLimit
  let new := clampI (max (-16) (-lim)) (min 15 lim) moved
  let held := new == max (-16) (-lim) || new == min 15 lim
  let runs := if held then min 16 (px.clampRevs[track] + 1) else 0
  liveIf (g.slowEnable && track.val < g.tracks && s.islandsUp) s <|
    (s.modPixel x fun p => { p with
      offsets := p.offsets.set track.val new, clampRevs := p.clampRevs.set track.val runs }).raiseIf
      (runs == 16 && px.clampRevs[track] != 16) .pixSurface x.val

/-- The configuration block of a physical lane (R109): its logical lane, and SPARE for L4 that carries one. A lane that carries none
has MAP 0 (DESIGN CHOICE, log entry 131). -/
def configBlock (g : LegPixel) (px : Pixel) (lane : Nat) (spareFor : Option Nat) : List Byte :=
  let logical := match spareFor with
    | some l => l
    | none => (px.map.toList.findIdx? (· == lane)).getD 0
  let spare := lane == 4 && (spareFor.isSome || px.map.toList.contains 4)
  le 1 1 ++ le 1 g.emitters ++ le 1 (logical % 4) ++ le 1 (b2n spare) ++ le 2 g.cellQ ++ le 2 g.probeCode ++
    ((List.range 32).flatMap fun e => le 2 (if e < g.emitters then nth g.emitDelay e 0 else 0)) ++
    ((List.range 32).flatMap fun e => le 1 (if e < g.emitters then twos 8 (getN px.trims e 0) else 0)) ++ le 2 0

/-- A configuration frame on every trained lane of a station (R98, R109, R113 step 2). -/
def State.sendConfig (x : Fin 6) (s : State) : State :=
  let g := s.legPixel x
  s.modPixel x fun p => { p with lanes := mapIdxV (fun i l =>
    let block := configBlock g p i none
    if l.state = .trained then { l.launch .soc (configRuns block) with config := block } else l) p.lanes }

/-- One Jenzan report to a lane under training (R108): the step passes, waits, or at its third poll fails; a failed step
begins the next attempt, and the third failed attempt leaves the lane FAILED. -/
def Lane.report (lane station serial : Nat) (config : List Byte) (r : LaneReport) (l : Lane) : Lane :=
  if l.state != .training then l
  else
    let good := match l.step with
      | .lock => r.lock && r.id == lane
      | .config => r.crc == crc8 config
    if good then
      match l.step with
      | .lock => { l.launch .soc (configRuns config) with step := .config, polls := 0, config := config }
      | .config => { l with state := .trained, pending := false, marked := false, polls := 0, last := .idle }
    else if l.polls < 2 then { l with polls := l.polls + 1 }
    else if l.attempts < 3 then
      { l.launch .train (trainRuns lane station serial) with step := .lock, polls := 0, attempts := l.attempts + 1 }
    else { l with state := .failed, pending := false, polls := 0, marked := true, last := .idle }

/-- A lane's training, begun or gone on with, under the reports of successive polls (R108). -/
def Lane.train (lane station serial : Nat) (config : List Byte) (reports : List LaneReport) (l : Lane) : Lane :=
  let l := if l.state = .training then l
    else { l.launch .train (trainRuns lane station serial) with state := .training, attempts := 1, step := .lock, polls := 0 }
  reports.foldl (fun l r => l.report lane station serial config r) l

/-- PX_STATUS STATE of a station that runs no sweep: TRAINING while a lane trains, unless a force-off holds it (R117). -/
def Pixel.rest (p : Pixel) : PxState :=
  if p.state = .forcedOff then .forcedOff else if anyV (fun l => l.state == .training) p.lanes then .training else .idle

/-- LANE_TRAINING (R108, R109): at a layer boundary a lane whose training is due runs through the reports of successive
Jenzan polls; three failed attempts raise LANE_x.TRAIN. -/
def execLaneTraining (x : Fin 6) (lane : Fin 5) (reports : List LaneReport) (s : State) :
    Host.Outcome State Fault Refusal :=
  let px := s.pixels[x]
  let cfg := configBlock (s.legPixel x) px lane.val none
  let l := px.lanes[lane].train lane.val x.val px.moduleSerial cfg reports
  liveIf (s.boundary && px.lanes[lane].pending) s <|
    let s := s.modPixel x fun p =>
      let p := { p with lanes := p.lanes.set lane.val l }
      { p with state := p.rest }
    s.when (l.state == .failed) (·.raiseD .laneTrain x.val (le 1 lane.val))

/-- The first logical lane, in order, whose physical lane is marked for replacement (R113). -/
def Pixel.markedLogical (p : Pixel) : Option Nat :=
  (List.range 4).find? fun l => (getN p.lanes (getN p.map l 0) {}).marked

/-- The spare takes over a marked lane at a boundary (R113): L4 is trained under its reports, every lane gets the new
map, the swap is raised and logged. -/
def State.swapLane (x : Fin 6) (reports : List LaneReport) (s : State) : State :=
  let px := s.pixels[x]
  let g := s.legPixel x
  match px.markedLogical with
  | none => s
  | some l =>
    if !px.spareFree || !g.spareEnable || px.lanes[4].state == .failed then s
    else
      let old := getN px.map l 0
      let lane := px.lanes[4].train 4 x.val px.moduleSerial (configBlock g px 4 (some l)) reports
      let s := s.modPixel x fun p =>
        let p := { p with lanes := p.lanes.set 4 lane }
        { p with state := p.rest }
      if lane.state = .trained then
        let s := (s.modPixel x fun p => { p with
          map := modN p.map l fun _ => 4, spareFree := false,
          lanes := modN p.lanes old fun k => { k with marked := false, state := .down } }).sendConfig x
        let s := s.modSurvey fun v => { v with record := { v.record with
          lanes := v.record.lanes.set x.val (some l), laneSerial := v.record.laneSerial.set x.val px.moduleSerial } }
        (s.raiseD .laneSpareUsed x.val (le 1 old)).spareLog 5 x.val l
      else s.when (lane.state == .failed) (·.raiseD .laneTrain x.val (le 1 4))

/-- One station's part of a force-off (R110, R111): FORCE_OFF on all five lanes, the frame cut with its update, a
training restarted from its first step, both frame buffers and the bearing source of the module off. -/
def Pixel.forceOff (src : ForceSource) (p : Pixel) : Pixel :=
  { p with
    state := .forcedOff, forced := true, bdSource := false, bdWaitLast := false, frame := none, ready := none,
    exposing := none, forceCount := satAdd 16 p.forceCount 1, forceSource := src,
    lanes := mapV (fun l => { l.launch .forceOff [.symbols .forceOff 16] with step := .lock, polls := 0 }) p.lanes }

/-- FORCE_OFF on every lane of all six stations (R43 step 2, R111). -/
def State.forceLanes (src : ForceSource) (s : State) : State := s.allPixels (Pixel.forceOff src)

/-- Step 5 of R43: station engines stop, decoders stop and their rings are released, meridian entries of unstarted
stations are disabled (R74). -/
def State.stopStations (s : State) : State :=
  let s := (s.allPixels fun p => { p with job := none }).allDecoders Decoder.stop
  s.modPosition fun p => { p with
    meridians := mapV (fun m => if m.state = .armed then { m with state := .disabled } else m) p.meridians }

/-- BD_ON (R112): on every trained lane, after a force-off once LSAFE_N is deasserted and the aborted job has ended, or
after the exposure of the sweep whose frame carried LAST. A station without a trained lane cannot send it. -/
def execBdOn (x : Fin 6) (s : State) : Host.Outcome State Fault Refusal :=
  let px := s.pixels[x]
  let lit := anyV (fun l => l.state == .trained) px.lanes
  liveIf (lit && ((px.forced && s.faults.lsafe && !s.layer.abortRunning) || (!px.forced && px.bdWaitLast))) s <|
    s.modPixel x fun p => { p with
      forced := false, bdWaitLast := false, bdSource := true,
      exposing := if p.bdWaitLast then none else p.exposing,
      state := if p.bdWaitLast || p.state == .forcedOff then { p with state := .idle }.rest else p.state,
      lanes := mapV (fun l => if l.state = .trained then l.launch .bdOn [.symbols .bdOn 1] else l) p.lanes }

/-- TRIM_SAVE (R98): at a layer end the trims are saved in MRAM under the driver module's serial number. -/
def execTrimSave (x : Fin 6) (s : State) : Host.Outcome State Fault Refusal :=
  let px := s.pixels[x]
  liveIf (s.boot.ready && px.moduleSerial != 0) s <|
    s.modBoot fun b => { b with
      savedTrims := (px.moduleSerial, px.trims.toList) :: b.savedTrims.filter fun p => p.1 != px.moduleSerial }

/-- The trims restored for a driver module: those saved under its serial number, otherwise TRIM_INIT (R98). -/
def State.restoreTrims (x : Fin 6) (serial : Nat) (s : State) : State :=
  let g := s.legPixel x
  let saved := ((s.boot.savedTrims.find? fun p => p.1 == serial).map Prod.snd).getD g.trimInit
  s.modPixel x fun p => { p with moduleSerial := serial, trims := Vector.ofFn fun i => nth saved i.val 0 }

end Sys2Proof.Machine
end

