-- ==== Sys2Proof/Machine/Records.lean ====
section
/-! DEFINITION. Records for the completion queues: how they are formed and how they wait (12 R358 to R363). Writing them
into host memory is CQ_RECORD_WRITE's. -/

namespace Sys2Proof.Machine

open Sys2Proof

/-- The kinds that R360 lets the device lose. -/
def isEventKind : RecordKind → Bool
  | .fault | .doorbell | .clock => true
  | _ => false

/-- Event records that wait, over all queues (R360). -/
def HostPort.eventsWaiting (h : HostPort) : Nat :=
  h.cqs.toList.foldl (fun n q => n + (q.waiting.filter fun r => isEventKind r.kind && !r.dma).length) 0

/-- One completion queue changed. -/
def State.modCq (n : Nat) (f : CompQueue → CompQueue) (s : State) : State :=
  s.modHost fun h => { h with cqs := modN h.cqs n f }

/-- A record offered to a queue, where it waits in order; an event record beyond the 64 that may wait is lost (R359,
R360). -/
def State.offer (n : Nat) (r : Held) (s : State) : State :=
  let r := { r with sinceUs := s.timeUs }
  if isEventKind r.kind && !r.dma && decide (64 ≤ s.host.eventsWaiting) then
    (s.modHost fun h => { h with eventsLost := satAdd 16 h.eventsLost 1 }).raise .hostEventLost 0
  else s.modCq n fun q => { q with waiting := q.waiting ++ [r] }

/-- A record of this chapter with its body in bytes 16 to 63 (R362). -/
def State.record (n : Nat) (kind : RecordKind) (seq : Nat) (body : List Byte) (s : State) : State :=
  s.offer n { kind := kind, seq := seq, body := padTo 48 body }

/-- A DOORBELL record: ring 0 LQ or 1 MQ, tail written, tail taken, reason (R362). -/
def State.doorRecord (ring tail taken : Nat) (reason : DoorReason) (s : State) : State :=
  s.record 0 .doorbell 0 (le 1 ring ++ le 1 tail ++ le 1 taken ++ le 1 reason.code)

/-- A CLOCK record (R362): a DEFERRED request became APPLIED, REFUSED or SUPERSEDED. -/
def State.clockRecord (st : ReqState) (r : FreqRequest) (s : State) : State :=
  s.record 0 .clock 0 (le 1 st.code ++ le 1 r.source.code ++ le 2 r.sigma)

/-- The queue that FAULT records go to (R346, R360). -/
def State.faultCq (s : State) : Nat :=
  let n := s.legend.faults.cq
  let q := getN s.host.cqs n {}
  if q.enable && !q.slot64 then 0 else n

/-- A COMMAND record in a queue: opcode, status, tag, result (R362). -/
def State.commandRecord (cq opcode tag : Nat) (st : MqStatus) (result : List Byte) (s : State) : State :=
  s.record cq .command 0 (le 2 opcode ++ le 2 st.code ++ le 4 tag ++ padTo 8 result)

/-- The queue of a command's COMMAND record: the one it names, or CQ0 for a 16-byte or absent one (R364). -/
def State.commandCq (s : State) (cq : Nat) : Nat :=
  let q := getN s.host.cqs cq {}
  if 14 ≤ cq ∨ (q.enable ∧ !q.slot64) then 0 else cq

/-- A taken command completes with a status and a result (R365). -/
def State.complete (h : MqHeader) (opcode : Nat) (st : MqStatus) (result : List Byte) (s : State) : State :=
  s.commandRecord (s.commandCq h.cq) opcode h.tag st result

end Sys2Proof.Machine
end

