-- ==== Sys2Proof/Machine/Motion.lean ====
section
/-! DEFINITION. Servos, steppers and the motor bus: trajectories, the carriage through the nip, homing, coasting, the
brake chopper (08_motion R241 to R268, R528; 07 R212). -/

namespace Sys2Proof.Machine

open Sys2Proof

/-- One servo changed by `f`: 0 belt, 1 carriage, 2 roller (R241). -/
def State.modServo (a : Nat) (f : Servo → Servo) (s : State) : State :=
  s.modMotion fun m => { m with servos := modN m.servos a f }

/-- One stepper channel changed by `f`: 0–3 Z0–Z3, 4–9 F0–F5 (R241). -/
def State.modStepper (n : Nat) (f : Stepper → Stepper) (s : State) : State :=
  s.modMotion fun m => { m with steppers := modN m.steppers n f }

/-- The motor bus changed by `f`. -/
def State.modBus (f : Bus → Bus) (s : State) : State := s.modMotion fun m => { m with bus := f m.bus }

/-- A servo's legend fields. -/
def State.legServo (s : State) (a : Nat) : LegServo := getN s.legend.motion.servos a {}

/-- A stepper's legend fields. -/
def State.legStepper (s : State) (n : Nat) : LegStepper := getN s.legend.motion.steppers n {}

/-- The measured position of a servo at MOTN cycle `t`, scaled: belt travel, or the axis counter of carriage or roller; a quadrature
input is interpolated (R158, R159, R215, R241). -/
def State.servoPosAt (s : State) (a t : Nat) : Int :=
  if a = 0 then s.travelAt t * 65536
  else
    let g := getN s.legend.position.axes (a - 1) {}
    let part := if g.source = .enc then (getN s.position.encoders g.input {}).ahead t else 0
    (getN s.position.axes (a - 1) {}).position * 16777216 + part * 65536

/-- The measured position of a servo at the latest MOTN cycle seen. -/
def State.servoPos (s : State) (a : Nat) : Int := s.servoPosAt a s.position.motn

/-- The count that commutates a servo at MOTN cycle `t`: its position source's, or that of the quadrature input which the legend names
(R243). -/
def State.commCount (s : State) (a t : Nat) : Int :=
  match (s.legServo a).commInput with
  | some e => (getN s.position.encoders e {}).count
  | none => (s.servoPosAt a t).fdiv 16777216

/-- The belt speed σ × f_L1 × K in counts per second, scaled (R119, R246). -/
def beltSpeed (g : LegScan) (sigma : Nat) : Nat := g.lineRate * g.kq * sigma * profQ / (1000 * 256 * 4096)

/-- How far the belt's set-point has advanced after `n` POS periods at process speed, scaled: exactly σ × f_L1 × K counts per second
(R246). -/
def beltAdvance (g : LegScan) (sigma n : Nat) : Nat := g.lineRate * g.kq * sigma * n * profQ / (1000 * 256 * 4096 * 5000)

/-- The carriage speed v_s = G × σ × f_L1 × K, scaled (R249). -/
def State.carrSpeed (s : State) : Nat :=
  beltSpeed s.legend.scan s.scan.sigma * s.legend.motion.gearN / s.legend.motion.gearM

/-- APPROACH_COUNTS in belt counts (R249). -/
def State.approachCounts (s : State) : Nat :=
  (s.legend.motion.approachLead * beltSpeed s.legend.scan s.scan.sigma + 500 * profQ) / (1000 * profQ)

/-- T_a of the approach, scaled, 0 where the legend breaks R252 (R249). -/
def State.approachTime (s : State) : Nat :=
  let m := s.legend.motion
  let v := s.carrSpeed
  let l := (m.carrNipPos - m.carrStart).natAbs * profQ
  2 * (m.approachLead * profQ / 1000 - (if v = 0 then 0 else l * profQ / v))

/-- The gear relation at travel `t` in 1/256 count, scaled (R248). -/
def State.gearPos (s : State) (origin t : Int) : Int :=
  let m := s.legend.motion
  m.carrNipPos * 16777216 + ((t - origin) * m.gearN * 65536).fdiv m.gearM

/-- A trajectory's position, velocity and acceleration at a time, and whether it has ended (all scaled). -/
abbrev TrajPoint := Int × Int × Int × Bool

/-- A jerk-limited velocity ramp (R245). -/
def evalRamp (j : Traj) (t : Nat) : TrajPoint :=
  let dv := j.v1 - j.v0
  let pos (u : Nat) : Int := j.start + (j.v0 * u).fdiv profQ + dv.sign * (rampPos j.apk j.tj dv.natAbs u : Nat)
  if j.total ≤ t then (pos j.total + (j.v1 * (t - j.total : Nat)).fdiv profQ, j.v1, 0, true)
  else (pos t, j.v0 + dv.sign * (rampVel j.apk j.tj dv.natAbs t : Nat), dv.sign * (rampAcc j.apk j.tj dv.natAbs t : Nat), false)

/-- A position move by the curve of R222 under the axis limits (R245). -/
def evalMove (g : LegServo) (j : Traj) (t : Nat) : TrajPoint :=
  let d := j.dist.natAbs
  let v := fitSpeed d g.vMax g.aMax g.jMax 56 0
  let (tAcc, dAcc) := accelOf v g.aMax g.jMax
  let cruise := if v = 0 then 0 else (d - 2 * dAcc) * profQ / v
  let total := 2 * tAcc + cruise
  let (a, tj) := (peakOf v g.aMax g.jMax).getD (0, 0)
  let sg := j.dist.sign
  if v = 0 ∨ total ≤ t then (j.start + j.dist, 0, 0, true)
  else if t < tAcc then
    (j.start + sg * (rampPos a tj v t : Nat), sg * (rampVel a tj v t : Nat), sg * (rampAcc a tj v t : Nat), false)
  else if t ≤ tAcc + cruise then (j.start + sg * ((dAcc + v * (t - tAcc) / profQ : Nat) : Int), sg * (v : Int), 0, false)
  else
    (j.start + j.dist - sg * (rampPos a tj v (total - t) : Nat), sg * (rampVel a tj v (total - t) : Nat),
      -sg * (rampAcc a tj v (total - t) : Nat), false)

/-- The peak deceleration of a stop from speed `v` and acceleration `a0` along the motion (R245). -/
def stopPeak (aStop jStop : Nat) (v : Nat) (a0 : Int) : Nat :=
  let jv := jStop * v * profQ + (a0 * a0).toNat / 2
  max (min (aStop * profQ) (isqrt jv)) (-a0).toNat

/-- A stop by the stop limits from the velocity and acceleration it found; it never reverses (R245). -/
def evalStop (g : LegServo) (j : Traj) (t : Nat) : TrajPoint :=
  let sg : Int := if j.v0 < 0 then -1 else 1
  let v0 := j.v0.natAbs
  let a0 := sg * j.a0
  let p := stopPeak g.aStop g.jStop v0 a0
  let js : Nat := max 1 g.jStop
  let t1 := ((a0 + p).toNat) / js
  let v1 : Int := v0 + ((a0 - p) * t1).fdiv (2 * profQ)
  let vEnd := p * (p / js) / (2 * profQ)
  let t2 := if p = 0 then 0 else (v1 - vEnd).toNat * profQ / p
  let x1 (u : Nat) : Int := (v0 * u / profQ : Nat) + (a0 * u).fdiv profQ * u / (2 * profQ) -
    ((js * u * u / profQ * u / (6 * profQ) : Nat) : Int)
  let x2 (u : Nat) : Int := (v1 * u).fdiv profQ - ((p * u / profQ * u / (2 * profQ) : Nat) : Int)
  let t3 := p / js
  let x3 (u : Nat) : Int := (vEnd * u / profQ : Nat) - ((p * u / profQ * u / (2 * profQ) : Nat) : Int) +
    ((js * u * u / profQ * u / (6 * profQ) : Nat) : Int)
  if t1 + t2 + t3 ≤ t then (j.start + sg * (x1 t1 + x2 t2 + x3 t3), 0, 0, true)
  else if t < t1 then
    (j.start + sg * x1 t, sg * max 0 ((v0 : Int) + (a0 * t).fdiv profQ - ((js * t * t / (2 * profQ) : Nat) : Int)),
      sg * (a0 - ((js * t : Nat) : Int)), false)
  else if t < t1 + t2 then
    let u := t - t1
    (j.start + sg * (x1 t1 + x2 u), sg * max 0 (v1 - ((p * u / profQ : Nat) : Int)), -sg * (p : Int), false)
  else
    let u := t - t1 - t2
    (j.start + sg * (x1 t1 + x2 t2 + x3 u),
      sg * max 0 ((vEnd : Int) - ((p * u / profQ : Nat) : Int) + ((js * u * u / (2 * profQ) : Nat) : Int)),
      -sg * ((p : Int) - ((js * u : Nat) : Int)), false)

/-- The carriage approach: from rest to v_s over T_a with jerk phases of T_a / 4 (R249). -/
def evalApproach (j : Traj) (t : Nat) : TrajPoint :=
  let v := j.v1.natAbs
  let u := min t j.total
  let run := v * (t - u) / profQ
  (j.start + j.v1.sign * ((rampPos j.apk j.tj v u + run : Nat) : Int), j.v1.sign * (rampVel j.apk j.tj v u : Nat),
    j.v1.sign * (rampAcc j.apk j.tj v u : Nat), j.total ≤ t)

/-- A stop at CARR_ABORT_DEC with no jerk limit (R252). -/
def evalLinear (dec : Nat) (j : Traj) (t : Nat) : TrajPoint :=
  let sg : Int := if j.v0 < 0 then -1 else 1
  let v := j.v0.natAbs
  let total := v / max 1 dec
  let u := min t total
  let x : Nat := v * u / profQ - dec * u / 2 * u / profQ
  if total ≤ t then (j.start + sg * (x : Int), 0, 0, true)
  else (j.start + sg * (x : Int), sg * ((v - dec * t : Nat) : Int), -sg * ((dec * profQ : Nat) : Int), false)

/-- A move at a constant speed, the separation after an abort in the nip (R252). -/
def evalConst (j : Traj) (t : Nat) : TrajPoint :=
  let d := j.v0.natAbs * t / profQ
  if j.dist.natAbs ≤ d then (j.start + j.dist, 0, 0, true) else (j.start + j.dist.sign * (d : Int), j.dist.sign * j.v0.natAbs, 0, false)

/-- A trajectory at its next POS instant (R245, R249, R252). -/
def State.evalTraj (s : State) (a : Nat) (j : Traj) (periods : Nat) : TrajPoint :=
  let t := periods * profQ / 5000
  match j.kind with
  | .none | .gear => (j.start, 0, 0, false)
  | .line => (j.start + beltAdvance s.legend.scan s.scan.sigma periods, j.v1, 0, false)
  | .ramp => evalRamp j t
  | .move => evalMove (s.legServo a) j t
  | .stop => evalStop (s.legServo a) j t
  | .approach => evalApproach j t
  | .linearStop => evalLinear s.legend.motion.abortDec j t
  | .separate => evalConst j t

/-- A velocity change from v0 to v1 under the axis limits (R245). -/
def rampTraj (g : LegServo) (start v0 v1 : Int) : Traj :=
  let dv := (v1 - v0).natAbs
  let a := min (g.aMax * profQ) (isqrt (dv * g.jMax * profQ))
  let tj := a / max 1 g.jMax
  { kind := .ramp, start := start, v0 := v0, v1 := v1, apk := a, tj := tj,
    total := (if a = 0 then 0 else dv * profQ / a) + tj }

/-- A position move (R245). -/
def moveTraj (start target : Int) (goal : MoveGoal) : Traj :=
  { kind := .move, start := start, dist := target - start, goal := goal }

/-- A stop by the stop limits begins from the trajectory's present velocity and acceleration (R245). -/
def Servo.beginStop (v : Servo) : Servo :=
  { v with
    mode := .stopping, traj := { kind := .stop, start := v.sp, v0 := v.vff, a0 := v.aff, goal := v.traj.goal },
    lastStop := v.stopDue, stopDue := .none, retimed := false, atRest := false, homePhase := 0 }

/-- A stop asked for; it takes the place of the trajectory at the next POS instant (R245). -/
def Servo.askStop (kind : LastStop) (v : Servo) : Servo :=
  match v.mode with
  | .move | .velocity | .geared => { v with stopDue := kind, atRest := false }
  | _ => v

/-- The bridge off: the axis coasts (R260, R261). -/
def Servo.coast (nowUs : Nat) (v : Servo) : Servo :=
  if v.mode = .off then v
  else { v with
    mode := .coast, traj := {}, stopDue := .none, lastStop := .coast, retimed := false, remainUs := 0, vff := 0, aff := 0,
    atRest := false, restUs := nowUs, trackRun := 0, homePhase := 0 }

/-- A servo's loops stop: nothing drives its bridge (R209, R242). -/
def State.stopServoLoops (a : Nat) (s : State) : State :=
  s.each [44 + 3 * a, 45 + 3 * a, 46 + 3 * a] fun n s => s.modLoop n fun l =>
    { l with running := false, next := none, inBand := false, bandRun := 0 }

/-- Loops of a servo that the legend enables begin to run (R209, R242). -/
def State.beginLoops (ns : List Nat) (s : State) : State :=
  s.each ns fun n s => s.when (s.legLoop n).enable (·.modLoop n Loop.begin)

/-- One servo's bridge off; a coasting carriage no longer follows the gear relation (R261). -/
def State.coastServo (a : Nat) (s : State) : State :=
  let t := s.timeUs
  let s := s.modServo a (Servo.coast t)
  (s.stopServoLoops a).when (a == 1) (·.modMotion fun m => { m with
    carrPhase := if m.carrPhase = .atStart then .atStart else .away })

/-- Whether a drive turns or tests its rotor: a bus above V2 or a halted engine makes it coast (R205, R212). -/
def Polygon.driven (p : Polygon) : Bool :=
  match p.state with
  | .align | .openLoop | .observer | .bearing | .recatch | .stopping => true
  | _ => false

/-- The gates off: nothing commutates, no reference moves, and θ_obs − θ_bd is shown in BEARING only (R183, R206, R208). -/
def Polygon.gatesOff (p : Polygon) : Polygon :=
  { p with
    gates := false, source := .none, phaseLock := false, ramping := false, iqRef := 0, blend := 0, diff := 0, tickDue := false,
    alignRun := false, offUs := none, speedRaised := false }

/-- A polygon's gates off into COAST, where they were driven (R200, R205, R212). -/
def Polygon.coast (nowUs : Nat) (p : Polygon) : Polygon :=
  if p.driven then { p.gatesOff with state := .coast, coastUs := nowUs, toListen := false } else p

/-- A phase whose bridge is off: slow decay is passed, both inputs stand at 1 (R253, R258; log entry 159). -/
def ChopperPhase.bridgeOff (c : ChopperPhase) : ChopperPhase :=
  { c with phase := .idle, current := 0, nextCurrent := 0, dac := 0, in1 := true, in2 := true }

/-- A stepper's bridges off: slow decay, then off (R258). -/
def Stepper.bridgeOff (p : Stepper) : Stepper :=
  { p with state := .off, phaseA := p.phaseA.bridgeOff, phaseB := p.phaseB.bridgeOff }

/-- An immediate stop of a channel's steps (R258): uncertain when a step was due within the last 100 ms. -/
def State.stopStepper (n : Nat) (s : State) : State :=
  let p := getN s.motion.steppers n {}
  let now := s.timeUs
  let unsure := p.stepped && !s.elapsed p.dueUs 100001
  let s := s.modStepper n fun p => if p.state = .moving then { p with
      state := .idle, left := 0, settling := false, homing := false, backOff := false, goal := .none, segment := .start,
      stops := satAdd 16 p.stops 1, uncertain := p.uncertain || unsure, restUs := now }
    else { p with uncertain := p.uncertain || unsure }
  s.raiseIf (unsure && !p.uncertain) .stpUncertain n

/-- Whether the carriage is held locked to the belt inside a window (R180). -/
def State.carriageRun (s : State) : Bool :=
  s.windowOpen && (s.motion.carrPhase == .locked || s.motion.carrPhase == .inNip)

/-- An axis of the carriage, roller or Z axes moved to a true position: the lists on it see it move; a limit newly reached raises its
source and stops the axis (R158, R160, R180, R258, R260). -/
def State.moveAxis (i : Nat) (p : Int) (s : State) : State :=
  let g := getN s.legend.position.axes i {}
  let old := getN s.position.axes i {}
  let new := old.moveTo g (i != 1) p
  let hit := (new.atLo && !old.atLo) || (new.atHi && !old.atHi)
  let s := (s.modPosition fun q => { q with axes := modN q.axes i fun _ => new }).eachCompare fun l c =>
    if l.axis = some i then c.moved l old.position new.position else c
  s.when hit fun s =>
    if i = 0 then (s.modServo 1 (Servo.askStop .controlled)).raiseRun s.carriageRun .posCarrLimitRun .posCarrLimitIdle 0
    else (s.stopStepper (i - 2)).raise .posZLimit (i - 2)

/-- An axis counter set to a position by homing (R259). -/
def State.placeAxis (i : Nat) (p : Int) (s : State) : State :=
  let g := getN s.legend.position.axes i {}
  s.modPosition fun q => { q with axes := modN q.axes i (Axis.moveTo g (i != 1) p) }

/-- The position of a Z axis without an SSI source follows the step count of its channel (R155). -/
def State.countZ (n : Nat) (s : State) : State :=
  let p := (getN s.motion.steppers n {}).steps
  s.when (n < 4 && (getN s.legend.position.axes (2 + n) {}).source != .ssi) (·.moveAxis (2 + n) p)

/-- Every stepper channel stopped at once, keeping I_HOLD (R258). -/
def State.stopSteppers (s : State) : State := s.each (List.range 10) State.stopStepper

/-- The motion part of a Grave fault and of the start of DOWN or BROWNOUT (R258, R260): servos coast, steppers off, the
Z brakes engage. -/
def State.motionOff (s : State) : State :=
  let s := s.stopSteppers.each (List.range 3) State.coastServo
  s.modMotion fun m => { m with steppers := mapV Stepper.bridgeOff m.steppers, brakeReleased := false }

/-- Whether travel is at or beyond Ô, with the carriage locked and not separated (R44, R252). -/
def State.pressing (s : State) : Bool :=
  let origin := ((s.jobOf s.motion.carrJob).map (·.origin)).getD 0
  s.motion.carrPhase == .inNip || (s.motion.carrPhase == .locked && decide (origin ≤ s.travelNow))

/-- The carriage at rest at its start position, as measured (R28, R41, R249): within CARR_START_TOL of CARR_START, and not in a layer's
travel. -/
def State.carrAtStart (s : State) : Bool :=
  let m := s.legend.motion
  (s.motion.carrPhase == .atStart || s.motion.carrPhase == .away) && (getN s.motion.servos 1 {}).mode == .hold &&
    decide ((s.servoPos 1 - m.carrStart * 16777216).natAbs ≤ m.carrStartTol * 16777216)

/-- The carriage's part of an abort, by where it stands in the layer's travel (R44, R252). -/
def State.abortCarriage (s : State) : State :=
  let s := s.when s.pressing (·.modMotion fun m => { m with carrPhase := .inNip })
  match s.motion.carrPhase with
  | .approach | .locked =>
    (s.modServo 1 fun v => { v with
      mode := .stopping, lastStop := .abort, atRest := false, trackRun := 0,
      traj := { kind := .linearStop, start := v.sp, v0 := v.vff } }).modMotion fun m => { m with carrPhase := .away }
  | .inNip => s.modServo 1 fun v => { v with stopDue := .abort, atRest := false }
  | _ => s

/-- Step 6 of R43: the belt into its stop segment, the carriage by its phase (R44, R246, R252). -/
def State.abortMotion (s : State) : State := (s.modServo 0 (Servo.askStop .abort)).abortCarriage

/-- Whether the motor bus is in its normal band (R262). -/
def State.busNormal (s : State) : Bool :=
  let m := s.legend.motion
  10 * (m.vUv + 20) ≤ s.motion.bus.volt && s.motion.bus.volt ≤ 10 * (m.v1 - m.v1Hyst)

/-- Whether the regeneration clamp is active (R266). -/
def Bus.clamp (b : Bus) : Bool := b.chopFailed || b.chopHot

/-- The clamp put on every servo and polygon (R266, R204). -/
def State.clampOn (s : State) : State :=
  (s.modMotion fun m => { m with servos := mapV (fun v => { v with regen := true }) m.servos }).allPolygons fun p =>
    { p with regenClamp := true }

/-- The table current of a phase at an electrical position, in 1/4,095 of the channel's current (R254). -/
def phaseCurrent (shape : List Nat) (m : Nat) (phaseB : Bool) : Int :=
  let i := m % 256
  let t : Int := (nth shape i 0 : Nat)
  let u : Int := (nth shape (255 - i) 0 : Nat)
  match m / 256 % 4, phaseB with
  | 0, false => t
  | 0, true => u
  | 1, false => u
  | 1, true => -t
  | 2, false => -t
  | 2, true => -u
  | _, false => -u
  | _, true => t

/-- The comparator's threshold |I| × 255 / I_FS of a current in 1/4,095 mA, rounded to nearest, at most 255 (R253; log entry 159). -/
def comparatorDac (g : LegStepper) (current : Int) : Nat :=
  min 255 ((2 * 255 * current.natAbs + 4095 * g.iFs) / max 1 (2 * 4095 * g.iFs))

/-- The on-phase of a chopper begins at a MOTN cycle: the bridge drives in the sign of the next current, whose comparator threshold it
takes; a current of 0 stays in slow decay (R253, R255). -/
def ChopperPhase.turnOn (g : LegStepper) (cycle : Nat) (i : Int) (c : ChopperPhase) : ChopperPhase :=
  { c with
    phase := if i = 0 then .idle else .on, current := i, nextCurrent := i, dac := comparatorDac g i, since := cycle,
    in1 := 0 < i, in2 := i < 0 }

/-- The off-time of a chopper begins at a MOTN cycle: fast decay first, unless MIX is 0 or the regeneration clamp makes it so (R255). -/
def ChopperPhase.turnOff (g : LegStepper) (clamp : Bool) (cycle : Nat) (c : ChopperPhase) : ChopperPhase :=
  let fast := g.mix != 0 && !clamp
  { c with phase := if fast then .offFast else .offSlow, since := cycle, in1 := fast, in2 := fast }

/-- A chopper takes up a new current: from the next on-phase, or the off-time at once when its magnitude has fallen (R255). -/
def ChopperPhase.load (g : LegStepper) (clamp : Bool) (cycle : Nat) (current : Int) (c : ChopperPhase) : ChopperPhase :=
  if c.phase = .idle then c.turnOn g cycle current
  else if c.phase = .on ∧ current.natAbs < c.current.natAbs then { c.turnOff g clamp cycle with nextCurrent := current }
  else { c with nextCurrent := current }

/-- Both phases of a channel take up the currents of its electrical position, of I_RUN or, at rest after HOLD_DELAY, of I_HOLD (R254,
R255). -/
def Stepper.load (g : LegStepper) (clamp : Bool) (cycle : Nat) (p : Stepper) : Stepper :=
  let ma : Int := (if p.holdCurrent then g.iHold else g.iRun : Nat)
  { p with
    phaseA := p.phaseA.load g clamp cycle (phaseCurrent g.shape p.elec false * ma)
    phaseB := p.phaseB.load g clamp cycle (phaseCurrent g.shape p.elec true * ma) }

/-- A stepper move of `n` steps accepted at a MOTN cycle by a channel that is certain of its position; its first step is due DIR_SETUP
later (R256, R258). -/
def Stepper.begin (g : LegStepper) (cycle n : Nat) (backward : Bool) (goal : MoveGoal) (p : Stepper) : Stepper :=
  if p.uncertain || n == 0 then p
  else Stepper.load g false cycle { p with
    state := .moving, left := n, total := n, backward := backward, v2 := g.vStart * g.vStart, interval := 0, frac := 0,
    dueAt := cycle + 40 * g.dirSetup, segment := .start, settling := false, holdCurrent := false, goal := goal }

/-- Whether the layer's Z move or feed moves are still under way. -/
def Motion.movesOpen (m : Motion) (lo n : Nat) : Bool :=
  (List.range n).any fun i => (getN m.steppers (lo + i) {}).goal == .layer

/-- RETURN completes with the carriage at its start position and every feed move complete (R21). The feed moves begin when the
carriage has come back (R251); under overlap the next job's approach may have taken it away again before they end, and the RETURN
of the first job still completes (DEDUCED, log entry 138). -/
def State.returnCheck (s : State) : State :=
  match s.layer.jobs.find? fun j => j.state == .returning && j.feedStarted with
  | none => s
  | some j =>
    s.when (!s.motion.movesOpen 4 6 && !j.flags.postFault)
      (·.endJob j.seq .endedOk .none 0 0)

/-- The feed moves of RETURN: each channel moves the count of its station's FEED_STEPS (R251, R257). -/
def State.beginFeed (seq : Nat) (s : State) : State :=
  match s.jobOf seq with
  | none => s
  | some j =>
    let s := s.modJob seq fun j => { j with feedStarted := true }
    let s := s.each stations fun x s =>
      s.modStepper (4 + x.val) (Stepper.begin (s.legStepper (4 + x.val)) s.position.motn (j.feedSteps x.val) false .layer)
    s.returnCheck

/-- LAYER_RESUME ends with the carriage at its start position: HOLD clears, the commands complete (R28). -/
def State.finishResume (s : State) : State :=
  let done := s.layer.resumes
  s.when s.motion.resumeReturn fun s =>
    let s := s.modMotion fun m => { m with resumeReturn := false }
    let s := s.modLayer fun l => { l with hold := false, resumes := [] }
    s.each done fun h s => s.complete h 2 .ok []

/-- All four Z axes have completed the move: LOWER ends; a job with no imaging station has a carriage move of length 0
(R21, R22). -/
def State.lowerComplete (seq : Nat) (s : State) : State :=
  match s.jobOf seq with
  | none => s
  | some j =>
    if j.state != .lower then s
    else
      let now := s.timeUs
      let s := s.modJob seq fun j => { j with state := .returning, returnUs := now }
      s.when (!j.imagesAny) (·.beginFeed seq)

/-- LOWER begins: the Z step converted with the residue, every Z step on all four channels (R257). -/
def State.beginLower (seq : Nat) (s : State) : State :=
  let nm := s.legend.motion.stepNm
  let sum := s.motion.zStep + s.motion.residue
  let n := sum / max 1 nm
  let s := (s.setJobState seq .lower).modMotion fun m => { m with
    residue := sum % max 1 nm, lastSteps := min n 65535,
    steppers := mapIdxV (fun i p => if i < 4 then p.begin (getN s.legend.motion.steppers i {}) s.position.motn n true .layer else p) m.steppers }
  s.when (n == 0) (·.lowerComplete seq)

/-- A servo's mode at rest. -/
def Servo.rest (v : Servo) : Servo :=
  { v with mode := .hold, traj := {}, vff := 0, aff := 0, atRest := true, retimed := false, remainUs := 0, stopDue := .none }

/-- A servo's following error and measured velocity at a POS instant (R242, R270). -/
def Servo.measure (pos vel : Int) (v : Servo) : Servo :=
  let fe := roundDiv (v.sp - pos) 65536
  { v with vel := vel, posAt := pos, fe := fe, fePeak := max v.fePeak (min fe.natAbs 4294967295) }

/-- The velocity of a servo measured at a POS instant, in counts per second: its way since the last one over 200 µs (R242; log entry
155). -/
def Servo.velocity (pos : Int) (v : Servo) : Int := roundDiv ((pos - v.posAt) * 5000) 16777216

/-- The time left to the end of a stop, in µs (R266, R270). -/
def stopRemain (g : LegServo) (v : Servo) : Nat :=
  let p := stopPeak g.aStop g.jStop v.vff.natAbs (if v.vff < 0 then -v.aff else v.aff)
  if p = 0 then 0 else min 4294967295 (v.vff.natAbs * 1000000 / p + p / max 1 g.jStop * 1000000 / profQ)

/-- A decelerating servo under the regeneration clamp: the plan frozen, the set-point at the measured position plus one
period of the measured velocity, the stop ended below REST_SPEED (R266). -/
def Servo.retime (g : LegServo) (pos vel : Int) (v : Servo) : Servo :=
  let drop := v.vel.natAbs - vel.natAbs
  let v' := { v with
    sp := pos + (vel * 16777216).tdiv 5000, vff := 0, aff := 0, retimed := true,
    remainUs := if drop = 0 then 4294967295 else min 4294967295 (vel.natAbs * 200 / drop) }
  if vel.natAbs < g.restSpeed then { v'.rest with sp := pos } else v'

/-- A coasting servo at a POS instant: at rest once below REST_SPEED for 100 ms (R261). -/
def Servo.coasting (g : LegServo) (nowUs : Nat) (vel : Int) (v : Servo) : Servo :=
  if vel.natAbs < g.restSpeed then { v with atRest := v.restUs + 100000 ≤ nowUs }
  else { v with restUs := nowUs, atRest := false }

/-- A servo that follows its own trajectory, one POS instant on (R242, R245). -/
def State.followTraj (s : State) (a : Nat) (v : Servo) : Servo :=
  let g := s.legServo a
  let n := v.traj.periods + 1
  let (sp, vel, acc, done) := s.evalTraj a v.traj n
  let v' := { v with sp := sp, vff := vel, aff := acc, traj := { v.traj with periods := n } }
  match v.traj.kind with
  | .none => { v with vff := 0, aff := 0 }
  | .gear => v
  | .ramp => if done then { v' with traj := { kind := .line, start := sp, v1 := vel } } else v'
  | .approach => v'
  | .stop => if done then v'.rest else { v' with remainUs := stopRemain g v' }
  | _ => if done then v'.rest else v'

/-- A servo's own trajectory one POS instant on; under the regeneration clamp a plan that decelerates is frozen (R266). -/
def State.planned (s : State) (a : Nat) (pos vel : Int) (v : Servo) : Servo :=
  let v' := s.followTraj a v
  if v.regen ∧ (v.mode = .stopping ∨ v.retimed ∨ v'.vff.natAbs < v.vff.natAbs) then v.retime (s.legServo a) pos vel else v'

/-- The belt at a POS instant (R246). -/
def State.posBelt (pos vel : Int) (s : State) : State :=
  let g := s.legServo 0
  s.modServo 0 fun v =>
    let v := if v.stopDue != .none then v.beginStop else v
    let v := match v.mode with
      | .off | .align => v
      | .coast => v.coasting g s.timeUs vel
      | _ => s.planned 0 pos vel v
    v.measure pos vel

/-- The roller, geared to measured belt travel whenever the belt is enabled (R247). -/
def State.posRoller (travel beltVel beltAcc pos vel : Int) (s : State) : State :=
  let m := s.legend.motion
  let g := s.legServo 2
  let belt := (getN s.motion.servos 0 {}).mode != .off
  s.modServo 2 fun v =>
    let v := match v.mode with
      | .off | .align => v
      | .coast => v.coasting g s.timeUs vel
      | _ => if !belt then { v with mode := .hold, vff := 0, aff := 0, stopDue := .none } else { v with
          mode := .geared
          sp := m.rollOfs * 16777216 + (travel * m.rollNum * 65536).fdiv (max 1 m.rollDen : Nat)
          vff := (beltVel * 16777216 * m.rollNum).fdiv (max 1 m.rollDen : Nat)
          aff := (beltAcc * 16777216 * m.rollNum).fdiv (max 1 m.rollDen : Nat)
          atRest := vel.natAbs < g.restSpeed, stopDue := .none }
    v.measure pos vel

/-- The carriage locked to the belt: the gear relation at the travel sampled, the difference at lock halved every
period, dropped below 1/256 count (R250). -/
def State.gearServo (origin travel beltVel : Int) (s : State) (v : Servo) : Servo :=
  let m := s.legend.motion
  let d := v.lockDiff.tdiv 2
  { v with
    mode := .geared, sp := s.gearPos origin travel + v.lockDiff, lockDiff := if d.natAbs < 65536 then 0 else d,
    vff := (beltVel * 16777216 * m.gearN).fdiv (max 1 m.gearM : Nat), aff := 0 }

/-- The carriage leaves the nip after an abort, once the belt is at rest (R252). -/
def State.separateServo (s : State) (v : Servo) : Servo :=
  let m := s.legend.motion
  let target := (m.carrNipPos - m.clear) * 16777216
  { v with
    mode := .move, lastStop := .abort, stopDue := .none,
    traj := { kind := .separate, start := v.sp, dist := target - v.sp, v0 := (m.sepSpeed * profQ : Nat) } }

/-- A carriage return that has ended, at the start position or not: feed moves or the end of LAYER_RESUME follow (R251, R28). -/
def State.carriageBack (home : Bool) (s : State) : State :=
  let s := s.modMotion fun n => { n with carrPhase := if home then .atStart else .away, carrJob := if home then 0 else n.carrJob }
  match s.layer.jobs.find? fun j => j.state == .returning && !j.feedStarted with
  | some j => if home then s.beginFeed j.seq else s
  | none => if home then s.finishResume else s

/-- The carriage at a POS instant (R245, R248 to R252). -/
def State.posCarriage (travel beltVel pos vel : Int) (s : State) : State :=
  let g := s.legServo 1
  let m := s.legend.motion
  let origin := ((s.jobOf s.motion.carrJob).map (·.origin)).getD 0
  let old := getN s.motion.servos 1 {}
  let beltRest := (getN s.motion.servos 0 {}).atRest
  let leaving := old.stopDue == .abort && s.motion.carrPhase == .inNip && beltRest && old.mode == .geared
  let s := s.modServo 1 fun (v : Servo) =>
    let v : Servo := if leaving then s.separateServo v
      else if v.stopDue != .none && s.motion.carrPhase != .inNip then v.beginStop else v
    let v : Servo := match v.mode with
      | .off | .align => v
      | .coast => v.coasting g s.timeUs vel
      | .geared => s.gearServo origin travel beltVel v
      | _ => s.planned 1 pos vel v
    let v := v.measure pos vel
    if v.mode = .geared then
      { v with trackRun := if 256 * m.trackFe < v.fe.natAbs then satAdd 16 v.trackRun 1 else 0 } else v
  let s := s.when leaving (·.modMotion fun n => { n with carrPhase := .away })
  let v := getN s.motion.servos 1 {}
  let home := v.mode == .hold && (pos - m.carrStart * 16777216).natAbs ≤ m.carrStartTol * 16777216
  s.when (s.motion.carrPhase == .returning && v.mode == .hold) (·.carriageBack home)

/-- The Z spread, compared when every Z axis has an SSI source (R257). -/
def State.checkSkew (s : State) : State :=
  let ssi := (List.range 4).all fun i => (getN s.legend.position.axes (2 + i) {}).source == .ssi
  let zs := (List.range 4).map fun i => (getN s.position.axes (2 + i) {}).position
  let hi := zs.foldl max (zs.headD 0)
  let lo := zs.foldl min (zs.headD 0)
  let spread := (hi - lo).toNat
  s.when ssi fun s =>
    let s := s.modMotion fun m => { m with skewPeak := max m.skewPeak (min spread 65535) }
    s.when (s.legend.motion.skewMax < spread) fun s =>
      (s.each (List.range 4) State.stopStepper).raise .gantrySkew 0

/-- The following-error timers of a re-timed servo's loops are suspended (R266). -/
def State.suspendFe (s : State) : State :=
  s.each (List.range 3) fun a s =>
    s.when (getN s.motion.servos a {}).retimed fun s =>
      s.each [45 + 3 * a, 46 + 3 * a] fun n s => s.modLoop n fun l => { l with settle := max l.settle 2 }

/-- POS_INSTANT (R242, R245 to R252, R257, R266): at a POS sampling instant ME0 writes the set-point and feed-forward
terms of every servo from its trajectory or gear, at the positions of that instant. -/
def execPosInstant (frame : Nat) (s : State) : Host.Outcome State Fault Refusal :=
  let t := frame * 10000
  let s := (s.atCycle t).modMotion fun m => { m with posAt := max m.posAt t }
  let pos (a : Nat) : Int := s.servoPosAt a t
  let vel (a : Nat) : Int := (getN s.motion.servos a {}).velocity (pos a)
  let acc := (vel 0 - (getN s.motion.servos 0 {}).vel) * 5000
  liveIf s.islandsUp s <|
    (((s.posBelt (pos 0) (vel 0)).posCarriage (s.travelAt t) (vel 0) (pos 1) (vel 1)).posRoller (s.travelAt t) (vel 0) acc (pos 2)
      (vel 2)).checkSkew.suspendFe

/-- The electrical angle of a servo at a count, in 2^−32 turn; offset and count × COMM_NUM / COMM_DEN count 1/4,096 turn (R243; log
entry 156). -/
def commAngle (g : LegServo) (offset : Nat) (count : Int) : Nat :=
  ((offset * 1048576 + (count * g.commNum * 1048576).fdiv (max 1 g.commDen : Nat)) % 4294967296).toNat

/-- COMM_OFFSET with which the electrical angle is 0 at a count, in 1/4,096 turn (R243). -/
def commZero (g : LegServo) (count : Int) : Nat :=
  (((-count) * g.commNum).fdiv (max 1 g.commDen : Nat) % 4096).toNat

/-- Whether motor bridges may be driven: no Grave latch, no shutdown running or ended (R260, R307). -/
def State.drivesOn (s : State) : Bool := !s.faults.grave && !isShutdown s.power.program && !s.power.shutOff

/-- A servo taken up again at its measured position: it holds there, all three loops running from their first sample; with an unknown
commutation offset it aligns first, its current loop alone running (R242, R243, R261). -/
def State.enterServo (a : Nat) (s : State) : State :=
  let pos := s.servoPos a
  let now := s.timeUs
  if (getN s.motion.servos a {}).commOffset.isSome then
    (s.modServo a fun v => { v.rest with sp := pos, posAt := pos, velAt := pos, homed := v.homed || a != 1 }).beginLoops
      [44 + 3 * a, 45 + 3 * a, 46 + 3 * a]
  else (s.modServo a fun v => { v with mode := .align, alignUs := now, alignFrom := pos, posAt := pos, velAt := pos }).beginLoops [44 + 3 * a]

/-- The servos enabled at READY and when UP ends after a shutdown (R243, R246, R453, R530). -/
def State.enableServos (s : State) : State :=
  s.each [0, 1, 2] fun a s =>
    s.when ((s.legServo a).enable && s.drivesOn && (getN s.motion.servos a {}).mode == .off) (State.enterServo a)

/-- The stepper channels that are off take up I_HOLD and ZBRAKE_REL goes high (R254, R258, log entry 123). -/
def State.steppersOn (s : State) : State :=
  s.when s.drivesOn fun s => s.modMotion fun m => { m with
    brakeReleased := true
    steppers := mapIdxV (fun n (p : Stepper) =>
      let g := getN s.legend.motion.steppers n {}
      if p.state = .off then Stepper.load g false s.position.motn { p with state := .holding, holdCurrent := true } else p) m.steppers }

/-- SERVO_ALIGN (R243): an axis with an unknown commutation offset has been on the d axis at θ = 0 for ALIGN_TIME: its offset is set
by the count. One that moves more than ALIGN_MAX counts stays OFF. -/
def execServoAlign (a : Fin 3) (s : State) : Host.Outcome State Fault Refusal :=
  let g := s.legServo a
  let v := s.motion.servos[a]
  let moved := (s.servoPos a - v.alignFrom).natAbs
  let far := decide (g.alignMax * 16777216 < moved)
  liveIf (s.islandsUp && g.enable && v.mode == .align && (far || s.elapsed v.alignUs (1000 * g.alignTime))) s <|
    if far then ((s.modServo a fun v => { v with mode := .off }).stopServoLoops a).raise .srvAlign a
    else
      let count := s.commCount a s.position.motn
      (s.modServo a fun v => { v with commOffset := some (commZero g count) }).enterServo a

/-- SERVO_STOP (R245, R246, R260): a stop asked for takes the trajectory's place at this POS instant. -/
def execServoStop (a : Fin 2) (s : State) : Host.Outcome State Fault Refusal :=
  let v := getN s.motion.servos a {}
  liveIf (v.stopDue != .none && (a == 0 || s.motion.carrPhase != .inNip)) s (s.modServo a Servo.beginStop)

/-- BELT_START (R246): the belt ramps to process speed once the bus is normal and neither HOLD nor a Severe holds it. -/
def execBeltStart (s : State) : Host.Outcome State Fault Refusal :=
  let v := getN s.motion.servos 0 {}
  let ok := s.boot.ready && s.busNormal && !s.layer.hold && !s.severeStands && !s.faults.grave && !s.layer.abortRunning &&
    v.mode == .hold && s.power.program != .down && s.power.program != .brownout
  liveIf ok s <|
    let speed := beltSpeed s.legend.scan s.scan.sigma
    s.modServo 0 fun v => { v with mode := .velocity, atRest := false, traj := rampTraj (s.legServo 0) v.sp v.vff speed }

/-- The job whose carriage approach comes next: the first imaging job from ARMED to TRANSFER (R249). -/
def State.approachJob (s : State) : Option Job :=
  s.layer.jobs.find? fun j => j.imagesAny && (j.state == .armed || j.state == .imaging || j.state == .transfer)

/-- CARRIAGE_APPROACH_START (R249): travel reaches Ô − 256 × APPROACH_COUNTS with the carriage at its start position. A
carriage that is not there aborts the job: that is LAYER_ABORT_SEQUENCE's (R41). -/
def execCarriageApproachStart (s : State) : Host.Outcome State Fault Refusal :=
  match s.approachJob with
  | none => live s s
  | some j =>
    let ok := !s.layer.abortRunning && s.carrAtStart && j.origin - 256 * s.approachCounts ≤ s.travelNow
    liveIf ok s <|
      let ta := s.approachTime
      let vs := s.carrSpeed
      (s.modServo 1 fun v => { v with
        mode := .move, atRest := false,
        traj := { kind := .approach, start := v.sp, v1 := vs, tj := ta / 4, total := ta,
                  apk := if ta = 0 then 0 else 4 * vs * profQ / (3 * ta) } }).modMotion fun m =>
        { m with carrPhase := .approach, carrJob := j.seq }

/-- CARRIAGE_LOCK (R249, R250): at the end of T_a the carriage is on the gear relation and locks; the planned position's
difference from the relation is carried. -/
def execCarriageLock (s : State) : Host.Outcome State Fault Refusal :=
  let v := getN s.motion.servos 1 {}
  let origin := ((s.jobOf s.motion.carrJob).map (·.origin)).getD 0
  let done := v.traj.kind == .approach && v.traj.total ≤ v.traj.periods * profQ / 5000
  liveIf (s.motion.carrPhase == .approach && v.mode == .move && done) s <|
    (s.modServo 1 fun v => { v with
      mode := .geared, traj := { kind := .gear }, trackRun := 0,
      lockDiff := v.sp - s.gearPos origin (s.travelAt s.motion.posAt) }).modMotion fun m => { m with carrPhase := .locked }

/-- LEADING_EDGE_AT_NIP (R20, R250): travel reaches Ô with the carriage locked. -/
def execLeadingEdgeAtNip (s : State) : Host.Outcome State Fault Refusal :=
  match s.jobOf s.motion.carrJob with
  | none => live s s
  | some j =>
    liveIf (s.motion.carrPhase == .locked && !s.layer.abortRunning && j.origin ≤ s.travelNow) s <|
      (s.modMotion fun m => { m with carrPhase := .inNip }).enterTransfuse j.seq

/-- CARRIAGE_SEPARATION (R251): travel reaches Ô + 256 × (line count × K + CARR_SEP_COUNTS); the carriage unlocks and
stops, the job leaves TRANSFUSE. -/
def execCarriageSeparation (s : State) : Host.Outcome State Fault Refusal :=
  match s.jobOf s.motion.carrJob with
  | none => live s s
  | some j =>
    let at' := j.origin + j.maxLines * s.legend.scan.kq + 256 * s.legend.motion.sepCounts
    liveIf (s.motion.carrPhase == .inNip && !s.layer.abortRunning && j.state == .transfuse && at' ≤ s.travelNow) s <|
      ((s.modServo 1 fun v => { v with stopDue := .controlled }.beginStop).modMotion fun m =>
        { m with carrPhase := .separated }).beginLower j.seq

/-- CARRIAGE_RETURN (R251, R28): in RETURN, or for LAYER_RESUME, with the carriage at rest, it moves to CARR_START;
for LAYER_RESUME a carriage already there ends the hold. -/
def execCarriageReturn (s : State) : Host.Outcome State Fault Refusal :=
  let v := getN s.motion.servos 1 {}
  let inReturn := s.layer.jobs.any fun j => j.state == .returning && j.imagesAny && !j.feedStarted
  let may := (inReturn || s.motion.resumeReturn) && v.mode == .hold && v.homed && !s.faults.grave && !s.severeStands
  let target := s.legend.motion.carrStart * 16777216
  let back := (s.modServo 1 fun v => { v with
      mode := .move, atRest := false, traj := moveTraj v.sp target (if inReturn then .layer else .resume) }).modMotion fun m =>
    { m with carrPhase := .returning }
  match s.motion.carrPhase with
  | .separated | .away => liveIf may s back
  | .atStart => liveIf (may && s.motion.resumeReturn) s s.finishResume
  | _ => live s s

/-- CARRIAGE_TRACK_FAULT (R250): a locked carriage's gear tracking error for CARR_TRACK_TIMER periods. -/
def execCarriageTrackFault (s : State) : Host.Outcome State Fault Refusal :=
  let v := getN s.motion.servos 1 {}
  liveIf (v.mode == .geared && s.legend.motion.trackTimer ≤ v.trackRun) s <|
    (s.modServo 1 fun v => { v with trackRun := 0 }).raise .srvCarrTrackRun 1

/-- SERVO_FOLLOWING_ERROR (R224, R268): the count of an axis's velocity or position loop has reached FE_TIMER. -/
def execServoFollowingError (a : Fin 3) (s : State) : Host.Outcome State Fault Refusal :=
  let hit (n : Nat) : Bool := (s.loop n).running && (s.legLoop n).feTimer ≤ (s.loop n).feTimer && !(s.loop n).feRaised
  let ns := [45 + 3 * a.val, 46 + 3 * a.val].filter hit
  liveIf (!ns.isEmpty) s <|
    let s := s.each ns fun n s => s.modLoop n fun l => { l with feRaised := true, feEvents := satAdd 16 l.feEvents 1 }
    (s.modServo a fun v => { v with feEvents := satAdd 16 v.feEvents 1 }).raiseRun s.windowOpen .srvFeRun .srvFeIdle a

/-- The number of steps needed to fall from v to V_STOP, rounded up (R256). -/
def stepsToStop (g : LegStepper) (v2 : Nat) : Nat :=
  let vb2 := g.vBreak * g.vBreak
  let vs2 := g.vStop * g.vStop
  let a := v2 - max vb2 vs2
  let b := min v2 vb2 - vs2
  (a * g.d1 + b * g.d2 + 2 * g.d1 * g.d2 - 1) / max 1 (2 * g.d1 * g.d2)

/-- The speed of the next interval, squared, and its segment, after step `k` of `n` (R256). -/
def nextSpeed (g : LegStepper) (n k v2 : Nat) : Nat × StepSegment :=
  let vb2 := g.vBreak * g.vBreak
  if n - k ≤ stepsToStop g v2 then
    (max (v2 - 2 * (if vb2 < v2 then g.d2 else g.d1)) (g.vStop * g.vStop), .decelerate)
  else if v2 < g.vMax * g.vMax then
    (min (v2 + 2 * (if v2 < vb2 then g.a1 else g.a2)) (g.vMax * g.vMax), .accelerate)
  else (v2, .cruise)

/-- The interval 1/v of a squared speed in 1/16 MOTN cycle, ties rounded up (R256). -/
def stepInterval (v2 : Nat) : Nat := (isqrt (4 * 6400000000 * 6400000000 / max 1 v2) + 1) / 2

/-- A step of a channel: count, electrical position and phase currents (R254). -/
def Stepper.advance (g : LegStepper) (clamp : Bool) (nowUs cycle : Nat) (p : Stepper) : Stepper :=
  let adv := 2 ^ (8 - min g.ms 8)
  let elec := if p.backward then (p.elec + 1024 - adv) % 1024 else (p.elec + adv) % 1024
  Stepper.load g clamp cycle { p with
    steps := p.steps + (if p.backward then -1 else 1), elec := elec, dueUs := nowUs, stepped := true }

/-- One step of a move, and the interval to the next one, reckoned from the cycle at which this one was due (R256). -/
def Stepper.step (g : LegStepper) (clamp : Bool) (nowUs cycle : Nat) (p : Stepper) : Stepper :=
  let k := p.total - p.left + 1
  let whole := stepInterval p.v2 + p.frac
  let (v2, seg) := nextSpeed g p.total k p.v2
  { p.advance g clamp nowUs cycle with
    left := p.left - 1, settling := p.left == 1, restUs := nowUs, dueAt := p.dueAt + whole / 16
    interval := if p.left = 1 then p.interval else whole / 16 * 16, frac := if p.left = 1 then 0 else whole % 16
    v2 := if p.left = 1 then p.v2 else v2, segment := if p.left = 1 then p.segment else seg }

/-- One step of homing: toward the switch at V_HOME, back off it at V_START (R259, log entry 124). -/
def Stepper.homeStep (g : LegStepper) (clamp : Bool) (nowUs cycle : Nat) (p : Stepper) : Stepper :=
  let v := if p.backOff then g.vStart else g.vHome
  let whole := stepInterval (v * v) + p.frac
  { { p with backward := !p.backOff }.advance g clamp nowUs cycle with
    v2 := v * v, segment := .cruise, dueAt := p.dueAt + whole / 16, interval := whole / 16 * 16, frac := whole % 16 }

/-- STEPPER_STEP (R254, R256, R257): the step timer expires at a MOTN cycle; a Z step falls on all four channels together. -/
def execStepperStep (n : Fin 10) (cycle : Nat) (s : State) : Host.Outcome State Fault Refusal :=
  let p := s.motion.steppers[n]
  let ns := if n.val < 4 then List.range 4 else [n.val]
  liveIf (p.state == .moving && (0 < p.left || p.homing) && decide (p.dueAt ≤ cycle)) s <|
    (s.atCycle cycle).each ns fun i s => State.countZ i <| s.modStepper i fun p =>
      if p.state = .moving ∧ 0 < p.left then p.step (s.legStepper i) s.motion.bus.clamp s.timeUs cycle
      else if p.state = .moving ∧ p.homing then p.homeStep (s.legStepper i) s.motion.bus.clamp s.timeUs cycle
      else p

/-- One phase's chopper of a channel. -/
def Stepper.chopper (phaseB : Bool) (p : Stepper) : ChopperPhase := if phaseB then p.phaseB else p.phaseA

/-- One phase's chopper of a channel set. -/
def Stepper.setChopper (phaseB : Bool) (c : ChopperPhase) (p : Stepper) : Stepper :=
  if phaseB then { p with phaseB := c } else { p with phaseA := c }

/-- STEPPER_CHOP_TRIP (R255): a phase's comparator trips, T_BLANK or more after its on-phase began; the off-time begins, fast decay
first unless MIX is 0 or the regeneration clamp stands. Within T_BLANK the comparator is ignored. -/
def execStepperChopTrip (n : Fin 10) (phaseB : Bool) (cycle : Nat) (s : State) : Host.Outcome State Fault Refusal :=
  let c := s.motion.steppers[n].chopper phaseB
  let g := s.legStepper n
  liveIf (c.phase == .on && decide (c.since + 100 * g.tBlank ≤ cycle)) s <|
    (s.atCycle cycle).modStepper n (Stepper.setChopper phaseB (c.turnOff g s.motion.bus.clamp cycle))

/-- STEPPER_OFF_TIME_END (R255): after T_OFF the phase drives again in the sign of its current; before that, the first MIX / 16 of it
being over, fast decay gives way to slow decay. -/
def execStepperOffTimeEnd (n : Fin 10) (phaseB : Bool) (cycle : Nat) (s : State) : Host.Outcome State Fault Refusal :=
  let c := s.motion.steppers[n].chopper phaseB
  let g := s.legStepper n
  let off := c.phase == .offFast || c.phase == .offSlow
  if off ∧ c.since + 100 * g.tOff ≤ cycle then
    live s ((s.atCycle cycle).modStepper n (Stepper.setChopper phaseB (c.turnOn g cycle c.nextCurrent)))
  else
    liveIf (c.phase == .offFast && decide (16 * c.since + 100 * g.tOff * g.mix ≤ 16 * cycle)) s <|
      (s.atCycle cycle).modStepper n (Stepper.setChopper phaseB { c with phase := .offSlow, in1 := false, in2 := false })

/-- STEPPER_MOVE_COMPLETE (R21, R256): SETTLE_TIME after the last step the move completes; with all four Z axes complete
LOWER ends, with every feed move complete RETURN may end. -/
def execStepperMoveComplete (n : Fin 10) (s : State) : Host.Outcome State Fault Refusal :=
  let p := s.motion.steppers[n]
  liveIf (p.state == .moving && p.settling && s.elapsed p.dueUs (1000 * (s.legStepper n).settle)) s <|
    let s := s.modStepper n fun p => { p with
      state := .idle, settling := false, moves := satAdd 16 p.moves 1, goal := .none, segment := .start }
    if p.goal != .layer then s
    else if n.val < 4 then
      if s.motion.movesOpen 0 4 then s
      else match s.layer.jobs.find? fun j => j.state == .lower with
        | some j => s.lowerComplete j.seq
        | none => s
    else s.returnCheck

/-- HOLD_CURRENT_DELAY (R254): HOLD_DELAY after a channel comes to rest it holds I_HOLD. -/
def execHoldCurrentDelay (n : Fin 10) (s : State) : Host.Outcome State Fault Refusal :=
  let p := s.motion.steppers[n]
  let g := s.legStepper n
  liveIf (p.state == .idle && s.elapsed p.restUs (1000 * g.holdDelay)) s <|
    s.modStepper n fun p => Stepper.load g s.motion.bus.clamp s.position.motn { p with state := .holding, holdCurrent := true }

/-- STEPPER_IMMEDIATE_STOP (R258): a fault, MOTION_STOP, soft limit or gantry fault stops a channel's steps at once. -/
def execStepperImmediateStop (n : Fin 10) (s : State) : Host.Outcome State Fault Refusal := live s (s.stopStepper n)

/-- An axis homed (R259). -/
def State.homed (ax : Nat) (s : State) : State :=
  let s := s.modMotion fun m => { m with homeDue := m.homeDue &&& ~~~(BitVec.ofNat 13 (2 ^ ax)) }
  let now := s.timeUs
  if ax = 1 then s.modServo 1 fun v => { v with homed := true, homePhase := 0 }.askStop .controlled
  else s.modStepper (ax - 3) fun p => { p with
    homed := true, uncertain := false, homing := false, backOff := false, goal := .none,
    state := if p.state = .moving then .idle else p.state, segment := .start, restUs := now }

/-- A home edge sets the axis's position to HOME_POS (R259). -/
def State.setHome (ax : Nat) (s : State) : State :=
  if ax = 1 then
    let p := (s.legServo 1).homePos
    (s.placeAxis 0 p).modServo 1 fun v => { v with sp := p * 16777216, posAt := p * 16777216, velAt := p * 16777216 }
  else
    let n := ax - 3
    let p := (s.legStepper n).homePos
    let s := s.modStepper n fun q => { q with steps := p }
    s.when (n < 4 && (getN s.legend.position.axes (2 + n) {}).source != .ssi) (·.placeAxis (2 + n) p)

/-- Whether a Z axis (stepper 0–3) has an SSI source, and whether its frames are valid (R153, R259). -/
def State.zSsi (s : State) (i : Nat) : Bool × Bool :=
  let g := getN s.legend.position.axes (2 + i) {}
  (g.source == .ssi, (getN s.position.ssi g.input {}).valid)

/-- HOMING (R259): what an axis whose homing is due meets: its start, its switch, the release or QZ edge, or no switch
within HOME_RANGE. Axes: 1 carriage, 3–6 Z0–Z3, 7–12 F0–F5; belt and roller need no homing. -/
def execHoming (ax : Fin 13) (ev : HomeEvent) (s : State) : Host.Outcome State Fault Refusal :=
  let due := s.motion.homeDue.getLsbD ax
  let moves := s.islandsUp && !s.faults.grave && !s.severeStands
  if ax.val = 0 ∨ ax.val = 2 then live s s
  else if ax.val = 1 then
    let v := getN s.motion.servos 1 {}
    let g := s.legServo 1
    match ev with
    | .begin => liveIf (due && moves && v.mode == .hold) s <|
        (s.modServo 1 fun v => { v with
          homed := false, homePhase := 1, homeFrom := v.sp, mode := .velocity, atRest := false
          traj := rampTraj g v.sp 0 (-((g.vHome * profQ : Nat) : Int)) }).raiseIf (!v.homed) .srvCarrNotHomed 1
    | .switch => liveIf (v.homePhase == 1) s (s.modServo 1 fun v => { v with homePhase := 2 })
    | .release => liveIf (v.homePhase == 2) s <|
        ((s.setHome 1).homed 1).modMotion fun m => { m with carrPhase := .away }
    | .missing => liveIf (0 < v.homePhase && decide (g.homeRange * 16777216 < (s.servoPos 1 - v.homeFrom).natAbs)) s <|
        (s.modServo 1 fun v => { v with homePhase := 0 }.askStop .controlled).modMotion fun m =>
          { m with homeDue := m.homeDue &&& ~~~(BitVec.ofNat 13 2) }
  else
    let n := ax.val - 3
    let p := getN s.motion.steppers n {}
    let now := s.timeUs
    match ev with
    | .begin => liveIf (due && moves && p.state != .moving) s <|
        if 4 ≤ n then
          (if p.uncertain then s.homed ax else s.modMotion fun m => { m with homeDue := m.homeDue &&& ~~~(BitVec.ofNat 13 (2 ^ ax.val)) })
        else if (s.zSsi n).1 then
          s.when (s.zSsi n).2 fun s =>
            (s.modStepper n fun p => { p with steps := (getN s.position.axes (2 + n) {}).position }).homed ax
        else s.modStepper n fun p => Stepper.load (s.legStepper n) s.motion.bus.clamp s.position.motn { p with
          state := .moving, homing := true, backOff := false, goal := .home, homed := false, homeFrom := p.steps, holdCurrent := false
          dueAt := s.position.motn + 40 * (s.legStepper n).dirSetup }
    | .switch => liveIf (p.homing && !p.backOff) s (s.modStepper n fun p => { p with backOff := true })
    | .release => liveIf (p.homing && p.backOff) s ((s.setHome ax).homed ax)
    | .missing => liveIf (p.homing && !p.backOff && decide ((s.legStepper n).homeRange < (p.steps - p.homeFrom).natAbs)) s <|
        ((s.modStepper n fun p => { p with state := .idle, homing := false, goal := .none, restUs := now }).modMotion fun m =>
          { m with homeDue := m.homeDue &&& ~~~(BitVec.ofNat 13 (2 ^ ax.val)) }).raise .stpHomeFail n

/-- SERVO_REST_REENTRY (R261): a coasting axis at rest for 100 ms re-enters at its measured position, its velocity
integrator at 0, once its loops run again. -/
def execServoRestReentry (a : Fin 3) (s : State) : Host.Outcome State Fault Refusal :=
  let v := s.motion.servos[a]
  let n := 44 + 3 * a.val
  liveIf (v.mode == .coast && v.atRest && s.engineRuns n && s.engineRuns (n + 1) && s.engineRuns (n + 2) &&
      !s.severeStands && s.drivesOn && !s.motion.bus.coasting) s (s.enterServo a)

/-- BUS_SAMPLE (R262 to R265): the bus voltage in 10 mV and the chopper current in mA, at a CUR sampling instant. -/
def execBusSample (volt chopMa : Nat) (s : State) : Host.Outcome State Fault Refusal :=
  let m := s.legend.motion
  let b := s.motion.bus
  let chop := 10 * m.v1 ≤ volt || (b.chopOn && 10 * (m.v1 - m.v1Hyst) ≤ volt)
  let rise := 10 * m.chopSlope < 4 * (volt - b.volt)
  let bad := b.chopOn && (chopMa < 100 * m.chopIMin || rise)
  let low := volt < 10 * m.vUv
  let uvRun := if low then min 8 (b.uvRun + 1) else 0
  let over2 := 10 * m.v2 < volt
  let normal := 10 * (m.vUv + 20) ≤ volt && volt ≤ 10 * (m.v1 - m.v1Hyst)
  let energy := b.energy - b.energy / (40000 * max 1 m.chopTau) + (if b.chopOn then volt * volt * 25 / max 1 m.chopR else 0)
  liveIf s.islandsUp s <|
    let s := s.modBus fun b => { b with
      volt := min volt 65535, peak := max b.peak (min volt 65535), chopOn := chop, chopI := min chopMa 65535,
      v1Events := if chop && !b.chopOn then satAdd 8 b.v1Events 1 else b.v1Events,
      v2Events := if over2 && !b.coasting then satAdd 8 b.v2Events 1 else b.v2Events,
      detectRun := if bad then min 64 (b.detectRun + 1) else 0, uvRun := uvRun, energy := energy,
      coasting := over2 || (b.coasting && !normal),
      state := if b.state = .overV3 && !normal then .overV3 else if over2 then .overV2 else if b.clamp then .clamped
        else if chop then .chopping else if low then .under else .normal }
    let s := s.when (b.coasting && !over2 && normal) fun s =>
      let now := s.timeUs
      (s.allPolygons fun p => if p.busCoast then { p with coastUs := now } else p).steppersOn
    let s := s.when (uvRun == 8 && b.uvRun != 8) (·.raiseAs .busUv 0 (if s.windowOpen then .severe else .degraded) [])
    s.when (over2 && !b.coasting) fun s =>
      let s := s.each (List.range 3) State.coastServo
      let now := s.timeUs
      let s := s.allPolygons fun (p : Polygon) => { p.coast now with busCoast := p.busCoast || p.driven || p.state == .coast }
      ((s.stopSteppers.modMotion fun m => { m with
        steppers := mapV Stepper.bridgeOff m.steppers, brakeReleased := false })).raise .busOv2 0

/-- CHOPPER_HOT (R263): chopper energy above CHOP_E_MAX raises the source and the clamp; below half of it the model
releases. -/
def execChopperHot (s : State) : Host.Outcome State Fault Refusal :=
  let b := s.motion.bus
  let limit := s.legend.motion.chopEMax * 10000000000
  if limit < b.energy ∧ !b.chopHot then live s (((s.modBus fun b => { b with chopHot := true }).clampOn).raise .busChopperHot 0)
  else if b.chopHot ∧ 2 * b.energy < limit then live s (s.modBus fun b => { b with chopHot := false })
  else live s s

/-- CHOPPER_FAIL (R264, R266): CHOP_DETECT failing samples mark the chopper FAILED, with the clamp. -/
def execChopperFail (s : State) : Host.Outcome State Fault Refusal :=
  let b := s.motion.bus
  liveIf (s.legend.motion.chopDetect ≤ b.detectRun && !b.chopFailed) s <|
    ((s.modBus fun b => { b with chopFailed := true, chopFails := satAdd 8 b.chopFails 1 }).clampOn).raiseRun s.windowOpen
      .busChopperFailRun .busChopperFailIdle 0

/-- CHOPPER_SELF_TEST (R264): the chopper is pulsed for 100 µs; FAILED clears when the current, in mA, reaches
CHOP_I_MIN. -/
def execChopperSelfTest (chopMa : Nat) (s : State) : Host.Outcome State Fault Refusal :=
  let steady := allV (fun v => if v.mode = .coast then v.atRest else v.traj.kind == .none || v.traj.kind == .line || v.traj.kind == .gear) s.motion.servos
  liveIf (s.motion.bus.testDue && s.busNormal && steady) s <|
    s.modBus fun b => { b with
      testDue := false, chopFailed := b.chopFailed && chopMa < 100 * s.legend.motion.chopIMin, detectRun := 0,
      chopI := min chopMa 65535 }

/-- BUS_OV3 (R262, R265): the V3 hardware comparator turns every bridge off; BUS.OV3 is Grave. -/
def execBusOv3 (s : State) : Host.Outcome State Fault Refusal :=
  liveIf s.islandsUp s <|
    let s := s.motionOff.allPolygons fun p => { p.gatesOff with state := .fault, entry := .grave, obsOk := false }
    (s.modBus fun b => { b with v3Events := satAdd 8 b.v3Events 1, state := .overV3, coasting := true }).raise .busOv3 0

/-- REGEN_CLAMP_RELEASE (R266): the clamp ends; ME0 re-plans any remaining stop from the measured state. -/
def execRegenClampRelease (s : State) : Host.Outcome State Fault Refusal :=
  liveIf (!s.motion.bus.clamp && (anyV (·.regen) s.motion.servos || anyV (·.regenClamp) s.polygons)) s <|
    let s := s.allPolygons fun p => { p with regenClamp := false }
    let pos (a : Nat) : Int := s.servoPos a
    s.modMotion fun m => { m with servos := mapIdxV (fun a v =>
      let v := { v with regen := false }
      if v.retimed then
        (if v.mode = .velocity then { v with retimed := false, sp := pos a, traj := rampTraj (s.legServo a) (pos a) (v.vel * 16777216) v.traj.v1 }
        else { v with mode := .stopping, retimed := false, sp := pos a, traj := { kind := .stop, start := pos a, v0 := v.vel * 16777216 } })
      else { v with retimed := false }) m.servos }

/-- A halted engine waits for LE4 at the next layer boundary; when LE4 serves, or is to serve, another or has itself
halted, SPARE.EXHAUSTED is raised (R491). -/
def State.markEngine (e : Nat) (s : State) : State :=
  let free := s.loops.engines[4].state == .spareIdle && s.survey.lePending.isNone
  if !s.legend.survey.leSpare then s
  else if e < 4 ∧ free then s.modSurvey fun v => { v with lePending := some e }
  else (s.raise .spareExhausted 0).spareLog 7 e 0

/-- An engine halts (R212, R236): every output of its loops takes its safe value: HV channels SAFE_CODE, motor bridges off; every HTR
output is off. -/
def State.haltEngine (e : Nat) (s : State) : State :=
  let mine (n : Nat) : Bool := (s.legLoop n).enable && s.engineOf n == e
  let s := s.modLoops fun l => { l with
    engines := modN l.engines e fun v => { v with state := .halted, deadlines := satAdd 8 v.deadlines 1 }
    loops := mapIdxV (fun n k => if mine n then { k with next := none, inBand := false, bandRun := 0 } else k) l.loops
    ac := mapIdxV (fun x a => if mine (18 + x) then { a with running := false } else a) l.ac }
  let s := s.heatersOff.each (List.range 18) fun k s => s.when (mine k) (State.hvMux k)
  let s := { s with polygons := mapIdxV (fun x (p : Polygon) => if mine (32 + x) || mine (38 + x) then p.coast s.timeUs else p) s.polygons }
  let s := s.each (List.range 3) fun a s =>
    s.when (mine (44 + 3 * a) || mine (45 + 3 * a) || mine (46 + 3 * a)) (State.coastServo a)
  s.markEngine e

/-- DEADLINE_MISS (R212): a loop's computation has not ended at its output instant; its engine halts. -/
def execDeadlineMiss (n : Fin 64) (s : State) : Host.Outcome State Fault Refusal :=
  let e := s.engineOf n
  liveIf ((s.legLoop n).enable && s.engineRuns n && (s.loop n).running) s ((s.haltEngine e).raise .leDeadline e)

end Sys2Proof.Machine
end

