-- ==== Sys2Proof/Machine/Motors.lean ====
section
/-! DEFINITION. Three-phase drives as arithmetic: electrical angles, transforms, space-vector modulation, shunt currents, the back-EMF
observer, zero crossings (06_polygon_drives R183 to R185, R189, R192, R194, R195, R201; 08 R241, R243). -/

namespace Sys2Proof.Machine

open Sys2Proof

/-! Electrical angles, in 2^−32 turn. -/

/-- One turn. -/
def turn : Nat := 4294967296

/-- An angle brought into one turn. -/
def angleOf (a : Int) : Nat := (a % (turn : Int)).toNat

/-- The difference of two angles, within half a turn on either side. -/
def angleDiff (a b : Int) : Int := (a - b + 2147483648) % (turn : Int) - 2147483648

/-- 1° (R193, R195, R200). -/
def oneDegree : Nat := 11930465

/-- The sine of a part of the first quarter, in 2^−30: Taylor's polynomial of degree 15 (log entry 152). -/
def sineQuarter (x : Nat) : Int :=
  let z : Int := (x : Int) * 1686629713 / 1073741824
  let z2 := z * z / 1073741824
  let p := [156, 110, 72, 42, 20, 6].foldl (fun (acc d : Int) => 1073741824 - z2 * acc / (d * 1073741824)) 1073741824
  z * p / 1073741824

/-- The sine of an angle, in 2^−30. -/
def sine (a : Int) : Int :=
  let b := angleOf a
  let x := b % 1073741824
  match b / 1073741824 with
  | 0 => sineQuarter x
  | 1 => sineQuarter (1073741824 - x)
  | 2 => -sineQuarter x
  | _ => -sineQuarter (1073741824 - x)

/-- The cosine of an angle, in 2^−30. -/
def cosine (a : Int) : Int := sine (a + 1073741824)

/-- The angle of a vector, found bit by bit within its quarter. -/
def angleOfVector (c s : Int) : Nat :=
  let base : Int := if 0 ≤ c ∧ 0 ≤ s then 0 else if c < 0 ∧ 0 ≤ s then 1073741824 else if c < 0 then 2147483648 else 3221225472
  let go (a : Int) (k : Nat) : Int := let b := a + 2 ^ k; if 0 ≤ s * cosine b - c * sine b then b else a
  angleOf (((List.range 30).reverse).foldl go base)

/-! Transforms between the phases, the stationary frame (α, β) and the rotor frame (d, q). -/

/-- A vector of a plane. -/
abbrev Vec := Int × Int

/-- Phases counted in the direction of rotation DIR: with DIR 1, V and W change places (DESIGN CHOICE, log entry 144). -/
def swapPhases {α : Type} (dir : Bool) (p : α × α × α) : α × α × α := if dir then (p.1, p.2.2, p.2.1) else p

/-- The stationary vector of three phase values. -/
def toStationary (p : Int × Int × Int) : Vec :=
  (roundDiv (2 * p.1 - p.2.1 - p.2.2) 3, roundShift ((p.2.1 - p.2.2) * 619925131) 30)

/-- The phase values of a stationary vector. -/
def toPhases (v : Vec) : Int × Int × Int :=
  let r := roundShift (v.2 * 1859775393) 30
  (v.1, (r - v.1).fdiv 2, (-r - v.1).fdiv 2)

/-- A stationary vector in the rotor frame at an angle (R185). -/
def toRotor (a : Int) (v : Vec) : Vec :=
  (roundShift (v.1 * cosine a + v.2 * sine a) 30, roundShift (v.2 * cosine a - v.1 * sine a) 30)

/-- A rotor-frame vector in the stationary frame (R185). -/
def fromRotor (a : Int) (v : Vec) : Vec :=
  (roundShift (v.1 * cosine a - v.2 * sine a) 30, roundShift (v.1 * sine a + v.2 * cosine a) 30)

/-- The length of a vector. -/
def lengthOf (v : Vec) : Nat := isqrt (v.1 * v.1 + v.2 * v.2).toNat

/-! The bridge (R183, R184). -/

/-- High-side times of the three phases, in LOOP cycles of the period of 10,000. -/
abbrev Duties := Nat × Nat × Nat

/-- Seven-segment modulation of a stationary vector, Q1.31 of the bus voltage: the zero time split equally between V0 and V7. The
vector is shortened, keeping its angle, until it fits the period and the phase with the second-longest high-side time keeps a
low-side interval of T_SHUNT (R183, R184). -/
def modulate (deadtime tShunt : Nat) (v : Vec) : Duties :=
  let p := toPhases v
  let hi := max p.1 (max p.2.1 p.2.2)
  let lo := min p.1 (min p.2.1 p.2.2)
  let mid := p.1 + p.2.1 + p.2.2 - hi - lo
  let room := 5000 - 2 * deadtime - tShunt
  let size := max 2147483648 (max (hi - lo).toNat (((2 * mid - hi - lo).toNat * 5000 + room - 1) / max 1 room))
  let duty (x : Int) : Nat := (5000 + ((2 * x - hi - lo) * 5000).fdiv size).toNat
  (duty p.1, duty p.2.1, duty p.2.2)

/-- How long a phase's low side is on in a period: the rest, less DEADTIME at each transition (R183). -/
def lowTime (deadtime duty : Nat) : Nat := if duty = 0 then 10000 else 10000 - duty - 2 * deadtime

/-- The two gates of a phase, high side first, at a cycle of the period: the high side centred on the peak at 5,000 (R183). -/
def gatesAt (deadtime duty t : Nat) : Bool × Bool :=
  (decide (10000 ≤ 2 * t + duty ∧ 2 * t < 10000 + duty),
    duty == 0 || decide (2 * t + duty + 2 * deadtime < 10000 ∨ 10000 + duty + 2 * deadtime ≤ 2 * t))

/-- The current of a shunt in mA from its conversion, less the offset (R184, R188). -/
def shuntAmps (gain : Nat) (count offset : Int) : Int := roundDiv ((count - offset) * gain) 1000

/-- The phase currents of three shunts sampled together: a phase whose low side was on for less than T_SHUNT is the negative sum of
the other two (R184). -/
def phaseAmps (deadtime tShunt : Nat) (duty : Duties) (i : Int × Int × Int) : Int × Int × Int :=
  let short (d : Nat) : Bool := lowTime deadtime d < tShunt
  if short duty.1 then (-(i.2.1 + i.2.2), i.2.1, i.2.2)
  else if short duty.2.1 then (i.1, -(i.1 + i.2.2), i.2.2)
  else if short duty.2.2 then (i.1, i.2.1, -(i.1 + i.2.1))
  else i

/-- The mean voltage of a phase, in mV, over half a period under one duty and half under the next, at a bus voltage in 10 mV: the
diodes hold the phase high through the dead times while the current flows inward (R185). -/
def phaseVolts (deadtime volt d1 d2 : Nat) (i : Int) : Int :=
  let add := if i < 0 then 4 * deadtime else 0
  (volt * (d1 + d2 + add) / 2000 : Nat)

/-- The voltage vector that the bridge applied, in mV (R185). -/
def appliedVolts (deadtime volt : Nat) (d1 d2 : Duties) (i : Int × Int × Int) : Vec :=
  toStationary (phaseVolts deadtime volt d1.1 d2.1 i.1, phaseVolts deadtime volt d1.2.1 d2.2.1 i.2.1,
    phaseVolts deadtime volt d1.2.2 d2.2.2 i.2.2)

/-! The back-EMF observer (R192). -/

/-- The magnitude of the back-EMF in mV at an electrical speed in 2^−32 turn a sample: ω × PSI_M. -/
def emfOf (psiM : Nat) (omega : Int) : Int := (omega * psiM * 251327).fdiv 4294967296000

/-- One sample of the observer (R192): from the applied voltage in mV, the current in mA and the motor values, the back-EMF of the
period gone by and the current that the model predicts; the residual is the difference of the currents. A tracking loop of
bandwidth OBS_BW follows the angle of the back-EMF; its gains are free values (log entry 145). -/
def Observer.step (rs ls psiM bw : Nat) (v i : Vec) (o : Observer) : Observer :=
  let part (v i0 i1 : Int) : Int := v - roundDiv (rs * i0) 1000 - roundDiv (ls * (i1 - i0)) 250
  let e : Vec := (part v.1 o.current.1 i.1, part v.2 o.current.2 i.2)
  let angle := o.theta + o.omega
  let size := emfOf psiM o.omega
  let model := fromRotor angle (0, size)
  let next (v i0 m : Int) : Int := i0 + roundDiv ((v - roundDiv (rs * i0) 1000 - m) * 250) (max 1 ls)
  let miss : Vec := (i.1 - next v.1 o.current.1 model.1, i.2 - next v.2 o.current.2 model.2)
  let err := angleDiff (angleOfVector e.1 e.2) (angle + (if o.omega < 0 then 3221225472 else 1073741824))
  let (da, dw) := Config.track bw err
  { o with theta := angleOf (angle + da), omega := o.omega + dw, resid := lengthOf miss, current := i }

/-! Test pulses (R189). -/

/-- The currents of the twelve pulses in mA, each projected on its angle (R189). -/
def pulseAmps (dir : Bool) (gain : Nat) (ofs : Int × Int × Int) (c : Vector (Int × Int × Int) 12) : Vector Int 12 :=
  mapIdxV (fun k p =>
    let i := toStationary (swapPhases dir (shuntAmps gain p.1 ofs.1, shuntAmps gain p.2.1 ofs.2.1, shuntAmps gain p.2.2 ofs.2.2))
    (toRotor ((k * turn / 12 : Nat) : Int) i).1) c

/-! Zero crossings (R201). -/

/-- Where a crossing stands in the sequence of a forward turn, in sixths of it: the EMF of U rises at 180° (R201). -/
def crossingSixth (dir : Bool) (c : EmfCrossing) : Nat :=
  let phase := if dir then (3 - c.phase.val) % 3 else c.phase.val
  match phase, c.rising with
  | 0, true => 3
  | 0, false => 0
  | 1, true => 5
  | 1, false => 2
  | _, true => 1
  | _, false => 4

/-- Whether crossings, oldest first, follow one another by sixths of a turn forward, or backward (R201). -/
def sixthsFollow (dir : Bool) (back : Bool) : List EmfCrossing → Bool
  | a :: b :: rest => (if back then crossingSixth dir a == (crossingSixth dir b + 1) % 6 else crossingSixth dir b == (crossingSixth dir a + 1) % 6) &&
      sixthsFollow dir back (b :: rest)
  | _ => true

/-- The intervals between crossings, in LOOP cycles. -/
def crossingGaps (cs : List EmfCrossing) : List Nat := (cs.zip cs.tail).map fun p => p.2.cycle - p.1.cycle

/-- The speed of a mean interval of 60° electrical, in 0.1 rpm: `span` cycles over `n` intervals (R201). -/
def crossingSpeed (polePairs span n : Nat) : Nat := if span = 0 then 0 else 40000000000 * n / (polePairs * span)

/-- The speed that crossings give (R201). -/
def crossingsSpeed (polePairs : Nat) (cs : List EmfCrossing) : Nat :=
  crossingSpeed polePairs ((crossingGaps cs).foldl (· + ·) 0) (crossingGaps cs).length

/-- Whether the comparators see a crossing: the divided voltage passes EMF_THRESH (R201, R207). -/
def crossingSeen (thresh : Nat) (c : EmfCrossing) : Bool := decide (thresh ≤ c.level)

/-- Whether a set of crossings qualifies: the sequence of DIR, the longest interval within 10 % of the shortest, and
RECATCH_MIN_RPM (R201; log entry 146). -/
def crossingsQualify (dir : Bool) (polePairs thresh minRpm : Nat) (cs : List EmfCrossing) : Bool :=
  let gaps := crossingGaps cs
  cs.all (crossingSeen thresh) && cs.length == 4 && sixthsFollow dir false cs && gaps.all (0 < ·) &&
    decide (10 * gaps.foldl max 0 ≤ 11 * gaps.foldl min (gaps.headD 0)) && decide (10 * minRpm ≤ crossingsSpeed polePairs cs)

end Sys2Proof.Machine
end

