-- ==== Sys2Proof/Machine/Polygon.lean ====
section
/-! DEFINITION. Polygon drives: start from rest, hand-overs, the speed loop, rotor loss and re-catch
(06_polygon_drives R183 to R206). -/

namespace Sys2Proof.Machine

open Sys2Proof

/-- A station's polygon section. -/
def State.legPoly (s : State) (x : Fin 6) : LegPoly := s.legend.polygons[x]

/-- A committed window is open for a job that images the station, and the station has not completed the exposure of its
last sweep (R141, R148, R206). -/
def State.imagingRun (s : State) (x : Fin 6) : Bool :=
  let px := s.pixels[x]
  s.layer.jobs.any fun j => j.inWindow && j.images x.val &&
    !(j.stationEnd[x] && px.ready.isNone && !px.bdWaitLast && px.frame.isNone)

/-- Whether the station is imaging: its meridian has fired and its last exposure has not ended (R136, R142). -/
def State.imaging (s : State) (x : Fin 6) : Bool :=
  s.imagingRun x && s.layer.jobs.any fun j => j.inWindow && j.startedMask.getLsbD x.val

/-- The target speed of a station's polygon in 0.1 rpm, n of R121 at a scale in 1/4,096 (R198). -/
def State.polyTarget (s : State) (x : Fin 6) (sigma : Nat) : Nat :=
  600 * s.legend.scan.lineRate * sigma / (1000 * 4096 * max 1 (s.legPixel x).emitters * max 1 (s.facets x))

/-- Whether a drive may be started: OFF, or a FAULT that R187 lets a start leave. -/
def State.polyStartable (s : State) (x : Fin 6) : Bool :=
  let p := s.polygons[x]
  let own := s.faults.insts.any fun f => f.standing && f.inst == x.val && Source.polyShunt.number ≤ f.src &&
    f.src ≤ Source.polyPhaseIdle.number
  match p.state with
  | .off => !s.faults.grave
  | .fault => !s.faults.grave && !own && p.entry != .grave
  | _ => false

/-- A start request taken (R187, R203): LISTEN with the gates off. -/
def State.polyStart (x : Fin 6) (s : State) : State :=
  let target := s.polyTarget x s.scan.sigma
  let now := s.timeUs
  s.when (s.polyStartable x) (·.modPolygon x fun p => { p with
    state := .listen, gates := false, startTry := 0, attempts := 0, entry := .none, target := target, coastUs := now,
    busCoast := false, hostStopped := false, phaseIn := 0, phaseOut := 0 })

/-- A drive enters FAULT (R186, R188, R190, R205). -/
def Polygon.fail (e : FaultEntry) (p : Polygon) : Polygon := { p.gatesOff with state := .fault, entry := e, obsOk := false }

/-- A failed start attempt: LISTEN again, at once or after a coast, or FAULT after START_TRIES of them (R187, R190, R193). -/
def State.failAttempt (x : Fin 6) (coast : Bool) (s : State) : State :=
  let g := s.legPoly x
  let n := min 7 (s.polygons[x].startTry + 1)
  let now := s.timeUs
  if g.startTries ≤ n then
    (s.modPolygon x fun p => { p.fail .startFail with startTry := n }).raise .polyStartFail x
  else s.modPolygon x fun p => { p.gatesOff with
    state := if coast then .coast else .listen, toListen := coast, startTry := n, coastUs := now }

/-- POLY_START (R187, R203): the polygon of an enabled station starts once READY is reached and the bus is normal. -/
def execPolyStart (x : Fin 6) (s : State) : Host.Outcome State Fault Refusal :=
  liveIf (s.boot.ready && (s.legPoly x).enable && s.busNormal && !s.polygons[x].hostStopped && s.polygons[x].state == .off &&
    s.power.program != .down && s.power.program != .brownout) s (s.polyStart x)

/-- LISTEN_TIMEOUT (R188): with no crossing for LISTEN_TIME the drive passes on to CALIBRATE; crossings still seen when
SPINDOWN_TIMEOUT expires send it to FAULT. `quietUs` is how long none has been seen. -/
def execListenTimeout (x : Fin 6) (quietUs : Nat) (s : State) : Host.Outcome State Fault Refusal :=
  let p := s.polygons[x]
  let g := s.legPoly x
  let quiet := decide (1000 * g.listenMs ≤ quietUs) && s.elapsed p.coastUs (1000 * g.listenMs)
  liveIf (p.state == .listen) s <|
    if quiet then s.modPolygon x fun p => { p with state := .calibrate, starts := satAdd 8 p.starts 1 }
    else s.when (s.elapsed p.coastUs (1000000 * g.spindownS)) fun s =>
      (s.modPolygon x (Polygon.fail .startFail)).raise .polyStartFail x

/-- SHUNT_CALIBRATE (R188): the sums of 256 samples of each shunt; their means are the offsets. -/
def execShuntCalibrate (x : Fin 6) (u v w : Int) (s : State) : Host.Outcome State Fault Refusal :=
  let lim := (s.legPoly x).shuntOfsMax
  let mean (c : Int) : Int := roundDiv c 256
  let ok := (mean u).natAbs ≤ lim && (mean v).natAbs ≤ lim && (mean w).natAbs ≤ lim
  liveIf (s.polygons[x].state == .calibrate && s.engineRuns (32 + x.val)) s <|
    let s := s.modPolygon x fun p => { p with ofsU := mean u, ofsV := mean v, ofsW := mean w }
    if ok then s.modPolygon x fun p => { p with state := .align, doubled := false, pulses := [] }
    else (s.modPolygon x (Polygon.fail .shunt)).raise .polyShunt x

/-- The twelve test pulses that ALIGN applies (R189): the vector of U_SAT at each angle for SAT_PULSE, doubled in the repeat, V0 for
1 µs, the gates off for SAT_GAP. -/
def satPulses (g : LegPoly) (doubled : Bool) : List SatPulse :=
  (List.range 12).map fun k => { index := k, onUs := if doubled then 2 * g.satPulse else g.satPulse, offUs := g.satGap,
                                 duty := swapPhases g.dir (modulate g.deadtime g.tShunt
                                   (fromRotor ((k * turn / 12 : Nat) : Int) (g.uSat * 2147483648 / 100, 0))) }

/-- The angle estimate and the polarity margin of twelve pulse currents: θ̂ in 1/4,096 turn, the margin in 1/256, and whether it reaches
SAT_MARGIN percent (R190). Where all three neighbouring currents are equal the quotient is 0/0: δ is 0; where the largest is not
above 0 the margin is 0 and the test fails (DESIGN CHOICE, log entry 147). -/
def alignResult (satMargin : Nat) (c : Vector Int 12) : Nat × Nat × Bool :=
  let at' (i : Nat) : Int := getN c (i % 12) 0
  let k := (List.range 12).foldl (fun b i => if at' b < at' i then i else b) 0
  let den := 2 * at' k - at' (k + 11) - at' (k + 1)
  let num := at' (k + 1) - at' (k + 11)
  let delta := if den = 0 then 0 else clampI (-61440) 61440 ((61440 * num).fdiv den)
  let theta := (((30 * k : Nat) : Int) * 4096 + delta).fdiv 360 % 4096
  let gap := at' k - at' (k + 6)
  (theta.toNat, if at' k ≤ 0 then 0 else (clampI 0 255 ((256 * gap).fdiv (at' k))).toNat,
    0 < at' k && (satMargin : Int) * at' k ≤ 100 * gap)

/-- OPEN_LOOP begins (R191): the ramp from 0, the current vector of I_OL at θ̂ + 90°, the observer at θ̂. -/
def Polygon.openLoop (iOl : Nat) (p : Polygon) : Polygon :=
  let hat := p.thetaHat * 1048576
  { p with
    state := .openLoop, gates := true, source := .ramp, theta := hat, thetaOl := angleOf (hat + 1073741824 : Nat), omega := 0, blend := 0,
    rampFine := 0, reference := 0, iqRef := iOl, obs := { theta := hat }, duty := (5000, 5000, 5000), dutyPrev := (5000, 5000, 5000) }

/-- ALIGN_PULSES (R189 to R191): the shunt conversions of the twelve test pulses give the angle and the polarity, or the pulses are
repeated once with SAT_PULSE doubled, or the attempt fails. -/
def execAlignPulses (x : Fin 6) (c : Vector (Int × Int × Int) 12) (s : State) : Host.Outcome State Fault Refusal :=
  let g := s.legPoly x
  let p := s.polygons[x]
  let (theta, margin, ok) := alignResult g.satMargin (pulseAmps g.dir g.shuntGain (p.ofsU, p.ofsV, p.ofsW) c)
  liveIf (p.state == .align && s.engineRuns (32 + x.val)) s <|
    let s := s.modPolygon x fun p => { p with pulses := p.pulses ++ satPulses g p.doubled, thetaHat := theta, margin := margin }
    if ok then (s.modPolygon x (Polygon.openLoop g.iOl)).modLoop (32 + x.val) Loop.begin
    else if !p.doubled then s.modPolygon x fun p => { p with doubled := true }
    else (s.raise .polyStartAngle x).failAttempt x false

/-- The speed of the observer in 0.1 rpm (R196). -/
def Polygon.obsSpeed (g : LegPoly) (p : Polygon) : Nat := (p.obs.omega * 24000000).toNat / (turn * max 1 g.polePairs)

/-- The bearing-derived angle at a LOOP time in 1/64 cycle, θ_ALIGN taken as 0 while there is none (R194). -/
def Polygon.thetaBd (g : LegPoly) (f t64 : Nat) (p : Polygon) : Nat :=
  let whole : Int := (g.polePairs * turn * p.q / max 1 f : Nat)
  let part := ((g.polePairs * turn : Nat) * ((t64 : Int) - p.bq)).fdiv (max 1 p.tRev : Nat)
  angleOf (whole + part + (p.thetaAlign.getD 0 : Nat))

/-- ω_bd in 2^−32 turn a sample (R194, R199). -/
def Polygon.omegaBd (g : LegPoly) (p : Polygon) : Int := (g.polePairs * turn * 640000 / max 1 p.tRev : Nat)

/-- Commutation goes over to the observer, and the vector turns to it by at most 1° a sample (R193, R200). -/
def Polygon.toObserver (p : Polygon) : Polygon :=
  { p with source := .observer, blend := angleDiff p.theta p.obs.theta, diff := 0 }

/-- OBSERVER_HANDOVER (R193): the ramp stands at OBS_RPM and the observer has agreed for 64 samples; or it has not within 256 samples
of the ramp's end, and the attempt fails. -/
def execObserverHandover (x : Fin 6) (s : State) : Host.Outcome State Fault Refusal :=
  let g := s.legPoly x
  let p := s.polygons[x]
  liveIf (p.state == .openLoop && s.engineRuns (32 + x.val)) s <|
    if 40000 * g.obsRpm ≤ p.rampFine ∧ 64 ≤ p.obs.agreeRun then
      (s.modPolygon x fun p => { p.toObserver with
        state := .observer, obsOk := true, speed := p.obsSpeed g, reference := 10 * g.obsRpm, ramping := true, iqRef := g.iOl }).modLoop
          (38 + x.val) fun l => { l.begin with i := fraction g.iMax g.iOl 1 }
    else s.when (256 ≤ p.obs.rampRun) fun s => (s.raise .polyStartObs x).failAttempt x true

/-- BEARING_HANDOVER (R195): θ_ALIGN has been taken over the revolution; the commutation angle moves from θ_obs to θ_bd by at most 1° a
sample. -/
def execBearingHandover (x : Fin 6) (s : State) : Host.Outcome State Fault Refusal :=
  let g := s.legPoly x
  let p := s.polygons[x]
  let f := s.facets x
  liveIf (p.state == .observer && p.alignRun && p.alignLeft == 0 && p.bdPresent && p.obsOk && s.engineRuns (32 + x.val)) s <|
    s.modPolygon x fun p =>
      let p := { p with thetaAlign := some (angleOfVector p.alignSum.1 p.alignSum.2), alignRun := false }
      { p with state := .bearing, source := .bearing, blend := angleDiff p.theta (p.thetaBd g f (64 * p.sampleAt)) }

/-- Whether a speed region, widened by HYST_X, holds a speed in 0.1 rpm (R220). -/
def speedHolds (hyst speed : Nat) (r : LegSpeedRegion) : Bool := decide (10 * (r.lo - hyst) ≤ speed ∧ speed ≤ 10 * (r.hi + hyst))

/-- The speed region in use: the present one within its hysteresis, else the lowest that holds the speed; the second answer says that
none does (R196, R220). -/
def speedRegion (rs : List LegSpeedRegion) (hyst : Nat) (first : Bool) (region speed : Nat) : Nat × Bool :=
  if !first && ((rs[region]?).map (speedHolds hyst speed)).getD false then (region, false)
  else match rs.findIdx? (speedHolds 0 speed) with
    | some i => (i, false)
    | none => (if first then 0 else region, true)

/-- The speed reference with its phase trim, in 0.1 rpm (R197). -/
def phaseTrim (g : LegPoly) (tSw : Nat) (ref : Nat) (e : Int) : Nat :=
  let lim : Int := ref * g.phTrimMax
  let trim := clampI (-lim) lim ((ref : Int) * g.phGain * e * 10000 / (65536 * 128 * max 1 tSw : Nat))
  ((ref : Int) + roundDiv trim 10000).toNat

/-- Whether a drive runs closed-loop: its speed loop computes at the facet ticks (R196, R203). -/
def Polygon.closed (p : Polygon) : Bool :=
  p.gates && (p.state == .observer || p.state == .bearing || (p.state == .stopping && p.source != .ramp))

/-- The lowest q reference: −I_MAX, −I_REGEN_MAX while the speed is to fall, 0 under the regeneration clamp (R185, R204). -/
def Polygon.lowest (g : LegPoly) (p : Polygon) : Int :=
  if p.regenClamp then 0
  else if p.state = .stopping ∨ p.target * 4000 < p.rampFine then max (-(g.iRegenMax : Int)) (-(g.iMax : Int))
  else -(g.iMax : Int)

/-- SPEED_TICK (R196, R197, R204, R206, R220): at a facet tick the speed loop computes the q reference, from the measured speed in
0.1 rpm: 60 / T_rev with bearings present, otherwise ω_obs. -/
def execSpeedTick (x : Fin 6) (s : State) : Host.Outcome State Fault Refusal :=
  let g := s.legPoly x
  let p := s.polygons[x]
  let n := 38 + x.val
  let loop := s.legLoop n
  liveIf (p.closed && p.tickDue && loop.enable && s.engineRuns n) s <|
    let speed := if p.bdPresent then 15360000000000 / max 1 p.tRev else p.obsSpeed g
    let ramp := p.rampFine / 4000
    let tSw := (s.legPixel x).emitters * s.legend.scan.stations[x].lineCycles
    let ref := if p.ramping || p.state == .stopping then ramp else phaseTrim g tSw ramp p.ePhi
    let old := s.loop n
    let (region, gap) := speedRegion g.speedPid loop.hystX old.first old.region speed
    let set := (nth g.speedPid region {}).set
    let l := pidPeriod (pidForm set) (pidCoef set) (fraction loop.measFs ref 10) (fraction loop.measFs speed 10) old
    let u := l.next.getD 0
    let off := !p.ramping && 10000 * ((speed : Int) - ref).natAbs > g.speedBand * ref
    let now := s.timeUs
    let s := s.chargeLoad n (getN s.loops.engines (s.engineOf n) {}).frame
    (((s.modLoop n fun _ => { l.emit u with
      region := region,
      regionChanges := if !old.first && region != old.region then satAdd 16 old.regionChanges 1 else old.regionChanges }).traceOutput n).modPolygon x
        fun p => { p with
          tickDue := false, speed := min speed 1048575, reference := min ref 1048575,
          iqRef := clampI (p.lowest g) g.iMax (inUnit g.iMax 1 u),
          offUs := if off then (match p.offUs with | some t => some t | none => some now) else none,
          speedRaised := p.speedRaised && off }).raiseIf gap .loopRegionGap n

/-! Rotor loss, coast and re-catch (R199 to R202). -/

/-- A failed re-catch attempt (R202): the drive coasts 5 ms and tries again, or gives up after RECATCH_TRIES. -/
def State.recatchFailed (x : Fin 6) (s : State) : State :=
  let n := min 15 (s.polygons[x].attempts + 1)
  let give := decide ((s.legPoly x).recatchTries ≤ n)
  let now := s.timeUs
  let s := (s.modPolygon x fun p => { p.gatesOff with
    state := if give then .listen else .coast, attempts := if give then 0 else n, toListen := false, coastUs := now,
    recatchFails := satAdd 8 p.recatchFails 1, obsOk := false, obs := { p.obs with engageRun := 64 } }).raise .polyRecatch x
  s.raiseIf give .polyRecatchFail x

/-- Coast by rotor loss (R200): the gates off at once, ROTOR_LOST raised; within 64 samples of an engagement the attempt has failed
(R202). -/
def State.rotorLost (x : Fin 6) (s : State) : State :=
  let now := s.timeUs
  let again := decide (s.polygons[x].obs.engageRun < 64)
  ((s.modPolygon x fun p => { p.coast now with obsOk := false }).raiseRun (s.imagingRun x) .polyRotorLostRun .polyRotorLostIdle x).when
    again (State.recatchFailed x)

/-- OBSERVER_LOSS (R199, R200): 8 samples beyond OBS_RESID, or in BEARING more than 30° from θ_bd. With bearings present the observer is
reset to θ_bd and ω_bd and commutation goes on by them, with the last θ_ALIGN; otherwise the drive coasts. -/
def execObserverLoss (x : Fin 6) (s : State) : Host.Outcome State Fault Refusal :=
  let g := s.legPoly x
  let p := s.polygons[x]
  let f := s.facets x
  let lost := decide (8 ≤ p.obs.residRun) || (p.state == .bearing && decide (357913941 < p.diff.natAbs))
  liveIf (p.closed && p.obsOk && lost) s <|
    let s := (s.modPolygon x fun p => { p with
      obsOk := false, obsLosses := satAdd 8 p.obsLosses 1, alignRun := false
      obs := { p.obs with residRun := 0, okRun := 0, closeRun := 0 } }).raise .polyObsLoss x
    if p.bdPresent ∧ p.thetaAlign.isSome then
      s.modPolygon x fun p => { p with
        state := if p.state = .observer then .bearing else p.state, source := .bearing, blend := if p.source = .bearing then p.blend else 0
        obs := { p.obs with theta := p.thetaBd g f (64 * p.sampleAt), omega := p.omegaBd g } }
    else s.rotorLost x

/-- ROTOR_LOSS_COAST (R200): the observer lost and bearings absent. -/
def execRotorLossCoast (x : Fin 6) (s : State) : Host.Outcome State Fault Refusal :=
  let p := s.polygons[x]
  liveIf (p.closed && !p.obsOk && !p.bdPresent) s (s.rotorLost x)

/-- COAST_EXPIRY (R193, R201, R205): 5 ms of COAST, counted once a motor bus above V2 is back in its band. -/
def execCoastExpiry (x : Fin 6) (s : State) : Host.Outcome State Fault Refusal :=
  let p := s.polygons[x]
  let now := s.timeUs
  liveIf (p.state == .coast && s.elapsed p.coastUs 5000 && !(p.busCoast && s.motion.bus.coasting) && !s.faults.grave) s <|
    s.modPolygon x fun p => { p with
      state := if p.toListen then .listen else .recatch, toListen := false, busCoast := false, coastUs := now }

/-- A drive engaged at a rotor angle and speed (R201): the observer preset, the PWM started with duties that apply the estimated
back-EMF, a q reference of 0; `u` is that EMF, Q1.31 of the bus voltage. A stop that a coast interrupted goes on (log entry 150). -/
def Polygon.engage (g : LegPoly) (t theta : Nat) (omega u : Int) (speed : Nat) (p : Polygon) : Polygon :=
  let duty := swapPhases g.dir (modulate g.deadtime g.tShunt (fromRotor theta (0, u)))
  { p with
    state := if p.hostStopped then .stopping else .observer, source := .observer, obsOk := true, gates := true, theta := theta, omega := omega,
    blend := 0, sampleAt := t, duty := duty, dutyPrev := duty, speed := speed, reference := speed, rampFine := 4000 * speed, ramping := true,
    iqRef := 0, obs := { theta := theta, omega := omega, engageRun := 0 } }

/-- RECATCH_ENGAGE (R188, R201): in LISTEN, crossings that qualify lead to RECATCH; in RECATCH the drive engages into OBSERVER, at the
angle of the last crossing advanced to frame `frame`, its current loop closed with the back-EMF in the q integrator and its speed
loop with the integrator at 0. -/
def execRecatchEngage (x : Fin 6) (frame : Nat) (crossings : Vector EmfCrossing 4) (s : State) : Host.Outcome State Fault Refusal :=
  let p := s.polygons[x]
  let g := s.legPoly x
  let now := s.timeUs
  let cs := crossings.toList
  let last := crossings[3]
  let t := frame * 10000
  let omega : Int := (turn * 5000 / max 1 (last.cycle - crossings[0].cycle) : Nat)
  let theta := angleOf ((crossingSixth g.dir last * turn / 6 : Nat) + (omega * ((t : Int) - last.cycle)).fdiv 10000)
  let u := (emfOf g.psiM omega * 2147483648).fdiv (max 1 (10 * s.motion.bus.volt) : Nat)
  let speed := min 1048575 (crossingsSpeed (max 1 g.polePairs) cs)
  liveIf (crossingsQualify g.dir (max 1 g.polePairs) g.emfThresh g.recatchMinRpm cs && !s.faults.grave) s <|
    if p.state = .listen then s.modPolygon x fun p => { p with state := .recatch, attempts := 0, coastUs := now }
    else s.when (p.state == .recatch && s.engineRuns (32 + x.val) && !s.motion.bus.coasting) fun s =>
      ((s.modPolygon x (Polygon.engage g t theta omega u speed)).modLoop (32 + x.val) fun l =>
        { l.begin with i := satQ31 (u - g.currentPid.u0), dAxis := { i := satQ31 (-g.currentPidD.u0) } }).modLoop (38 + x.val) Loop.begin

/-- RECATCH_FAIL (R202): crossings that show a speed below RECATCH_MIN_RPM or reverse rotation end the re-catch; an attempt in which no
set has qualified within RECATCH_WINDOW fails. The drive lost within 64 samples of engaging is rotorLost's. -/
def execRecatchFail (x : Fin 6) (crossings : List EmfCrossing) (s : State) : Host.Outcome State Fault Refusal :=
  let p := s.polygons[x]
  let g := s.legPoly x
  let now := s.timeUs
  let cs := crossings.filter (crossingSeen g.emfThresh)
  let slow := sixthsFollow g.dir false cs && decide (crossingsSpeed (max 1 g.polePairs) cs < 10 * g.recatchMinRpm)
  let away := decide (2 ≤ cs.length) && (slow || sixthsFollow g.dir true cs)
  liveIf (p.state == .recatch) s <|
    if away then
      (s.modPolygon x fun p => { p with state := .listen, attempts := 0, coastUs := now }).raise .polyRecatchFail x
    else s.when (s.elapsed p.coastUs (1000 * g.recatchWindow)) (State.recatchFailed x)

/-- A stop taken (R203): STOPPING from every state but OFF and FAULT; a bridge that does not drive the rotor has its gates off. -/
def State.polyStop (x : Fin 6) (s : State) : State :=
  s.modPolygon x fun p =>
    let p := { p with hostStopped := true }
    match p.state with
    | .off | .fault | .stopping => p
    | .openLoop | .observer | .bearing => { p with state := .stopping, phaseLock := false, alignRun := false }
    | _ => { p.gatesOff with state := .stopping }

/-- POLY_STOP_COMPLETE (R203): the speed reference reaches OBS_RPM; the gates go off and the drive enters OFF. -/
def execPolyStopComplete (x : Fin 6) (s : State) : Host.Outcome State Fault Refusal :=
  let p := s.polygons[x]
  liveIf (p.state == .stopping && (!p.gates || decide (p.rampFine ≤ 40000 * (s.legPoly x).obsRpm))) s <|
    s.modPolygon x fun p => { p.gatesOff with state := .off, obsOk := false }

/-- OVERCURRENT_TRIP (R186, R187, R241): a shunt current above I_TRIP turns the bridge off by hardware: polygons 0–5, then
belt, carriage and roller. -/
def execOvercurrentTrip (b : Fin 9) (s : State) : Host.Outcome State Fault Refusal :=
  if h : b.val < 6 then
    let x : Fin 6 := ⟨b.val, h⟩
    let p := s.polygons[x]
    let entry := if p.state = .fault ∧ p.entry = .grave then .grave else FaultEntry.overcurrent
    liveIf s.islandsUp s ((s.modPolygon x (Polygon.fail entry)).raise .polyOvercurrent x)
  else
    let a := b.val - 6
    liveIf s.islandsUp s ((s.coastServo a).raise .srvOvercurrent a)

/-- POLY_SPEED_FAULT (R206): the speed has been beyond SPEED_BAND for SPEED_TIMER while not RAMPING. -/
def execPolySpeedFault (x : Fin 6) (s : State) : Host.Outcome State Fault Refusal :=
  let p := s.polygons[x]
  match p.offUs with
  | none => live s s
  | some t =>
    liveIf (p.closed && !p.speedRaised && s.elapsed t (1000 * (s.legPoly x).speedTimer)) s <|
      (s.modPolygon x fun p => { p with speedRaised := true }).raiseRun (s.imagingRun x) .polySpeedRun .polySpeedIdle x

/-- Phase lock lost (R197): PHASE_RUN or PHASE_IDLE. -/
def State.phaseLost (x : Fin 6) (s : State) : State :=
  s.when s.polygons[x].phaseLock fun s =>
    (s.modPolygon x fun p => { p with phaseLock := false, phaseIn := 0, phaseOut := 0 }).raiseRun (s.imagingRun x)
      .polyPhaseRun .polyPhaseIdle x

/-- Bearings present or absent for the drive: when they are absent a healthy observer takes commutation back from θ_bd (R200), and a
measurement of θ_ALIGN ends. -/
def Polygon.bearings (present : Bool) (p : Polygon) : Polygon :=
  if present then { p with bdPresent := true }
  else
    let p := { p with bdPresent := false, alignRun := false }
    if p.source = .bearing ∧ p.obsOk then { p.toObserver with state := if p.state = .bearing then .observer else p.state } else p

/-- The condition for taking θ_ALIGN at the next bearing (R195). -/
def Polygon.mayAlign (g : LegPoly) (f : Nat) (p : Polygon) : Bool :=
  p.state == .observer && !p.alignRun && g.bdComm && decide (10 * g.bdCommRpm ≤ p.speed) && p.bdPresent && p.obsOk &&
    decide (2 * f ≤ p.subRun)

/-- The part of a bearing in taking θ_ALIGN (R195): it sets q to 0 where the measurement may begin, and is one of the F bearings of the
revolution where one is under way, adding θ_obs − p × q × 360° / F at its time. -/
def Polygon.alignBearing (g : LegPoly) (f : Nat) (p : Polygon) : Polygon :=
  if p.mayAlign g f then { p with q := 0, alignRun := true, alignLeft := f, alignSum := (0, 0) }
  else if p.alignRun ∧ 0 < p.alignLeft then
    let obs : Int := p.obs.theta + (p.obs.omega * ((p.bq : Int) - 64 * p.sampleAt)).fdiv 640000
    let a := obs - (g.polePairs * turn * p.q / max 1 f : Nat)
    { p with alignLeft := p.alignLeft - 1, alignSum := (p.alignSum.1 + cosine a, p.alignSum.2 + sine a) }
  else p

/-- A bearing delivered to the drive, stamped or substituted, at b_q with T_rev, in 1/64 LOOP cycle: the facet counter advances, a
facet tick falls (R194 to R196, R200). -/
def Polygon.deliver (g : LegPoly) (f bq tRev : Nat) (substituted present : Bool) (p : Polygon) : Polygon :=
  let p := { p with
    q := (p.q + 1) % max 1 f, bq := bq, tRev := tRev, sinceLoss := min 255 (p.sinceLoss + 1)
    subRun := if substituted then 0 else min 255 (p.subRun + 1)
    obs := { p.obs with closeRun := if substituted then p.obs.closeRun else min 31 (p.obs.closeRun + 1) } }
  let p := (if substituted then { p with alignRun := false } else p.alignBearing g f).bearings present
  { p with tickDue := p.tickDue || (present && p.closed) }

/-- LOOP time, in 1/64 cycle, of a station time in taps by a pair of the timebase bridge (R143, R194). -/
def pairTime (k : ClockPair) (taps : Int) : Nat :=
  ((k.count : Int) + ((taps - 128 * k.edge) * ((k.count : Int) - k.before)).fdiv 131072).toNat

/-- The length, in 1/64 LOOP cycle, of a number of taps by a pair of the timebase bridge (R143, R194). -/
def pairSpan (k : ClockPair) (taps : Nat) : Nat := taps * (k.count - k.before) / 131072

/-- The station's latest bearing delivered to its drive, with T_rev (R141, R194, R200): present from F + 1 bearings on, at BD_COMM_RPM
and above. -/
def State.deliverBearing (x : Fin 6) (substituted : Bool) (s : State) : State :=
  let g := s.legPoly x
  let f := max 1 (s.facets x)
  let t := s.scan.stations[x]
  let p := s.polygons[x]
  let bq := pairTime t.pair t.stamp
  let tRev := pairSpan t.pair (nth t.history 0 0 - nth t.history f 0)
  let present := decide (f ≤ p.sinceLoss) && g.bdComm && decide (10 * g.bdCommRpm ≤ p.speed)
  (s.when (!present) (State.phaseLost x)).modPolygon x (Polygon.deliver g f bq tRev substituted present)

/-- The phase error of a stamped bearing against its target, in taps (R197). -/
def State.phaseError (x : Fin 6) (e : Int) (s : State) : State :=
  let g := s.legPoly x
  let p := s.polygons[x]
  let inn := e.natAbs ≤ 128 * g.phaseBand
  let out := 128 * g.phaseUnlock < e.natAbs
  let nIn := if inn then min 16 (p.phaseIn + 1) else 0
  let nOut := if out then min 4 (p.phaseOut + 1) else 0
  let locks := nIn == 16 && p.bdPresent && p.gates
  let s := s.modPolygon x fun p => { p with ePhi := e, phaseIn := nIn, phaseOut := nOut, phaseLock := p.phaseLock || locks }
  s.when (nOut == 4) (State.phaseLost x)

/-- Two consecutive bearings missing: the loss is signalled to the drive (R141, R200). -/
def State.signalLoss (x : Fin 6) (s : State) : State :=
  (s.phaseLost x).modPolygon x fun p => { p with sinceLoss := 0 }.bearings false

/-- Bearings absent without an event: the bearing source is held off, or the scale changes (R141, R198, R200). -/
def Polygon.bearingsOff (p : Polygon) : Polygon :=
  { p with phaseLock := false, phaseIn := 0, phaseOut := 0, sinceLoss := 0 }.bearings false

end Sys2Proof.Machine
end

