-- ==== Sys2Proof/Machine/Scan.lean ====
section
/-! DEFINITION. Pixel clocks and frequency requests, datum lines, bearings, facet identity, the sweep schedule
(04_scan_timing R118 to R148). -/

namespace Sys2Proof.Machine

open Sys2Proof

/-- A station's scan-timing fields. -/
def State.legScan (s : State) (x : Fin 6) : LegScanStation := s.legend.scan.stations[x]

/-- One station's schedule, bearing input and datum line changed by `f`. -/
def State.modStation (x : Fin 6) (f : ScanStation → ScanStation) (s : State) : State :=
  s.modScan fun c => { c with stations := c.stations.set x.val (f c.stations[x]) }

/-- The sweep period T_sw in PXA cycles (R121). -/
def State.tSw (s : State) (x : Fin 6) : Nat := (s.legPixel x).emitters * (s.legScan x).lineCycles

/-- The divider D of a station at a multiplier and a scale, as D × 2^24 to the nearest step (R121, R125, R128). -/
def dividerOf (lineRate lineCycles n sigma : Nat) : Nat :=
  let den := lineRate * lineCycles * sigma
  if den = 0 then 0 else (2 * 25000000 * n * 16777216 * 1000 * 4096 + den) / (2 * den)

/-- Whether a divider keeps every period at or above 1 / 376.875 MHz (R126). -/
def dividerOk (n d : Nat) : Bool := 200000 * n ≤ d * 8 / 16777216 * 376875

/-- The least divider the floor of R126 admits at a multiplier. -/
def dividerFloor (n : Nat) : Nat := ((200000 * n + 376874) / 376875) * 16777216 / 8

/-- The value that a station's divider takes: at least the floor (R126), and at most the largest that D_INT and D_FRAC hold, where the
manual gives D_INT the range 10 to 63 and no outcome beyond it (DESIGN CHOICE, log entry 133). -/
def dividerHeld (n d : Nat) : Nat := min (64 * 16777216 - 1) (max d (dividerFloor n))

/-- The speed entry of a code (R123). -/
def speedEntry (g : LegScan) (code : Nat) : Nat × Nat := nth g.speeds code (0, 0)

/-- The effective scale of a speed code under the thermal, Degraded and survey reductions, rounded down (R123, R281,
R333, R485). -/
def State.effectiveSigma (s : State) (code : Nat) : Nat :=
  (speedEntry s.legend.scan code).1 * s.thermal.requested * s.restrictSpeed * s.survey.ks / (64 * 64 * 64)

/-- The stations that the legend enables (R163, R203). -/
def State.enabled (s : State) (x : Fin 6) : Bool := s.legend.polygons[x].enable

/-- Acquisition of a station's bearings begins anew (R141, R142). -/
def ScanStation.reacquire (t : ScanStation) : ScanStation :=
  { t with history := [], count := 0, missRun := 0, windowHit := false, facetId := .unknown, rivalRuns := 0, phi := none }

/-- A station's schedule restarted with its clock: station time 0, FREE, acquisition anew, the DLL locked (R128, R129,
R133, R141). -/
def ScanStation.restart (tSw : Nat) (t : ScanStation) : ScanStation :=
  { t.reacquire with
    state := .free, dllLocked := true, tick := 0, nextTick := 128 * tSw, correction := 0, early := 0, aligned := false, lockRun := 0,
    slipRun := 0, stamp := 0 }

/-- FORCE_OFF on every lane of all six stations; while it holds the bearing sources off, no bearing is expected, the phase
locks are cleared without an event, and acquisition starts again after BD_ON (R43 step 2, R111, R112, R141). -/
def State.forceOff (src : ForceSource) (s : State) : State :=
  ((s.forceLanes src).allPolygons Polygon.bearingsOff).modScan fun c => { c with
    stations := mapV ScanStation.reacquire c.stations }

/-- A station whose island clock has stopped (R127, R143). -/
def ScanStation.stop (t : ScanStation) : ScanStation :=
  { t with state := .stopped, dllLocked := false, lockRun := 0, slipRun := 0, phi := none, aligned := false, correction := 0, early := 0 }

/-- The dividers of all six stations loaded for a multiplier and a scale; a value below the floor is raised to it, with
CLK.DIV_FLOOR (R126, R128). -/
def State.loadDividers (n sigma : Nat) (s : State) : State :=
  let d (x : Nat) : Nat := dividerOf s.legend.scan.lineRate (getN s.legend.scan.stations x {}).lineCycles n sigma
  let low (x : Nat) : Bool := d x < dividerFloor n
  let s := s.modScan fun c => { c with
    stations := mapIdxV (fun x t =>
      let v := dividerHeld n (d x)
      { t with dInt := v / 16777216, dFrac := v % 16777216 }) c.stations
    floorHit := c.floorHit ||| BitVec.ofNat 6 ((List.range 6).foldl (fun m x => m + b2n (low x) * 2 ^ x) 0) }
  s.each (List.range 6) fun x s => s.raiseIf (low x) .clkDivFloor x

/-- The polygons' and the belt's targets follow the scale in use (R128, R198, R246). -/
def State.followSigma (s : State) : State :=
  let sigma := s.scan.sigma
  let s := { s with polygons := Vector.ofFn fun x =>
    let p := s.polygons[x]
    let t := s.polyTarget x sigma
    { p with
      target := t, phaseLock := p.phaseLock && p.target == t, ramping := p.ramping || (p.target != t && p.gates),
      phaseIn := if p.target = t then p.phaseIn else 0 } }
  let speed := beltSpeed s.legend.scan sigma
  s.modServo 0 fun v => if v.mode = .velocity then { v with traj := rampTraj (s.legServo 0) v.sp v.vff speed } else v

/-- Whether a drive holds a speed change off (R205). -/
def Polygon.holdsSpeed (p : Polygon) : Bool :=
  match p.state with
  | .listen | .calibrate | .align | .openLoop | .coast | .recatch | .stopping => true
  | _ => false

/-- Carrying out a frequency request at a layer boundary (R126, R128, R129): refused by a divider of any station below the floor, a divider
reload in place, or the start of a relock. One that was held reports its end in a CLOCK record (R362). -/
def State.applyRequest (r : FreqRequest) (s : State) : State :=
  let n := (speedEntry s.legend.scan r.code).2
  let bad := stations.any fun x => !dividerOk n (dividerOf s.legend.scan.lineRate (s.legScan x).lineCycles n r.sigma)
  let wasHeld := s.scan.held.isSome
  let s := s.modScan fun c => { c with held := none, req := { r with relock := n != c.pllN } }
  if r.sigma = 0 ∨ bad then (s.modScan fun c => { c with reqState := .refused }).when wasHeld (·.clockRecord .refused r)
  else
    let same := n == s.scan.pllN
    let s := (s.modScan fun c => { c with sigma := r.sigma, code := r.code }).modThermal fun t =>
      { t with applied := t.requested }
    let s := ((s.loadDividers n r.sigma).followSigma).allPolygons Polygon.bearingsOff
    if same then (s.modScan fun c => { c with
      reqState := .applied
      stations := Vector.ofFn fun x => c.stations[x].restart (s.tSw x) }).when wasHeld (·.clockRecord .applied r)
    else s.modScan fun c => { c with
      reqState := .applying, relocking := true, gated := true, pllLocked := false, pllN := n, clockDue := wasHeld,
      stations := mapV ScanStation.stop c.stations }

/-- The held request given up for a later one, or by the Critical band (R130, R286). -/
def State.supersede (s : State) : State :=
  match s.scan.held with
  | some r => (s.modScan fun c => { c with held := none, reqState := .superseded }).clockRecord .superseded r
  | none => s

/-- A frequency request (R130): taken at a layer boundary with every drive ready for it (R205), otherwise held DEFERRED
in the place of any held request. -/
def State.frequencyRequest (src : ReqSource) (code : Nat) (s : State) : State :=
  let r : FreqRequest := { source := src, sigma := s.effectiveSigma code, code := code,
                           relock := (speedEntry s.legend.scan code).2 != s.scan.pllN }
  let now := s.boundary && !s.scan.relocking && !anyV Polygon.holdsSpeed s.polygons
  let s := s.supersede
  if now then s.applyRequest r
  else s.modScan fun c => { c with held := some r, req := r, reqState := .deferred }

/-- FREQUENCY_REQUEST (R130): thermal throttling, a Degraded restriction or a survey cap asks for the scale its
reduction gives at the speed entry in use. -/
def execFrequencyRequest (src : ReqSource) (s : State) : Host.Outcome State Fault Refusal :=
  liveIf s.islandsUp s (s.frequencyRequest src ((s.scan.held.map (·.code)).getD s.scan.code))

/-- PIXEL_PLL_RELOCK (R129, R131): lock at the multiplier in use; the clocks start, the DLLs lock, the schedules are
FREE. -/
def execPixelPllRelock (s : State) : Host.Outcome State Fault Refusal :=
  let applied := s.scan.reqState == .applying
  let report := applied && s.scan.clockDue
  let r := s.scan.req
  liveIf (s.scan.relocking && s.islandsUp) s <|
    (s.modScan fun c => { c with
      relocking := false, gated := false, pllLocked := true, relocks := satAdd 16 c.relocks 1, clockDue := false,
      reqState := if applied then .applied else c.reqState,
      stations := Vector.ofFn fun x => c.stations[x].restart (s.tSw x) }).when report (·.clockRecord .applied r)

/-- The six pixel clocks stop on a loss of the pixel PLL's lock, so that bearings are absent (log entry 121), and the relock runs
from step 3 at once (R131, R200). -/
def State.stopClocks (s : State) : State :=
  (s.modScan fun c => { c with
    pllLocked := false, gated := true, relocking := true, stations := mapV ScanStation.stop c.stations }).allPolygons Polygon.bearingsOff

/-- REF_LOSS (R131): four missing REF_25M edges. -/
def execRefLoss (s : State) : Host.Outcome State Fault Refusal :=
  liveIf s.scan.refOk s ((s.modScan fun c => { c with refOk := false }).raise .clkRefLoss 0)

/-- CTL_SYS_PLL_UNLOCK (R131): the control PLL, or the system PLL, has lost lock. -/
def execCtlSysPllUnlock (sys : Bool) (s : State) : Host.Outcome State Fault Refusal :=
  if sys then liveIf s.scan.sysLocked s ((s.modScan fun c => { c with sysLocked := false }).raise .clkSysUnlock 0)
  else liveIf s.scan.ctlLocked s ((s.modScan fun c => { c with ctlLocked := false }).raise .clkCtlUnlock 0)

/-- DLL_UNLOCK (R136, R138): the datum line is unlocked; a second unlock within an hour marks it. -/
def execDllUnlock (x : Fin 6) (s : State) : Host.Outcome State Fault Refusal :=
  let t := s.scan.stations[x]
  let now := s.timeUs
  liveIf (t.dllLocked && t.state != .stopped) s <|
    let recent := t.unlocks.filter fun u => now < u + 3600000000
    (s.modStation x fun t => { t with
      dllLocked := false, state := if t.state = .locked then .acquire else t.state, lockRun := 0, unlocks := now :: recent,
      marked := t.marked || !recent.isEmpty }).raiseRun (s.imaging x) .datumUnlockRun .datumUnlockIdle x

/-- DLL_RELOCK (R136): the datum line has regained lock. -/
def execDllRelock (x : Fin 6) (s : State) : Host.Outcome State Fault Refusal :=
  let t := s.scan.stations[x]
  liveIf (!t.dllLocked && t.state != .stopped) s (s.modStation x fun t => { t with dllLocked := true })

/-- A measured correction map loaded while the station is not imaging (R137). -/
def State.loadMap (x : Fin 6) (s : State) : State :=
  match s.scan.stations[x].newMap with
  | none => s
  | some m => s.when (!s.imaging x) (·.modStation x fun t => { t with calMap := m, calValid := true, newMap := none })

/-- Ring oscillators of an island by its code (R480). -/
def islandRos : Nat → List Nat
  | 0 => [0, 1]
  | 1 => [2, 3, 4, 5]
  | 2 => [6, 7, 8]
  | 3 => [9, 10, 11]
  | 4 => [12, 13, 14, 15]
  | 5 => [16, 17, 18, 19]
  | 6 => [20, 21]
  | 7 => [22, 23, 24, 25]
  | 8 => [26, 27, 28, 29]
  | 9 => [30, 31, 32, 33]
  | 10 => [34, 35, 36, 37]
  | 11 => [38, 39, 40, 41]
  | 12 => [42, 43, 44, 45]
  | 13 => [46, 47]
  | _ => []

/-- DEGRADE of an island's oscillators that are not left out (R481). -/
def Survey.degrades (v : Survey) (island : Nat) : List Int :=
  ((islandRos island).filter fun k => !(getN v.ros k {}).excluded).map fun k => (getN v.ros k {}).degrade

/-- The mean DEGRADE of an island times 12, exact for up to four oscillators; none when all are left out (R486). -/
def Survey.mean12 (v : Survey) (island : Nat) : Option Int :=
  let ds := v.degrades island
  if ds.isEmpty then none else some (12 * ds.foldl (· + ·) 0 / ds.length)

/-- The samples of a code-density measurement (R137). -/
def calSamples : Nat := 1048576

/-- Where each tap lies, in 1/8,192 tap: the share of the samples that fell to the taps before it (R137). -/
def tapPlaces (m : TapMeasure) : List Nat := (List.range 128).map fun i => (m.hist.take i).foldl (· + ·) 0

/-- How far a place lies from a requested phase round the period, in 1/8,192 tap (R137). -/
def tapDistance (places : List Nat) (k i : Nat) : Nat :=
  let d := (((nth places i 0 : Nat) : Int) - 8192 * k).natAbs % calSamples
  min d (calSamples - d)

/-- The correction map: for each requested phase the real tap that lies nearest, round the period; of two as near, the lower
(R137; DEDUCED, log entry 134). -/
def tapMap (m : TapMeasure) : List Nat :=
  let far := tapDistance (tapPlaces m)
  (List.range 128).map fun k => (List.range 128).foldl (fun b i => if far k i < far k b then i else b) 0

/-- A tap wider than 1.5 taps, or a tap order that is not monotonic (R138). -/
def tapsBad (m : TapMeasure) : Bool := m.hist.any (fun h => decide (12288 < h)) || m.disorder != 0

/-- A calibration of a station's datum line (R137, R138, R486): the map is built from the histogram, and a line out of bounds is
marked for replacement. -/
def State.calibrate (x : Fin 6) (m : TapMeasure) (s : State) : State :=
  let now := s.timeUs
  ((s.modStation x fun t => { t with
    newMap := some (tapMap m), calDue := false, calUs := now, marked := t.marked || tapsBad m }).modSurvey fun v =>
      { v with degradeAtCal := v.degradeAtCal.set x.val ((v.mean12 (7 + x.val)).getD v.degradeAtCal[x]) }).loadMap x

/-- DATUM_CALIBRATION (R137, R138): a code-density measurement of 2^20 samples. -/
def execDatumCalibration (x : Fin 6) (m : TapMeasure) (s : State) : Host.Outcome State Fault Refusal :=
  let t := s.scan.stations[x]
  liveIf (t.dllLocked && t.state != .stopped && !(t.calDue && s.imaging x)) s (s.calibrate x m)

/-- The calibration interval of the present die band in µs (R137, R277, R279). -/
def State.calIntervalUs (s : State) : Nat := 60000000 * nth s.legend.scan.calInterval (min 3 s.thermal.band.code) 10

/-- CALIBRATION_DUE (R137, R279): the interval of the present die band has run out. -/
def execCalibrationDue (x : Fin 6) (s : State) : Host.Outcome State Fault Refusal :=
  let t := s.scan.stations[x]
  liveIf (s.islandsUp && !t.calDue && s.elapsed t.calUs s.calIntervalUs) s (s.modStation x fun t => { t with calDue := true })

/-- The spare chain takes a marked datum line's place at a layer boundary (R138), under its own measurement: one out of bounds is
marked in its turn. -/
def State.swapDatum (x : Fin 6) (m : TapMeasure) (s : State) : State :=
  let t := s.scan.stations[x]
  let now := s.timeUs
  if !t.marked then s
  else if t.spareFree && (s.legScan x).spareChain then
    let s := s.modStation x fun t => { t with
      chain := 1, spareFree := false, marked := tapsBad m, dllLocked := true, calMap := tapMap m, calValid := true,
      newMap := none, calUs := now, unlocks := [], state := if t.state = .stopped then .stopped else .free, aligned := false, early := 0 }
    let s := s.modSurvey fun v => { v with record := { v.record with
      chains := v.record.chains ||| BitVec.ofNat 6 (2 ^ x.val) } }
    (s.raise .datumSpareUsed x).spareLog 6 x.val 0
  else if t.failed then s
  else (s.modStation x fun t => { t with
    failed := true, state := if t.state = .locked then .acquire else t.state }).raise .datumFailed x

/-- Whether bearings are expected: the clock runs and no force-off holds the bearing source (R112, R141). -/
def State.bearingsExpected (s : State) (x : Fin 6) : Bool :=
  s.scan.stations[x].state != .stopped && !s.pixels[x].forced

/-- The predicted time b̂ of the next bearing, once F + 1 have been stamped (R141). -/
def ScanStation.predicted (t : ScanStation) (f : Nat) : Option Nat :=
  if f = 0 ∨ t.count < f + 1 then none
  else match t.history[0]?, t.history[f]?, t.history[f - 1]? with
    | some last, some first, some same => some (same + (last - first))
    | _, _, _ => none

/-- The tick of the schedule nearest a time in taps. -/
def ScanStation.nearTick (t : ScanStation) (v : Int) : Int :=
  if (v - t.tick).natAbs ≤ (v - t.nextTick).natAbs then t.tick else t.nextTick

/-- A difference in taps wrapped into half a sweep period on either side (R197). -/
def wrapSweep (tSw : Nat) (v : Int) : Int :=
  if tSw = 0 then v else (v + 64 * tSw) % (128 * tSw) - 64 * tSw

/-- A bearing taken into the station's history, stamped or substituted: the latest stamps, the facet count; in NONE mode the first
bearing after acquisition is facet 0 (R141, R142). The facet of the latest bearing stamped stands over a substituted one (R529). -/
def ScanStation.take (f b : Nat) (signature stamped : Bool) (t : ScanStation) : ScanStation :=
  let firstNone := !signature && t.facetId == .unknown && t.count == f + 1
  let facet := if firstNone then 0 else (t.facet + 1) % max 1 f
  { t with
    history := (b :: t.history).take 61, count := t.count + 1, stamp := b, facet := facet,
    stampFacet := if stamped then facet else t.stampFacet,
    facetId := if firstNone then .noneMode else t.facetId }

/-- φ_k in taps, when `b` is the bearing, of facet `facet`, of the sweep whose frame is complete or in flight: sweep k is that of
tick j_m + 1 + (k − k0), whose bearing comes near that tick (R89, R144, R145; log entry 120). -/
def State.phiOf (s : State) (x : Fin 6) (b facet : Nat) : Option Int :=
  let t := s.scan.stations[x]
  let g := s.legScan x
  let px := s.legPixel x
  let v : Int := b - 128 * ((g.xOff : Int) - g.bdDelay)
  let index := if (v - t.tick).natAbs ≤ (v - t.nextTick).natAbs then t.tickIndex else t.tickIndex + 1
  match s.pixels[x].ready.or s.pixels[x].frame with
  | none => none
  | some f => if t.meridianTick + 1 + f.sweep ≤ index then
      some ((b : Int) + 128 * g.bdDelay + s.position.reg[x].iLatched + (nth px.facetDelay facet 0 : Nat) + nth px.bowShift 0 0)
    else none

/-- The datum line's walk from its present tap to a first-cell phase, by the shorter way modulo 128, one step a tap (R135). -/
def ScanStation.walkTo (phi : Option Int) (facet : Nat) (t : ScanStation) : ScanStation :=
  match phi with
  | none => { t with phi := none, phiFacet := facet }
  | some p =>
    let d := ((p - t.tap) % 128).toNat
    { t with
      phi := some p, phiFacet := facet, tap := (p % 128).toNat, datumSteps := wrapAdd 32 t.datumSteps (min d (128 - d)) }

/-- A bearing at a time, stamped or substituted: taken, and φ_k formed for the sweep it belongs to (R141, R145). -/
def State.takeBearing (x : Fin 6) (b : Nat) (stamped : Bool) (s : State) : State :=
  let t := s.scan.stations[x].take (s.facets x) b (s.legScan x).signature stamped
  let phi := s.phiOf x b t.facet
  s.modStation x fun _ => t.walkTo phi t.facet

/-- Whether an edge at the bearing input qualifies: the direction of BD_POLARITY, beyond BD_THRESH, active for BD_MIN_WIDTH cycles
(R139). The threshold is taken without its 20 mV of hysteresis (DEDUCED, log entry 135). -/
def edgeQualified (g : LegScanStation) (e : BdEdge) : Bool :=
  e.falling == g.bdFalling && decide (g.bdMinWidth ≤ e.width) &&
    (if e.falling then decide (e.level < 4 * g.bdThresh) else decide (4 * g.bdThresh ≤ e.level))

/-- The bearing stamp of an edge: its cycle and its tap after the correction map (R140). -/
def ScanStation.stampOf (e : BdEdge) (t : ScanStation) : Nat :=
  128 * e.cycle + (if t.calValid then nth t.calMap (e.tap % 128) (e.tap % 128) else e.tap % 128)

/-- Whether a stamp lies inside the acceptance window; every one does during acquisition (R141). -/
def ScanStation.accepts (f bdWindow b : Nat) (t : ScanStation) : Bool :=
  match t.predicted f with
  | none => true
  | some p => p ≤ b + 128 * bdWindow && b ≤ p + 128 * bdWindow

/-- BEARING_STAMP (R139 to R141, R145, R194, R197): a qualified edge inside the window, or during acquisition, is the bearing: the
first-cell phase is formed and the drive gets it. -/
def execBearingStamp (x : Fin 6) (edge : BdEdge) (s : State) : Host.Outcome State Fault Refusal :=
  let t := s.scan.stations[x]
  let g := s.legScan x
  let f := s.facets x
  let b := t.stampOf edge
  liveIf (s.bearingsExpected x && edgeQualified g edge && t.accepts f g.bdWindow b && !t.windowHit) s <|
    let s := (s.takeBearing x b true).modStation x fun t' => { t' with
      missRun := 0, windowHit := (t.predicted f).isSome, pair := edge.pair }
    let s := s.deliverBearing x false
    let target : Int := 128 * ((g.xOff : Int) - g.bdDelay)
    s.phaseError x (wrapSweep (s.tSw x) (b - (t.nearTick (b - target) + target)))

/-- BEARING_WINDOW_CLOSE (R141): a window that closes empty substitutes b̂, from which φ_k follows, and raises BEAR_x.MISS; a second
consecutive one signals the loss, and inside a window raises BEAR_x.LOST. -/
def execBearingWindowClose (x : Fin 6) (s : State) : Host.Outcome State Fault Refusal :=
  let t := s.scan.stations[x]
  match t.predicted (s.facets x) with
  | none => live s s
  | some p =>
    liveIf (s.bearingsExpected x) s <|
      if t.windowHit then s.modStation x fun t => { t with windowHit := false }
      else
        let s := (s.takeBearing x p false).modStation x fun t => { t with
          misses := satAdd 16 t.misses 1, missRun := min 2 (t.missRun + 1) }
        let s := (s.deliverBearing x true).raise .bearMiss x
        if t.missRun = 0 then s
        else
          let s := s.signalLoss x
          s.raiseIf (t.missRun == 1 && s.imagingRun x) .bearLost x

/-- STRAY_EDGE (R139, R141): a qualified edge outside the window, or a later one inside it. -/
def execStrayEdge (x : Fin 6) (edge : BdEdge) (s : State) : Host.Outcome State Fault Refusal :=
  let t := s.scan.stations[x]
  let g := s.legScan x
  let f := s.facets x
  liveIf (s.bearingsExpected x && (t.predicted f).isSome && edgeQualified g edge && (t.windowHit || !t.accepts f g.bdWindow (t.stampOf edge))) s <|
    (s.modStation x fun t => { t with strays := satAdd 16 t.strays 1 }).raise .bearStray x

/-- The measured signature: 4F times the difference of each facet-to-facet interval, averaged over four revolutions,
from their mean; entry `i` is the interval that follows bearing number `i` modulo F (R142). -/
def ScanStation.signature (t : ScanStation) (f : Nat) : List Int :=
  let h (k : Nat) : Int := (nth t.history k 0 : Nat)
  let total := h 0 - h (4 * f)
  (List.range f).map fun i =>
    let sum := (List.range (4 * f)).foldl (fun a k => if (t.count + 4 * f - 2 - k) % f = i then a + (h k - h (k + 1)) else a) 0
    f * sum - total

/-- The score of a rotation: the sum of absolute differences from the legend signature (R142). -/
def rotationScore (f : Nat) (sig : List Int) (v : List Int) (r : Nat) : Nat :=
  ((List.range f).map fun i => (nth v i 0 - 4 * f * nth sig ((i + r) % f) 0).natAbs).foldl (· + ·) 0

/-- The rotation with the lowest score, that score, and the second lowest (R142). -/
def bestRotation (f : Nat) (sig : List Int) (v : List Int) : Nat × Nat × Nat :=
  let sc := (List.range f).map (rotationScore f sig v)
  let best := (List.range f).foldl (fun b r => if nth sc r 0 < nth sc b 0 then r else b) 0
  let rest := (sc.eraseIdx best)
  (best, nth sc best 0, rest.foldl min (rest.headD 0))

/-- FACET_ID_CHECK (R142): the identity is found by the interval signature, and checked every revolution. -/
def execFacetIdCheck (x : Fin 6) (s : State) : Host.Outcome State Fault Refusal :=
  let t := s.scan.stations[x]
  let g := s.legScan x
  let f := s.facets x
  let (best, low, second) := bestRotation f g.facetSig (t.signature f)
  let sure := 1 < f && low + 4 * f * g.sigMargin ≤ second
  liveIf (g.signature && s.bearingsExpected x && 4 * f + 1 ≤ t.count && 4 * f < t.history.length) s <|
    match t.facetId with
    | .identified =>
      if best = t.origin then s.modStation x fun t => { t with rivalRuns := 0 }
      else
        let runs := if t.rival = best then min 4 (t.rivalRuns + 1) else 1
        let s := s.modStation x fun t => { t with rival := best, rivalRuns := runs }
        s.when (runs == 4) fun s =>
          (s.modStation x fun t => { t with facetId := .unknown, rivalRuns := 0 }).raiseRun (s.imaging x)
            .bearFacetRun .bearFacetIdle x
    | _ =>
      let facet := (t.count + f - 1 + best) % f
      s.when sure (·.modStation x fun t => { t with
        facetId := .identified, origin := best, facet := facet, stampFacet := (t.stampFacet + facet + f - t.facet % f) % f, rivalRuns := 0 })

/-- Whether the belt is at process speed (R143). -/
def State.beltAtSpeed (s : State) : Bool :=
  let v := getN s.motion.servos 0 {}
  v.mode == .velocity && v.traj.kind == .line && v.stopDue == .none

/-- SCHEDULE_TICK (R143): tick j + 1 occurs; the tick after it is fixed from the slew that error e_j asked for. -/
def execScheduleTick (x : Fin 6) (s : State) : Host.Outcome State Fault Refusal :=
  let t := s.scan.stations[x]
  let speed := s.beltAtSpeed && (s.legend.position.indexSrc.isNone || s.position.synced)
  let t0 := 128 * s.tSw x
  liveIf (t.state != .stopped) s <| State.loadMap x <|
    s.modStation x fun t => { t with
      state := if !speed then .free else if t.state = .free then .acquire else t.state
      lockRun := if speed then t.lockRun else 0, slipRun := if speed then t.slipRun else 0, aligned := speed && t.aligned
      tick := t.nextTick, tickIndex := t.tickIndex + 1,
      nextTick := if !speed || t.state == .free then t.nextTick + t0
        else ((t.nextTick : Int) + t0 + t.correction).toNat
      correction := if speed then t.early else 0, early := 0 }

/-- The slew that an error asks for (R143). -/
def slewOf (g : LegScanStation) (e : Int) : Int :=
  let lim : Int := 128 * g.schedSlew
  clampI (-lim) lim (roundDiv e (2 ^ g.schedGain))

/-- Tick t_j of a lattice index: the last tick, the next one, or another at whole periods from the last (R143). -/
def ScanStation.tickAt (t0 : Nat) (j : Int) (t : ScanStation) : Int :=
  if j = t.tickIndex then t.tick
  else if j = t.tickIndex + 1 then t.nextTick
  else t.tick + (j - t.tickIndex) * t0

/-- The ticks matched with the lattice when the first crossing since FREE arrives: it belongs to the nearer of the last tick and the
next (R143; DEDUCED, log entry 136). -/
def ScanStation.alignTo (j c : Int) (t : ScanStation) : ScanStation :=
  if t.aligned then t
  else { t with
    aligned := true, tickIndex := if (c - t.tick).natAbs ≤ (c - t.nextTick).natAbs then j else j - 1 }

/-- A MOTN time, in 1/64 cycle, in taps of station time by a pair of the timebase bridge (R143). -/
def bridge (k : ClockPair) (time : Nat) : Int :=
  128 * (k.edge : Int) + roundDiv (((time : Int) - k.count) * 131072) (k.count - k.before)

/-- A crossing time taken into the schedule (R143, R147, R174). A tick beyond CAPTURE_BAND jumps to it in ACQUIRE outside a window;
otherwise the error asks for a slew, of the tick after next. While the station slews to a Q_x that registration changed, nothing
jumps and no SLIP is counted (R147; DEDUCED, log entry 137). A schedule still in SLIP when no window stands is in ACQUIRE again
(DEDUCED, log entry 47). -/
def State.takeCrossing (x : Fin 6) (j c : Int) (s : State) : State :=
  let g := s.legScan x
  let t0 := 128 * s.tSw x
  let s := s.modStation x (ScanStation.alignTo j c)
  let t := s.scan.stations[x]
  let e := c - t.tickAt t0 j
  let window := s.windowOpen
  let moving := s.position.reg[x].slewing
  let now : SchedState := if t.state = .slip ∧ !window then .acquire else t.state
  if now = .acquire ∧ !window ∧ !moving ∧ 128 * g.captureBand < e.natAbs then
    s.modStation x fun t => { t with
      state := now, err := e, tick := c.toNat, tickIndex := j, nextTick := c.toNat + t0, correction := 0, early := 0, lockRun := 0, slipRun := 0 }
  else
    let lock := if e.natAbs ≤ 128 * g.lockBand then min 16 (t.lockRun + 1) else 0
    let slip := if 128 * g.unlockBand < e.natAbs ∧ !moving then min 4 (t.slipRun + 1) else 0
    let locks := lock == 16 && t.dllLocked && !t.failed && t.state != .locked
    let slips := slip == 4 && (t.state == .locked || t.state == .acquire)
    let s := s.modStation x fun t => { t with
      err := e, lockRun := lock, slipRun := if slips then 0 else slip,
      correction := if j ≤ t.tickIndex then slewOf g e else t.correction, early := if j ≤ t.tickIndex then t.early else slewOf g e,
      state := if slips then (if window then .slip else .acquire) else if locks then .locked else now }
    let s := s.modPosition fun p => { p with reg := modN p.reg x.val fun r =>
      { r with slewing := r.slewing && lock < 16 } }
    s.when slips (·.raiseRun (s.imagingRun x) .schedSlipRun .schedSlipIdle x)

/-- CROSSING_TIME_DELIVERY (R143, R166): the lattice crossing that MOTN has computed reaches the station through the timebase
bridge. -/
def execCrossingTimeDelivery (x : Fin 6) (pair : ClockPair) (s : State) : Host.Outcome State Fault Refusal :=
  let s := s.modStation x fun t => { t with pair := pair }
  let t := s.scan.stations[x]
  match s.position.crossings[x] with
  | none => live s s
  | some k =>
    let s' := s.modPosition fun p => { p with crossings := p.crossings.set x.val none }
    live s (s'.when (t.state == .acquire || t.state == .locked || t.state == .slip)
      (·.takeCrossing x k.index (bridge pair k.time64)))

end Sys2Proof.Machine
end

