-- ==== Sys2Proof/Machine/Abort.lean ====
section
/-! DEFINITION. The abort of a layer as one operation, steps 2 to 6 of R43, and its parts that other stops share
(01_layer_cycle R42 to R46; 05 R169; 10 R315). -/

namespace Sys2Proof.Machine

open Sys2Proof

/-- The general compare lists disarmed, each output at its idle level (R43 step 5, R168, R169). -/
def State.idleCompares (s : State) : State := (s.eachCompare Compare.disarm).compareIdle

/-- Steps 2, 3 and 5 of R43: FORCE_OFF, the safe HV set-points, the stations stopped, entries and lists disabled. -/
def State.cutLayer (src : ForceSource) (s : State) : State :=
  (((s.forceOff src).hvHardware).stopStations).idleCompares

/-- The pulse that a member drives on ULB_ABORT_N for an abort of its own (R42, R315). -/
def State.drivePulse (own : Bool) (s : State) : State :=
  let now := s.timeUs
  s.when (own && s.legend.power.ulbEnable) (·.modPower fun p => { p with abortPulse := some now })

/-- An abort trigger (R42, R43, R46): with a job in its window and no abort running, steps 2 to 6 act on the whole layer;
a later trigger changes nothing. -/
def State.abort (cause : Cause) (src inst : Nat) (s : State) : State :=
  match s.windowJob with
  | none => s
  | some j =>
    if s.layer.abortRunning then s
    else
      let fuse := s.pressing && s.motion.carrJob == j.seq
      let s := (s.cutLayer (if cause = .lsafe then .lsafe else .abortInput)).abortMotion
      let s := s.modJob j.seq fun j => { j with inst := inst, source := src, flags := { j.flags with partialFuse := fuse } }
      let s := s.modLayer fun l => { l with
        abortRunning := true, abortSeq := j.seq, abortCause := cause, abortSource := src }
      s.drivePulse (cause != .uliberAbort)

/-- Station `x`'s meridian entry set MISSED (R33): the job in ARMED ends REJECTED_AT_ADMISSION, in its window it is aborted. -/
def State.meridianMissed (seq x : Nat) (s : State) : State :=
  match s.jobOf seq with
  | none => s
  | some j =>
    match j.state with
    | .armed => s.endJob seq .rejected .meridianMissed Source.merMissed.number x
    | .imaging | .transfer | .transfuse => s.abort .meridianMissed Source.merMissed.number x
    | _ => s

end Sys2Proof.Machine
end

