-- ==== Sys2Proof/Machine/Atlas.lean ====
section
/-! DEFINITION. The atlas in MRAM and the layer queue: marks, acceptance, FINAL records, receipts and the records after a
restart (12 R353 to R363, R370 to R375). -/

namespace Sys2Proof.Machine

open Sys2Proof

/-- The 64 bytes of a mark (R370). -/
def markBytes (seq kind slot entryCrc : Nat) (body : List Byte) : List Byte :=
  let b := le 8 seq ++ le 1 kind ++ le 1 slot ++ le 2 0 ++ le 4 entryCrc ++ padTo 32 body ++ List.replicate 14 0
  b ++ le 2 (crc16 b)

/-- Whether a stored mark is whole: its CRC is right and its KIND is the one of its place (R370, R373). -/
def markValid (kind : Nat) (b : List Byte) : Bool :=
  b.length == 64 && leAt b 62 2 == crc16 (b.take 62) && byteAt b 8 == kind

/-- Mark `kind` (1 ACCEPTED to 4 REPORTED) of a slot. -/
def AtlasSlot.mark (a : AtlasSlot) (kind : Nat) : List Byte := getN a.marks (kind - 1) []

/-- A mark stored in a slot. -/
def AtlasSlot.put (kind : Nat) (b : List Byte) (a : AtlasSlot) : AtlasSlot :=
  { a with marks := modN a.marks (kind - 1) fun _ => b }

/-- One slot of a copy changed. -/
def AtlasCopy.modSlot (slot : Nat) (f : AtlasSlot → AtlasSlot) (c : AtlasCopy) : AtlasCopy :=
  { c with slots := modN c.slots slot f }

/-- The atlas changed. -/
def State.modAtlas (f : Atlas → Atlas) (s : State) : State := s.modHost fun h => { h with atlas := f h.atlas }

/-- The header as both copies hold it once written (R371). -/
def Atlas.header (a : Atlas) : AtlasHeader := a.copies[0].header

/-- The header of both copies rewritten (R371). -/
def Atlas.setHeader (f : AtlasHeader → AtlasHeader) (a : Atlas) : Atlas :=
  { a with copies := mapV (fun c => { c with header := f c.header }) a.copies }

/-- A mark's write in one copy (R370): a copy whose verification failed holds a torn mark, and copy B is not begun when
copy A failed. The entry copy is written with an ACCEPTED mark. -/
def AtlasCopy.write (i slot kind : Nat) (entry b : List Byte) (r : MarkResult) (c : AtlasCopy) : AtlasCopy :=
  let torn := (r = .failA ∧ i = 0) ∨ (r = .failB ∧ i = 1)
  if r = .failA ∧ i = 1 then c
  else c.modSlot slot fun a =>
    ({ a with entry := if kind = 1 then entry else a.entry }).put kind (if torn then [] else b)

/-- A mark's write in copy A and then copy B (R370). -/
def Atlas.write (slot kind : Nat) (entry b : List Byte) (r : MarkResult) (a : Atlas) : Atlas :=
  { a with copies := mapIdxV (fun i c => c.write i slot kind entry b r) a.copies }

/-- The slot of an accepted job that is not yet reported. -/
def Atlas.slotFor (a : Atlas) (seq : Nat) : Option Nat := (a.slotOf.find? fun p => p.1 == seq).map Prod.snd

/-- A free slot, the lowest one (R355, R370). -/
def Atlas.freeSlot (a : Atlas) : Option Nat := (List.range 64).find? fun k => !a.slotOf.any fun p => p.2 == k

/-- The entry copy of a slot, from the copy A that holds it, else from B (R370). -/
def Atlas.entryAt (a : Atlas) (slot : Nat) : List Byte :=
  let e := (getN a.copies[0].slots slot {}).entry
  if e.length = 128 then e else (getN a.copies[1].slots slot {}).entry

/-- Slots of a queue's ring that hold no record and that no waiting record needs (R355, R359). -/
def CompQueue.room (q : CompQueue) : Nat :=
  let size := 2 ^ q.sizeLog2
  size - 1 - (q.tail + size - q.head) % size - q.waiting.length

/-- Accepted jobs that are QUEUED (R355). -/
def State.queuedJobs (s : State) : Nat := (s.layer.jobs.filter fun j => j.state == .queued).length

/-- Why no LQ entry is taken now, in the order of R355; none when one may be. -/
def State.lqStop (s : State) : Option DoorReason :=
  let q := getN s.host.cqs 0 {}
  if 8 ≤ s.queuedJobs then some .aheadLimit
  else if s.host.atlas.freeSlot.isNone then some .atlasFull
  else if !q.enable then some .cqDisabled
  else if q.room = 0 then some .cqFull
  else none

/-- Whether a ring offers an entry that taking has not stopped before (R353, R354). -/
def Ring.offers (r : Ring) : Bool := r.enable && !r.error && r.rung && r.head != r.tail

/-- A doorbell (R354): one that equals the head of an enabled ring is ignored. -/
def Ring.ring (tail : Nat) (r : Ring) : Ring :=
  if r.enable ∧ tail = r.head then r else { r with tail := tail, rung := r.enable }

/-- An entry taken: the head advances, and an empty ring is no longer rung (R354, R356). -/
def Ring.advance (r : Ring) : Ring :=
  let h := (r.head + 1) % 64
  { r with head := h, rung := r.rung && h != r.tail }

/-- Taking stops before the tail: a DOORBELL record names tail written, tail taken and reason (R354). -/
def State.stopLq (reason : DoorReason) (s : State) : State :=
  (s.doorRecord 0 s.host.lq.tail s.host.lq.head reason).modHost fun h => { h with lq := { h.lq with rung := false } }

/-- Bytes 16 to 25 of an ACCEPTED record (R362). -/
def acceptedBody (tag index queued : Nat) : List Byte := le 8 tag ++ le 1 index ++ le 1 queued

/-- LQ_DOORBELL (R354, R374): a write of LQ_TAIL; entries are taken by LQ_ENTRY_ACCEPT. -/
def execLqDoorbell (tail : Fin 64) (s : State) : Host.Outcome State Fault Refusal :=
  liveIf s.barOpen s (s.modHost fun h => { h with lq := h.lq.ring tail.val })

/-- The entry copy and ACCEPTED mark of the next sequence number are durable: NEXT_SEQ rises, the job is QUEUED, its
ACCEPTED record follows, LQ_HEAD advances (R356). -/
def State.acceptEntry (slot : Nat) (entry : List Byte) (s : State) : State :=
  let seq := s.host.atlas.header.nextSeq
  let index := s.host.lq.head
  let b := markBytes seq 1 slot (crc32 entry) []
  let s := s.modAtlas fun a =>
    { (a.write slot 1 entry b .durable).setHeader fun h => { h with nextSeq := h.nextSeq + 1 } with
      slotOf := a.slotOf ++ [(seq, slot)] }
  let s := s.modLayer fun l => { l with jobs := l.jobs ++ [{ seq := seq, entry := entry, state := .queued }] }
  let s := s.record 0 .accepted seq (acceptedBody (leAt entry 8 8) index s.queuedJobs)
  s.modHost fun h => { h with lq := h.lq.advance }

/-- The ACCEPTED mark could not be made durable: nothing is taken, the slot stays free in both copies (R356). -/
def State.refuseEntry (slot : Nat) (s : State) : State :=
  ((s.modAtlas fun a => { a with copies := mapV (·.modSlot slot (·.put 1 [])) a.copies }).stopLq .atlasWrite).raise .atlasWrite 0

/-- LQ_ENTRY_ACCEPT (R354 to R356, R372): one entry is taken, or taking stops before the tail with its reason. -/
def execLqEntryAccept (entry : Vector Byte 128) (verdict : MarkResult) (s : State) : Host.Outcome State Fault Refusal :=
  liveIf (s.boot.ready && s.host.lq.offers && s.host.lqOpen) s <|
    match s.lqStop with
    | some r => s.stopLq r
    | none =>
      match s.host.atlas.freeSlot with
      | none => s
      | some slot => if verdict = .durable then s.acceptEntry slot entry.toList else s.refuseEntry slot

/-- The life counter that an end raises, by its status code 1 to 5 (R47, R371). -/
def AtlasHeader.countLife (code : Nat) (h : AtlasHeader) : AtlasHeader :=
  { h with life := modN h.life (code - 1) (wrapAdd 64 · 1) }

/-- STARTED could not be made durable: the job whose arming goes on ends FAULT_BEFORE_START (R29); one that has ended
meanwhile is left as it ended (R47). -/
def State.startedFailed (seq : Nat) (s : State) : State :=
  s.when ((s.jobOf seq).any fun j => j.state == .admitted && j.arming) fun s =>
    (s.endJob seq .rejected .faultBeforeStart Source.atlasWrite.number 0).drivePulse s.power.layerReleased

/-- What a durable mark brings: arming goes on after STARTED (R32); after ENDED the life counter rises and the FINAL record
falls due (R371, R372). -/
def State.markDurable (slot : Nat) (m : MarkTodo) (s : State) : State :=
  if m.kind = 2 then s.modJob m.seq fun j => { j with startedDurable := true }
  else s.modAtlas fun a =>
    { a.setHeader (·.countLife (byteAt m.body 0)) with
      finals := a.finals ++ [(m.seq, padTo 48 (m.body ++ le 8 (leAt (a.entryAt slot) 8 8)))] }

/-- ATLAS_MARK_WRITE (R370, R372): the oldest mark due is written in both copies; a third failure raises ATLAS.WRITE, and
the transition does not take place: an ENDED mark stays due (log entry 12). -/
def execAtlasMarkWrite (verdict : MarkResult) (s : State) : Host.Outcome State Fault Refusal :=
  match s.host.atlas.todo with
  | [] => live s s
  | m :: rest =>
    match s.host.atlas.slotFor m.seq with
    | none => live s (s.modAtlas fun a => { a with todo := rest })
    | some slot =>
      let t := s.modAtlas fun a => a.write slot m.kind [] (markBytes m.seq m.kind slot 0 m.body) verdict
      let gone (t : State) : State := t.modAtlas fun a => { a with todo := rest }
      if verdict = .durable then live s ((gone t).markDurable slot m)
      else if m.kind = 2 then live s (((gone t).raise .atlasWrite 0).startedFailed m.seq)
      else live s (t.raise .atlasWrite 0)

/-- The oldest accepted job without a FINAL record (R363). -/
def Atlas.nextFinal (a : Atlas) : Option Nat :=
  (a.slotOf.filter fun p => !a.written.contains p.1).foldl (fun m p => match m with
    | none => some p.1
    | some q => some (min q p.1)) none

/-- FINAL_RECORD (R363): the oldest job without one has ended with a durable ENDED mark; its record is placed on CQ0 and
the job leaves the engine. -/
def execFinalRecord (s : State) : Host.Outcome State Fault Refusal :=
  let a := s.host.atlas
  match a.nextFinal with
  | none => live s s
  | some seq =>
    match a.finals.find? fun p => p.1 == seq with
    | none => live s s
    | some f => liveIf (!s.host.restartDue) s <|
      ((s.offer 0 { kind := .final, seq := seq, replay := a.again.contains seq, body := f.2 }).modAtlas fun a => { a with written := a.written ++ [seq] }).modLayer fun l =>
        { l with jobs := l.jobs.filter fun j => j.seq != seq }

/-- A REPORTED mark written for a job whose FINAL record the host has passed; once durable the slot is free (R372). -/
def State.report (verdicts : List (Nat × MarkResult)) (seq : Nat) (s : State) : State :=
  let r := ((verdicts.find? fun p => p.1 == seq).map Prod.snd).getD .durable
  match s.host.atlas.slotFor seq with
  | none => s
  | some slot =>
    let s := s.modAtlas fun a => a.write slot 4 [] (markBytes seq 4 slot 0 []) r
    if r = .durable then s.modAtlas fun a => { a with
      slotOf := a.slotOf.filter fun p => p.1 != seq
      finals := a.finals.filter fun p => p.1 != seq
      written := a.written.filter (· != seq) }
    else s.raise .atlasWrite 0

/-- Whether a head value lies in the written range of an enabled queue (R359). -/
def CompQueue.headOk (q : CompQueue) (head : Nat) : Bool :=
  let size := 2 ^ q.sizeLog2
  q.enable && decide (head < size) && decide ((head + size - q.head) % size ≤ (q.tail + size - q.head) % size)

/-- CQ_HEAD_WRITE (R359, R372): the slots before the new head are free; past a FINAL record of CQ0 the job is REPORTED. -/
def execCqHeadWrite (n : Fin 14) (head : Fin 4096) (verdicts : List (Nat × MarkResult)) (s : State) :
    Host.Outcome State Fault Refusal :=
  let q := s.host.cqs[n]
  let size := 2 ^ q.sizeLog2
  let gap := (head.val + size - q.head) % size
  let past := q.finals.filter fun f => (f.1 + size - q.head) % size < gap
  liveIf (s.barOpen && q.headOk head.val) s
    ((s.modCq n.val fun q => { q with head := head.val, finals := q.finals.filter fun f => !past.contains f }).each
      (past.map Prod.snd) (State.report verdicts))

/-- The header of the RESTART record's body (R362). -/
def State.restartBody (s : State) : List Byte :=
  let a := s.host.atlas
  let oldest := a.slotOf.foldl (fun m p => if m = 0 then p.1 else min m p.1) 0
  let h := s.host
  le 1 h.restartKind.code ++ le 1 h.requeued ++ le 1 h.interrupted ++ le 1 h.dataLost ++ le 8 a.header.nextSeq ++ le 8 oldest

/-- A slot entry into a list ordered by sequence number. -/
def insertSeq (p : Nat × Nat) : List (Nat × Nat) → List (Nat × Nat)
  | [] => [p]
  | q :: qs => if p.1 ≤ q.1 then p :: q :: qs else q :: insertSeq p qs

/-- Accepted jobs in sequence order (R374). -/
def Atlas.bySeq (a : Atlas) : List (Nat × Nat) := a.slotOf.foldr insertSeq []

/-- The records that one unreported job gets again (R373, R374): ACCEPTED with REPLAY, and a FINAL record under R363 while
every earlier job has its own; the answer says whether the next job may have its own too. -/
def State.replayJob (p : Nat × Nat) (acc : List Held × Bool × State) : List Held × Bool × State :=
  let out := acc.1
  let open' := acc.2.1
  let s := acc.2.2
  let a := s.host.atlas
  let queued := s.queuedJobs
  let acceptedRec : Held :=
    { kind := .accepted, seq := p.1, replay := true, body := padTo 48 (acceptedBody (leAt (a.entryAt p.2) 8 8) 0xFF queued),
      sinceUs := s.timeUs }
  match (a.finals.find? fun f => f.1 == p.1).filter fun _ => open' with
  | none => (out ++ [acceptedRec], false, s)
  | some f =>
    let fin : Held := { kind := .final, seq := p.1, replay := a.again.contains p.1, body := f.2, sinceUs := s.timeUs }
    (out ++ [acceptedRec, fin], true,
      (s.modAtlas fun a => { a with written := a.written ++ [p.1] }).modLayer fun l =>
        { l with jobs := l.jobs.filter fun j => j.seq != p.1 })

/-- RESTART_RECORDS (R374): CQ0 is enabled; the RESTART record, then the records of R373 in sequence order, stand before
what the device still holds; LQ entries are taken once they are written. -/
def execRestartRecords (s : State) : Host.Outcome State Fault Refusal :=
  let q := getN s.host.cqs 0 {}
  let restart : Held := { kind := .restart, body := padTo 48 s.restartBody, sinceUs := s.timeUs }
  let r := s.host.atlas.bySeq.foldl (fun acc p => State.replayJob p acc) ([], true, s)
  let t := r.2.2
  let records := restart :: r.1
  let stale (r : Held) : Bool := !r.dma && (r.kind == .accepted || r.kind == .final)
  liveIf (s.host.restartDue && q.enable && s.boot.ready) s
    ((t.modCq 0 fun q => { q with waiting := records ++ q.waiting.filter fun r => !stale r }).modHost fun h =>
      { h with restartDue := false, replayLeft := records.length, lqOpen := false })

end Sys2Proof.Machine
end

