-- ==== Sys2Proof/Machine/Crypto.lean ====
section
/-! DEFINITION. The legend signature: SHA-384 (FIPS 180-4) and ECDSA on P-384 (FIPS 186-5) (15 R437). -/

namespace Sys2Proof.Machine

open Sys2Proof

/-! SHA-384. -/

/-- The largest number at or above `r`, with `k` more bits below it, whose power of exponent `e` does not exceed `n`. -/
def rootBits (e n : Nat) : Nat → Nat → Nat
  | 0, r => r
  | k + 1, r => rootBits e n k (if (r + 2 ^ k) ^ e ≤ n then r + 2 ^ k else r)

/-- The first 64 bits of the fraction of a root of a number below 512: `e` 2 for the square root, 3 for the cube root. -/
def rootFraction (e p : Nat) : BitVec 64 := BitVec.ofNat 64 (rootBits e (p * 2 ^ (64 * e)) 72 0)

/-- The primes below 410: the first 80. -/
def shaPrimes : List Nat := (List.range 410).filter fun p => decide (1 < p) && (List.range p).all fun d => decide (d < 2) || p % d != 0

/-- The 80 round constants of SHA-384: from the cube roots of the first 80 primes (FIPS 180-4). -/
def shaK : List (BitVec 64) := shaPrimes.map (rootFraction 3)

/-- The eight working words of SHA-384, a to h in their order (FIPS 180-4). -/
abbrev ShaWords := Vector (BitVec 64) 8

/-- The initial hash value of SHA-384: from the square roots of the ninth to the sixteenth prime (FIPS 180-4). -/
def shaInit : ShaWords := Vector.ofFn fun i => rootFraction 2 (nth shaPrimes (8 + i.val) 0)

/-- A word turned right by each of three amounts, and the three added bit by bit. -/
def turned (i j k : Nat) (x : BitVec 64) : BitVec 64 := x.rotateRight i ^^^ x.rotateRight j ^^^ x.rotateRight k

/-- One round with its message word and constant: seven words move on by one place, with T₁ added to the fifth, and T₁ + T₂ comes
in front. -/
def shaRound (v : ShaWords) (wk : BitVec 64 × BitVec 64) : ShaWords :=
  let choice := (v[4] &&& v[5]) ^^^ (~~~v[4] &&& v[6])
  let majority := (v[0] &&& v[1]) ||| (v[2] &&& (v[0] ||| v[1]))
  let t := wk.1 + wk.2 + v[7] + choice + turned 14 18 41 v[4]
  #v[t + majority + turned 28 34 39 v[0], v[0], v[1], v[2], v[3] + t, v[4], v[5], v[6]]

/-- The message schedule from the latest 16 words, newest first: each word is answered and the window moves on. -/
def shaSchedule : Nat → List (BitVec 64) → List (BitVec 64)
  | 0, _ => []
  | k + 1, w =>
    let at_ (i : Nat) : BitVec 64 := nth w i 0
    let x := at_ 1
    let y := at_ 14
    let s1 := x.rotateRight 19 ^^^ x.rotateRight 61 ^^^ (x >>> 6)
    let s0 := y.rotateRight 1 ^^^ y.rotateRight 8 ^^^ (y >>> 7)
    let v := s1 + at_ 6 + s0 + at_ 15
    v :: shaSchedule k ((v :: w).take 16)

/-- The 16 words of a block of 128 bytes. -/
def blockWords (b : List Byte) : List (BitVec 64) :=
  (List.range 16).map fun i => BitVec.ofNat 64 (beNat ((b.drop (8 * i)).take 8))

/-- One block of 128 bytes into the hash value. -/
def shaBlock (v : ShaWords) (b : List Byte) : ShaWords :=
  let first := blockWords b
  let w := first ++ shaSchedule 64 first.reverse
  v.zipWith (· + ·) ((w.zip shaK).foldl shaRound v)

/-- Blocks of 128 bytes in turn, `fuel` of them at most. -/
def shaBlocks : Nat → List Byte → ShaWords → ShaWords
  | 0, _, v => v
  | k + 1, m, v => if m.isEmpty then v else shaBlocks k (m.drop 128) (shaBlock v (m.take 128))

/-- A message with its padding: a 1 bit, zeros, and the length in bits over 16 bytes. -/
def shaPad (m : List Byte) : List Byte :=
  m ++ [0x80] ++ List.replicate ((239 - m.length % 128) % 128) 0 ++ be 16 (8 * m.length)

/-- The SHA-384 digest of a message, 48 bytes (FIPS 180-4). -/
def sha384 (m : List Byte) : List Byte :=
  let p := shaPad m
  (shaBlocks (p.length / 128 + 1) p shaInit).toList.take 6 |>.flatMap fun v => be 8 v.toNat

/-! ECDSA on P-384. -/

/-- The field prime of P-384. -/
def p384 : Nat := 0xfffffffffffffffffffffffffffffffffffffffffffffffffffffffffffffffeffffffff0000000000000000ffffffff

/-- The order of the base point. -/
def n384 : Nat := 0xffffffffffffffffffffffffffffffffffffffffffffffffc7634d81f4372ddf581a0db248b0a77aecec196accc52973

/-- The coefficient b of the curve y² = x³ − 3x + b. -/
def b384 : Nat := 0xb3312fa7e23ee7e4988e056be3f82d19181d9c6efe8141120314088f5013875ac656398d8a2ed19d2a85c8edd3ec2aef

/-- The base point. -/
def g384 : Nat × Nat :=
  (0xaa87ca22be8b05378eb1c71ef320ad746e1d3b628ba79b9859f741e082542a385502f25dbf55296c3a545e3872760ab7,
   0x3617de4a96262c6f5d9e98bf9292dc29f8f41dbd289a147ce9da3113b5f0b8c00a60b1ce1d7e819d7a431d7c90ea0e5f)

/-- A power modulo `m`, `k` bits of the exponent from the lowest. -/
def powMod (m : Nat) : Nat → Nat → Nat → Nat
  | 0, _, _ => 1 % m
  | k + 1, a, e =>
    let r := powMod m k (a * a % m) (e / 2)
    if e % 2 = 1 then r * a % m else r

/-- The inverse modulo a prime (FIPS 186-5). -/
def invMod (m a : Nat) : Nat := powMod m 384 (a % m) (m - 2)

/-- A difference modulo the field prime. -/
def subP (a b : Nat) : Nat := (a + p384 - b % p384) % p384

/-- The sum of two points of the curve; none is the point at infinity. -/
def addPoint : Option (Nat × Nat) → Option (Nat × Nat) → Option (Nat × Nat)
  | none, q => q
  | p, none => p
  | some (x1, y1), some (x2, y2) =>
    if x1 = x2 ∧ (y1 + y2) % p384 = 0 then none
    else
      let l := if x1 = x2 then subP (3 * x1 * x1) 3 * invMod p384 (2 * y1) % p384
        else subP y2 y1 * invMod p384 (subP x2 x1) % p384
      let x := subP (l * l) (x1 + x2)
      some (x, subP (l * subP x1 x) y1)

/-- A multiple of a point, `k` bits of the factor from the lowest. -/
def mulPoint : Nat → Nat → Option (Nat × Nat) → Option (Nat × Nat)
  | 0, _, _ => none
  | k + 1, u, p =>
    let r := mulPoint k (u / 2) (addPoint p p)
    if u % 2 = 1 then addPoint r p else r

/-- Whether a point lies on the curve, in range. -/
def onCurve (x y : Nat) : Bool :=
  decide (x < p384) && decide (y < p384) && (y * y) % p384 == subP (x * x * x + b384) (3 * x)

/-- ECDSA verification of a 48-byte digest by an uncompressed SEC1 public key and a signature r, s (FIPS 186-5, R437). -/
def ecdsaVerify (key digest : List Byte) (r s : Nat) : Bool :=
  let x := beNat ((key.drop 1).take 48)
  let y := beNat ((key.drop 49).take 48)
  let e := beNat digest
  let w := invMod n384 s
  let point := addPoint (mulPoint 384 (e * w % n384) (some g384)) (mulPoint 384 (r * w % n384) (some (x, y)))
  byteAt key 0 == 4 && key.length == 97 && onCurve x y && decide (0 < r ∧ r < n384 ∧ 0 < s ∧ s < n384) &&
    match point with
    | some (v, _) => v % n384 == r
    | none => false

end Sys2Proof.Machine
end

