-- ==== Sys2Proof/Machine/Position.lean ====
section
/-! DEFINITION. Position inputs and counters, compare entries and meridians, the registration loop, encoder emulation
(05_registration R151 to R179). -/

namespace Sys2Proof.Machine

open Sys2Proof

/-- The axis a quadrature input serves, if any (R155). -/
def State.encAxis (s : State) (e : Nat) : EncAxis :=
  let of (i : Nat) : Bool := let g := getN s.legend.position.axes i {}; g.source == .enc && g.input == e
  if s.legend.position.beltInput = e then .belt else if of 0 then .carriage else if of 1 then .roller else .none

/-- Whether a change of one level is forward: QA leads QB (R152; log entry 22). -/
def quadForward (c : Encoder) (qa qb : Bool) : Bool := if qa != c.qa then qa != c.qb else qb == c.qa

/-! Lattice crossings (R143, R159, R164, R166). -/

/-- The landing offset D_x of a station, in 1/256 count (R163). -/
def State.landing (s : State) (x : Fin 6) : Int :=
  (s.legend.position.stations[x].dNom : Nat) + s.position.reg[x].xscan

/-- The lattice step E_x × K_Q of a station (R143, R164). -/
def State.latticeStep (s : State) (x : Fin 6) : Int := max 1 ((s.legPixel x).emitters * s.legend.scan.kq : Nat)

/-- The meridian of a station for a layer whose origin lies at travel `origin` (R163). -/
def State.meridianOf (s : State) (x : Fin 6) (origin : Int) : Int :=
  let g := s.legPixel x
  origin - s.landing x - (1 - firstSweep g) * g.emitters * s.legend.scan.kq

/-- The lattice origin Q_x: the meridian of any slot modulo the lattice step, here of slot 0 (R164). -/
def State.latticeOrigin (s : State) (x : Fin 6) : Int :=
  let o : Int := (nth s.legend.position.origins 0 0 : Nat) - 256 * s.position.indexOffset
  s.meridianOf x o % s.latticeStep x

/-- The lattice point of a station in a stretch of travel, by its index and its place (R143). -/
def State.latticeIn (s : State) (x : Fin 6) (lo hi : Int) : Option (Int × Int) :=
  let q := s.latticeOrigin x
  let step := s.latticeStep x
  let j := -((q - lo).fdiv step)
  let l := q + j * step
  if lo ≤ l ∧ l < hi then some (j, l) else none

/-- The crossing that a forward belt edge gives a station (R159, R166), `old` being the input before the edge and `c` after it: a point
of the count just begun, at t_n0 + f × Δ / 256, kept to 1/64 cycle; a point at the edge itself, at its stamp; a point of the count
just ended that the interpolation, held, had not reached, at the edge as well (R160; DEDUCED, log entry 139). -/
def State.crossingOf (s : State) (old c : Encoder) (travel : Int) (x : Fin 6) : Option Crossing :=
  let past := if old.steady && old.forward then none else s.latticeIn x (travel - 255) travel
  match past, s.latticeIn x travel (travel + 256) with
  | some (j, _), _ => some { index := j, time64 := 64 * c.stamp }
  | none, some (j, l) =>
    let f := (l - travel).toNat
    if f = 0 then some { index := j, time64 := 64 * c.stamp }
    else if c.steady && c.forward then some { index := j, time64 := 64 * c.stamp + (64 * f * c.interval.getD 0 + 128) / 256 }
    else s.position.crossings[x]
  | none, none => s.position.crossings[x]

/-- A count of the belt axis (R156, R160): travel moves; a forward edge gives the lattice crossings of its count, and makes due the
meridian entries and list heads whose targets it reaches. -/
def State.beltCount (e : Fin 4) (old c : Encoder) (s : State) : State :=
  let was := s.position.travel
  let now := was + (if c.forward then 256 else -256)
  let crossings := Vector.ofFn fun x => if c.forward then s.crossingOf old c now x else s.position.crossings[x]
  let s := s.modPosition fun p => { p with
    encoders := p.encoders.set e.val c, travel := now, forward := c.forward, crossings := crossings
    meridians := mapV (fun m => { m with due := m.due || (m.state == .armed && decide (was < m.target ∧ m.target ≤ now)) }) p.meridians }
  s.eachCompare fun l k => if l.axis.isNone then k.moved l was now else k

/-- ENCODER_EDGE (R152, R156, R158 to R160, R180): new levels of an input that `held` samples up to MOTN cycle `cycle` have shown. They
count after ENC_FILT + 1 of them, and the edge is stamped with the first of them (DEDUCED, log entry 140). One changed level is a
count; both changed are an illegal transition. -/
def execEncoderEdge (e : Fin 4) (qa qb : Bool) (cycle held : Nat) (s : State) : Host.Outcome State Fault Refusal :=
  let c := s.position.encoders[e]
  let axis := s.encAxis e
  let stamp := cycle + 1 - held
  let s := s.atCycle cycle
  if (qa = c.qa ∧ qb = c.qb) ∨ held ≤ getN s.legend.position.encFilt e.val 0 then live s s
  else if qa != c.qa && qb != c.qb then
    let run := (axis == .belt && s.windowOpen) || (axis == .carriage && s.carriageRun)
    liveIf s.islandsUp s <|
      let c' := { c with qa := qa, qb := qb, quadErrs := satAdd 16 c.quadErrs 1 }
      (s.modPosition fun p => { p with encoders := p.encoders.set e.val c' }).raiseRun run .encQuadRun .encQuadIdle e
  else
    let fwd := quadForward c qa qb
    let d : Int := if fwd then 1 else -1
    let c' := { c with
      qa := qa, qb := qb, count := c.count + d, stamp := stamp, interval := if !c.seen || stamp < c.stamp then none else some (stamp - c.stamp),
      forward := fwd, sameDir := c.seen && c.forward == fwd, seen := true }
    liveIf s.islandsUp s <|
      let t := s.modPosition fun p => { p with encoders := p.encoders.set e.val c' }
      match axis with
      | .belt => s.beltCount e c c'
      | .carriage => let a := getN s.position.axes 0 {}; t.moveAxis 0 (a.position + a.beyond + d)
      | .roller => let a := getN s.position.axes 1 {}; t.moveAxis 1 (a.position + d)
      | .none => t

/-! SSI masters (R153). -/

/-- A Gray-coded number of up to 40 bits as a plain one. -/
def grayToBin (v : Nat) : Nat := (List.range 40).foldl (fun b i => b ^^^ (v / 2 ^ (i + 1))) v

/-- The axis an SSI master serves: 0 carriage, 1 roller, 2–5 Z0–Z3 (R155). -/
def State.ssiAxis (s : State) (n : Nat) : Option Nat :=
  (List.range 6).find? fun i => let g := getN s.legend.position.axes i {}; g.source == .ssi && g.input == n

/-- The width of a frame's position field: the SSI_BITS of the frame less its parity and error bits (R153; DEDUCED, log entry 141). -/
def ssiWidth (g : LegSsi) : Nat := g.bits - b2n g.parity - b2n g.error

/-- How many of the lowest 40 bits of a number are 1. -/
def onesOf (v : Nat) : Nat := (List.range 40).foldl (fun m i => m + b2n (bitOf v i)) 0

/-- Whether a frame passes its checks (R153): even parity over position, error and parity bit where the legend has one, an error bit
that is 0, and the line high at the end of SSI_TM. -/
def ssiPasses (g : LegSsi) (f : SsiBits) : Bool :=
  let ones := onesOf (f.code % 2 ^ ssiWidth g) + b2n (g.error && f.errorBit) + b2n f.parityBit
  (!g.parity || ones % 2 == 0) && !(g.error && f.errorBit) && f.high.any fun t => decide (t ≤ 1000 * g.tm)

/-- The position that a frame carries (R153). -/
def ssiPosition (g : LegSsi) (f : SsiBits) : Int :=
  let v := f.code % 2 ^ ssiWidth g
  ((if g.gray then grayToBin v else v : Nat) : Int)

/-- SSI_FRAME (R153): a frame as clocked in. A valid one moves its axis and is stamped with its first falling clock edge, less
SSI_LAT; a failed check discards it, and the third in a row raises SSIn.LOST. -/
def execSsiFrame (n : Fin 4) (frame : SsiBits) (s : State) : Host.Outcome State Fault Refusal :=
  let g := s.legend.position.ssi[n]
  liveIf s.islandsUp s <|
    if ssiPasses g frame then
      let p := ssiPosition g frame
      let s := s.modPosition fun q => { q with ssi := modN q.ssi n fun m =>
        { m with valid := true, badRun := 0, position := p, stamp := (frame.edgeNs : Int) - g.lat } }
      match s.ssiAxis n with
      | some i => s.moveAxis i p
      | none => s
    else
      let run := min 3 (s.position.ssi[n].badRun + 1)
      let s' := (s.modPosition fun q => { q with ssi := modN q.ssi n fun m =>
        { m with valid := false, badRun := run, frameErrs := satAdd 16 m.frameErrs 1 } }).raise .ssiFrame n
      s'.raiseIf (s.position.ssi[n].badRun == 2) .ssiLost n

/-! Mark sensors and the belt index (R154, R157). -/

/-- MARK_EDGE (R154): a new level that `held` samples up to `cycle` have shown passes the filter after MARK_FILT + 1 of them; its stamp,
the first of them, is converted to belt travel by R159. -/
def execMarkEdge (m : Fin 4) (rising : Bool) (cycle held : Nat) (s : State) : Host.Outcome State Fault Refusal :=
  let s := s.atCycle cycle
  let mark : MarkStamp := { sensor := m.val, rising := rising, travel := s.travelAt (cycle + 1 - held) }
  liveIf (s.islandsUp && decide (s.legend.position.marks[m].filt < held)) s <|
    s.modPosition fun p => { p with marks := (p.marks ++ [mark]).drop ((p.marks.length + 1) - 1024) }

/-- The belt position in counts at a travel (R156, R157). -/
def State.beltAt (s : State) (travel : Int) : Nat :=
  ((travel.fdiv 256 + s.position.indexOffset) % max 1 (s.legend.position.beltLen : Int)).toNat

/-- The belt position in counts (R156, R157). -/
def State.beltPosition (s : State) : Nat := s.beltAt s.position.travel

/-- BELT_INDEX (R152, R157): a QZ edge of the belt index, stamped as a quadrature edge is; the first sets the belt position, later
ones are compared. The difference is taken the shorter way round the belt (DESIGN CHOICE, log entry 142). -/
def execBeltIndex (e : Fin 4) (cycle held : Nat) (s : State) : Host.Outcome State Fault Refusal :=
  let g := s.legend.position
  let stamp := cycle + 1 - held
  let s := s.atCycle cycle
  let counts := s.travelAt stamp
  liveIf (s.islandsUp && g.indexSrc == some e.val && decide (getN g.encFilt e.val 0 < held)) s <|
    let s := s.modPosition fun p => { p with encoders := modN p.encoders e.val fun c => { c with indexStamp := stamp } }
    if !s.position.synced then
      s.modPosition fun p => { p with synced := true, indexOffset := g.indexPos - counts.fdiv 256 }
    else
      let d := (s.beltAt counts : Int) - g.indexPos
      let far := min d.natAbs (g.beltLen - d.natAbs)
      s.raiseIf (g.indexTol < far) .posBeltIndex 0

/-! Compare entries (R160 to R162, R165 to R169). -/

/-- The present position of a list's base (R161). -/
def State.cmpPosition (s : State) (g : LegCmp) : Int :=
  match g.axis with
  | none => s.travelNow
  | some i => (getN s.position.axes i {}).position

/-- Whether a list's head fires at MOTN cycle `t`: an edge or a frame has reached its target, or on the belt the interpolation has
(R160). -/
def State.cmpDue (s : State) (g : LegCmp) (c : Compare) (t : Nat) : Bool :=
  c.armed && (c.due || (g.axis.isNone && s.position.forward &&
    (((c.pending g).head?.map fun i => decide (c.target g (nth g.entries i {}) ≤ s.travelAt t)).getD false)))

/-- A general list's head fires, unless it was found behind (R160 to R162, R168). -/
def State.fireCompare (n t : Nat) (s : State) : State :=
  let g := getN s.legend.position.cmps n {}
  let c := getN s.position.cmps n {}
  let s := s.atCycle t
  let pos := s.cmpPosition g
  let now := s.timeUs
  s.when (s.cmpDue g c t) (·.modPosition fun p => { p with cmps := modN p.cmps n (Compare.fire g pos now) })

/-- A station's meridian fires (R21, R86, R145, R160): the station starts its first sweep; the first meridian of the job
opens its committed window. The lattice point j_m follows from the target (R145, R164). -/
def State.fireMeridian (x : Fin 6) (t : Nat) (s : State) : State :=
  let m := s.position.meridians[x]
  let s := s.atCycle t
  match s.jobOf m.job with
  | none => s
  | some j =>
    let g := s.legPixel x
    let k0 := firstSweep g
    let there := m.due || (s.position.forward && decide (m.target ≤ s.travelAt t))
    let ok := m.state == .armed && there && (j.state == .armed || j.state == .imaging) && !s.layer.abortRunning
    let index := (m.target - s.latticeOrigin x).fdiv (s.latticeStep x)
    s.when ok fun s =>
      let s := s.modPosition fun p => { p with meridians := p.meridians.set x.val { m with state := .fired, due := false } }
      let s := s.modJob j.seq fun j => { j with
        state := if j.state = .armed then .imaging else j.state, startedMask := j.startedMask ||| BitVec.ofNat 6 (2 ^ x.val) }
      let s := s.modStation x fun t => { t with meridianTick := index }
      s.modPixel x fun p => { p with
        job := some j.seq, frames := 0, k0 := k0, k1 := lastSweep g (j.lines x.val), k := k0, state := .framing, frame := none, ready := none,
        exposing := none, updates := [], ringErrLines := [] }

/-- COMPARE_FIRE (R160, R162): the armed meridian of station 0–5, or the head of list 6–13 (CMP0–CMP7), fires in a MOTN cycle. -/
def execCompareFire (u : Fin 14) (t : Nat) (s : State) : Host.Outcome State Fault Refusal :=
  if h : u.val < 6 then live s (s.fireMeridian ⟨u.val, h⟩ t) else live s (s.fireCompare (u.val - 6) t)

/-- A meridian entry found behind (R161, R165): MISSED, the position latched, the job ended as R33 decides. -/
def State.missMeridian (x : Fin 6) (s : State) : State :=
  let m := s.position.meridians[x]
  let at' := s.travelNow
  let m' := { m with state := .missed, missed := satAdd 16 m.missed 1, found := at' }
  let s := (s.modPosition fun p => { p with meridians := p.meridians.set x.val m' }).raise .merMissed x
  s.meridianMissed m.job x

/-- A general entry found behind (R161, R169): MISSED, the position at which it was found latched for the job's first one. -/
def State.missCompare (n : Nat) (s : State) : State :=
  let g := getN s.legend.position.cmps n {}
  (s.modPosition fun p => { p with cmps := modN p.cmps n (Compare.miss g) }).raise .cmpMissed n

/-- Whether the belt runs forward: its last edge was forward and its edges follow one another steadily (R159). -/
def State.beltForward (s : State) : Bool :=
  s.position.forward && (getN s.position.encoders s.legend.position.beltInput {}).steady

/-- ENTRY_FOUND_BEHIND (R161, R165): after a reversal or a standstill of the belt an armed meridian lies at or behind the travel
without having been reached; or an entry of a list was found behind when it was armed or became the head. -/
def execEntryFoundBehind (u : Fin 14) (s : State) : Host.Outcome State Fault Refusal :=
  if h : u.val < 6 then
    let x : Fin 6 := ⟨u.val, h⟩
    let m := s.position.meridians[x]
    liveIf (m.state == .armed && !m.due && !s.beltForward && decide (m.target ≤ s.travelNow)) s (s.missMeridian x)
  else
    let c := getN s.position.cmps (u.val - 6) {}
    liveIf (!c.behind.isEmpty) s (s.missCompare (u.val - 6))

/-! The registration loop (R170 to R175). -/

/-- The expected travel of the bar's leading edge at a sensor, and how far behind it the diagonal's lies (R170). -/
def State.markPlan (s : State) (origin : Int) (x : Fin 6) (m : Fin 4) : Int × Int :=
  let g := s.legend.position.stations[x]
  let k : Int := s.legend.scan.kq
  let sensor := s.legend.position.marks[m]
  (origin + g.a * k - 256 * sensor.dist, ((g.b : Int) + sensor.u - g.cd - g.a) * k)

/-- Half the width of a mark's window, in 1/256 count (R171). -/
def State.markSpan (s : State) : Int := 256 * s.legend.position.markWindow

/-- A sensor's measurement of a station's mark: bar error, spacing error, each when both edges were seen (R170, R171). -/
def State.measureMark (s : State) (origin : Int) (x : Fin 6) (m : Fin 4) : Option (Int × Int) :=
  let (bar, gap) := s.markPlan origin x m
  let w := s.markSpan
  let seen (t : Int) : Option Int := (s.position.marks.find? fun e =>
    e.sensor == m.val && e.rising != s.legend.position.marks[m].falling && t - w ≤ e.travel && e.travel ≤ t + w).map (·.travel)
  match seen bar, seen (bar + gap) with
  | some b, some d => some (b - bar, (d - b) - gap)
  | _, _ => none

/-- Whether a station has a measurement: MARK_MIN_SENSORS sensors saw both its edges (R171). -/
def State.measured (s : State) (origin : Int) (x : Fin 6) : Bool :=
  decide (s.legend.position.minSensors ≤ ((List.finRange 4).filterMap (s.measureMark origin x)).length)

/-- The errors of a station against the reference station over the sensors that saw both marks, in 1/256 pixel (R171, R172), rounded to
the nearest (DESIGN CHOICE, log entry 143). -/
def State.regErrors (s : State) (origin : Int) (x ref : Fin 6) : Option (Int × Int) :=
  let both := (List.finRange 4).filterMap fun m =>
    match s.measureMark origin x m, s.measureMark origin ref m with
    | some a, some b => some (a.1 - b.1, a.2 - b.2)
    | _, _ => none
  let n := both.length
  let k := max 1 s.legend.scan.kq
  if n = 0 ∨ !s.measured origin x ∨ !s.measured origin ref then none
  else some (roundDiv (256 * (both.foldl (fun t p => t + p.1) 0)) (n * k),
    roundDiv (-256 * (both.foldl (fun t p => t + p.2) 0)) (n * k))

/-- The held update of one direction (R173). -/
def regUpdate (g : LegPosition) (e : Int) : Int :=
  if e.natAbs ≤ g.regDeadband then 0
  else clampI (-(g.regStep : Int)) g.regStep (roundDiv (e * g.regGain) 256)

/-- One station's measurement taken for the job whose origin is given (R171 to R173, R180). -/
def State.measureStation (origin : Int) (x : Fin 6) (s : State) : State :=
  let g := s.legend.position
  let ref : Fin 6 := Fin.ofNat 6 g.refStation
  let missed := (List.finRange 4).any fun m => (s.measureMark origin x m).isNone
  let s := s.raiseIf missed .regMarkMiss x
  match s.regErrors origin x ref with
  | none => s.modPosition fun p => { p with reg := modN p.reg x fun r => { r with measured := false } }
  | some (ex, ei) =>
    let ok := ex.natAbs ≤ 32 && ei.natAbs ≤ 32
    let runs := if ok then 0 else min 3 (s.position.reg[x].outRun + 1)
    let held := g.regEnable && x != ref
    let s := s.modPosition fun p => { p with reg := modN p.reg x fun r => { r with
      ex := ex, ei := ei, inBand := ok, measured := true, outRun := runs,
      ux := if held then regUpdate g ex else r.ux, ui := if held then regUpdate g ei else r.ui, held := r.held || held } }
    s.raiseIf (runs == 3) .regOutOfBand x

/-- Where the last mark window of a layer ends, in travel (R171). -/
def State.marksEnd (s : State) (origin : Int) : Int :=
  let ends := stations.flatMap fun x => (List.finRange 4).map fun m =>
    let (bar, gap) := s.markPlan origin x m
    max bar (bar + gap) + s.markSpan
  ends.foldl max (ends.headD 0)

/-- REGISTRATION_MEASURE (R171 to R173): for the layer that has passed the nip, marks are matched, errors and held
updates computed for its imaging stations; the layer's edges are dropped, those of a later layer stay. -/
def execRegistrationMeasure (s : State) : Host.Outcome State Fault Refusal :=
  match s.layer.jobs.find? fun j => j.state == .transfuse || j.state == .lower || j.state == .returning with
  | none => live s s
  | some j =>
    let last := s.marksEnd j.origin
    let s := s.modPosition fun p => { p with reg := mapIdxV (fun x r => { r with measured := r.measured && j.images x }) p.reg }
    live s <| (s.each (stations.filter fun x => j.images x.val) (State.measureStation j.origin)).modPosition fun p =>
      { p with marks := p.marks.filter fun e => decide (last < e.travel) }

/-- Whether a held update exceeds REG_FORCE_BAND, which forces a boundary (R174). -/
def State.regForce (s : State) : Bool :=
  anyV (fun r => r.held && (s.legend.position.regForce < r.ux.natAbs || s.legend.position.regForce < r.ui.natAbs)) s.position.reg

/-- A station's registration offsets set, held within their ranges; a value at its clamp raises REG_x.RANGE (R173). When Q_x changes
the schedule slews to the new lattice (R147, R174), on which its last tick keeps its lattice point. -/
def State.setOffsets (x : Nat) (xs ins : Int) (s : State) : State :=
  let g := s.legend.position
  let f : Fin 6 := Fin.ofNat 6 x
  let cx := clampI (-(g.regRangeX : Int)) g.regRangeX xs
  let ci := clampI (-(g.regRangeI : Int)) g.regRangeI ins
  let old := s.latticeOrigin f
  let shift := (getN s.position.reg x {}).xscan - cx
  let s := s.modPosition fun p => { p with regDirty := true, reg := modN p.reg x fun r => { r with
    xscan := cx, inscan := ci, held := false, ux := 0, ui := 0 } }
  let s := s.when (s.latticeOrigin f != old) fun s =>
    let turns := (old + shift - s.latticeOrigin f).fdiv (s.latticeStep f)
    (s.modPosition fun p => { p with reg := modN p.reg x fun r => { r with slewing := true } }).modScan fun c =>
      { c with stations := modN c.stations x fun t => { t with lockRun := 0, tickIndex := t.tickIndex + turns } }
  s.raiseIf (cx.natAbs = g.regRangeX || ci.natAbs = g.regRangeI) .regRange x

/-- The held updates applied at a layer boundary (R173, R174). -/
def State.applyHeldUpdates (s : State) : State :=
  s.each (List.range 6) fun x s =>
    let r := getN s.position.reg x {}
    s.when r.held (·.setOffsets x (r.xscan + roundDiv (r.ux * s.legend.scan.kq) 256) (r.inscan - roundDiv (r.ui * 64) 256))

/-! Encoder emulation (R178, R179). -/

/-- The output count that an emulated output's source demands at MOTN cycle `t` (R178). -/
def State.emuDemand (s : State) (g : LegEmu) (carr : Bool) (t : Nat) : Int :=
  let p := if carr then (getN s.position.axes 0 {}).position else s.travelAt t
  (p * g.n).fdiv (max 1 g.m : Nat)

/-- Whether `d` output counts outstanding cannot be emitted 40 ns, 16 MOTN cycles, apart before the next source edge or SSI frame at
the present rate (R179). -/
def State.emuLags (s : State) (carr : Bool) (d : Nat) : Bool :=
  let axis := getN s.legend.position.axes 0 {}
  let gap := if carr && axis.source == .ssi then some (400 * (getN s.legend.position.ssi axis.input {}).period)
    else (getN s.position.encoders (if carr then axis.input else s.legend.position.beltInput) {}).interval
  decide (1 < d) && gap.any fun c => decide (c < 16 * d)

/-- EMULATION_EDGE (R178, R179): an output count toward the one its source demands at a MOTN cycle, 40 ns or more after the one before;
an output that falls behind raises EMUn.OVERSPEED. -/
def execEmulationEdge (n : Fin 2) (t : Nat) (s : State) : Host.Outcome State Fault Refusal :=
  let g := s.legend.position.emus[n]
  let e := s.position.emus[n]
  let s := s.atCycle t
  match g.source with
  | none => live s s
  | some carr =>
    let demand := s.emuDemand g carr t
    let assigned := !carr || (getN s.legend.position.axes 0 {}).source != .none
    let free := e.lastEdge.all fun l => decide (l + 16 ≤ t)
    liveIf (s.islandsUp && assigned && demand != e.position && free) s <|
      let pos := e.position + (demand - e.position).sign
      let lag := s.emuLags carr (demand - e.position).natAbs
      let q := pos % 4
      let e' := { e with
        position := pos, qa := q == 1 || q == 2, qb := q == 2 || q == 3, lastEdge := some t,
        index := pos % (max 1 g.zlen : Nat) == 0, behind := lag,
        overspeed := if lag && !e.behind then satAdd 16 e.overspeed 1 else e.overspeed }
      (s.modPosition fun r => { r with emus := r.emus.set n.val e' }).raiseIf (lag && !e.behind) .emuOverspeed n

end Sys2Proof.Machine
end

