-- ==== Sys2Proof/Machine/Power.lean ====
section
/-! DEFINITION. The power sequencer, rail supervision, the own supplies and the Uliber line (10 R290 to R318, R530). -/

namespace Sys2Proof.Machine

open Sys2Proof

/-- The kinds of program steps (R296). -/
inductive PseStep where
  /-- END. -/
  | finish
  /-- EN of a rail. -/
  | en (rail : Nat)
  /-- DIS of a rail. -/
  | dis (rail : Nat)
  /-- WAIT, in µs. -/
  | wait (t : Nat)
  /-- WAITPG of a rail, with its timeout. -/
  | waitPg (rail t : Nat)
  /-- DEP on a mask of rails, with its timeout. -/
  | dep (mask t : Nat)
  /-- CHECK of a condition into flag F`k`. -/
  | check (cond k : Nat)
  /-- JMPF on a flag, inverted or not. -/
  | jmpf (target flag : Nat) (invert : Bool)
  /-- JMP. -/
  | jmp (target : Nat)
  /-- SYNC to a Uliber state, with its timeout and its flag F`k`. -/
  | sync (n t k : Nat)
  /-- LOG of a code. -/
  | log (code : Nat)
  deriving DecidableEq, Repr

/-- A step word as its step (R296); a reserved OP, which every load refuses, reads as END. -/
def pseStep (w : BitVec 64) : PseStep :=
  let v := w.toNat
  let a := field v 55 32
  let t := field v 31 0
  match field v 63 60 with
  | 1 => .en (field a 4 0)
  | 2 => .dis (field a 4 0)
  | 3 => .wait t
  | 4 => .waitPg (field a 4 0) t
  | 5 => .dep (field a 23 0) t
  | 6 => .check (field a 7 0) (field v 59 56)
  | 7 => .jmpf (field a 7 0) (field a 13 8) (bitOf a 14)
  | 8 => .jmp (field a 7 0)
  | 9 => .sync (field a 7 0) t (field v 59 56)
  | 10 => .log (field a 15 0)
  | _ => .finish

/-- The index of a program's step words in the power section; UP for no program. -/
def progIndex (p : Program) : Nat := p.code - 1

/-- The priority of a program (R301). -/
def progPriority : Program → Nat
  | .brownout => 1
  | .down => 2
  | .up => 3
  | .none => 5
  | _ => 4

/-- A user program (R301). -/
def isUser (p : Program) : Bool := p == .u0 || p == .u1 || p == .u2 || p == .u3

/-- The power section whose programs the PSE runs (R292). -/
def State.pseLegend (s : State) : LegPower := s.power.stored.getD s.legend.power

/-- The present step of the running program; END beyond its last word. -/
def State.presentStep (s : State) : PseStep :=
  pseStep (nth (getN s.pseLegend.programs (progIndex s.power.program) []) s.power.step 0)

/-- One rail changed. -/
def State.modRail (n : Nat) (f : Rail → Rail) (s : State) : State :=
  s.modPower fun p => { p with rails := modN p.rails n f }

/-- One rail's legend. -/
def State.legRail (s : State) (n : Nat) : LegRail := getN s.legend.power.rails n {}

/-- One rail. -/
def State.rail (s : State) (n : Nat) : Rail := getN s.power.rails n {}

/-- A flag of R298; flag 50 reads the Grave latch. -/
def State.pseFlag (s : State) (k : Nat) : Bool := if k = 50 then s.faults.grave else s.power.flags.getLsbD k

/-- A program flag written (R298). -/
def Power.setFlag (k : Nat) (b : Bool) (p : Power) : Power :=
  let m : BitVec 64 := 1#64 <<< k
  { p with flags := if b then p.flags ||| m else p.flags &&& ~~~m }

/-- The flags FAIL_0 to FAIL_23 as a number (R298). -/
def Power.fails (p : Power) : Nat := p.flags.toNat % 16777216

/-- A power-log record about the running program: PROGRAM 0 and STEP 0xFF when none runs (R310, log entry 41). -/
def State.pseLog (kind rail code : Nat) (s : State) : State :=
  s.powerLog kind s.power.program.code (if s.power.program = .none then 0xFF else s.power.step) rail code

/-- Every polygon's gates off and OFF, at the start of DOWN or BROWNOUT (R205). -/
def State.polygonsOff (s : State) : State :=
  let now := s.timeUs
  s.allPolygons fun p => { p.gatesOff with
    state := if p.state = .fault then .fault else .off, obsOk := false, coastUs := now }

/-- A job as a starting shutdown finds it (R303); one in LOWER or RETURN ends by POST_FAULT_END (R21, log entry 118). -/
def State.settleJob (j : Job) (s : State) : State :=
  match j.state with
  | .imaging | .transfer | .transfuse =>
    if s.layer.abortRunning && s.layer.abortSeq == j.seq then s
    else
      let fuse := s.pressing && s.motion.carrJob == j.seq
      (s.modJob j.seq fun k => { k with flags := { k.flags with partialFuse := fuse } }).endJob j.seq .interrupted .brownout 0 0
  | .lower | .returning => s.modJob j.seq fun k => { k with flags := { k.flags with postFault := true } }
  | .armed => s.rejectJob j.seq .faultBeforeStart
  | .admitted => if j.arming then s.rejectJob j.seq .faultBeforeStart else s.requeueJob j.seq
  | _ => s

/-- What happens before step 0 of DOWN or BROWNOUT (R303, R340): bridges coast, heaters and HV off, jobs settled, LEN low, the
Uliber counter at DOWN_BASE with both lines held low. -/
def State.shutdownStart (s : State) : State :=
  let cut := s.windowOpen && !s.layer.abortRunning
  let jobs := s.layer.jobs
  let s := (s.polygonsOff.motionOff).heatersOff.hvOff
  let s := s.when cut (·.cutLayer .abortInput)
  let s := s.each jobs State.settleJob
  let s := (s.modLayer fun l => { l with hold := true }).modFaults fun f => { f with len := false }
  let g := s.legend.power
  s.when g.ulbEnable (·.modPower fun p => { p with
    ulbState := g.downBase, detached := false, syncDrive := true, released := false, layerReleased := false,
    abortDrive := true })

/-- A program starts (R298, R301, R303, R313): flags 0 to 47 clear, the flags of its cause set, PROG_START logged. -/
def State.startProgram (p : Program) (cause : ProgCause) (s : State) : State :=
  let now := s.timeUs
  let g := s.legend.power
  let s := s.when (isShutdown p) State.shutdownStart
  let s := s.modPower fun w =>
    let w := { w with
      program := p, step := 0, wait := .none, preempt := none, timeoutDue := false, startUs := now, cause := cause,
      flags := w.flags &&& (-1 <<< 48) }
    let w := w.setFlag 48 (cause == .recovery)
    let w := w.setFlag 49 (cause == .thermal)
    let w := w.setFlag 51 false
    let w := w.setFlag 52 (cause == .ulbAbort)
    let w := w.setFlag 53 (cause == .host)
    if p = .up then { w with
      upEver := true, afterShut := w.shutOff, shutOff := false, upDone := false, inFailed := false,
      shutGrave := false, shutThermal := false, resumeDue := false
      ulbState := 0, detached := false, released := false, layerReleased := false
      syncDrive := g.ulbEnable }
    else if isShutdown p then { w with
      upDone := false, shutOff := false, resumeDue := false, afterShut := false
      shutGrave := w.shutGrave || cause == .grave
      shutThermal := w.shutThermal || cause == .thermal }
    else w
  s.pseLog 0x01 0xFF cause.code

/-- The running program ends with a status (R306, R307, R292): a shutdown starts the input's qualification afresh. -/
def State.endProgram (st : ProgStatus) (s : State) : State :=
  let now := s.timeUs
  let st := if st = .ended ∧ s.power.fails ≠ 0 then .flagged else st
  let s := s.pseLog 0x02 0xFF st.code
  let grave := s.faults.grave
  let legend := s.legend.power
  let applied := s.legendApplied
  s.modPower fun w =>
    let shut := isShutdown w.program && st != .preempted
    let up := w.program == .up && st != .preempted
    { w with
      program := .none, wait := .none, timeoutDue := false, lastProgram := w.program, lastStatus := st, lastCause := w.cause,
      lastDuration := satAdd 20 ((now - w.startUs) / 1000) 0
      stored := if applied then some legend else w.stored
      upDone := w.upDone || up
      resumeDue := w.resumeDue || (up && w.afterShut)
      shutOff := w.shutOff || shut, inputOk := w.inputOk && !shut, inUs := if shut then now else w.inUs
      abortDrive := if shut then grave && legend.ulbEnable else w.abortDrive }

/-- A program asked for (R301, R302): at once when none runs, one cycle after the present step when it preempts, and
otherwise logged only, as is a waiting one that it replaces (R317). -/
def State.requestProgram (p : Program) (cause : ProgCause) (s : State) : State :=
  let run := (s.power.preempt.map Prod.fst).getD s.power.program
  if s.power.program = .none then s.startProgram p cause
  else if progPriority p < progPriority run then
    let s := match s.power.preempt with
      | some (q, c) => s.powerLog 0x01 q.code 0xFF 0xFF c.code
      | none => s
    s.modPower fun w => { w with preempt := some (p, cause) }
  else s.powerLog 0x01 p.code 0xFF 0xFF cause.code

/-- DOWN asked for by a trigger (R301); a Grave or thermal trigger during a shutdown still decides R307. -/
def State.requestDown (cause : ProgCause) (s : State) : State :=
  (s.requestProgram .down cause).modPower fun w => { w with
    shutGrave := w.shutGrave || cause == .grave, shutThermal := w.shutThermal || cause == .thermal }

/-- Whether a WAITPG of a rail finds PG matching its enable (R296). -/
def State.pgMatches (s : State) (n : Nat) : Bool := (s.rail n).pg == (s.rail n).en

/-- The rails of a mask whose PG is not good (R296). -/
def State.depFails (s : State) (mask : Nat) : List Nat :=
  (List.range 24).filter fun n => bitOf mask n && !(s.rail n).pg

/-- The rails for which a waiting step has not found its condition (R299). -/
def State.waitFails (s : State) (step : PseStep) : List Nat :=
  match step with
  | .waitPg n _ => if s.pgMatches n then [] else [n]
  | .dep m _ => s.depFails m
  | _ => []

/-- Rails that did not match at the timeout (R299): FAIL flags; in UP and user programs PS_n.FAIL_UP. -/
def State.failRail (n : Nat) (s : State) : State :=
  let report := s.power.program == .up || isUser s.power.program
  let s := s.modPower fun w => w.setFlag n true
  s.when report fun s => (s.raiseAs .psFailUp n (s.legRail n).failUpClass []).pseLog 0x08 n 0

/-- The step after the present one; a program whose watchdog expired ends here (R297, R300). -/
def State.nextStep (s : State) : State :=
  let s := s.modPower fun w => { w with step := w.step + 1, wait := .none }
  s.when s.power.timeoutDue (·.endProgram .timeout)

/-- A step begins to wait (R297). -/
def State.beginWait (w : PseWait) (s : State) : State :=
  let now := s.timeUs
  s.modPower fun p => { p with wait := w, waitUs := now }

/-- A rail enabled (R293, R296); an enabled one is unchanged. -/
def State.enableRail (n : Nat) (s : State) : State :=
  let now := s.timeUs
  s.modRail n fun r => if r.en then r else { r with
    en := true, pgSinceEn := r.pg, lateDone := false, offDone := true, switchUs := now }

/-- A rail disabled (R293, R296); a DIS of a rail already off counts no OFF_FAIL (R317). -/
def State.disableRail (n : Nat) (s : State) : State :=
  let now := s.timeUs
  s.modRail n fun r => if r.en then { r with en := false, lateDone := true, offDone := false, switchUs := now } else r

/-- The condition of a CHECK (R298); a code the table does not hold has a free result (log entry 42). -/
def State.checkCond (s : State) (code : Nat) : Bool × State :=
  if code < 0x18 then ((s.rail code).pg, s)
  else if 0x20 ≤ code ∧ code < 0x38 then
    let n := code - 0x20
    let g := s.legRail n
    let v := (s.rail n).mon
    (g.mon.isSome && decide (g.uvLimit ≤ v) && decide (v ≤ g.ovLimit), s)
  else if code = 0x40 then (s.power.inputOk, s)
  else if code = 0x41 then (s.legend.power.ulbEnable && !s.power.detached, s)
  else if code = 0x42 then (s.busNormal, s)
  else if code = 0x43 then (s.thermal.band == .normal || s.thermal.band == .cold, s)
  else s.takeBool

/-- A step that tests or waits for rails: done at once when its condition holds, or at a timeout of 0 (R297, R299). -/
def State.railStep (step : PseStep) (w : PseWait) (t : Nat) (s : State) : State :=
  let bad := s.waitFails step
  if bad.isEmpty then s.nextStep
  else if t = 0 then (s.each bad State.failRail).nextStep
  else s.beginWait w

/-- A SYNC step (R311, R312): at once without Uliber, or when the state is reached or the member is DETACHED; otherwise
the line is released and the step waits. -/
def State.syncStep (n k : Nat) (s : State) : State :=
  if !s.legend.power.ulbEnable then (s.modPower fun w => { w with ulbState := n }).nextStep
  else if s.power.detached || n ≤ s.power.ulbState then (s.modPower (Power.setFlag (32 + k) true)).nextStep
  else (s.modPower fun w => { w with syncDrive := false, released := true }).beginWait .sync

/-- The effect of a step when it starts (R296, R297). END of DOWN and BROWNOUT is PROGRAM_END's. -/
def State.runStep (s : State) : State :=
  match s.presentStep with
  | .finish => s.when (!isShutdown s.power.program) (·.endProgram .ended)
  | .en n => (s.enableRail n).nextStep
  | .dis n => (s.disableRail n).nextStep
  | .wait t => if t = 0 then s.nextStep else s.beginWait .time
  | .waitPg n t => s.railStep (.waitPg n t) .pg t
  | .dep m t => s.railStep (.dep m t) .dep t
  | .check c k =>
    let r := s.checkCond c
    (r.2.modPower (Power.setFlag (32 + k) r.1)).nextStep
  | .jmpf target flag invert =>
    if s.pseFlag flag != invert then s.modPower fun w => { w with step := target } else s.nextStep
  | .jmp target => s.modPower fun w => { w with step := target }
  | .sync n _ k => s.syncStep n k
  | .log code => (s.pseLog 0x03 0xFF code).nextStep

/-- Whether the PSE is at the start of a step of a running program. -/
def State.atStep (s : State) : Bool :=
  s.power.program != .none && s.power.wait == .none && s.power.preempt.isNone

/-- PSE_STEP (R296, R297): one step of the running program. -/
def execPseStep (s : State) : Host.Outcome State Fault Refusal := liveIf s.atStep s s.runStep

/-- PSE_WAIT_END (R297, R299): the waiting step ends at its condition or its timeout. -/
def execPseWaitEnd (s : State) : Host.Outcome State Fault Refusal :=
  let late (t : Nat) : Bool := s.elapsed s.power.waitUs t
  let bad := s.waitFails s.presentStep
  let waits := s.power.program != .none && s.power.preempt.isNone
  match s.power.wait, s.presentStep with
  | .time, .wait t => liveIf (waits && late t) s s.nextStep
  | .pg, .waitPg _ t => liveIf (waits && (bad.isEmpty || late t)) s (s.each bad State.failRail).nextStep
  | .dep, .dep _ t => liveIf (waits && (bad.isEmpty || late t)) s (s.each bad State.failRail).nextStep
  | .sync, .sync n _ _ => liveIf (waits && decide (n ≤ s.power.ulbState)) s s.nextStep
  | _, _ => live s s

/-- The common conditions under which UP may start (R301). -/
def State.upReady (s : State) : Bool :=
  allV id s.power.ownOk && s.legendApplied && s.power.inputOk && !s.faults.grave &&
  (s.power.abortLevel || !s.legend.power.ulbEnable) && s.power.program == .none

/-- Whether R307 lets UP start without the host after a shutdown. -/
def State.recoveryDue (s : State) : Bool :=
  s.power.shutOff && s.power.inFailed && !s.power.shutGrave && !s.power.shutThermal

/-- The condition of R284 for UP after a thermal shutdown. -/
def State.coolEnough (s : State) : Bool :=
  !s.power.shutThermal || (s.thermal.coolUs.map fun t => s.elapsed t 10000000).getD false

/-- The UV and OV limits of supply 25 + `k` in µV (R290); those of VDD_CORE follow its request (R291). -/
def State.ownLimits (s : State) (k : Nat) : Nat × Nat :=
  match k with
  | 0 => (950 * s.power.voutReq, 1050 * s.power.voutReq)
  | 1 => (1140000, 1260000)
  | 2 => (855000, 945000)
  | 3 | 4 => (1710000, 1890000)
  | 5 => (1656000, 1944000)
  | _ => (3036000, 3564000)

/-- Whether supply 25 + `k` lies within R290 at a voltage in µV. -/
def State.ownWithin (s : State) (k uv : Nat) : Bool := decide ((s.ownLimits k).1 ≤ uv) && decide (uv ≤ (s.ownLimits k).2)

/-- The own supplies, in µV, as they have stood for 1 ms, and the level of ULB_ABORT_N, as the PSE finds them; VDD_AON has no comparators
(R290, R301). -/
def State.sense (own : Vector Nat 7) (abortHigh : Bool) (s : State) : State :=
  s.modPower fun w => { w with
    ownOk := Vector.ofFn fun i => i.val == 0 || s.ownWithin (i.val - 1) (getN own (i.val - 1) 0), abortLevel := abortHigh,
    abortFall := if abortHigh then none else w.abortFall, abortLong := w.abortLong && !abortHigh }

/-- PROGRAM_START (R301): UP starts the first time after power-on reset once its conditions hold; after a shutdown it is
BROWNOUT_RECOVERY's or POWER_UP's. -/
def execProgramStart (own : Vector Nat 7) (abortHigh : Bool) (s : State) : Host.Outcome State Fault Refusal :=
  let t := s.sense own abortHigh
  liveIf s.aonUp s (t.when (t.upReady && !t.power.upEver && !t.power.shutOff) (·.startProgram .up .start))

/-- PROGRAM_PREEMPT (R302): the running program ends PREEMPTED and the waiting one starts. -/
def execProgramPreempt (s : State) : Host.Outcome State Fault Refusal :=
  match s.power.preempt with
  | some (p, cause) => live s ((s.endProgram .preempted).startProgram p cause)
  | none => live s s

/-- PROGRAM_END (R306): at END of DOWN or BROWNOUT every rail still enabled and not KEEP_ON is disabled. -/
def execProgramEnd (s : State) : Host.Outcome State Fault Refusal :=
  let rails := (List.range 24).filter fun n => !(s.legRail n).keepOn
  liveIf (s.atStep && isShutdown s.power.program && s.presentStep == .finish) s
    ((s.each rails State.disableRail).endProgram .ended)

/-- PROG_TIMEOUT (R300): the watchdog of UP or a user program expires. -/
def execProgTimeout (s : State) : Host.Outcome State Fault Refusal :=
  let p := s.power
  let due := (p.program == .up || isUser p.program) && !p.timeoutDue &&
    s.elapsed p.startUs (s.pseLegend.progTimeout * 1000000)
  let s1 := s.raise .pwrProgTimeout 0
  liveIf due s (if p.wait = .none then s1.endProgram .timeout else s1.modPower fun w => { w with timeoutDue := true })

/-- INPUT_FAIL (R304, R307): PWR_IN_OK low for IN_FAIL_FILT; IN_FAIL logged and raised; BROWNOUT when a program runs or a rail is
enabled. A failure after a shutdown has ended is no part of it. -/
def execInputFail (lowUs : Nat) (s : State) : Host.Outcome State Fault Refusal :=
  let needed := s.power.program != .none || anyV (·.en) s.power.rails
  let run := s.power.program != .none
  let t := (s.pseLog 0x04 0xFF 0).raise .pwrInFail 0
  let t := t.modPower fun w => (if run then w.setFlag 51 true else w)
  let t := t.modPower fun w => { w with
    inLevel := false, inputOk := false, inFails := satAdd 8 w.inFails 1, inFailed := w.inFailed || needed || !w.shutOff }
  liveIf (s.aonUp && s.power.inLevel && decide (s.pseLegend.inFailFilt ≤ lowUs)) s (t.when needed (·.requestProgram .brownout .inputFail))

/-- INPUT_QUALIFIED (R304, R307): PWR_IN_OK high for 50 ms; after a shutdown, counted from its END. -/
def execInputQualified (s : State) : Host.Outcome State Fault Refusal :=
  liveIf (s.aonUp && s.power.inLevel && !isShutdown s.power.program && s.elapsed s.power.inUs 50000) s
    (s.modPower fun w => { w with inputOk := true })

/-- INPUT_RETURN (R304): PWR_IN_OK rises; after a failure during a program IN_RETURN is logged. -/
def execInputReturn (s : State) : Host.Outcome State Fault Refusal :=
  let now := s.timeUs
  liveIf s.aonUp s <| (s.when (s.power.program != .none && !s.power.inLevel) (·.pseLog 0x05 0xFF 0)).modPower fun w =>
    { w with inLevel := true, inUs := if w.inputOk then w.inUs else now }

/-- BROWNOUT_RECOVERY (R307): after a shutdown with the input failed, UP starts with RECOVERY once the input is
qualified. -/
def execBrownoutRecovery (own : Vector Nat 7) (abortHigh : Bool) (s : State) : Host.Outcome State Fault Refusal :=
  let t := s.sense own abortHigh
  liveIf s.aonUp s
    (t.when (t.upReady && t.recoveryDue) fun t => (t.startProgram .up .recovery).pseLog 0x06 0xFF 0)

/-- UP_END_RESUME (R530): HV, heaters, motion and polygons taken up again as at READY. -/
def execUpEndResume (s : State) : Host.Outcome State Fault Refusal :=
  let s1 := s.modPower fun w => { w with resumeDue := false }
  let s1 := s1.hvStart.heatersStart.enableServos.steppersOn.each stations fun x s =>
    s.when (s.enabled x && !s.polygons[x].hostStopped && s.polygons[x].state == .off) (State.polyStart x)
  liveIf (s.power.resumeDue && s.boot.ready && s.power.program == .none) s s1

/-- A counter of a rail or own supply that has counted (R308). -/
def State.countRail (n : Nat) (f : RailCounts → RailCounts) (s : State) : State :=
  s.modPower fun p => { p with counts := modN p.counts n fun c => { f c with dirty := true } }

/-- A rail event counted and raised where `b` holds (R294, R318): a class from the legend, else the base class of the source. -/
def State.railEvent (b : Bool) (n : Nat) (f : RailCounts → RailCounts) (src : Source) (cls : Option FaultClass) (s : State) : State :=
  s.when b fun s =>
    match cls with
    | some c => (s.countRail n f).raiseAs src n c []
    | none => (s.countRail n f).raise src n

/-- A rail after a sample of its monitor in mV, taken at a time (R294): the samples in a row beyond its limits, and what is judged once
after each EN and each DIS. -/
def Rail.sampled (g : LegRail) (now mv : Nat) (r : Rail) : Rail :=
  let past (t : Nat) : Bool := r.switchUs + 100 * t ≤ now
  let low := r.en && past g.pgLateTime && g.mon.isSome && decide (mv < g.uvLimit)
  let high := g.mon.isSome && decide (g.ovLimit < mv)
  { r with
    mon := mv, uvRun := if low then min 4 (r.uvRun + 1) else 0, ovRun := if high then min 4 (r.ovRun + 1) else 0
    lateDone := r.lateDone || (r.en && past g.pgLateTime), offDone := r.offDone || (!r.en && past g.offTime)
    pgSinceEn := r.pgSinceEn && (!r.en || r.pg) }

/-- RAIL_EVENT (R294, R295, R305): a sample of a rail's monitor, scaled by MON_GAIN; the events that it and the rail's PG show are counted
and raised. A rail without a monitor skips the monitor tests. -/
def execRailEvent (n : Fin 24) (pin : Nat) (s : State) : Host.Outcome State Fault Refusal :=
  let g := s.legRail n
  let used := g.mon.isSome
  let mv := if used then min 655350 (pin * g.monGain / 1000) else 0
  let old := s.rail n
  let new := old.sampled g s.timeUs mv
  let add (v : Nat) : Nat := satAdd 32 v 1
  let late := new.lateDone && !old.lateDone && (!old.pg || (used && decide (mv < g.uvLimit)))
  let off := new.offDone && !old.offDone && (old.pg || (used && decide (g.offV < mv)))
  let t := s.modRail n fun _ => new
  let t := t.railEvent (new.uvRun == 4 && old.uvRun != 4) n (fun c => { c with uv := add c.uv }) .psUv (some g.uvClass)
  let t := t.railEvent (new.ovRun == 4 && old.ovRun != 4) n (fun c => { c with ov := add c.ov }) .psOv (some g.ovClass)
  let t := t.railEvent late n (fun c => { c with pgLate := add c.pgLate }) .psPgLate none
  let t := t.railEvent (old.pgSinceEn && !new.pgSinceEn) n (fun c => { c with pgLost := add c.pgLost }) .psPgLost (some g.pgLostClass)
  let t := t.when off fun t =>
    let t := t.when (t.power.program != .none) (·.modPower (Power.setFlag n true))
    t.pseLog 0x07 n 0
  liveIf s.aonUp s (t.railEvent off n (fun c => { c with offFail := add c.offFail }) .psOffFail none)

/-- PG_FILTER_CHANGE (R293, R294): PS_PG_n has held a level for PG_FILT; the legend's polarity says which level is good. -/
def execPgFilterChange (n : Fin 24) (level : Bool) (heldUs : Nat) (s : State) : Host.Outcome State Fault Refusal :=
  let g := s.legRail n
  let good := level == g.pgHigh
  liveIf (s.aonUp && decide (g.pgFilt ≤ heldUs)) s
    (s.modRail n fun r => { r with pg := good, pgSinceEn := r.pgSinceEn || (good && r.en) })

/-- A rail counter record (R308). -/
def counterRecord (n seq : Nat) (c : RailCounts) : List Byte :=
  sealRecord seq (le 1 n ++ le 1 1 ++ le 2 0 ++ le 4 c.uv ++ le 4 c.ov ++ le 4 c.pgLate ++ le 4 c.pgLost ++
    le 4 c.offFail ++ le 2 0)

/-- COUNTER_RECORD_WRITE (R308): changed counters go to the other slot, SEQ one higher. -/
def execCounterRecordWrite (n : Fin 32) (s : State) : Host.Outcome State Fault Refusal :=
  let c := s.power.counts[n]
  let seq := wrapAdd 32 c.seq 1
  let slot := 1 - c.slot
  let s1 := s.modLogs fun l => { l with counters := modN l.counters n fun v => modN v slot fun _ => counterRecord n seq c }
  liveIf c.dirty s <| s1.modPower fun p => { p with
    counts := modN p.counts n fun c => { c with seq := seq, slot := slot, dirty := false } }

/-- POWER_LOG_WRITE (R310): the oldest record formed takes the next slot of the ring. -/
def execPowerLogWrite (s : State) : Host.Outcome State Fault Refusal :=
  match s.power.logQueue with
  | [] => live s s
  | r :: rest => live s <| (s.modPower fun p => { p with logQueue := rest }).modLogs fun l => { l with
      power := modN l.power l.powerHead fun _ => sealRecord l.powerSeq r
      powerHead := (l.powerHead + 1) % 256, powerSeq := wrapAdd 32 l.powerSeq 1 }

/-- OWN_SUPPLY_FAULT (R290): supply 25 + `i` at a voltage in µV beyond a limit for 10 µs; the record's DETAIL names it (log entry 11). -/
def execOwnSupplyFault (i : Fin 7) (uv : Nat) (s : State) : Host.Outcome State Fault Refusal :=
  let n := 25 + i.val
  let ov := decide ((s.ownLimits i).2 < uv)
  let t := s.modPower fun p => { p with ownOk := modN p.ownOk (i.val + 1) fun _ => false }
  let t := t.countRail n fun c =>
    if ov then { c with ov := satAdd 32 c.ov 1 } else { c with uv := satAdd 32 c.uv 1 }
  liveIf (s.aonUp && !s.ownWithin i uv) s (t.raiseD (if ov then .pwrOwnOv else .pwrOwnUv) 0 (le 1 n))

/-- Whether VDD_CORE has steps to make toward the planned request (R291, R498). -/
def State.vcoreDue (s : State) : Bool := !s.power.frozen && s.power.voutReq != s.power.voutTarget

/-- VCORE_STEP (R291): at a layer boundary, VDD_CORE one step of at most 10 mV nearer the request, 100 µs or more after the last one. -/
def execVcoreStep (s : State) : Host.Outcome State Fault Refusal :=
  let now := s.timeUs
  liveIf (s.aonUp && s.boundary && s.vcoreDue && s.elapsed s.power.vcoreUs 100) s <| s.modPower fun p => { p with
    vcoreUs := now, pmbTries := 0
    voutReq := if p.voutReq < p.voutTarget then min p.voutTarget (p.voutReq + 10) else max p.voutTarget (p.voutReq - 10) }

/-- READ_VOUT_POLL (R291): a read-back more than 15 mV from the request raises PWR.PMBUS. -/
def execReadVoutPoll (mv : Fin 1024) (s : State) : Host.Outcome State Fault Refusal :=
  let off := ((mv.val : Int) - s.power.voutReq).natAbs
  liveIf s.aonUp s ((s.modPower fun p => { p with voutRead := mv, pmbTries := 0 }).raiseIf (15 < off) .pwrPmbus 0)

/-- PMBUS_FAILURE (R291): a failed transaction is counted and tried again, twice; its third failure raises PWR.PMBUS and freezes the
request at its last acknowledged value. -/
def execPmbusFailure (s : State) : Host.Outcome State Fault Refusal :=
  let third := 2 ≤ s.power.pmbTries
  let t := s.modPower fun p => { p with pmbErrors := satAdd 8 p.pmbErrors 1, pmbTries := if third then 0 else p.pmbTries + 1 }
  liveIf s.aonUp s <| t.when third fun t =>
    (t.modPower fun p => { p with frozen := true, voutTarget := p.voutReq }).raise .pwrPmbus 0

/-- The state a qualified rise leads to (R311, R313): layers alternate between ULB_LAYER and the state above it. -/
def State.riseTo (s : State) : Nat :=
  let n := s.power.ulbState
  if s.power.upDone && n == s.legend.power.ulbLayer + 1 then s.legend.power.ulbLayer else min 255 (n + 1)

/-- ULIBER_RISE (R311, R313, R314): the counter advances and the line is held low again, or released at once by a SYNC
that waits for a later state. The rise out of ULB_LAYER takes P_ULB and fulfils condition 15 for the candidate. -/
def execUliberRise (s : State) : Host.Outcome State Fault Refusal :=
  let n := s.riseTo
  let layerRise := s.power.upDone && s.power.ulbState == s.legend.power.ulbLayer
  let back := s.power.upDone && s.power.ulbState == s.legend.power.ulbLayer + 1
  let target := match s.power.wait, s.presentStep with
    | .sync, .sync k _ _ => k
    | _, _ => 0
  let pulb := s.position.travel.fdiv 256 - (s.beltPosition % 64 : Nat)
  let t := s.modPower fun w => { w with
    ulbState := n, rises := satAdd 16 w.rises 1, syncLevel := false, syncDrive := !w.detached && target ≤ n,
    released := n < target, layerReleased := w.layerReleased && !back
    pUlb := if layerRise then pulb else w.pUlb }
  let adm := (s.layer.jobs.find? fun j => j.state == .admitted).map (·.seq)
  let t := match adm with
    | some q => t.when (layerRise && s.power.layerReleased) (·.modJob q fun j => { j with syncReady := true })
    | none => t
  liveIf (s.legend.power.ulbEnable && s.aonUp) s t

/-- SYNC_TIMEOUT (R312): the step's flag set, ULB_TIMEOUT logged, the member DETACHED. -/
def execSyncTimeout (s : State) : Host.Outcome State Fault Refusal :=
  match s.power.wait, s.presentStep with
  | .sync, .sync n t k =>
    let due := s.power.program != .none && s.power.preempt.isNone && decide (s.power.ulbState < n) && s.elapsed s.power.waitUs t
    let s1 := (s.pseLog 0x0A 0xFF 0).raise .ulbSyncTimeout 0
    let s1 := s1.modPower fun w => { (w.setFlag (32 + k) true) with detached := true, syncDrive := false, released := true }
    liveIf due s s1.nextStep
  | _, _ => live s s

/-- ULIBER_LAYER_RELEASE (R314): in ULB_LAYER at a belt edge onto a multiple of 64 counts with an ADMITTED candidate;
in the state above it when the member's job is ARMED or has ended. -/
def execUliberLayerRelease (s : State) : Host.Outcome State Fault Refusal :=
  let p := s.power
  let g := s.legend.power
  let idle := g.ulbEnable && !p.detached && p.upDone && !p.released
  let admitted := s.layer.jobs.any fun j => j.state == .admitted
  let start := p.ulbState == g.ulbLayer && admitted && s.beltPosition % 64 == 0
  let armed := p.ulbState == g.ulbLayer + 1 && !admitted
  liveIf (idle && (start || armed)) s <| s.modPower fun w => { w with
    syncDrive := false, released := true, layerReleased := w.layerReleased || start }

/-- ULIBER_ABORT_PULSE_RECEIVED (R315): a layer in its window is aborted, a job in ARMED is rejected. The member's own
drive is no received pulse. -/
def execUliberAbortPulseReceived (s : State) : Host.Outcome State Fault Refusal :=
  let own := s.power.abortDrive || (s.power.abortPulse.map fun t => !s.elapsed t 20).getD false
  let armed := (s.layer.jobs.filter fun j => j.state == .armed).map (·.seq)
  let now := s.timeUs
  let t := s.modPower fun w => { w with pulses := satAdd 16 w.pulses 1, abortLevel := false, abortFall := some now, abortLong := false }
  liveIf (s.legend.power.ulbEnable && s.aonUp && !own) s <|
    (t.each armed fun q t => t.rejectJob q .syncTimeout).abort .uliberAbort 0 0

/-- ULIBER_ABORT_LEVEL (R316): ULB_ABORT_N low for 1 ms after a qualified falling edge starts ULB_ABORT_PROG, once. -/
def execUliberAbortLevel (s : State) : Host.Outcome State Fault Refusal :=
  let t := s.modPower fun w => { w with levels := satAdd 16 w.levels 1, abortLong := true }
  let long := (s.power.abortFall.map fun t => s.elapsed t 1000).getD false
  liveIf (s.legend.power.ulbEnable && s.aonUp && long && !s.power.abortLong) s (t.when s.legend.power.ulbAbortDown (·.requestDown .ulbAbort))

end Sys2Proof.Machine
end

