-- ==== Sys2Proof/Machine/LegendCheck.lean ====
section
/-! DEFINITION. What a load refuses in the legend's content, section by section in the order of R438 and with the field indexes
of R527 (01 R30, R50; 02 R80; 03 R91, R107, R116; 04 R146, R149; 05 R155, R164, R181; 06 R198, R207; 07 R209 to R211, R239;
08 R242, R252, R269; 09 R272, R288; 10 R296, R300, R313, R319; 11 R346; 14 R424; 15 R456, R510; 17 R497). Each test is a
pair: the field index at which it reports, and whether it holds. -/

namespace Sys2Proof.Machine

open Sys2Proof

/-- A number of 1 to 65,535. -/
def in16 (v : Nat) : Bool := inN 1 65535 v

/-- A Q4.28 or Q1.31 value: 32 signed bits. -/
def inQ (v : Int) : Bool := inI (-2147483648) 2147483647 v

/-- Every entry of a vector by its index. -/
def allN {α : Type} {n : Nat} (v : Vector α n) (p : Nat → α → Bool) : Bool := (List.finRange n).all fun i => p i.val v[i]

/-- Every number of an absent or present choice. -/
def optAll (o : Option Nat) (p : Nat → Bool) : Bool := o.all p

/-! BOOT (R456, R510). -/

/-- A TYPE value of R447. -/
def knownType (t : Nat) : Bool := inN 1 3 t || inN 0x10 0x1F t

/-- The tests of the BOOT section. -/
def checkBoot (g : LegBoot) : List (Nat × Bool) :=
  [(1, allN g.permit fun _ l => decide (l.length ≤ 4) && l.all knownType), (2, allN g.required fun _ l => l.all (inN 0 2)),
   (5, inN 0 65535 g.subsysVendor), (6, inN 0 65535 g.subsysId), (7, inN 0 3 g.slewGate), (8, inN 0 3 g.slewStep), (9, inN 0 3 g.slewDac),
   (10, inN 0 3 g.slewPos), (11, inN 0 3 g.slewGen)]

/-! LAYER and DECODER (R50, R80). -/

/-- The tests of the LAYER section. -/
def checkLayer (g : LegLayer) : List (Nat × Bool) :=
  [(0, inN 1 3600 g.admitTimeoutS), (2, inN 0 10000 g.carriageMarginMs), (4, inN 1 2147483647 g.nipPath), (5, inN 0 60000 g.tSeparateMs),
   (6, inN 0 60000 g.tLowerMs), (7, inN 1 60000 g.tReturnMs), (8, inN 0 60000 g.tFeedMs)]

/-- The tests of the DECODER section. -/
def checkDecoder (g : LegDecoder) : List (Nat × Bool) := [(0, inN 1 64 g.primeDepth), (1, in16 g.restartLimit)]

/-! PIXEL (R116, R30, R91, R107). -/

/-- The stagger values in use differ mod E (R86). -/
def staggerDiffers (g : LegPixel) : Bool :=
  let l := (g.stagger.take g.emitters).map (· % g.emitters)
  decide (l.length = l.eraseDups.length)

/-- R30 for one station. -/
def fitsRing (d : LegDecoder) (g : LegPixel) : Bool :=
  let s := spanOf g
  decide (s + bPlusOf g ≤ d.primeDepth) && decide (bMinusOf g + s + bPlusOf g + g.emitters ≤ 64) && decide (d.primeDepth ≤ 64)

/-- The test of R30, which reads DECODER as well and is reported against PIXEL at EMITTERS (R527). -/
def crossPixel (p : Vector LegPixel 6) (d : LegDecoder) : List (Nat × Bool) := [(0, allN p fun _ g => fitsRing d g)]

/-- The tests of the PIXEL section. -/
def checkPixel (p : Vector LegPixel 6) : List (Nat × Bool) :=
  let all (f : LegPixel → Bool) : Bool := allN p fun _ g => f g
  [(0, all fun g => inN 8 32 g.emitters && g.emitters % 4 == 0), (0, all staggerDiffers), (1, all fun g => g.stagger.all (inN 0 31)),
   (2, all fun g => g.emitDelay.all (inN 0 65535)), (3, all fun g => inN 0x100 0xFFFF g.cellQ),
   (4, all fun g => g.bowLine.all (inI (-16) 16) && g.bowShift.all (inI (-32768) 32767)),
   (5, all fun g => g.facetDelay.all (inN 0 65535) && g.facetTrim.all (inI (-256) 256)),
   (6, all fun g => g.lut.all (inN 0 1023) && (g.lut.zipIdx.all fun e => e.2 % 16 != 0 || e.1 == 0)), (7, all fun g => inN 1 4 g.tracks),
   (8, all fun g => g.trimInit.all (inI (-128) 127)), (9, all fun g => inN 1 128 g.trimLimit), (10, all fun g => inN 0 1023 g.probeCode),
   (13, all fun g => g.fastTarget.all (inN 0 65535)), (14, all fun g => inN 1 255 g.fastDeadband),
   (15, all fun g => g.slowTarget.all (inI (-1200) 0)), (16, all fun g => inN 1 100 g.slowBand), (17, all fun g => inN 0 16 g.slowLimit)]

/-! SCAN (R149, R146), with R91 and R107, whose tests read N_c as well (R527; log entry 24). -/

/-- The line length that R91 and R107 are tested with at load, where no stream is known: the longest that a station admits, which
is 2 × N_c pixels and at most the 32,768 of a stream (R53, R122; DESIGN CHOICE, log entry 132). -/
def longestLine (s : LegScanStation) : Nat := min 32768 (2 * s.lineCycles)

/-- R91: the walk fits in every segment for every facet of the polygon. -/
def walkFits (g : LegPixel) (s : LegScanStation) (facets : Nat) : Bool :=
  let seg := (longestLine s + 63) / 64
  let added (trim : Int) : Nat := (2 * seg * g.cellQ * trim.natAbs + 262143) / 262144
  (facetTrims g facets).all fun trim => (List.range 63).all fun i =>
    decide ((nth g.bowShift (i + 1) 0 - nth g.bowShift i 0).natAbs + added trim ≤ seg * g.cellQ / 512)

/-- R107: the exposure span with the largest TRIM of the polygon's facets and the bearing window of R146 fit the sweep period. -/
def spanFits (g : LegPixel) (s : LegScanStation) (facets : Nat) : Bool :=
  let span : Int := (g.cellQ * longestLine s : Nat) * (65536 + largestTrim g facets)
  decide (span + (((s.bdWindow + s.bdDelay + 512 + s.schedSlew) * 256 * 65536 : Nat) : Int) ≤ ((g.emitters * s.lineCycles * 256 * 65536 : Nat) : Int))

/-- The tests of the SCAN section. -/
def checkScan (g : LegScan) : List (Nat × Bool) :=
  let all (f : LegScanStation → Bool) : Bool := allN g.stations fun _ s => f s
  [(0, inN 1000 200000000 g.lineRate), (1, inN 256 16777215 g.kq),
   (2, decide (g.speeds.length ≤ 16) && g.speeds.all fun e => e == (0, 0) || (inN 1024 4096 e.1 && inN 160 240 e.2)),
   (3, inN 0 20 g.sscDepth), (4, inN 0 12 g.sscRate), (5, g.calInterval.all (inN 1 60)), (6, all fun s => inN 781 65535 s.lineCycles),
   (6, all fun s => decide (s.lockBand < s.unlockBand) && decide (8 * s.unlockBand ≤ s.lineCycles) && decide (s.lineCycles < 8 * s.captureBand)),
   (7, all fun s => inN 0 255 s.bdThresh), (9, all fun s => inN 1 63 s.bdMinWidth), (10, all fun s => inN 512 32767 s.bdDelay),
   (11, all fun s => inN 64 8191 s.bdWindow), (13, all fun s => s.facetSig.all (inI (-32768) 32767)), (14, all fun s => in16 s.sigMargin),
   (15, all fun s => inN 0 65535 s.xOff), (16, all fun s => inN 0 8 s.schedGain), (17, all fun s => inN 0 1023 s.schedSlew),
   (18, all fun s => in16 s.lockBand), (19, all fun s => in16 s.unlockBand), (20, all fun s => in16 s.captureBand)]

/-- The tests reported against SCAN that read PIXEL as well, R91 and R107. The polygon's facet count that they take is the field of
no section's table, so that it moves neither test to another section (DESIGN CHOICE, log entry 129). -/
def crossScan (g : LegScan) (p : Vector LegPixel 6) (v : Vector LegPoly 6) : List (Nat × Bool) :=
  let both (f : LegPixel → LegScanStation → Nat → Bool) : Bool := allN g.stations fun i s => f (getN p i {}) s (getN v i {}).facets
  [(6, both walkFits), (6, both spanFits)]

/-! POSITION (R181, R155, R164). -/

/-- The input an axis takes, quadrature below 4 and SSI from 4; none for none (R155). -/
def axisInput (a : LegAxis) : Option Nat :=
  match a.source with
  | .none | .steps => none
  | .enc => some a.input
  | .ssi => some (4 + a.input)

/-- R155: each axis takes an input of a permitted kind, and no input serves two axes. -/
def sourcesOk (g : LegPosition) : Bool :=
  let inputs := g.beltInput :: (g.axes.toList.filterMap axisInput)
  decide (inputs.length = inputs.eraseDups.length) && decide (g.beltInput < 4) &&
    allN g.axes fun i a => decide (a.input < 4) && (if i < 2 then a.source == .enc || a.source == .ssi else a.source != .enc)

/-- R164: the belt length and the origins fit the lattice of the enabled stations. -/
def latticeOk (g : LegPosition) (kq : Nat) (p : Vector LegPixel 6) (on : Vector LegPoly 6) : Bool :=
  let l := stations.foldl (fun m x => if on[x].enable then Nat.lcm m (p[x].emitters * kq) else m) 1
  decide (256 * g.beltLen % l = 0) && g.origins.all fun o => decide (o % l = nth g.origins 0 0 % l)

/-- The test of R164, reported against POSITION at BELT_LEN (R527). -/
def crossPosition (g : LegPosition) (kq : Nat) (p : Vector LegPixel 6) (on : Vector LegPoly 6) : List (Nat × Bool) :=
  [(0, latticeOk g kq p on)]

/-- The tests of the POSITION section. -/
def checkPosition (g : LegPosition) : List (Nat × Bool) :=
  let m31 : Int := 2147483647
  let cmp (f : LegCmpEntry → Bool) : Bool := allN g.cmps fun _ c => c.entries.all f
  [(0, inN 1024 2147483647 g.beltLen), (1, optAll g.indexSrc (inN 0 3)), (2, decide (g.indexPos < g.beltLen)), (3, in16 g.indexTol),
   (4, inN 256 65535 g.armLead), (5, decide (g.origins.length ≤ 64)), (6, g.origins.all fun o => decide (o < 256 * g.beltLen)),
   (7, allN g.stations fun _ s => decide (s.dNom < 549755813888)), (8, sourcesOk g), (9, allN g.axes fun _ a => inI (-m31 - 1) m31 a.lo),
   (10, allN g.axes fun _ a => inI (-m31 - 1) m31 a.hi), (11, allN g.encFilt fun _ v => inN 0 7 v), (12, allN g.ssi fun _ v => inN 1 100 v.clk),
   (13, allN g.ssi fun _ v => inN 8 40 v.bits), (14, allN g.ssi fun _ v => inN 10 1000 v.period), (15, allN g.ssi fun _ v => inN 1 100 v.tm),
   (16, allN g.ssi fun _ v => inN 0 65535 v.lat), (18, allN g.marks fun _ v => inN 0 255 v.filt), (20, allN g.marks fun _ v => inN 0 32767 v.u),
   (21, allN g.marks fun _ v => inN 0 2147483647 v.dist), (22, allN g.stations fun _ s => inN 0 65535 s.a),
   (23, allN g.stations fun _ s => inN 1 255 s.h), (24, allN g.stations fun _ s => inN 0 65535 s.b), (25, allN g.stations fun _ s => inN 0 32767 s.cd),
   (26, in16 g.markWindow), (27, inN 1 4 g.minSensors), (28, inN 0 5 g.refStation), (30, inN 1 256 g.regGain), (31, inN 0 255 g.regDeadband),
   (32, inN 0 255 g.regForce), (33, inN 0 255 g.regStep), (34, inN 0 16777216 g.regRangeX), (35, inN 0 32767 g.regRangeI),
   (37, allN g.cmps fun _ c => optAll c.axis (inN 0 5)),
   (39, allN g.cmps (fun _ c => decide (c.entries.length ≤ 64)) && cmp fun e => inI (-549755813888) (549755813888 - 1) e.pos && in16 e.width),
   (41, allN g.emus fun _ e => in16 e.n), (42, allN g.emus fun _ e => in16 e.m), (43, allN g.emus fun _ e => inN 1 2147483647 e.zlen)]

/-! POLYGON (R207, R198, and R146 where it reads the phase band). -/

/-- A PID set within its ranges (R239). -/
def pidOk (c : LegPid) : Bool :=
  [c.kp, c.ki, c.kd, c.kff, c.uLo, c.uHi, c.u0].all inQ && inI 1 268435456 c.kf && inI (-8) 8 c.gexp

/-- R198 at every speed entry: n of R121 within the range of the drive. -/
def polySpeedsOk (g : LegPoly) (p : LegPixel) (sc : LegScan) : Bool :=
  !g.enable || sc.speeds.all fun e => e == (0, 0) ||
    (let num := 60 * e.1 * sc.lineRate
     let den := 4096 * 1000 * p.emitters * g.facets
     decide (1000 * den ≤ num) && decide (num ≤ 30000 * den) && decide (num ≤ g.maxRpm * den) && (!g.bdComm || decide (g.bdCommRpm * den ≤ num)))

/-- R146 where it reads the phase band: X_OFF, and the slew against the sweep period. -/
def phaseBandFits (g : LegPoly) (p : LegPixel) (s : LegScanStation) : Bool :=
  decide (s.lockBand + g.phaseBand + 64 ≤ s.xOff) && decide (1000 * (s.schedSlew + g.phaseBand + 256) ≤ 19 * (p.emitters * s.lineCycles))

/-- The tests of POLYGON that read SCAN and PIXEL as well: R198, R146 and PHASE_UNLOCK against BD_WINDOW (R207, R527). -/
def crossPolygon (v : Vector LegPoly 6) (p : Vector LegPixel 6) (sc : LegScan) : List (Nat × Bool) :=
  let cross (f : LegPoly → LegPixel → LegScanStation → Bool) : Bool := allN v fun i g => f g (getN p i {}) (getN sc.stations i {})
  [(0, cross fun g p _ => polySpeedsOk g p sc), (34, cross phaseBandFits), (35, cross fun g _ s => decide (g.phaseUnlock ≤ s.bdWindow))]

/-- The tests of the POLYGON section. The facet count, 4 to 12 (R1), has no field index of its own and is reported at index 0
(DESIGN CHOICE, log entry 129). -/
def checkPolygon (v : Vector LegPoly 6) : List (Nat × Bool) :=
  let all (f : LegPoly → Bool) : Bool := allN v fun _ g => f g
  [(0, all fun g => inN 4 12 g.facets), (2, all fun g => inN 1 8 g.polePairs), (3, all fun g => in16 g.rs), (4, all fun g => in16 g.ls), (5, all fun g => in16 g.psiM),
   (6, all fun g => inN 20 800 g.deadtime), (7, all fun g => inN 200 1600 g.tShunt), (8, all fun g => in16 g.shuntGain),
   (9, all fun g => inN 1 2047 g.shuntOfsMax), (10, all fun g => in16 g.iMax), (10, all fun g => decide (g.iMax < g.iTrip)),
   (11, all fun g => in16 g.iTrip), (12, all fun g => in16 g.iRegenMax), (13, all fun g => pidOk g.currentPid && pidOk g.currentPidD),
   (14, all fun g => decide (g.speedPid.length ≤ 8) && (!g.enable || !g.speedPid.isEmpty) && g.speedPid.all fun e => pidOk e.set && decide (e.lo ≤ e.hi)), (15, all fun g => inN 10 500 g.listenMs),
   (16, all fun g => inN 1 120 g.spindownS), (17, all fun g => inN 2 200 g.satPulse), (18, all fun g => inN 50 5000 g.satGap),
   (19, all fun g => inN 5 100 g.uSat), (20, all fun g => inN 1 50 g.satMargin), (21, all fun g => inN 1 7 g.startTries),
   (22, all fun g => in16 g.iOl), (23, all fun g => inN 10 10000 g.olAcc), (24, all fun g => inN 300 2000 g.obsRpm),
   (24, all fun g => decide (g.obsRpm ≤ g.recatchMinRpm)), (25, all fun g => in16 g.obsResid), (26, all fun g => inN 10 2000 g.obsBw),
   (28, all fun g => inN 1000 30000 g.bdCommRpm), (29, all fun g => inN 10 20000 g.acc), (30, all fun g => inN 10 20000 g.dec),
   (31, all fun g => inN 1000 30000 g.maxRpm), (32, all fun g => in16 g.phGain), (33, all fun g => inN 1 200 g.phTrimMax),
   (34, all fun g => inN 16 65535 g.phaseBand), (34, all fun g => decide (g.phaseBand ≤ g.phaseUnlock)), (35, all fun g => inN 16 65535 g.phaseUnlock),
   (36, all fun g => inN 1 1000 g.speedBand), (37, all fun g => inN 1 1000 g.speedTimer), (38, all fun g => inN 300 30000 g.recatchMinRpm),
   (39, all fun g => inN 5 200 g.recatchWindow), (40, all fun g => inN 1 15 g.recatchTries),
   (41, all fun g => inN 4 1020 g.emfThresh && g.emfThresh % 4 == 0)]

/-! LOOP (R239, R209, R211, R242, R272). -/

/-- Whether a law is permitted for a loop number (R209). -/
def lawPermitted (n : Nat) (l : LoopLaw) : Bool :=
  l == .pid || n < 18 || (24 ≤ n && n < 32) || (44 ≤ n && n < 53 && (n - 44) % 3 != 0)

/-- The frames of a class's period, and the offsets of its data and of its output in LOOP cycles; no output instant for the
FACET class (R213). -/
def classTimes (n : Nat) : Nat × Nat × Option Nat :=
  let cls := loopClass n
  (periodFrames cls, match cls with
    | .hv => (2160, some 8000)
    | .heat => (160, some 400000)
    | .cur => (160, some 5000)
    | .facet => (0, none)
    | .vel => (160, some 4000)
    | .pos => (160, some 6000))

/-- The computations of one engine, whose loops are `on`, in one frame, in ascending loop number: whether they fit and each
ends in time (R211). -/
def frameOk (l : Vector LegLoop 64) (on : List Nat) (frame : Nat) : Bool :=
  let due := on.filter fun n => frame % (classTimes n).1 == (if (classTimes n).1 = 1 then 0 else (getN l n {}).phase)
  let total := due.foldl (fun m n => m + loopCycles n (getN l n {})) 0
  let run := due.foldl (fun (t : Nat × Bool) n =>
    let c := classTimes n
    let stop := max t.1 c.2.1 + loopCycles n (getN l n {})
    (stop, t.2 && c.2.2.all fun o => decide (stop + 200 ≤ o))) (0, true)
  decide (total ≤ 9000) && run.2

/-- R211 in every frame, for every engine. -/
def scheduleOk (l : Vector LegLoop 64) : Bool := (List.range 4).all fun e =>
  let on := (List.range 53).filter fun n => (getN l n {}).enable && (getN l n {}).engine == e
  on.isEmpty || (List.range 4000).all fun f => frameOk l on f

/-- R272: heater loops that measure the same input have one frame phase. -/
def heaterPhasesOk (g : LegLoops) : Bool :=
  (List.range 8).all fun a => (List.range 8).all fun b =>
    let la := getN g.loops (24 + a) {}
    let lb := getN g.loops (24 + b) {}
    !(la.enable && lb.enable) || (getN g.zones a {}).sensor != (getN g.zones b {}).sensor || la.phase == lb.phase

/-- A coefficient set within its ranges. -/
def coefOk (c : LegCoef) : Bool :=
  [c.kp, c.ki, c.kd, c.kff].all inQ && inI 1 268435456 c.kf && decide (c.sections.length ≤ 4) && decide (c.k.length ≤ 4) && c.k.all inQ &&
    c.sections.all fun s => [s.b0, s.b1, s.b2, s.a1, s.a2].all inQ

/-- SECTIONS or STATES of an enabled loop, 1 to 4 and the same in every set (R218, R219, R239). -/
def lawSizeOk (g : LegLoop) : Bool :=
  !g.enable || (match g.law with
    | .pid => true
    | .biquad => g.coefs.all fun c => inN 1 4 c.sections.length && c.sections.length == ((g.coefs.head?).map (·.sections.length)).getD 0
    | .state => inN 1 4 g.sources.length && g.coefs.all fun c => c.k.length == g.sources.length)

/-- The sources of a loop's states: another loop is an enabled one of the same engine (R210, R219). -/
def stateSourcesOk (l : Vector LegLoop 64) (g : LegLoop) : Bool :=
  decide (g.sources.length ≤ 4) && g.sources.all fun p =>
    p.1 != .other || (decide (p.2 < 53) && (getN l p.2 {}).enable && (getN l p.2 {}).engine == g.engine)

/-- The regions of a loop: 1 to 8 boxes of an enabled loop that selects by them, each with a set that it has (R211, R220). -/
def regionsOk (n : Nat) (g : LegLoop) : Bool :=
  let selects := g.enable && (n < 32 || 44 ≤ n && (n - 44) % 3 != 0)
  decide (g.regions.length ≤ 8) && (!selects || !g.regions.isEmpty) &&
    g.regions.all fun r => inN 0 7 r.set && decide (r.spLo ≤ r.spHi) && decide (r.xLo ≤ r.xHi) && (!selects || decide (r.set < g.coefs.length))

/-- The set-point range of an HV channel (R226). -/
def hvInRange (ch : Nat) (v : Int) : Bool :=
  match ch % 3 with
  | 0 => inI (-1200) (-400) v
  | 1 => inI (-800) (-200) v
  | _ => inI 200 3000 v

/-- The tests of the LOOP section. -/
def checkLoop (g : LegLoops) : List (Nat × Bool) :=
  let all (f : LegLoop → Bool) : Bool := allN g.loops fun _ l => f l
  let on (n : Nat) : Bool := (getN g.loops n {}).enable
  let flat (f : LegLoop → Nat) : Bool := allN g.loops fun n l => !([45, 46, 48, 49, 51, 52].contains n) || f l == 0
  [(0, scheduleOk g.loops), (0, heaterPhasesOk g), (1, all fun l => inN 0 3 l.engine), (2, allN g.loops fun n l => decide (l.phase < (classTimes n).1)),
   (3, allN g.loops fun n l => lawPermitted n l.law), (4, all lawSizeOk), (5, all fun l => in16 l.measFs), (6, all fun l => inI (-8) 8 l.gexp),
   (7, all fun l => inQ l.uLo), (8, all fun l => inQ l.uHi), (9, all fun l => inQ l.u0), (10, all fun l => decide (l.coefs.length ≤ 8) && l.coefs.all coefOk),
   (10, all (stateSourcesOk g.loops)), (11, allN g.loops regionsOk), (12, all fun l => l.xSource != .other || decide (l.xLoop < 53)), (13, all fun l => inN 0 65535 l.hystSp),
   (14, all fun l => inN 0 65535 l.hystX), (15, all fun l => inN 1 15 l.bumpShift), (16, all fun l => inN 0 2147483647 l.vMax), (16, flat (·.vMax)),
   (16, flat (·.aMax)), (16, flat (·.jMax)), (17, all fun l => inN 0 2147483647 l.aMax), (18, all fun l => inN 0 2147483647 l.jMax),
   (19, all fun l => in16 l.feLimit), (19, all fun l => decide (l.feBand ≤ l.feLimit)), (20, all fun l => in16 l.feBand), (21, all fun l => in16 l.feTimer),
   (22, all fun l => in16 l.feSettle), (23, all fun l => in16 l.safeSettle), (24, allN g.hv fun _ h => inI (-4000) 4000 h.vmonFs),
   (25, allN g.hv fun _ h => inN 1 10000 h.imonFs), (26, allN g.hv fun c h => h.sp.all (hvInRange c) && (!on c || h.sp.length == 8)), (27, allN g.hv fun c h => hvInRange c h.safeSp),
   (28, allN g.hv fun c h => hvInRange c h.ovLimit), (29, allN g.hv fun _ h => inN 0 65535 h.safeCode), (30, allN g.ac fun _ a => inN 1000 3000 a.freq),
   (31, allN g.ac fun x a => (!on (18 + x) || a.sp.length == 8) && a.sp.all fun v => v == 0 || inN 100 2000 v),
   (32, allN g.ac fun x a => (!on (18 + x) || a.wave.length == 4096) && a.wave.all (inI (-32768) 32767)),
   (33, inN 1 1000 g.humFs), (34, inN 1 99 g.humT1), (34, decide (g.humT1 < g.humT2) && decide (g.humT2 < g.humT3)), (35, inN 1 99 g.humT2),
   (36, inN 1 99 g.humT3), (37, allN g.zones fun _ z => inN 0 15 z.sensor), (38, allN g.zones fun _ z => optAll z.sensor2 (inN 0 15)),
   (40, allN g.zones fun _ z => in16 z.dutyMax), (41, allN g.zones fun _ z => inI (-400) 4500 z.spInit), (42, allN g.zones fun _ z => inN 1 3600 z.satTime)]

/-! MOTION (R269, R252). -/

/-- v_s as a fraction, in counts/s: G × σ × f_L1 × K (R249). -/
def approachSpeed (g : LegMotion) (sc : LegScan) (sigma : Nat) : Nat × Nat :=
  (g.gearN * sigma * sc.lineRate * sc.kq, g.gearM * 4096 * 1000 * 256)

/-- R252 at one speed entry. -/
def approachOk (g : LegMotion) (sc : LegScan) (sigma : Nat) (test : Nat) : Bool :=
  let (num, den) := approachSpeed g sc sigma
  let l := g.carrNipPos - g.carrStart
  let lead : Int := g.approachLead
  let x : Int := lead * num - 1000 * l * den
  let carr := getN g.servos 1 {}
  match test with
  | 0 => decide (0 < x) && decide ((lead + 20) * num ≤ 2000 * l * den)
  | 1 => decide (4000 * (num : Int) * num ≤ 6 * carr.aMax * den * x) &&
      decide (16000000 * (num : Int) * num * num ≤ 12 * carr.jMax * x * x * den)
  | _ => decide (10000 * num * num + 8 * g.abortDec * num * den ≤ 20000 * g.contactOffset * g.abortDec * den * den)

/-- R252 at every speed entry. -/
def approachesOk (g : LegMotion) (sc : LegScan) (test : Nat) : Bool :=
  sc.speeds.all fun e => e == (0, 0) || approachOk g sc e.1 test

/-- The tests of MOTION that read SCAN as well, R252 (R527). -/
def crossMotion (g : LegMotion) (sc : LegScan) : List (Nat × Bool) :=
  [(9, approachesOk g sc 1), (18, approachesOk g sc 0), (21, approachesOk g sc 2)]

/-- The tests of the MOTION section. What a servo takes of R183, R184, R186 and R243 beyond the fields of R269 is reported at index 0
(DESIGN CHOICE, log entry 158). -/
def checkMotion (g : LegMotion) : List (Nat × Bool) :=
  let m31 := 2147483647
  let s24 := 16777216
  let off (v : Int) : Bool := inI (-2147483648) 2147483648 v
  let srv (f : LegServo → Bool) : Bool := allN g.servos fun _ v => f v
  let stp (f : LegStepper → Bool) : Bool := allN g.steppers fun _ v => f v
  [(0, srv fun v => inN 20 800 v.deadtime && inN 200 1600 v.tShunt && in16 v.shuntGain && in16 v.iTrip && optAll v.commInput (inN 0 3)),
   (1, srv fun v => inN 1 16 v.polePairs), (2, srv fun v => in16 v.commNum), (3, srv fun v => in16 v.commDen), (4, srv fun v => optAll v.commOffset (inN 0 4095)),
   (5, srv fun v => in16 v.iAlign), (6, srv fun v => inN 10 2000 v.alignTime), (7, srv fun v => in16 v.alignMax), (8, srv fun v => inN 1 m31 v.vMax),
   (9, srv fun v => inN 1 m31 v.aMax), (10, srv fun v => inN 1 m31 v.jMax), (11, srv fun v => inN 1 m31 v.aStop), (12, srv fun v => inN 1 m31 v.jStop),
   (13, srv fun v => inQ v.ka), (14, srv fun v => in16 v.restSpeed), (15, off g.rollOfs), (16, in16 g.rollNum), (17, in16 g.rollDen), (18, off g.carrStart),
   (19, off g.carrNipPos), (20, in16 g.carrStartTol), (21, in16 g.gearN), (22, in16 g.gearM), (23, inN 1 m31 g.contactOffset), (24, inN 50 5000 g.approachLead),
   (25, inN 0 s24 g.sepCounts), (26, in16 g.trackFe), (27, in16 g.trackTimer), (28, inN 1 m31 g.abortDec), (29, inN 1 m31 g.sepSpeed), (30, inN 1 m31 g.clear),
   (31, stp fun v => inN 1 10000 v.iFs), (32, stp fun v => inN 1 10000 v.iRun), (33, stp fun v => inN 0 10000 v.iHold), (34, stp fun v => inN 1 10000 v.holdDelay),
   (35, stp fun v => v.shape.length == 256 && v.shape.all (inN 0 4095)), (36, stp fun v => inN 0 8 v.ms), (37, stp fun v => inN 1 16 v.tBlank), (38, stp fun v => inN 2 128 v.tOff),
   (39, stp fun v => inN 0 16 v.mix), (40, stp fun v => inN 1 s24 v.vStart), (41, stp fun v => inN 1 s24 v.vStop), (42, stp fun v => inN 1 s24 v.vBreak),
   (43, stp fun v => inN 1 s24 v.vMax), (44, stp fun v => inN 1 s24 v.a1), (45, stp fun v => inN 1 s24 v.a2), (46, stp fun v => inN 1 s24 v.d1),
   (47, stp fun v => inN 1 s24 v.d2), (48, stp fun v => inN 1 1000 v.dirSetup), (49, stp fun v => inN 0 1000 v.settle), (50, in16 g.stepNm), (51, in16 g.skewMax),
   (52, (srv fun v => inN 1 s24 v.vHome) && stp fun v => inN 1 s24 v.vHome), (53, (srv fun v => off v.homePos) && stp fun v => off v.homePos),
   (54, (srv fun v => inN 1 m31 v.homeRange) && stp fun v => inN 1 m31 v.homeRange), (55, inN 200 900 g.vUv),
   (55, decide (g.vUv < g.v1) && decide (g.v1 < g.v2) && decide (g.v2 < g.v3)), (55, decide (g.vUv + 20 + g.v1Hyst < g.v1)), (56, inN 200 900 g.v1),
   (57, inN 200 900 g.v2), (58, inN 200 900 g.v3), (59, inN 5 100 g.v1Hyst), (60, inN 1 200 g.chopIMin), (61, inN 2 64 g.chopDetect), (62, inN 1 1000 g.chopSlope),
   (63, inN 1 1000 g.chopR), (64, inN 1 600 g.chopTau), (65, in16 g.chopEMax)]

/-! THERMAL (R288). -/

/-- The tests of the THERMAL section. -/
def checkThermal (g : LegThermal) : List (Nat × Bool) :=
  let drum (v : Int) : Bool := inI (-400) 1500 v
  [(1, allN g.inputs fun _ v => inN 2 4 v.wiring), (2, allN g.inputs fun _ v => optAll v.cjc (inN 0 15)),
   (2, allN g.inputs fun _ v => v.type.code < 3 || optAll v.cjc fun k => rtdInput (getN g.inputs k {})), (3, allN g.inputs fun _ v => inN 0 3999 v.phase),
   (4, allN g.inputs fun _ v => inI (-2000) 18000 v.lo), (5, allN g.inputs fun _ v => inI (-2000) 18000 v.hi),
   (6, allN g.drumSensor fun _ v => optAll v (inN 0 15)), (7, drum g.drumT1), (7, decide (g.drumT1 < g.drumT2) && decide (g.drumT2 < g.drumT3)), (8, drum g.drumT2),
   (9, drum g.drumT3), (10, inN 5 100 g.drumHyst), (11, inN 1 10 g.dieHyst), (12, inN 1 256 g.throtGain), (13, inN 16 64 g.throtMin), (14, inN 0 10000 g.critMargin),
   (15, allN g.zoneLimit fun _ v => inI (-400) 4500 v), (16, allN g.zoneSpan fun _ v => inN 5 1000 v)]

/-! POWER (R319, R296, R300, R313). -/

/-- Whether the reserved bits of a step word are 0 and its numbers in range, in a program of `len` steps (R296). -/
def stepOk (len : Nat) (user : Bool) (w : BitVec 64) : Bool :=
  let v := w.toNat
  let op := field v 63 60
  let flag := field v 59 56
  let a := field v 55 32
  let t := field v 31 0
  let plain := flag == 0
  let noTime := t == 0
  let rail := decide (a ≤ 23)
  decide (t ≤ 3600000000) && match op with
    | 0 => decide (v = 0)
    | 1 | 2 => plain && noTime && rail
    | 3 => plain && a == 0
    | 4 => plain && rail
    | 5 => plain
    | 6 => noTime && decide (a < 256)
    | 7 => plain && noTime && decide (a < 32768) && decide (a % 256 < len)
    | 8 => plain && noTime && decide (a < len)
    | 9 => !user && decide (a < 256)
    | 10 => plain && noTime && decide (a < 65536)
    | _ => false

/-- The jump target of a step, if it jumps. -/
def jumpTarget (w : BitVec 64) : Option Nat :=
  match pseStep w with
  | .jmp t => some t
  | .jmpf t _ _ => some t
  | _ => none

/-- The Uliber states that a program's SYNC steps name, in order. -/
def syncStates (l : List (BitVec 64)) : List Nat := l.filterMap fun w => match pseStep w with
  | .sync n _ _ => some n
  | _ => none

/-- R296 for a program; `fwd` for DOWN and BROWNOUT, which never jump backward (R300). -/
def programOk (l : List (BitVec 64)) (user fwd : Bool) : Bool :=
  inN 1 256 l.length && l.all (stepOk l.length user) && l.getLast? == some 0 &&
    (!fwd || l.zipIdx.all fun e => (jumpTarget e.1).all fun t => decide (e.2 < t))

/-- R300: the sum of BROWNOUT's step times, each its ARG_T and one PSE cycle of 40 ns, within HOLDUP_TIME. -/
def holdupOk (g : LegPower) : Bool :=
  let l := getN g.programs 2 []
  decide (l.foldl (fun m w => m + 25 * field w.toNat 31 0 + 1) 0 ≤ 25000 * g.holdupTime)

/-- R313: UP uses states 1 to ULB_LAYER and its last SYNC names it; DOWN and BROWNOUT use states above DOWN_BASE. -/
def upStatesOk (g : LegPower) : Bool :=
  let l := syncStates (getN g.programs 0 [])
  l.all (inN 1 g.ulbLayer) && (if l.isEmpty then !g.ulbEnable else l.getLast? == some g.ulbLayer)

/-- R313 for a shutdown program. -/
def downStatesOk (g : LegPower) (k : Nat) : Bool := (syncStates (getN g.programs k [])).all fun n => inN (g.downBase + 1) 255 n

/-- The tests of the POWER section. -/
def checkPower (g : LegPower) : List (Nat × Bool) :=
  let all (f : LegRail → Bool) : Bool := allN g.rails fun _ r => f r
  let prog (k : Nat) : List (BitVec 64) := getN g.programs k []
  [(3, all fun r => inN 1 10000 r.pgFilt), (4, all fun r => inN 1 100000 r.pgLateTime), (5, all fun r => inN 1 100000 r.offTime),
   (6, all fun r => optAll r.mon (inN 0 23)), (7, all fun r => in16 r.monGain), (8, all fun r => inN 0 655350 r.uvLimit),
   (9, all fun r => inN 0 655350 r.ovLimit), (10, all fun r => inN 0 655350 r.offV), (15, programOk (prog 0) false false), (15, upStatesOk g),
   (16, programOk (prog 1) false true), (16, downStatesOk g 1), (17, programOk (prog 2) false true), (17, downStatesOk g 2), (17, holdupOk g),
   (18, programOk (prog 3) true false), (19, programOk (prog 4) true false), (20, programOk (prog 5) true false), (21, programOk (prog 6) true false),
   (22, inN 1 3600 g.progTimeout), (23, inN 1 10000 g.holdupTime), (24, inN 10 10000 g.inFailFilt), (25, inN 720 900 g.vcoreInit), (26, inN 0x08 0x77 g.pmbusAddr),
   (28, inN 1 253 g.ulbLayer), (28, inN (g.ulbLayer + 2) 255 g.downBase), (31, decide (g.ulbDMax < 1099511627776))]

/-! FAULT (R346, R325). -/

/-- The highest base class among a source's instances: for a rail's source, that of the rails' legend fields (R321, R318). -/
def highestBase (p : LegPower) (src : Source) : FaultClass :=
  let beyond (f : LegRail → FaultClass) : FaultClass := p.rails.toList.foldl (fun m r => maxClass m (f r)) .notice
  match src with
  | .psFailUp => beyond (·.failUpClass)
  | .psPgLost => beyond (·.pgLostClass)
  | .psUv => beyond (·.uvClass)
  | .psOv => beyond (·.ovClass)
  | s => s.base

/-- The sources whose base class is a legend field of each rail (R318). -/
def railSource : Source → Bool
  | .psFailUp | .psPgLost | .psUv | .psOv => true
  | _ => false

/-- The test of FAULT that reads POWER as well: a cap below the base class, where the base is a legend field (R318, R346). -/
def crossFault (g : LegFaults) (p : LegPower) : List (Nat × Bool) :=
  [(2, g.sources.all fun e => match Source.ofNumber e.1, e.2.cap with
     | some src, some c => !railSource src || atLeast c (highestBase p src)
     | _, _ => true)]

/-- The tests of the FAULT section. -/
def checkFault (g : LegFaults) : List (Nat × Bool) :=
  let all (f : LegSource → Bool) : Bool := g.sources.all fun e => f e.2
  [(0, g.sources.all fun e => (Source.ofNumber e.1).isSome), (0, all fun e => inN 1 255 e.n), (1, all fun e => inN 1 3600000 e.w),
   (4, all fun e => inN 16 64 e.speed), (5, all fun e => inN 1 255 e.logLimit), (7, inN 0 13 g.cq), (8, inN 1 40 g.alivePeriod), (9, inN 10 1000 g.wdogTimeout),
   (2, g.sources.all fun e => match Source.ofNumber e.1, e.2.cap with
     | some src, some c => railSource src || atLeast c src.base
     | _, _ => true), (10, inN 1 10000 g.lsafeQual)]

/-! TELEMETRY and SURVEY (R424, R497). -/

/-- Whether a device address may lie in DRAM, whose installed size is not known before step 8 (R7). -/
def maybeDram (a align : Nat) : Bool := decide (0x1000000000 ≤ a) && decide (a < 0x1800000000) && a % align == 0

/-- The tests of the TELEMETRY section. -/
def checkTelemetry (g : LegTelemetry) : List (Nat × Bool) :=
  let loops := g.sources.map (·.loop)
  let all (f : LegSnap → Bool) : Bool := allN g.snaps fun _ v => f v
  [(0, maybeDram g.contextBase 4096), (1, loops.all (inN 0 52)), (1, decide (loops.length = loops.eraseDups.length)),
   (2, g.sources.all fun v => inN 0 11 v.stream), (3, g.sources.all fun v => in16 v.decim), (4, allN g.laneStream fun _ v => optAll v (inN 0 11)),
   (5, allN g.lanePeriod fun _ v => v == 0 || inN 10 60000 v), (6, all fun v => maybeDram v.chain 1), (7, all fun v => v.mask.all (inN 0 255)),
   (9, all fun v => decide (v.loops.length ≤ 4) && v.loops.all (inN 0 52)), (10, all fun v => inN 0 256 v.pre), (11, all fun v => inN 0 256 v.post),
   (12, all fun v => maybeDram v.ringBase 4096)]

/-- The tests of the SURVEY section. -/
def checkSurvey (g : LegSurvey) : List (Nat × Bool) :=
  [(0, inN 1 10 g.interval), (1, inN 0 252 g.slackMin), (2, inN 4 128 g.slackBand), (3, inN 10 30 g.vstep), (4, inN 720 900 g.vcoreMin),
   (4, decide (g.vcoreMin ≤ g.vcoreMax)), (5, inN 720 900 g.vcoreMax), (6, inN 1 1000 g.driftCal), (7, inN 1 5000 g.assistT1),
   (7, decide (g.assistT1 < g.assistT2) && decide (g.assistT2 < g.assistT3)), (8, inN 1 5000 g.assistT2), (9, inN 1 5000 g.assistT3), (10, inN 1 255 g.corrLimit),
   (11, inN 1 168 g.corrWindow)]

/-! The content of a copy (R436, R438). -/

/-- The tests of a section that read its own fields alone, by its TYPE. -/
def ownTests (g : Legend) (type : Nat) : List (Nat × Bool) :=
  match type with
  | 0x1 => checkBoot g.boot
  | 0x2 => checkLayer g.layer
  | 0x3 => checkDecoder g.decoder
  | 0x4 => checkPixel g.pixels
  | 0x5 => checkScan g.scan
  | 0x6 => checkPosition g.position
  | 0x7 => checkPolygon g.polygons
  | 0x8 => checkLoop g.loops
  | 0x9 => checkMotion g.motion
  | 0xA => checkThermal g.thermal
  | 0xB => checkPower g.power
  | 0xC => checkFault g.faults
  | 0xD => checkTelemetry g.telemetry
  | 0xE => checkSurvey g.survey
  | _ => []

/-- The tests reported against a section that read lower sections as well, which run after its own (R527). -/
def crossTests (g : Legend) (type : Nat) : List (Nat × Bool) :=
  match type with
  | 0x4 => crossPixel g.pixels g.decoder
  | 0x5 => crossScan g.scan g.pixels g.polygons
  | 0x6 => crossPosition g.position g.scan.kq g.pixels g.polygons
  | 0x7 => crossPolygon g.polygons g.pixels g.scan
  | 0x9 => crossMotion g.motion g.scan
  | 0xC => crossFault g.faults g.power
  | _ => []

/-- The fields of a section, by index, whose range is a set of settings: 0 and 1, or named ones (R456, R50, R116, R149, R181, R207,
R239, R269, R288, R319, R346, R424, R497). -/
def settingFields (type : Nat) : List Nat :=
  match type with
  | 0x1 => [0, 3, 4]
  | 0x2 => [1, 3]
  | 0x4 => [11, 12, 18]
  | 0x5 => [8, 12, 21]
  | 0x6 => [8, 17, 19, 29, 36, 38, 39, 40]
  | 0x7 => [0, 1, 13, 14, 27]
  | 0x8 => [0, 3, 10, 12, 39]
  | 0x9 => [0]
  | 0xA => [0]
  | 0xB => [0, 1, 2, 11, 12, 13, 14, 27, 30]
  | 0xC => [2, 3, 6]
  | 0xD => [8]
  | 0xE => [12, 13, 14]
  | _ => []

/-- The lowest field index among the tests that fail. -/
def lowestFailure (tests : List (Nat × Bool)) : Option Nat := ((tests.filter fun t => !t.2).map (·.1)).min?

/-- The first refusal of a section of a copy: its own fields at the lowest index, a value that is no setting of its field
included, then the tests over several sections (R438, R527). -/
def sectionFails (c : LegendCopy) (type : Nat) : Option Nat :=
  let settings := (settingFields type).map fun f => (f, !c.outOfSet.contains (type, f))
  (lowestFailure (ownTests c.content type ++ settings)).or (lowestFailure (crossTests c.content type))

end Sys2Proof.Machine
end

