-- ==== Sys2Proof/Machine/Thermal.lean ====
section
/-! DEFINITION. External inputs, drum bands, zone throttling, the die band, the Critical decision and the thermal
shutdown (09 R271 to R287). -/

namespace Sys2Proof.Machine

open Sys2Proof

/-- The source that an input state raises (R274). -/
def tinSource : TinState → Source
  | .short => .tempShort
  | .range => .tempRange
  | _ => .tempOpen

/-- One result of an input (R273, R274): a state other than OK after 2 results that show it, OK after 10. -/
def TempInput.take (shown : TinState) (temp : Int) (p : TempInput) : TempInput :=
  if shown = .ok then
    let n := p.okRun + 1
    if p.state = .ok then { p with temp := temp, badRun := 0, okRun := 0 }
    else if n = 10 then { p with state := .ok, temp := temp, badRun := 0, okRun := 0 }
    else { p with badRun := 0, okRun := n }
  else
    let run := if p.badRun ≠ 0 ∧ p.badState = shown then p.badRun + 1 else 1
    if p.state = shown then { p with badState := shown, badRun := 0, okRun := 0 }
    else if run = 2 then
      { p with state := shown, temp := 32767, badState := shown, badRun := 0, okRun := 0, faults := satAdd 8 p.faults 1 }
    else { p with temp := if p.state = .ok then temp else p.temp, badState := shown, badRun := run, okRun := 0 }

/-- The drum band that a result leads to (R275): up at a threshold, down below it less DRUM_HYST. -/
def drumBand (g : LegThermal) (band : Nat) (temp : Int) : Nat :=
  let ts := [g.drumT1, g.drumT2, g.drumT3]
  let up := (ts.filter fun t => t ≤ temp).length
  let keep := (ts.filter fun t => t - g.drumHyst ≤ temp).length
  if band < up then up else min band keep

/-- The factor k_n in 1/65,536, rounded down (R280, R289; log entry 160): 0xFFFF means 1. -/
def zoneFactor (limit : Int) (span : Nat) (temp : Int) : Nat :=
  (clampI 0 65535 (((span : Int) - (temp - limit)) * 65536 / max 1 span)).toNat

/-- A zone's factor after a new measurement (R280); HEAT_n.OVER once it has been 0 for 10 s. -/
def State.zoneMeasured (z : Nat) (temp : Int) (s : State) : State :=
  let g := s.legend.thermal
  let k := zoneFactor (getN g.zoneLimit z 0) (getN g.zoneSpan z 1) temp
  let now := s.timeUs
  let old := getN s.thermal.zones z {}
  let since := if k = 0 then some (old.zeroUs.getD now) else none
  let beyond := match since with
    | some t => s.elapsed t 10000000
    | none => false
  (s.modThermal fun t => { t with zones := modN t.zones z fun _ => { factor := k, beyond := beyond, zeroUs := since } }).raiseIf
    (beyond && !old.beyond) .heatOver z

/-- The cold junction of a thermocouple input: an RTD input or die sensor 11 (R271). -/
def State.coldJunction (s : State) (g : LegTin) : Int :=
  match g.cjc with
  | some k => (getN s.thermal.inputs k {}).temp
  | none => (getN s.thermal.sensors 11 {}).temp

/-- The converted temperature of a result and the state it shows (R271, R273): OPEN above 98 % of positive full scale or without excitation
of an RTD, SHORT of an RTD below 15 Ω or 150 Ω, RANGE outside TEMP_LO to TEMP_HI. -/
def State.tinConvert (s : State) (g : LegTin) (r : TinRaw) : Int × TinState :=
  let temp := Config.temperature g.type.code r.value (s.coldJunction g)
  (temp,
    if 98 * 8388607 < 100 * r.code ∨ (rtdInput g ∧ r.lost) then .open
    else if rtdInput g ∧ r.value < (if g.type = .pt100 then 15000 else 150000) then .short
    else if temp < g.lo ∨ g.hi < temp then .range
    else .ok)

/-- TIN_RESULT (R272 to R275, R280, R232): the 100 ms result of an input, the drum bands and zone factors that follow it;
while no job is ARMED or later, the AC tables follow a change of band at the next point 0. -/
def execTinResult (n : Fin 16) (frame : Nat) (raw : TinRaw) (s : State) : Host.Outcome State Fault Refusal :=
  let g := s.legend.thermal
  let used := s.islandsUp && (getN g.inputs n {}).type != .unused && frame % 4000 == (getN g.inputs n {}).phase
  let old := s.thermal.inputs[n]
  let result := s.tinConvert (getN g.inputs n {}) raw
  let new := old.take result.2 (clampI (-32768) 32767 result.1)
  let s1 := s.modThermal fun t => { t with
    inputs := modN t.inputs n fun _ => new
    drums := mapIdxV (fun x d => if getN g.drumSensor x none = some n.val then
      { d with band := drumBand g d.band new.temp, temp := new.temp } else d) t.drums }
  let armed := s.layer.jobs.any Job.armedOn
  let bands := s.thermal.drums
  let now := s1.thermal.drums
  let s1 := s1.when (!armed) (·.modLoops fun l => { l with ac := mapIdxV (fun x (a : DevAc) =>
    if (getN now x {}).band ≠ (getN bands x {}).band then { a with nextT := (getN now x {}).band } else a) l.ac })
  let s1 := s1.each (List.range 8) fun z t =>
    t.when ((s.legLoop (24 + z)).enable && (getN s.legend.loops.zones z {}).sensor == n.val) (State.zoneMeasured z new.temp)
  liveIf used s (s1.raiseIf (new.state != .ok && new.state != old.state) (tinSource new.state) n)

/-- A list in rising order with one more value. -/
def insertSorted (v : Int) : List Int → List Int
  | [] => [v]
  | a :: as => if v ≤ a then v :: a :: as else a :: insertSorted v as

/-- Twice the median of a list; the mean of the middle two for an even count (log entry 43). -/
def median2 (l : List Int) : Int :=
  let l := l.foldl (fun a v => insertSorted v a) []
  nth l ((l.length - 1) / 2) 0 + nth l (l.length / 2) 0

/-- Whether a reading differs from the median of the other valid sensors by more than 15 °C (R276). -/
def offMedian (sensors : Vector DieSensor 12) (t : Vector Int 12) (i : Nat) : Bool :=
  let others := (List.range 12).filter fun k => k != i && (getN sensors k {}).valid
  !others.isEmpty && decide (300 < (2 * getN t i 0 - median2 (others.map fun k => getN t k 0)).natAbs)

/-- DIE_SENSOR_READ (R276): the twelve readings in 0.1 °C; T_d is the largest among the valid sensors. -/
def execDieSensorRead (t : Vector Int 12) (s : State) : Host.Outcome State Fault Refusal :=
  let v := mapV (clampI (-32768) 32767) t
  let old := s.thermal.sensors
  let new : Vector DieSensor 12 := mapIdxV (fun i d =>
    let run := if d.valid && offMedian old v i then d.offRun + 1 else 0
    { d with temp := getN v i 0, valid := d.valid && decide (run < 16), offRun := run }) old
  let valid := (List.range 12).filter fun i => (getN new i {}).valid
  let td : Int := match valid with
    | [] => s.thermal.td
    | i :: is => is.foldl (fun (m : Int) k => max m (getN v k 0)) (getN v i 0)
  let lost := decide (valid.length < 6)
  let cool := td < 1000 - 10 * s.legend.thermal.dieHyst
  let now := s.timeUs
  let s1 := s.modThermal fun h => { h with
    sensors := new, sensorsLost := h.sensorsLost || lost, td := td,
    peak := if h.history.isEmpty then td else max h.peak td
    history := (td :: h.history).take 1100
    coolUs := if cool then some (h.coolUs.getD now) else none }
  let s1 := s1.each (List.range 12) fun i s =>
    s.raiseIf ((getN old i {}).valid && !(getN new i {}).valid) .dieSensor i
  liveIf s.aonUp s (s1.raiseIf (lost && !s.thermal.sensorsLost) .thermSensorsLost 0)

/-- The band of a die temperature (R277). -/
def bandOf (td : Int) : DieBand :=
  if td < 0 then .cold else if td < 850 then .normal else if td < 1000 then .warm
  else if td < 1100 then .hot else if td < 1150 then .critical else .trip

/-- The lower limit of a band, in 0.1 °C (R277). -/
def bandLimit : DieBand → Int
  | .cold => -32768
  | .normal => 0
  | .warm => 850
  | .hot => 1000
  | .critical => 1100
  | .trip => 1150

/-- The band below one; Critical and Trip never fall back (R277). -/
def bandBelow : DieBand → DieBand
  | .normal => .cold
  | .warm => .normal
  | .hot => .warm
  | b => b

/-- The band after the last read (R277): up at once, down one band after 1 s, 1,000 reads, below its limit less DIE_HYST. -/
def State.nextBand (s : State) : DieBand :=
  let b := s.thermal.band
  let up := bandOf s.thermal.td
  let last := s.thermal.history.take 1000
  let low := last.length == 1000 && last.all fun t => t < bandLimit b - 10 * s.legend.thermal.dieHyst
  if b.code < up.code then up else if low then bandBelow b else b

/-- DIE_BAND_CHANGE (R277, R278, R282, R286): refresh, THERM.HOT, and at Critical the latched shutdown with a held
thermal request discarded. -/
def execDieBandChange (s : State) : Host.Outcome State Fault Refusal :=
  let old := s.thermal.band
  let b := s.nextBand
  let hot := b == .hot && old.code < b.code
  let critical := 4 ≤ b.code && old.code < 4
  let drop := critical && (s.scan.held.map fun r => r.source == .thermal).getD false
  let t := s.modThermal fun h => { h with
    band := b, refresh2x := decide (2 ≤ b.code), critLatched := h.critLatched || critical }
  let t := t.when drop (·.supersede)
  liveIf (s.aonUp && b != old && !s.thermal.history.isEmpty) s
    ((t.raiseIf hot .thermHot 0).raiseIf critical .thermCritical 0)

/-- k_d in 64ths (R281). -/
def dieFactor (g : LegThermal) (td : Int) : Nat :=
  max g.throtMin ((64 * 160 - (td - 1000) * g.throtGain) / 160).toNat

/-- THERMAL_THROTTLE (R281): above 100 °C a factor that differs from the one in use is asked for; below 100 °C less
DIE_HYST the full rate is. -/
def execThermalThrottle (s : State) : Host.Outcome State Fault Refusal :=
  let g := s.legend.thermal
  let td := s.thermal.td
  let cool := decide (td < 1000 - 10 * g.dieHyst)
  let k := if 1000 < td then dieFactor g td else if cool then 64 else s.thermal.applied
  let t := s.modThermal fun h => { h with requested := k }
  liveIf (s.islandsUp && (k != s.thermal.applied || (cool && s.thermal.requested != 64))) s
    (t.frequencyRequest .thermal ((s.scan.held.map (·.code)).getD s.scan.code))

/-- The sum of a list of readings. -/
def sumOf (l : List Int) : Int := l.foldl (· + ·) 0

/-- Ninety times the slope s of R282 in 0.1 °C/s, which is its two sums of 100 reads apart: the last 100 ms less the 100 ms that end
1.0 s ago, over 0.9 s; free while fewer reads have been made (log entry 44). -/
def State.slope (s : State) : Int × State :=
  let h := s.thermal.history
  if h.length < 1100 then
    let (n, s) := s.takeNat
    (signed 16 n, s)
  else (sumOf (h.take 100) - sumOf ((h.drop 1000).take 100), s)

/-- t_trip in ms for ninety times the slope, none for infinite (R282). -/
def tripTime (td slope90 : Int) : Option Nat :=
  if slope90 ≤ 0 then none else some (((1150 - td) * 90000 / slope90).toNat)

/-- The predicted end of TRANSFUSE of the job in its window, in ms from now (R282, R50): the trailing edge's travel to
the nip at the process speed, then T_SEPARATE. -/
def State.remainMs (s : State) (j : Job) : Nat :=
  let left := (j.origin + j.maxLines * s.legend.scan.kq - s.position.travel).toNat
  left * profQ * 1000 / (256 * max 1 (beltSpeed s.legend.scan s.scan.sigma)) + s.legend.layer.tSeparateMs

/-- CRITICAL_DECISION (R282): at Critical entry and every 10 ms, finish or abort for the job in its window. -/
def execCriticalDecision (s : State) : Host.Outcome State Fault Refusal :=
  match s.windowJob with
  | none => live s s
  | some j =>
    let r := s.slope
    let slope := r.1
    let trip := tripTime s.thermal.td slope
    let rem := s.remainMs j
    let fits := match trip with
      | none => true
      | some n => decide (rem + s.legend.thermal.critMargin ≤ n)
    let t := r.2.modThermal fun h => { h with
      slope := clampI (-32768) 32767 (roundDiv slope 9), tTripMs := min 65535 (trip.getD 65535), tRemMs := min 65535 rem,
      finishing := fits, abortDecided := h.abortDecided || !fits }
    liveIf (s.thermal.critLatched && !s.layer.abortRunning && !s.thermal.abortDecided) s
      (if fits then t else t.abort .thermalCritical Source.thermCritical.number 0)

/-- THERMAL_SHUTDOWN (R283, R284): Critical latched and no committed window open; the record of T_d, slope and decision,
then DOWN (log entry 45). -/
def execThermalShutdown (s : State) : Host.Outcome State Fault Refusal :=
  let h := s.thermal
  let decision := if h.abortDecided then 2 else if h.finishing then 1 else 0
  let t := (s.pseLog 0x09 0xFF (twos 16 h.td)).powerLog 0x03 s.power.program.code 0xFF decision (twos 16 h.slope)
  let t := (t.modThermal fun h => { h with shutdown := true }).raise .thermShutdown 0
  liveIf (h.critLatched && !h.shutdown && !s.windowOpen && !s.layer.abortRunning) s (t.requestDown .thermal)

/-- THERMAL_TRIP (R285): a Trip comparator held for 10 µs; Grave, and DOWN when it does not run. -/
def execThermalTrip (i : Fin 12) (s : State) : Host.Outcome State Fault Refusal :=
  let t := s.modThermal fun h => { h with trip := h.trip ||| (1#12 <<< i.val) }
  let t := (t.raiseD .thermTrip 0 (le 1 i)).requestDown .thermal
  liveIf s.aonUp s (t.modPower fun p => { p with shutGrave := true })

end Sys2Proof.Machine
end

