-- ==== Sys2Proof/Machine/Faults.lean ====
section
/-! DEFINITION. The fault collector, class reactions, the Grave latch, ALIVE, the watchdog's raise, LSAFE_N and LEN, clearing
(11 R321 to R346). -/

namespace Sys2Proof.Machine

open Sys2Proof

/-- Whether a source is a station's (R48, R323): the station-indexed rows of the chapters' tables, and a Jenzan unit of a
station port. -/
def isStationSource (src inst : Nat) : Bool :=
  (0x10 ≤ src && src ≤ 0x28) || (0x36 ≤ src && src ≤ 0x40) || src == 0x58 || (0x5A ≤ src && src ≤ 0x5C) ||
  (0x60 ≤ src && src ≤ 0x6D) || (0x72 ≤ src && src ≤ 0x77) || ((src == 0xE5 || src == 0xE6) && inst < 6) || src == 0xC5 || src == 0xF7

/-- The cause that an event at Severe or Grave gives an aborted layer (R48). -/
def faultCause (cls : FaultClass) (src inst : Nat) : Cause :=
  if cls = .grave then .grave
  else if src = Source.faultLsafe.number then .lsafe
  else if isStationSource src inst then .faultStation else .faultOther

/-- A job outside its window as a Severe or Grave fault finds it (R29, R314, R334); an end names the fault (R362). -/
def State.faultJob (src inst : Nat) (j : Job) (s : State) : State :=
  match j.state with
  | .armed => s.endJob j.seq .rejected .faultBeforeStart src inst
  | .admitted =>
    if j.arming then s.modJob j.seq fun k =>
      if k.armFail = .faultBeforeStart then k else { k with armFail := .faultBeforeStart, source := src, inst := inst }
    else if s.power.layerReleased && s.legend.power.ulbEnable then
      (s.endJob j.seq .rejected .faultBeforeStart src inst).drivePulse true
    else s.requeueJob j.seq
  | .lower | .returning => s.modJob j.seq fun k => { k with flags := { k.flags with postFault := true } }
  | _ => s

/-- The controlled stops of a Severe fault with no job in the window (R260): a carriage's return completes. -/
def State.severeStop (s : State) : State :=
  let s := s.modServo 0 (Servo.askStop .controlled)
  if s.motion.carrPhase = .returning then s else s.modServo 1 (Servo.askStop .controlled)

/-- The reaction that every Severe or Grave event drives (R330, R334): the abort of a layer in its window, otherwise steps
2 and 3 of R43; the steppers stop, the other jobs end or move. -/
def State.severeReaction (cls : FaultClass) (src inst : Nat) (s : State) : State :=
  let jobs := s.layer.jobs
  let cause := faultCause cls src inst
  let s := if s.windowOpen then s.abort cause src inst
    else ((s.forceOff (if cause = .lsafe then .lsafe else .abortInput)).hvHardware).severeStop
  s.stopSteppers.each jobs (State.faultJob src inst)

/-- The Grave gates (R336 steps 2 and 3): bridges off, HV references at code 0, heaters off, polygons into FAULT. -/
def State.graveGates (s : State) : State :=
  let s := s.hvGrave.heatersOff.motionOff
  s.allPolygons (Polygon.fail .grave)

/-- What an event at a class does at once (R330, R336). -/
def State.react (cls : FaultClass) (src inst : Nat) (s : State) : State :=
  let s := s.when (atLeast cls .severe) (·.severeReaction cls src inst)
  s.when (cls == .grave) fun s => s.graveGates.modFaults fun f =>
    if f.grave || f.gravePending then f else { f with gravePending := true, graveSrc := src, graveInst := inst }

/-- PIXEL_PLL_UNLOCK (R131): inside a window CLK.PX_UNLOCK_RUN aborts the layer first, FORCE_OFF on its lanes, and then the clocks
stop; outside one CLK.PX_UNLOCK_IDLE is raised. The relock runs at once in both cases. -/
def execPixelPllUnlock (s : State) : Host.Outcome State Fault Refusal :=
  let src := Source.clkPxUnlockRun
  let cls := s.armedClass src.number 0 src.base
  let cut := ((s.raise src 0).react cls src.number 0).modFaults fun f => { f with fast := f.fast.filter fun e => e.src != src.number }
  liveIf s.scan.pllLocked s (if s.windowOpen then cut.stopClocks else (s.raise .clkPxUnlockIdle 0).stopClocks)

/-- FAULT_FAST_PATH (R330): the oldest armed event acts without the collector. -/
def execFaultFastPath (s : State) : Host.Outcome State Fault Refusal :=
  match s.faults.fast with
  | [] => live s s
  | e :: rest => live s ((s.modFaults fun f => { f with fast := rest }).react e.base e.src e.inst)

/-- The body of a fault record: bytes 4 to 29 (R338); time, window and job are those that `e` was stamped with. -/
def faultBody (kind : Nat) (e : FaultEvent) (cls : FaultClass) (promoted : Bool) (suppressed count : Nat) : List Byte :=
  le 6 e.timeUs ++ le 1 e.src ++ le 1 e.inst ++
    le 1 (e.base.code + 4 * cls.code + 16 * b2n promoted + 32 * b2n e.inWindow) ++ le 1 kind ++ le 2 suppressed ++
    le 4 e.jobSeq ++ le 1 e.jobState ++ le 1 count ++ le 2 0 ++ padTo 6 e.detail

/-- The body of a record of the collector's own about an instance, stamped now (R327, R337, R341). -/
def State.instBody (s : State) (kind : Nat) (i : FaultInst) (cls : FaultClass) (suppressed count : Nat) : List Byte :=
  faultBody kind (s.stampEvent i.src i.inst i.base []) cls false suppressed count

/-- A fault record formed: it takes the next SEQ, and FAULT_LOG_WRITE places it in the ring (R338). -/
def State.faultRecord (body : List Byte) (s : State) : State :=
  s.modFaults fun f =>
    let seq := wrapAdd 32 f.logSeq 1
    { f with logSeq := seq, records := f.records ++ [{ bytes := sealRecord seq body }] }

/-- The FAULT record of an event of class Degraded or above (R332, R362). -/
def State.faultEventRecord (body : List Byte) (s : State) : State :=
  s.record s.faultCq .fault 0 (padTo 4 ((body.drop 6).take 3) ++ le 4 s.faults.logSeq ++ padTo 8 (body.take 6) ++
    (body.drop 20).take 6)

/-- An instance's state replaced or added (R321). -/
def Faults.putInst (i : FaultInst) (f : Faults) : Faults :=
  if f.insts.any fun k => k.src == i.src && k.inst == i.inst then
    { f with insts := f.insts.map fun k => if k.src = i.src ∧ k.inst = i.inst then i else k }
  else { f with insts := f.insts ++ [i] }

/-- The class codes an event may reach: its base raised by the steps of the instance, never above the cap (R326). -/
def raisedClass (base inst instBase cap : FaultClass) : FaultClass :=
  classOf (min (max cap.code base.code) (base.code + (inst.code - instBase.code)))

/-- The supervisor asks for the scale once the least factor of the standing SPEED restrictions is no longer `old` (R333, log
entry 125). -/
def State.askRestrictedSpeed (old : Nat) (s : State) : State :=
  s.when (s.restrictSpeed != old) (·.frequencyRequest .degraded ((s.scan.held.map (·.code)).getD s.scan.code))

/-- The restriction of a Degraded or higher event (R333): HOLD acts when raised, SPEED asks for the scale; `old` is the least
factor that stood before. -/
def State.applyRestriction (src old : Nat) (s : State) : State :=
  match (s.sourceEntry src).restrict with
  | .hold => (s.modLayer fun l => { l with hold := true }).modFaults fun f => { f with holdRestrict := true }
  | .speed => s.askRestrictedSpeed old
  | _ => s

/-- A trigger for stream `n` of the event, when the stream is privileged, runs, and the legend masks the source in at the
class (R416). -/
def Stream.trigger (g : LegSnap) (n src : Nat) (cls : FaultClass) (record : List Byte) (t : Stream) : Stream :=
  if 12 ≤ n ∧ t.state = .running ∧ g.mask.contains src ∧ atLeast cls g.cls then { t with triggers := t.triggers ++ [record] } else t

/-- An event is offered to every privileged stream as a trigger; it carries the fault record of the event, whose SEQ is open
where none was formed (R416, log entry 5). -/
def State.snapTrigger (src : Nat) (cls : FaultClass) (record : List Byte) (s : State) : State :=
  let g (n : Nat) : LegSnap := getN s.legend.telemetry.snaps (n - 12) {}
  s.modTelemetry fun t => { t with streams := mapIdxV (fun n => Stream.trigger (g n) n src cls record) t.streams }

/-- The collector classifies one event (R326, R332, R335, R337): its class, its count and promotion, its reactions, its
records. -/
def State.collect (e : FaultEvent) (s : State) : State :=
  let g := s.sourceEntry e.src
  let cap := maxClass (g.cap.getD e.base) e.base
  let old := (s.faultInst e.src e.inst).getD { src := e.src, inst := e.inst, base := e.base, cls := e.base }
  let present := raisedClass e.base old.cls old.base cap
  let w := 1000 * g.w
  let counted := (e.timeUs :: old.counted.filter fun t => e.timeUs < t + w).take 255
  let promoted := e.base.code < cap.code && present.code < cap.code && decide (g.n ≤ counted.length)
  let cls := if promoted then classOf (present.code + 1) else present
  let severe := atLeast cls .severe
  let degraded := atLeast cls .degraded
  let logged := old.logged.filter fun t => e.timeUs < t + w
  let quiet := !degraded && decide (g.logLimit ≤ logged.length)
  let recent := match old.recordUs with
    | some t => decide (e.timeUs < t + 1000000)
    | none => false
  let again := severe && old.standing && recent
  let body := faultBody 1 e cls promoted 0 counted.length
  let first := severe && !s.severeStands
  let factor := s.restrictSpeed
  let i : FaultInst := { old with
    base := e.base, cls := cls, counted := if promoted then [] else counted, lastUs := e.timeUs,
    standing := old.standing || severe, restricted := old.restricted || (degraded && g.restrict != .none),
    setGrave := old.setGrave || cls == .grave,
    logged := if degraded || quiet then logged else (e.timeUs :: logged).take 255,
    suppressed := if quiet then satAdd 16 old.suppressed 1 else old.suppressed,
    recordUs := if severe && !again then some e.timeUs else old.recordUs, events := wrapAdd 32 old.events 1 }
  let s := s.modFaults fun f => { f.putInst i with counts := modN f.counts cls.code fun n => wrapAdd 32 n 1 }
  let s := s.when first (·.modFaults fun f => { f with firstSrc := e.src, firstInst := e.inst, firstValid := true })
  let s := s.when (!quiet) (·.faultRecord body)
  let open' := s.takeNat
  let r : Nat × State := if quiet then (open'.1 % 4294967296, open'.2) else (s.faults.logSeq, s)
  let s := r.2.snapTrigger e.src cls (sealRecord r.1 body)
  let s := s.when (degraded && !again) (·.faultEventRecord body)
  let s := s.when (promoted && severe) (·.react cls e.src e.inst)
  s.when degraded (·.applyRestriction e.src factor)

/-- FAULT.STORM of the episode takes a slot that the queue has freed (R329, log entry 46). -/
def State.stormEvent (s : State) : State :=
  s.when (s.faults.stormDue && decide (s.faults.queue.length < 64)) fun s =>
    (s.modFaults fun f => { f with stormDue := false }).raise .faultStorm 0

/-- FAULT_EVENT (R326, R329): the oldest queued event is classified; an episode of overflow ends with the queue empty. -/
def execFaultEvent (s : State) : Host.Outcome State Fault Refusal :=
  match s.faults.queue with
  | [] => live s s
  | e :: rest =>
    let t := ((s.modFaults fun f => { f with queue := rest }).collect e).stormEvent
    live s (t.modFaults fun f => { f with storm := f.storm && !f.queue.isEmpty })

/-- FAULT_QUEUE_OVERFLOW (R329): an event that arrives at the full queue. -/
def execFaultQueueOverflow (src : Source) (inst : Fin 64) (s : State) : Host.Outcome State Fault Refusal :=
  liveIf (64 ≤ s.faults.queue.length) s (s.raise src inst)

/-- CLASS_FALLBACK (R327): W after the last event or step, the effective class falls back one step. -/
def execClassFallback (src : Fin 256) (inst : Fin 64) (s : State) : Host.Outcome State Fault Refusal :=
  match s.faultInst src inst with
  | none => live s s
  | some i =>
    let due := i.base.code < i.cls.code && !i.standing && i.cls != .grave &&
      s.elapsed i.lastUs (1000 * (s.sourceEntry src).w)
    let cls := classOf (i.cls.code - 1)
    let now := s.timeUs
    let t := s.modFaults fun f => f.putInst { i with cls := cls, lastUs := now }
    liveIf due s (t.faultRecord (t.instBody 4 i cls 0 (min 255 i.counted.length)))

/-- SUPPRESSED_RECORD (R337): once Notice events of the instance would be logged again, one record gives the number of
those that were not. -/
def execSuppressedRecord (src : Fin 256) (inst : Fin 64) (s : State) : Host.Outcome State Fault Refusal :=
  match s.faultInst src inst with
  | none => live s s
  | some i =>
    let g := s.sourceEntry src
    let now := s.timeUs
    let within := (i.logged.filter fun t => now < t + 1000 * g.w).length
    let body := s.instBody 3 i i.cls i.suppressed (min 255 i.counted.length)
    liveIf (i.suppressed != 0 && decide (within < g.logLimit)) s
      ((s.modFaults fun f => f.putInst { i with suppressed := 0 }).faultRecord body)

/-- FAULT_LOG_WRITE (R338): the oldest record formed goes to the ring; one that fails its verification is counted. -/
def execFaultLogWrite (verified : Bool) (s : State) : Host.Outcome State Fault Refusal :=
  match s.faults.records with
  | [] => live s s
  | r :: rest =>
    let head := s.faults.logHead
    let t := s.modFaults fun f => { f with records := rest, logHead := (f.logHead + 1) % 1024 }
    let t := t.modLogs fun l => { l with faults := modN l.faults head fun _ => if verified then r.bytes else [] }
    live s (if verified then t else (t.modFaults fun f => { f with logFails := satAdd 16 f.logFails 1 }).raise .faultLogWrite 0)

/-- GRAVE_LATCH (R336): the latch with its source, every output safe, LEN low, ULB_ABORT_N driven, DOWN starts. -/
def execGraveLatch (s : State) : Host.Outcome State Fault Refusal :=
  let t := s.graveGates.modFaults fun f => { f with
    grave := true, gravePending := false, graveValid := true, len := false }
  let t := t.when s.legend.power.ulbEnable (·.modPower fun p => { p with abortDrive := true })
  liveIf s.faults.gravePending s (t.requestDown .grave)

/-- ALIVE_PERIOD_END (R339): ALIVE toggles only with no Severe standing, the Grave latch clear and a heartbeat in the
period; FAULT.WATCHDOG after 2 periods without one. -/
def execAlivePeriodEnd (s : State) : Host.Outcome State Fault Refusal :=
  let f := s.faults
  let run := f.beat && !s.severeStands && !f.grave
  let missed := if f.beat then 0 else min 3 (f.missed + 1)
  let now := s.timeUs
  let t := s.modFaults fun f => { f with
    alive := f.alive != run, aliveRun := run, supOk := f.beat, stops := if run then f.stops else satAdd 16 f.stops 1,
    periodUs := now, beat := false, missed := missed }
  liveIf (s.boot.ready && s.elapsed f.periodUs (250 * s.legend.faults.alivePeriod)) s (t.raiseIf (missed == 2) .faultWatchdog 0)

/-- HEARTBEAT_WRITE (R339): the supervisor writes its heartbeat. -/
def execHeartbeatWrite (s : State) : Host.Outcome State Fault Refusal :=
  let now := s.timeUs
  liveIf s.boot.ready s (s.modFaults fun f => { f with beat := true, beatUs := now })

/-- LSAFE_N asserted while AON runs (R43, R46, R340): FORCE_OFF on every lane and LEN low at once; FAULT.LSAFE raised, the
layer aborted. -/
def State.lsafeAsserted (s : State) : State :=
  let t := (s.forceOff .lsafe).modFaults fun f => { f with lsafe := false, len := false }
  let cls := t.armedClass Source.faultLsafe.number 0 .severe
  let t := (t.raise .faultLsafe 0).react cls Source.faultLsafe.number 0
  t.modFaults fun f => { f with fast := f.fast.filter fun e => e.src != Source.faultLsafe.number }

/-- LSAFE_ASSERT (R340); before power-on reset is released only the level is noted (R525). -/
def execLsafeAssert (s : State) : Host.Outcome State Fault Refusal :=
  let t := s.modPins fun p => { p with lsafePin := false }
  live s (if s.aonUp && s.faults.lsafe then t.lsafeAsserted else t)

/-- LSAFE_N_RELEASE (R340): LSAFE_N deasserted at the ball; LSAFE_QUAL counts from here. -/
def execLsafeNRelease (s : State) : Host.Outcome State Fault Refusal :=
  let now := s.timeUs
  let t := s.modPins fun p => { p with lsafePin := true }
  live s (if s.aonUp && !s.faults.lsafe then t.modFaults fun f => { f with lsafe := true, lsafeUs := now } else t)

/-- Whether an instance of FAULT.LSAFE stands (R340). -/
def State.lsafeStands (s : State) : Bool :=
  s.faults.insts.any fun i => i.src == Source.faultLsafe.number && i.standing

/-- LEN_ASSERT (R340): LEN rises when every condition holds. -/
def execLenAssert (s : State) : Host.Outcome State Fault Refusal :=
  liveIf (s.boot.ready && s.faults.lsafe && s.elapsed s.faults.lsafeUs (1000 * s.legend.faults.lsafeQual) && !s.lsafeStands &&
      !s.faults.grave && !isShutdown s.power.program) s
    (s.modFaults fun f => { f with len := true })

/-- Whether the owning subsystem still reports the condition of a standing instance (R341): what the state shows of it;
`reported` names the instances whose measurement still shows it. -/
def State.causePresent (s : State) (src inst : Nat) (reported : List (Nat × Nat)) : Bool :=
  (src == Source.faultLsafe.number && !s.faults.lsafe) || (src == Source.thermSensorsLost.number && s.thermal.sensorsLost) ||
  (src == Source.faultWatchdog.number && 2 ≤ s.faults.missed && !s.faults.beat) ||
  (src == Source.clkPxUnlockRun.number && !s.scan.pllLocked) || (src == Source.busOv2.number && s.motion.bus.coasting) ||
  (src == Source.hvMon.number && (getN s.loops.hv inst {}).monRaised) || reported.contains (src, inst)

/-- FAULT_CLEAR of one instance (R341): its new state and the status it gives. -/
def State.clearInst (i : FaultInst) (reported : List (Nat × Nat)) (s : State) : MqStatus × State :=
  if i.cls = .grave ∨ i.setGrave then (.graveLatched, s)
  else if i.standing && s.causePresent i.src i.inst reported then (.stillActive, s)
  else if i.standing || i.restricted || i.base.code < i.cls.code then
    let s := s.modFaults fun f => f.putInst { i with
      standing := false, restricted := false, cls := i.base, counted := [], logged := i.logged, recordUs := none }
    (.ok, s.faultRecord (s.instBody 2 i i.base 0 0))
  else (.ok, s)

/-- What follows when the last standing Severe is cleared (R342): the chopper self-test is due again. -/
def State.lastCleared (before : Bool) (s : State) : State :=
  s.when (before && !s.severeStands) fun s =>
    (s.modFaults fun f => { f with firstValid := false }).modBus fun b => { b with testDue := true }

/-- FAULT_CLEAR in range (R341): every named instance by the table, one status for all. -/
def State.clearFaults (scope src inst : Nat) (reported : List (Nat × Nat)) (s : State) : MqStatus × State :=
  let named := s.faults.insts.filter fun i =>
    (scope == 2) || (scope == 1 && i.src == src) || (scope == 0 && i.src == src && i.inst == inst)
  let before := s.severeStands
  let factor := s.restrictSpeed
  let r := named.foldl (fun (a : MqStatus × State) i =>
    let c := a.2.clearInst i reported
    (if a.1 = .graveLatched ∨ c.1 = .graveLatched then .graveLatched
     else if a.1 = .stillActive ∨ c.1 = .stillActive then .stillActive else .ok, c.2)) (MqStatus.ok, s)
  let s := r.2
  let hold := s.faults.insts.any fun i => i.restricted && (s.sourceEntry i.src).restrict == .hold
  (r.1, ((s.modFaults fun f => { f with holdRestrict := f.holdRestrict && hold }).lastCleared before).askRestrictedSpeed factor)

end Sys2Proof.Machine
end

