-- ==== Sys2Proof/Machine/Layer.lean ====
section
/-! DEFINITION. The layer engine: admission, arming, overlap, the end of an abort (01 R20 to R49). -/

namespace Sys2Proof.Machine

open Sys2Proof

/-- Whether a stream's extent lies wholly inside installed DRAM (R26 condition 1, R54): the header alone until it has been
read and found valid. -/
def State.streamInDram (s : State) (j : Job) (x : Fin 6) : Bool :=
  let d := s.decoders[x]
  let n := if d.jobSeq = some j.seq ∧ d.streamBytes ≠ 0 then d.streamBytes else 64
  s.inDram (j.streamAddr x.val) n

/-- Whether the RS check of a stream's first 64 KiB has been made (R26 condition 2). -/
def State.streamChecked (s : State) (j : Job) (x : Fin 6) : Bool :=
  let d := s.decoders[x]
  d.jobSeq == some j.seq && d.streamBytes != 0 && decide (min 65536 d.streamBytes ≤ d.fetched)

/-- Whether a station is primed (R26 condition 5). -/
def State.primed (s : State) (j : Job) (x : Fin 6) : Bool :=
  let d := s.decoders[x]
  d.jobSeq == some j.seq && decide (min s.legend.decoder.primeDepth (j.lines x.val) ≤ d.ringLevel)

/-- f_PX of a station in mHz at the scale in use (R121). -/
def State.pixelRate (s : State) (x : Fin 6) : Nat :=
  s.legend.scan.lineRate * (s.legScan x).lineCycles * s.scan.sigma / 4096

/-- The survey cap of a station's pixel island in mHz, islands 7 to 12 (R480, R485). -/
def State.islandCap (s : State) (x : Fin 6) : Nat := 1000 * (getN s.survey.islands (7 + x.val) {}).cap

/-- Whether the stream's lines fit the sweep, which leaves room for the bearing window of R146 (R107, R122). -/
def State.lineFits (s : State) (j : Job) (x : Fin 6) : Bool :=
  let d := s.decoders[x]
  let w := (s.legScan x).bdWindow + (s.legScan x).bdDelay + 512 + (s.legScan x).schedSlew
  let p := d.lineLength
  let g := s.legPixel x
  d.jobSeq != some j.seq || (decide (p ≤ 2 * (s.legScan x).lineCycles) &&
    decide (((g.cellQ * p : Nat) : Int) * (65536 + largestTrim g (s.facets x)) + (65536 * 256 * w : Nat) ≤ (65536 * 256 * s.tSw x : Nat)))

/-- Condition 7 for a station (R26, R122). -/
def State.rateOk (s : State) (j : Job) (x : Fin 6) : Bool :=
  let f := s.pixelRate x
  let cap := s.islandCap x
  decide (300000000000 ≤ 2 * f) && decide (2 * f ≤ 750000000000) && decide (f ≤ cap) && s.lineFits j x

/-- A unit of the gazetteer. -/
def State.unit (s : State) (port unit : Nat) : Unit := getN s.boot.units (4 * port + unit) {}

/-- Whether a unit is PRESENT (R448). -/
def State.unitPresent (s : State) (port unit : Nat) : Bool := (s.unit port unit).state == .present

/-- The partners that a station requires are PRESENT and its lanes trained, none marked for replacement (R26 condition 8,
R113, R448). -/
def State.partnersOk (s : State) (x : Fin 6) : Bool :=
  let px := s.pixels[x]
  (getN s.legend.boot.required x []).all (fun u => s.unitPresent x u) &&
  (List.range 4).all (fun l => (getN px.lanes (getN px.map l 0) {}).state == .trained && !(getN px.lanes (getN px.map l 0) {}).marked)

/-- The auxiliary partners that every job requires are PRESENT (R26 condition 8, R456). -/
def State.auxOk (s : State) : Bool :=
  (List.range 2).all fun k => !getN s.legend.boot.auxRequired k false || s.unitPresent (6 + k) 0

/-- Condition 9 for a station (R144, R174). -/
def State.polyLocked (s : State) (x : Fin 6) : Bool :=
  let t := s.scan.stations[x]
  t.state == .locked && t.facetId != .unknown && t.dllLocked && s.polygons[x].phaseLock && !s.position.reg[x].slewing

/-- Condition 10 for a station (R225). -/
def State.hvInBand (s : State) (x : Nat) : Bool :=
  [3 * x, 3 * x + 1, 3 * x + 2, 18 + x].all fun n => !(s.legLoop n).enable || (s.loop n).inBand

/-- Condition 11 (R225). -/
def State.heatInBand (s : State) : Bool :=
  (List.range 8).all fun z => !(s.legLoop (24 + z)).enable || (s.loop (24 + z)).inBand

/-- Whether the carriage or a Z axis is not homed, which keeps condition 14 unmet (R259). -/
def State.homingOpen (s : State) : Bool :=
  !(getN s.motion.servos 1 {}).homed || s.motion.homeDue != 0 ||
  (List.range 4).any fun i => (getN s.motion.steppers i {}).uncertain

/-- Whether a lane swap or training waits for a boundary (R108, R113). -/
def Pixel.laneDue (spareEnable : Bool) (p : Pixel) : Bool :=
  anyV (fun l => l.pending || l.state == .training) p.lanes || (p.markedLogical.isSome && p.spareFree && spareEnable)

/-- Whether an action waits for a layer boundary (R18): commands, a held frequency request or relock, held registration
updates past REG_FORCE_BAND, lane and tap-chain swaps, calibrations, homing, and the survey's actions (R483, R487). -/
def State.actionsDue (s : State) : Bool :=
  !s.host.mqWaiting.isEmpty || s.scan.held.isSome || s.scan.relocking || s.regForce || s.homingOpen ||
  stations.any (fun x => s.enabled x && (s.pixels[x].laneDue (s.legPixel x).spareEnable ||
    (s.scan.stations[x].marked && !s.scan.stations[x].failed) || s.scan.stations[x].calDue || !s.scan.stations[x].calValid)) ||
  s.survey.state == .due || s.vcoreDue || s.survey.capDue || s.survey.lePending.isSome || s.survey.sePending.isSome ||
  (s.legend.survey.sramSpare && !(s.survey.rowMarks.isEmpty && s.survey.colMarks.isEmpty))

/-- Whether an action waits for a layer boundary in the sense of R18 and R301: one that is due, a program that runs, or no UP
ended since the last shutdown (R26 condition 14, R51). Before the legend is applied nothing waits. -/
def State.boundaryWait (s : State) : Bool :=
  s.legendApplied && (s.actionsDue || s.power.program != .none || !s.power.upDone)

/-- Whether admission condition `n` fails for a job (R26). -/
def State.fails (s : State) (j : Job) (n : Nat) : Bool :=
  let imaging := stations.filter fun x => j.images x.val
  match n with
  | 0 => !j.entryOk || decide (256 * s.legend.layer.nipPath < j.maxLines * s.legend.scan.kq)
  | 1 => (stations.filter fun x => j.inMask x.val).any fun x => !s.streamInDram j x
  | 2 => j.rsBad || (stations.filter fun x => j.inMask x.val).any fun x => !s.streamChecked j x
  | 3 => j.crcBad
  | 4 => j.headerBad
  | 5 => imaging.any fun x => !s.primed j x
  | 6 => (s.layer.feedOwner.map (· != j.seq)).getD false
  | 7 => imaging.any fun x => !s.rateOk j x
  | 8 => !s.auxOk || imaging.any fun x => !s.partnersOk x
  | 9 => imaging.any fun x => !s.polyLocked x
  | 10 => stations.any fun x => j.inMask x.val && !s.hvInBand x.val
  | 11 => !s.heatInBand
  | 12 => s.severeStands || s.faults.grave || s.layer.hold
  | 13 => imaging.any fun x => !s.enabled x || s.legend.position.origins.isEmpty
  | 14 => s.boundaryWait
  | 15 => s.legend.layer.sharedBelt && s.power.detached
  | 16 => (s.layer.jobs.takeWhile fun k => k.seq != j.seq).any fun k =>
      !(k.state == .transfuse || k.state == .lower || k.state == .returning || k.state == .ended)
  | _ => false

/-- Whether a failing condition rejects the job (R26); condition 2 rejects only once a codeword was uncorrectable. -/
def State.rejects (s : State) (j : Job) (n : Nat) : Bool :=
  s.fails j n && match n with
    | 0 | 1 | 3 | 4 | 7 | 13 => true
    | 2 => j.rsBad
    | _ => false

/-- The cause of a condition (R26); condition 12 has FAULT_BEFORE_START where a cause is needed (R29, R34). -/
def condCause : Nat → Cause
  | 0 => .badJob
  | 1 => .streamRange
  | 2 => .streamRs
  | 3 => .lineCrc
  | 4 => .lineHeader
  | 5 => .primeTimeout
  | 6 => .feedTimeout
  | 7 => .rateLimit
  | 8 => .partnerTimeout
  | 9 => .polyTimeout
  | 10 => .hvTimeout
  | 11 => .heatTimeout
  | 12 => .faultBeforeStart
  | 13 => .noMeridian
  | 14 => .boundaryTimeout
  | 15 => .syncTimeout
  | _ => .none

/-- The fault that stands where condition 12 fails, as source and instance: the Grave latch's, otherwise that of the first
Severe; 0 for HOLD alone (R331, R362; log entry 119). -/
def State.standingFault (s : State) : Nat × Nat :=
  let f := s.faults
  if f.grave then (f.graveSrc, f.graveInst) else if s.severeStands then (f.firstSrc, f.firstInst) else (0, 0)

/-- The condition that ends a job whose arming has begun: condition 12 before the others, which a fault makes fail after it,
then the lowest of 0 to 13 (R29, R34; log entry 117). -/
def State.retestFail (s : State) (j : Job) : Option Nat :=
  if s.fails j 12 then some 12 else (List.range 14).find? fun n => s.fails j n

/-- The end of a job in ARMED, or in arming, by a failing condition; one that a fault ends names it (R34, R362). -/
def State.endByRetest (seq n : Nat) (s : State) : State :=
  let f := if n = 12 then s.standingFault else (0, 0)
  s.endJob seq .rejected (condCause n) f.1 f.2

/-- The conditions that fail, as LYR_ADMIT_UNMET (R26, R51). -/
def State.unmetOf (s : State) (j : Job) : Nat := (List.range 17).foldl (fun m n => m + b2n (s.fails j n) * 2 ^ n) 0

/-- Whether R24 permits the evaluation of the admission candidate. -/
def State.mayEvaluate (s : State) : Bool :=
  !s.layer.jobs.any (fun j => j.state == .admitted || j.state == .armed || j.state == .imaging || j.state == .transfer) &&
  decide ((s.layer.jobs.filter Job.past).length < 2)

/-- The admission timer at an evaluation (R27): started for a new candidate, suspended while condition 12 or 16 fails. -/
def Layer.runTimer (timeoutUs now seq : Nat) (suspended : Bool) (l : Layer) : Layer :=
  let l := if l.timerSeq = some seq then l
    else { l with timerSeq := some seq, timerRemainUs := timeoutUs, timerRunning := false }
  if suspended then
    if l.timerRunning then
      { l with timerRunning := false, timerRemainUs := l.timerRemainUs - (now - l.timerStartUs) }
    else l
  else if l.timerRunning then l else { l with timerRunning := true, timerStartUs := now }

/-- Whether thermal throttling or a Degraded restriction reduces the process speed (R49, R281, R333). -/
def State.throttledNow (s : State) : Bool :=
  (decide (s.thermal.applied < 64) || decide (s.restrictSpeed < 64)) &&
  decide (s.scan.sigma < (speedEntry s.legend.scan s.scan.code).1)

/-- A job admitted: it takes the feed reservation, the timer stops (R21, R26, R27, R49). -/
def State.admitJob (seq : Nat) (s : State) : State :=
  let throttled := s.throttledNow
  (s.modJob seq fun j => { j with state := .admitted, flags := { j.flags with throttled := throttled } }).modLayer fun l =>
    { l with feedOwner := some seq, timerSeq := none, timerRunning := false, timerRemainUs := 0 }

/-- ADMISSION_EVALUATION (R23, R24, R26, R27): every condition is tested for the candidate. -/
def execAdmissionEvaluation (s : State) : Host.Outcome State Fault Refusal :=
  match s.candidate with
  | none => live s s
  | some j =>
    let u := s.unmetOf j
    let now := s.timeUs
    let t := s.modLayer fun l =>
      ({ l with unmet := BitVec.ofNat 17 u }).runTimer (1000000 * s.legend.layer.admitTimeoutS) now j.seq (s.fails j 12 || s.fails j 16)
    liveIf (s.islandsUp && s.mayEvaluate) s <|
      match (List.range 17).find? fun n => s.rejects j n with
      | some n => t.rejectJob j.seq (condCause n)
      | none => if u = 0 then t.admitJob j.seq else t

/-- ADMIT_TIMEOUT (R27): the timer has run out; the cause is that of the lowest-numbered failing wait condition. -/
def execAdmitTimeout (s : State) : Host.Outcome State Fault Refusal :=
  match s.candidate with
  | none => live s s
  | some j =>
    let l := s.layer
    let due := l.timerSeq == some j.seq && l.timerRunning && s.elapsed l.timerStartUs l.timerRemainUs
    match [5, 6, 8, 9, 10, 11, 14, 15].find? fun n => s.fails j n with
    | none => live s s
    | some n => liveIf (due && s.mayEvaluate && !s.fails j 12 && !s.fails j 16) s (s.rejectJob j.seq (condCause n))

/-- A condition that fails for an ADMITTED job whose arming has not begun (R29, R314): a rejecting one ends it, a wait
condition returns it to QUEUED, or ends it once the member has released the Uliber line. -/
def State.admittedFails (j : Job) (n : Nat) (s : State) : State :=
  if s.rejects j n then (s.rejectJob j.seq (condCause n)).drivePulse s.power.layerReleased
  else if s.power.layerReleased && s.legend.power.ulbEnable then (s.rejectJob j.seq (condCause n)).drivePulse true
  else s.requeueJob j.seq

/-- ADMITTED_REQUEUE (R29): a condition has ceased to hold before arming begins; while step 1 runs, the first failure is
kept until STARTED is durable. -/
def execAdmittedRequeue (s : State) : Host.Outcome State Fault Refusal :=
  match s.layer.jobs.find? fun j => j.state == .admitted with
  | none => live s s
  | some j =>
    if j.arming then
      match s.retestFail j with
      | none => live s s
      | some n =>
        let f := if n = 12 then s.standingFault else (0, 0)
        liveIf (j.armFail == .none) s (s.modJob j.seq fun k => { k with armFail := condCause n, source := f.1, inst := f.2 })
    else
      match ((List.range 17).find? fun n => s.rejects j n).or ((List.range 17).find? fun n => s.fails j n) with
      | none => live s s
      | some n => live s (s.admittedFails j n)

/-- The first slot occurrence whose earliest meridian lies at least ARM_LEAD ahead (R165; R314 on a shared belt): the
slot's index and Ô. -/
def State.chooseOrigin (s : State) (j : Job) : Nat × Int :=
  let g := s.legend.position
  let shared := s.legend.layer.sharedBelt && s.legend.power.ulbEnable
  let base : Int := if shared then 256 * s.power.pUlb else s.position.travel
  let earliest : Int :=
    if shared then -(s.legend.power.ulbDMax : Int)
    else (stations.filter fun x => j.images x.val).foldl (fun m x => min m (s.meridianOf x 0)) 4611686018427387904
  let bound := base + 256 * g.armLead - earliest
  let turn : Int := 256 * max 1 (g.beltLen : Int)
  let at' (o : Nat) : Int := bound + ((o : Int) - 256 * s.position.indexOffset - bound) % turn
  let cands := g.origins.mapIdx fun i o => (i, at' o)
  match cands with
  | [] => (0, s.position.travel)
  | c :: cs => cs.foldl (fun m k => if k.2 < m.2 then k else m) c

/-- Bytes 16 to 47 of a STARTED mark: Ô, SIGMA_Q and the end flags known at arming (R370). -/
def State.startedBody (s : State) (origin : Int) (flags : EndFlags) : List Byte :=
  le 8 (twos 64 origin) ++ le 2 s.scan.sigma ++ le 1 (8 * b2n flags.overlapped + 16 * b2n flags.throttled)

/-- Step 1 of R32: Ô chosen and kept with the job, its STARTED mark due. -/
def State.beginArming (j : Job) (overlapped : Bool) (s : State) : State :=
  let c := s.chooseOrigin j
  let origin := if j.imagesAny then c.2 else s.position.travel
  let flags := { j.flags with overlapped := overlapped }
  let s := s.modJob j.seq fun k => { k with arming := true, origin := origin, armFail := .none, flags := flags }
  let s := s.modPosition fun p => { p with meridians := mapIdxV (fun x m =>
    if j.images x then { m with slot := c.1 } else m) p.meridians }
  s.markDue j.seq 2 (s.startedBody origin flags)

/-- Whether the Uliber state permits the start of a layer (R35, R314). -/
def State.syncOk (s : State) (j : Job) : Bool := !(s.legend.layer.sharedBelt && s.legend.power.ulbEnable) || j.syncReady

/-- The job that waits to arm: ADMITTED, arming not begun, every condition holding (R29, R32). -/
def State.armable (s : State) : Option Job :=
  s.layer.jobs.find? fun j => j.state == .admitted && !j.arming && s.syncOk j && (List.range 17).all fun n => !s.fails j n

/-- ARMING_START (R32 step 1): every earlier job has ended. -/
def execArmingStart (s : State) : Host.Outcome State Fault Refusal :=
  match s.armable with
  | none => live s s
  | some j =>
    let alone := (s.layer.jobs.takeWhile fun k => k.seq != j.seq).all fun k => k.state == .ended
    liveIf alone s (s.beginArming j false)

/-- The end of a job's RETURN predicted from the move times, with the carriage margin, in µs (R40, R50). -/
def State.returnEnd (s : State) (n : Job) : Nat :=
  let g := s.legend.layer
  n.returnUs + 1000 * ((if n.imagesAny then g.tReturnMs else 0) + g.tFeedMs + g.carriageMarginMs)

/-- The start of a job's carriage approach predicted from the slot that R165 would choose now, in µs (R40). -/
def State.approachUs (s : State) (j : Job) : Nat :=
  let left := ((s.chooseOrigin j).2 - 256 * s.approachCounts - s.position.travel).toNat
  s.timeUs + left * profQ * 1000000 / (256 * max 1 (beltSpeed s.legend.scan s.scan.sigma))

/-- Whether overlap is permitted for a job after one in RETURN, with both conditions of R40. -/
def State.overlapOk (s : State) (n j : Job) : Bool :=
  s.legend.layer.overlap && !n.noOverlap && !j.noOverlap && !s.restrictOverlap && !s.regForce && j.imagesAny &&
  n.state == .returning && decide (s.returnEnd n ≤ s.approachUs j)

/-- OVERLAP_TEST (R32, R40): while an earlier job is in RETURN, the test for the present slot; when it holds, arming of
the next job begins. -/
def execOverlapTest (s : State) : Host.Outcome State Fault Refusal :=
  match s.armable, s.layer.jobs.find? fun k => k.state == .returning with
  | some j, some n => liveIf (s.overlapOk n j) s (s.beginArming j true)
  | _, _ => live s s

/-- What is latched when a job becomes ARMED (R92, R174, R232): exposure set, drum and humidity bands, registration
offsets; peaks since the last ARMED restart (R240, R270). -/
def State.latchArmed (s : State) : State :=
  let bands := s.thermal.drums
  let set := s.loops.expoSet
  let hum := s.loops.humBand
  let s := { s with pixels := mapIdxV (fun x (p : Pixel) => { p with expoSet := set, drumBand := (getN bands x {}).band }) s.pixels }
  let s := s.modThermal fun t => { t with drums := mapV (fun d => { d with latched := d.band }) t.drums }
  let s := s.modLoops fun l => { l with
    ac := mapIdxV (fun x (a : DevAc) => { a with nextT := (getN bands x {}).band, nextH := hum }) l.ac
    loops := mapV (fun k => { k with fePeak := 0 }) l.loops }
  let s := s.modMotion fun m => { m with servos := mapV (fun v => { v with fePeak := 0 }) m.servos, skewPeak := 0 }
  s.modPosition fun p => { p with reg := mapV (fun r => { r with xLatched := r.xscan, iLatched := r.inscan }) p.reg }

/-- The compare lists armed with a job (R161, R169): every list with entries, AXIS lists alone for a job with no imaging
station; each entry is checked against the present position. An entry of an earlier job found behind and not yet marked is MISSED
first. -/
def State.armLists (j : Job) (s : State) : State :=
  let s := s.each (List.range 8) fun n s => s.each (getN s.position.cmps n {}).behind fun _ s => s.missCompare n
  s.eachCompare fun g c =>
    if g.entries.isEmpty || (g.axis.isNone && !j.imagesAny) then c else c.arm g (s.cmpPosition g) j.origin j.seq

/-- Steps 2 and 4 of R32: the entries written and enabled at the chosen Ô. -/
def State.armMeridians (j : Job) (s : State) : State :=
  let armed (x : Fin 6) : Meridian :=
    let m := s.position.meridians[x]
    if j.images x.val then { m with state := .armed, target := s.meridianOf x j.origin, job := j.seq, due := false } else m
  s.modPosition fun p => { p with meridians := Vector.ofFn armed }

/-- A job becomes ARMED (R32 step 4, R22, R98): entries and lists armed, values latched, a configuration frame on every
trained lane; one with no imaging station passes to LOWER. -/
def State.arm (j : Job) (s : State) : State :=
  let s := ((s.modJob j.seq fun k => { k with state := .armed, arming := false }).armMeridians
    j).armLists j
  let s := s.latchArmed.each stations fun x s => (s.sendConfig x).modPixel x fun p => { p with
    refresh := p.refresh || anyV (fun l => l.state == .trained) p.lanes }
  s.when (!j.imagesAny) (·.beginLower j.seq)

/-- ARMING_COMPLETE (R32 steps 2 to 4, R29, R33): STARTED is durable. A condition that failed meanwhile ends the job as in
ARMED; an entry found behind is MISSED and ends it. -/
def execArmingComplete (s : State) : Host.Outcome State Fault Refusal :=
  match s.layer.jobs.find? fun j => j.state == .admitted && j.arming && j.startedDurable with
  | none => live s s
  | some j =>
    let behind := stations.filter fun x => j.images x.val && decide (s.meridianOf x j.origin ≤ s.travelNow)
    if j.armFail ≠ .none then live s ((s.endJob j.seq .rejected j.armFail j.source j.inst).drivePulse s.power.layerReleased)
    else match s.retestFail j with
    | some n => live s ((s.endByRetest j.seq n).drivePulse s.power.layerReleased)
    | none =>
      if behind.isEmpty then live s (s.arm j)
      else
        let t := s.each behind fun x s =>
          let m := s.position.meridians[x]
          let m := { m with
            state := .missed, target := s.meridianOf x j.origin, job := j.seq, missed := satAdd 16 m.missed 1,
            found := s.travelNow }
          (s.modPosition fun p => { p with meridians := p.meridians.set x.val m }).raise .merMissed x.val
        live s ((t.endJob j.seq .rejected .meridianMissed Source.merMissed.number ((behind.head?.map (·.val)).getD 0)).drivePulse
          s.power.layerReleased)

/-- ARMED_RETEST_FAIL (R34): a condition from 0 to 13 fails in ARMED. -/
def execArmedRetestFail (s : State) : Host.Outcome State Fault Refusal :=
  match s.layer.jobs.find? fun j => j.state == .armed with
  | none => live s s
  | some j =>
    match s.retestFail j with
    | none => live s s
    | some n => live s (s.endByRetest j.seq n)

/-- Whether the carriage is not ready at the start of its approach for the layer in its window (R41, R249). -/
def State.carriageLate (s : State) (j : Job) : Bool :=
  let ready := s.carrAtStart || (s.motion.carrJob == j.seq &&
    (s.motion.carrPhase == .approach || s.motion.carrPhase == .locked || s.motion.carrPhase == .inNip || s.motion.carrPhase == .separated))
  decide (j.origin - 256 * s.approachCounts ≤ s.travelNow) && !ready

/-- LAYER_ABORT_SEQUENCE (R41 to R44, R46): a trigger that the state shows acts on the layer in its window: a Grave or Severe
fault standing, LSAFE_N asserted, a missed meridian, the carriage not ready. -/
def execLayerAbortSequence (s : State) : Host.Outcome State Fault Refusal :=
  match s.windowJob with
  | none => live s s
  | some j =>
    let f := s.faults
    let missed := stations.find? fun x => s.position.meridians[x].job == j.seq && s.position.meridians[x].state == .missed
    if s.layer.abortRunning then live s s
    else if f.grave then live s (s.abort .grave f.graveSrc f.graveInst)
    else if s.severeStands then live s (s.abort (faultCause .severe f.firstSrc f.firstInst) f.firstSrc f.firstInst)
    else if !f.lsafe then
      live s ((s.abort .lsafe Source.faultLsafe.number 0).modFaults fun f => { f with len := false })
    else match missed with
    | some x => live s (s.abort .meridianMissed Source.merMissed.number x.val)
    | none => liveIf (s.carriageLate j) s (s.abort .carriageNotReady 0 0)

/-- ABORT_END (R43 step 7): belt and carriage at rest; the job ends SCRAPPED with the first trigger's cause, HOLD is set. -/
def execAbortEnd (s : State) : Host.Outcome State Fault Refusal :=
  let rest (a : Nat) : Bool := (getN s.motion.servos a {}).atRest
  let l := s.layer
  let inst := ((s.jobOf l.abortSeq).map (·.inst)).getD 0
  liveIf (l.abortRunning && rest 0 && rest 1) s
    ((s.endJob l.abortSeq .scrapped l.abortCause l.abortSource inst).modLayer fun l =>
      { l with abortRunning := false, hold := true })

/-- POST_FAULT_END (R21, R49): a job in LOWER or RETURN that a fault stopped ends once every stopped axis is at rest and a
carriage return that R260 lets complete has completed. -/
def execPostFaultEnd (s : State) : Host.Outcome State Fault Refusal :=
  match s.layer.jobs.find? fun j => (j.state == .lower || j.state == .returning) && j.flags.postFault with
  | none => live s s
  | some j =>
    let rest (a : Nat) : Bool := (getN s.motion.servos a {}).atRest
    liveIf (rest 0 && rest 1 && s.motion.carrPhase != .returning && !anyV (fun p => p.state == .moving) s.motion.steppers) s
      (s.endJob j.seq .endedOk .none 0 0)

end Sys2Proof.Machine
end

