-- ==== Sys2Proof/Machine/Survey.lean ====
section
/-! DEFINITION. The survey, the margins it re-plans, and the spares (17_ageing_and_spares R480 to R495). -/

namespace Sys2Proof.Machine

open Sys2Proof

/-- Canaries of an island by its code (R480). -/
def islandCanaries : Nat → List Nat
  | 0 => [0]
  | 1 => [1, 2]
  | 2 => [3, 4]
  | 3 => [5, 6]
  | 4 => [7, 8]
  | 5 => [9, 10]
  | 6 => [11]
  | 7 => [12, 13]
  | 8 => [14, 15]
  | 9 => [16, 17]
  | 10 => [18, 19]
  | 11 => [20, 21]
  | 12 => [22, 23]
  | _ => []

/-- The slack of an island in ps: the least of its canaries; none for an island without one (R482). -/
def Survey.islandSlack (v : Survey) (island : Nat) : Option Nat :=
  match islandCanaries island with
  | [] => none
  | c :: cs => some (4 * cs.foldl (fun m k => min m (getN v.canaries k {}).slack) (getN v.canaries c {}).slack)

/-- The least slack among the islands other than AON, and the first island that has it (R484). -/
def Survey.worst (v : Survey) : Nat × Nat :=
  (List.range 13).foldl (fun (m : Nat × Nat) i =>
    if i = 0 then m else
    match v.islandSlack i with
    | some p => if p < m.1 then (p, i) else m
    | none => m) (256, 0)

/-- What a reading leaves in the benchmark registers; an oscillator out of range is left out from then on (R481, R482). -/
def Survey.takeReading (r : SurveyReading) (v : Survey) : Survey :=
  let v := { v with
    ros := mapIdxV (fun k (o : RingOsc) => if o.excluded then o else
      { o with degrade := getN r.degrade k 0, excluded := !getN r.inRange k true }) v.ros
    canaries := mapIdxV (fun k (_ : Canary) =>
      match getN r.slack k none with
      | some n => { slack := min n 63, fail := false }
      | none => { slack := 0, fail := true }) v.canaries }
  { v with islands := mapIdxV (fun i (m : IslandMargin) => { m with slackPs := (v.islandSlack i).getD 0 }) v.islands }

/-- A run of consecutive surveys that meet a condition, up to 3. -/
def runOf (c : Bool) (n : Nat) : Nat := if c then min 3 (n + 1) else 0

/-- The core-voltage request after a survey (R484). -/
def replan (g : LegSurvey) (v : Survey) (cool : Bool) (req : Nat) : Nat :=
  let sMin := v.worst.1
  if anyV (·.fail) v.canaries then g.vcoreMax
  else if sMin < g.slackMin then max req (min (req + g.vstep) g.vcoreMax)
  else if v.highRuns = 3 ∧ cool ∧ allV (fun m => m.cap == 375000000) v.islands then min req (max (req - 10) g.vcoreMin)
  else req

/-- The cap of a pixel island after a survey (R485): a step down while short at VCORE_MAX, a step up with margin. -/
def IslandMargin.recap (g : LegSurvey) (atMax : Bool) (m : IslandMargin) : IslandMargin :=
  let runs := runOf (decide (g.slackMin + g.slackBand ≤ m.slackPs)) m.highRuns
  { m with
    highRuns := runs
    cap := if m.slackPs < g.slackMin then (if atMax then max 150000000 (m.cap - 5859375) else m.cap)
      else if runs = 3 then min 375000000 (m.cap + 5859375) else m.cap }

/-- k_s in 64ths over the enabled stations (R485). -/
def State.surveyFactor (s : State) : Nat :=
  (stations.filter fun x => s.enabled x).foldl (fun k x =>
    min k (64 * s.islandCap x / max 1 (s.legend.scan.lineRate * (s.legScan x).lineCycles))) 64

/-- The island that holds an SRAM array: station s's for arrays 20s to 20s + 19 (R488). -/
def arrayIsland (a : Nat) : Nat := if a < 120 then 7 + a / 20 else Config.sharedArrayIsland

/-- The read-assist level after a survey (R486): a threshold reached raises it at once, three surveys 0.10 % below lower
it. `d` is the largest DEGRADE of the array's island. -/
def SramArray.assistAt (ts : List Int) (d : Int) (a : SramArray) : SramArray :=
  let runs : Vector Nat 3 := mapIdxV (fun i n => runOf (decide (d < nth ts i 0 - 10)) n) a.assistRuns
  let on (i : Nat) : Bool := decide (nth ts i 0 ≤ d) || (decide (i < a.assist) && decide (getN runs i 0 < 3))
  { a with assistRuns := runs, assist := b2n (on 0) + b2n (on 1) + b2n (on 2) }

/-- Read assist re-planned for every array (R486). -/
def Survey.reassist (g : LegSurvey) (v : Survey) : Survey :=
  { v with arrays := mapIdxV (fun i (a : SramArray) =>
      match v.degrades (arrayIsland i) with
      | [] => a
      | d :: ds => a.assistAt [g.assistT1, g.assistT2, g.assistT3] (ds.foldl max d)) v.arrays }

/-- Whether the mean DEGRADE of a station's island has moved by more than DRIFT_CAL since its calibration (R486). -/
def Survey.drifted (g : LegSurvey) (v : Survey) (x : Fin 6) : Bool :=
  match v.mean12 (7 + x.val) with
  | some m => decide (12 * g.driftCal < (m - v.degradeAtCal[x]).natAbs)
  | none => false

/-- The re-planning after a reading (R484 to R486): request, caps, factor, calibrations, read assist, with what each
raises and logs (R494). -/
def State.replanMargins (old : Survey) (s : State) : State :=
  let g := s.legend.survey
  let req := s.power.voutTarget
  let atMax := req == g.vcoreMax
  let run := runOf (decide (g.slackMin + g.slackBand ≤ s.survey.worst.1)) s.survey.highRuns
  let s := s.modSurvey fun v => { v with highRuns := run }
  let next := if s.power.frozen then req else replan g s.survey (s.thermal.band == .cold || s.thermal.band == .normal) req
  let s := s.modSurvey fun v => { v with
    islands := mapIdxV (fun i m => if 7 ≤ i ∧ i ≤ 12 then m.recap g atMax else m) v.islands }
  let newRo := (List.range 48).filter fun k => (getN s.survey.ros k {}).excluded && !(getN old.ros k {}).excluded
  let short := (List.range 13).filter fun i =>
    atMax && decide ((getN s.survey.islands i {}).slackPs < g.slackMin) && (i < 7 || (getN old.islands i {}).cap == 150000000)
  let s := s.each newRo fun _ s => s.raise .surveyRoRange 0
  let s := s.raiseIf (anyV (·.fail) s.survey.canaries) .surveySlackFail 0
  let s := s.each short fun _ s => s.raise .surveyNoMargin 0
  let s := (s.modPower fun p => { p with voutTarget := next }).when (next != req) (·.spareLog 8 0 next)
  let recapped (x : Fin 6) : Bool := (getN s.survey.islands (7 + x.val) {}).cap != (getN old.islands (7 + x.val) {}).cap
  let s := s.each stations fun x s =>
    (s.when (recapped x) (·.spareLog 9 (7 + x.val) (getN s.survey.islands (7 + x.val) {}).cap)).modStation x fun t =>
      { t with calDue := t.calDue || next != req || recapped x || s.survey.drifted g x }
  let ks := s.surveyFactor
  let w := s.survey.worst
  let now := s.timeUs
  s.modSurvey fun v => { v.reassist g with
    state := .idle, firstDone := true, surveys := satAdd 16 v.surveys 1, lastUs := now, planned := next,
    atCeiling := next == g.vcoreMax, worstPs := w.1, worstIsland := w.2, capDue := v.capDue || ks != v.ks, ks := ks }

/-- One survey with what it measures (R481 to R486). -/
def State.runSurvey (r : SurveyReading) (s : State) : State :=
  let old := s.survey
  (s.modSurvey (·.takeReading r)).replanMargins old

/-- SURVEY_INTERVAL_EXPIRY (R483): SURVEY_INTERVAL after the end of the last survey another is due. -/
def execSurveyIntervalExpiry (s : State) : Host.Outcome State Fault Refusal :=
  liveIf (s.boot.ready && s.survey.state == .idle && s.elapsed s.survey.lastUs (60000000 * s.legend.survey.interval)) s
    (s.modSurvey fun v => { v with state := .due })

/-- A row or column marked once (R489). -/
def addMark (m : Nat × Nat) (l : List (Nat × Nat)) : List (Nat × Nat) := if l.contains m then l else l ++ [m]

/-- The rows of an array with corrections at a column, each once (R489). -/
def columnRows (cs : List Correction) (array col : Nat) : List Nat :=
  ((cs.filter fun c => c.array == array && c.col == col).map (·.row)).eraseDups

/-- RS_CORRECTION_MARK (R489): a corrected symbol located in the image SRAM, or an uncorrectable read of a row: the row
is marked at CORR_LIMIT corrections in CORR_WINDOW, the column instead at 3 rows. -/
def execRsCorrectionMark (array : Fin 128) (row : Fin 2048) (col : Fin 256) (uncorrectable : Bool) (s : State) :
    Host.Outcome State Fault Refusal :=
  let now := s.timeUs
  let g := s.legend.survey
  if uncorrectable then
    liveIf s.islandsUp s (s.modSurvey fun v => { v with rowMarks := addMark (array.val, row.val) v.rowMarks })
  else liveIf s.islandsUp s <| s.modSurvey fun v =>
    let c : Correction := { array := array, row := row, col := col, timeUs := now }
    let cs := c :: v.corrections.filter fun k => now < k.timeUs + 3600000000 * g.corrWindow
    let inRow := (cs.filter fun k => k.array == array.val && k.row == row.val).length
    let v := { v with
      corrections := cs, arrays := modN v.arrays array fun a => { a with corrected := satAdd 16 a.corrected 1 } }
    if 3 ≤ (columnRows cs array col).length then { v with colMarks := addMark (array.val, col.val) v.colMarks }
    else if g.corrLimit ≤ inRow then { v with rowMarks := addMark (array.val, row.val) v.rowMarks }
    else v

/-- A repair entry (R461). -/
def repairEntry (column : Bool) (array faulty spare : Nat) : BitVec 32 :=
  BitVec.ofNat 32 (2147483648 + put (b2n column) 1 30 + put array 7 23 + put faulty 12 11 + put spare 8 3)

/-- The lowest free spare row or column of an array (R488). -/
def SramArray.freeSpare (column : Bool) (a : SramArray) : Option Nat :=
  if column then (List.range 8).find? fun k => !a.colSpares.getLsbD k
  else (List.range 64).find? fun k => !a.rowSpares.getLsbD k

/-- A spare row or column taken into use (R490). -/
def SramArray.useSpare (column : Bool) (k : Nat) (a : SramArray) : SramArray :=
  if column then
    if a.colSpares.getLsbD k then a else { a with colSpares := a.colSpares ||| (1 <<< k), colsUsed := a.colsUsed + 1 }
  else
    if a.rowSpares.getLsbD k then a else { a with rowSpares := a.rowSpares ||| (1 <<< k), rowsUsed := a.rowsUsed + 1 }

/-- The SEQ of the next soft-map record (R490). -/
def Survey.nextSoft (v : Survey) : Nat := wrapAdd 32 ((v.softMap.getLast?.map (·.seq)).getD 0) 1

/-- One marked row or column replaced, or left in service when no spare or record is left (R490, R494). -/
def State.repair (column : Bool) (m : Nat × Nat) (s : State) : State :=
  let v := s.survey
  match (getN v.arrays m.1 {}).freeSpare column with
  | some k =>
    if v.softMap.length < 1024 then
      let e := repairEntry column m.1 m.2 k
      let s := s.modSurvey fun v => { v with
        arrays := modN v.arrays m.1 (·.useSpare column k)
        softMap := v.softMap ++ [{ seq := v.nextSoft, entry := e }] }
      (s.raise .spareSramUsed 0).spareLog (if column then 2 else 1) m.1 e.toNat
    else (s.raise .spareSramExhausted 0).spareLog 7 m.1 0
  | none => (s.raise .spareSramExhausted 0).spareLog 7 m.1 0

/-- SRAM repairs of a layer boundary (R490): rows, then columns, in the order they were marked. -/
def State.repairSram (s : State) : State :=
  let rows := s.survey.rowMarks
  let cols := s.survey.colMarks
  s.when s.legend.survey.sramSpare fun s =>
    ((s.each rows (State.repair false)).each cols (State.repair true)).modSurvey fun v => { v with rowMarks := [], colMarks := [] }

/-- The loops of one engine restart as at their first start (R491): HV channels stay at their safe set-points until HV_RETURN, coasting
axes and polygons start their loops as they re-enter; the heaters that the halt switched off take up control again where no Grave
fault and no shutdown keeps them off (R236). -/
def State.restartLoops (e : Nat) (s : State) : State :=
  let s := s.each (List.range 24) fun n s =>
    s.when ((s.legLoop n).enable && (s.legLoop n).engine == e) (·.modLoop n Loop.begin)
  s.when (!s.faults.grave && !isShutdown s.power.program) State.heatersStart

/-- LE4 takes over a halted engine's loop set at a layer boundary (R491, R493). -/
def State.takeOverEngine (s : State) : State :=
  match s.survey.lePending with
  | none => s
  | some e =>
    let s := s.modSurvey fun v => { v with lePending := none, record := { v.record with le4 := some e } }
    let s := s.modLoops fun l => { l with engines := modN l.engines 4 fun k => { k with state := .run, serves := e } }
    ((s.restartLoops e).raise .spareLeUsed 0).spareLog 3 e 0

/-- SE-S is switched into the station of a marked engine at a layer boundary; its schedule restarts in FREE (R492,
R493). -/
def State.takeOverStation (s : State) : State :=
  match s.survey.sePending with
  | none => s
  | some n =>
    let s := s.modSurvey fun v => { v with sePending := none, ses := some n, record := { v.record with ses := some n } }
    let s := s.modScan fun c => { c with stations := mapIdxV (fun x t =>
      if x = n ∧ t.state ≠ .stopped then t.restart ((getN s.legend.pixels x {}).emitters * (getN s.legend.scan.stations x {}).lineCycles) else t) c.stations }
    (s.raise .spareSeUsed 0).spareLog 4 n 0

/-- SE_PARITY (R492): Severe; the engine is marked, or with SE-S in use its schedule never reports LOCKED again. -/
def execSeParity (x : Fin 6) (s : State) : Host.Outcome State Fault Refusal :=
  let t := s.raise .seParity x
  let free := t.survey.ses.isNone && t.survey.sePending.isNone
  liveIf s.islandsUp s <|
    if !s.legend.survey.seSpare then t
    else if free ∨ t.survey.sePending = some x.val then t.modSurvey fun v => { v with sePending := some x.val }
    else ((t.raise .spareExhausted 0).spareLog 7 x 0).modStation x fun k =>
      { k with failed := true, state := if k.state = .locked then .acquire else k.state }

end Sys2Proof.Machine
end

