-- ==== Sys2Proof/Machine/Host.lean ====
section
/-! DEFINITION. The PCI Express side: completion queues and interrupts, ring and queue enables, the BAR2 window, odd
accesses (12 R348 to R362, R378; 00_scope R10; 15 R432). -/

namespace Sys2Proof.Machine

open Sys2Proof

/-- Bytes of a slot (R358). -/
def CompQueue.slotBytes (q : CompQueue) : Nat := if q.slot64 then 64 else 16

/-- Whether a queue is full: its tail one slot behind its head (R359). -/
def CompQueue.full (q : CompQueue) : Bool := (q.tail + 1) % 2 ^ q.sizeLog2 == q.head

/-- A record's bytes as they are written: its header and body, the phase in bit 7 of byte 15 (R359, R362). A 16-byte
record carries all its bytes in its body (R387). -/
def Held.bytes (phase : Bool) (r : Held) : List Byte :=
  if r.dma then padTo 15 r.body ++ [BitVec.ofNat 8 (byteAt r.body 15 % 128 + 128 * b2n phase)]
  else le 8 r.seq ++ le 1 r.kind.code ++ le 1 (b2n r.replay) ++ le 4 (r.sinceUs / 1000) ++ le 1 0 ++ le 1 (128 * b2n phase) ++ padTo 48 r.body

/-- An MSI-X vector signalled: its message is sent, or pends while the entry is masked (R361). -/
def State.signal (v : Nat) (s : State) : State :=
  s.modHost fun h =>
    if (getN h.msix v {}).masked then { h with pba := h.pba ||| (1 <<< v) } else { h with msixSent := v :: h.msixSent }

/-- A queue's signal: with IRQ_ENABLE set its vector fires, and the coalescing count restarts (R361, R390). -/
def State.signalCq (n : Nat) (s : State) : State :=
  let q := getN s.host.cqs n {}
  s.when q.irqEnable fun s => (s.modCq n fun q => { q with unsignalled := 0 }).signal q.vector

/-- A record written into the next slot of its queue as one posted write (R359): the tail moves, the phase toggles at the
wrap, CQ0 remembers the slots of FINAL records (R372). -/
def State.writeSlot (n : Nat) (r : Held) (s : State) : State :=
  let q := getN s.host.cqs n {}
  let tail := (q.tail + 1) % 2 ^ q.sizeLog2
  let now := s.timeUs
  let w : HostWrite := { addr := (q.base + q.tail * q.slotBytes) % 9223372036854775808, bytes := r.bytes q.phase }
  let s := s.modHost fun h => { h with writes := w :: h.writes }
  let s := s.modCq n fun q => { q with
    tail := tail, phase := if tail = 0 then !q.phase else q.phase
    finals := if n = 0 ∧ r.kind = .final ∧ !r.dma then q.finals ++ [(q.tail, r.seq)] else q.finals
    firstUs := if q.unsignalled = 0 then now else q.firstUs, unsignalled := satAdd 16 q.unsignalled 1 }
  let count := (getN s.host.cqs n {}).unsignalled
  s.when (r.irq || decide (max 1 q.coalCount ≤ count)) (·.signalCq n)

/-- Whether a queue can take its oldest waiting record now (R359). -/
def CompQueue.ready (q : CompQueue) : Bool := q.enable && !q.full && !q.waiting.isEmpty

/-- The oldest record that waits for a queue is written (R359, R360, R374): a written COMMAND record completes its command,
the last replayed record opens the layer queue. -/
def State.writeRecord (n : Nat) (s : State) : State :=
  match (getN s.host.cqs n {}).waiting with
  | [] => s
  | r :: rest =>
    let left := s.host.replayLeft
    let replay := n = 0 ∧ 0 < left
    ((s.modCq n fun q => { q with waiting := rest }).writeSlot n r).modHost fun h => { h with
      taken := if r.kind = .command then h.taken - 1 else h.taken
      replayLeft := if replay then left - 1 else left
      lqOpen := h.lqOpen || (replay && left == 1) }

/-- CQ_WAIT_LONG (R378): the queue's oldest record has waited for more than 1 s. -/
def execCqWaitLong (n : Fin 14) (s : State) : Host.Outcome State Fault Refusal :=
  match s.host.cqs[n].waiting with
  | [] => live s s
  | r :: rest =>
    liveIf (!r.waitRaised && s.elapsed r.sinceUs 1000001) s
      ((s.modCq n.val fun q => { q with waiting := { r with waitRaised := true } :: rest }).raise .hostCqWait 0)

/-- COAL_TIMER_EXPIRY (R361): COAL_TIME × 4 µs after the first record not yet signalled. -/
def execCoalTimerExpiry (n : Fin 14) (s : State) : Host.Outcome State Fault Refusal :=
  let q := s.host.cqs[n]
  liveIf (q.irqEnable && decide (0 < q.coalTime) && decide (0 < q.unsignalled) && s.elapsed q.firstUs (4 * q.coalTime)) s
    (s.signalCq n)

/-- A write of a ring's control register (R353, R356): setting ENABLE empties the ring and clears its error. -/
def Ring.control (v : Nat) (r : Ring) : Ring :=
  if bitOf v 0 then (if r.enable then r else { r with enable := true, error := false, head := 0, tail := 0, rung := false })
  else { r with enable := false, rung := false }

/-- RING_ENABLE (R353): a write of LQ_CTRL or MQ_CTRL. -/
def execRingEnable (mq : Bool) (value : BitVec 32) (s : State) : Host.Outcome State Fault Refusal :=
  liveIf s.barOpen s <| s.modHost fun h =>
    if mq then { h with mq := h.mq.control value.toNat } else { h with lq := h.lq.control value.toNat }

/-- A write of CQ_CTRL_n (R358, R359, R379): SLOT64 and SIZE_LOG2 are taken while ENABLE is 0; ENABLE is not taken with a
size outside 4 to 12; setting it empties the queue with phase 1. -/
def CompQueue.control (n v : Nat) (q : CompQueue) : CompQueue :=
  let q := { q with
    vector := field v 9 6, irqEnable := bitOf v 10, coalCount := field v 23 16, coalTime := field v 31 24
    slot64 := if q.enable then q.slot64 else n == 0 || bitOf v 1
    sizeLog2 := if q.enable then q.sizeLog2 else field v 5 2 }
  if !bitOf v 0 then { q with enable := false }
  else if q.enable || q.sizeLog2 < 4 || 12 < q.sizeLog2 then q
  else { q with enable := true, tail := 0, head := 0, phase := true, unsignalled := 0, finals := [] }

/-- The records of 64-byte queues that wait for a queue now enabled with 16-byte slots go to CQ0 (R360, R364). -/
def State.divertWaiting (n : Nat) (s : State) : State :=
  let q := getN s.host.cqs n {}
  let moved := q.waiting.filter fun r => !r.dma
  s.when (n != 0 && q.enable && !q.slot64) fun s =>
    (s.modCq n fun q => { q with waiting := q.waiting.filter fun r => r.dma }).modCq 0 fun q =>
      { q with waiting := q.waiting ++ moved }

/-- CQ_ENABLE (R358): a write of CQ_CTRL_n. -/
def execCqEnable (n : Fin 14) (value : BitVec 32) (s : State) : Host.Outcome State Fault Refusal :=
  liveIf s.barOpen s ((s.modCq n.val (·.control n.val value.toNat)).divertWaiting n)

/-- HOST_WIN_WRITE (R352). -/
def execHostWinWrite (value : BitVec 32) (s : State) : Host.Outcome State Fault Refusal :=
  liveIf s.barOpen s (s.modHost fun h => { h with win := field value.toNat 6 0 })

/-- The DRAM address of an offset of the BAR2 window, relative to the DRAM base (R352). -/
def State.winAddr (s : State) (off : Nat) : Nat := s.host.win * 0x10000000 + off

/-- Codewords found uncorrectable in DRAM (R526). -/
def State.spoilDram (cws : List Nat) (s : State) : State :=
  s.modMemory fun m => { m with dram := { m.dram with bad := (m.dram.bad ++ cws.filter fun c => !m.dram.bad.contains c) } }

/-- BAR2_READ (R352): bytes of DRAM, 0 beyond what is installed, poisoned for an uncorrectable codeword, whose bytes the
manual leaves open (log entry 5); `bad` names the codewords that this read finds uncorrectable. -/
def execBar2Read (off : Fin 268435456) (len : Nat) (bad : List Nat) (s : State) : Host.Outcome State Fault Refusal :=
  let a := s.winAddr off
  let inside := bad.filter fun c => decide (a / 32 ≤ c) && decide (c * 32 < a + len) && decide (c * 32 < s.dramBytes)
  let t := s.spoilDram inside
  let beyond := decide (s.dramBytes < a + len)
  let poisoned := t.memory.dram.anyBad a (min len (s.dramBytes - a))
  let data := (List.range len).map fun i => if a + i < s.dramBytes then t.memory.dram.read (a + i) else 0
  let (fresh, u) := t.takeBytes len
  let t := if poisoned then u else t
  liveIf s.barOpen s ((t.modHost fun h => { h with
    lastBytes := if poisoned then fresh else data, poisoned := poisoned, unsupported := false }).raiseIf (beyond || poisoned)
      .hostWindow 0)

/-- BAR2_WRITE (R352, R526): DRAM written codeword by codeword; beyond installed DRAM, or into a codeword whose merge read
is uncorrectable, nothing is written and HOST.WINDOW is raised. -/
def execBar2Write (off : Fin 268435456) (data : List Byte) (bad : List Nat) (s : State) :
    Host.Outcome State Fault Refusal :=
  let a := s.winAddr off
  let data' := data.take (s.dramBytes - a)
  let t := s.spoilDram (bad.filter fun c => decide (a / 32 ≤ c) && decide (c * 32 < a + data'.length))
  let r := t.memory.dram.write a data'
  liveIf s.barOpen s ((t.modMemory fun m => { m with dram := r.1 }).raiseIf (data'.length != data.length || r.2.isSome)
    .hostWindow 0)

/-- PARTIAL_WRITE (R10): a BAR0 write without all its byte enables is discarded and recorded. -/
def execPartialWrite (s : State) : Host.Outcome State Fault Refusal :=
  liveIf s.barOpen s (s.raise .hostPartialWrite 0)

/-- CONFIG_REQUEST (R350): answered with CRS until configuration opens. -/
def execConfigRequest (s : State) : Host.Outcome State Fault Refusal :=
  live s (s.modHost fun h => { h with crs := !h.configOpen })

/-- BAR_ACCESS_BEFORE_READY (R350, R432): a read completes with Unsupported Request, a write is discarded. -/
def execBarAccessBeforeReady (write : Bool) (s : State) : Host.Outcome State Fault Refusal :=
  liveIf (!s.barOpen) s <| s.modHost fun h =>
    if write then h else { h with unsupported := true, lastReply := none }

/-- AER_ERROR (R378): an error logged in AER. -/
def execAerError (uncorrectable : Bool) (s : State) : Host.Outcome State Fault Refusal :=
  liveIf s.aonUp s (s.raise (if uncorrectable then .hostAerUncorr else .hostAerCorr) 0)

end Sys2Proof.Machine
end

