-- ==== Sys2Proof/Machine/Dma.lean ====
section
/-! DEFINITION. The DMA engine: accesses by device address, descriptors, records, errors, disabling (13 R380 to R405). A
descriptor's transfer is one step (log entry 20). -/

namespace Sys2Proof.Machine

open Sys2Proof

/-- Whether a device address lies in host memory (R7). -/
def inHostMem (a : Nat) : Bool := 0x8000000000000000 ≤ a && a < 0x10000000000000000

/-- Bytes from a device address to the end of the region that DMA reaches it in; 0 in no such region (R7, R383). -/
def State.reach (s : State) (a : Nat) : Nat :=
  if a < 0x800000 then 0x800000 - a
  else if dramBase ≤ a ∧ a < dramBase + s.dramBytes then dramBase + s.dramBytes - a
  else if inHostMem a then 0x10000000000000000 - a
  else 0

/-- The memory that holds a device address outside host memory, and the address within it. -/
def State.ramAt (s : State) (a : Nat) : Ram × Nat := if a < 0x800000 then (s.memory.sram, a) else (s.memory.dram, a - dramBase)

/-- The memory that holds a device address, changed. -/
def State.setRamAt (a : Nat) (r : Ram) (s : State) : State :=
  s.modMemory fun m => if a < 0x800000 then { m with sram := r } else { m with dram := r }

/-- The least of a list of numbers. -/
def leastOf (l : List Nat) : Option Nat := l.foldl (fun m v => match m with
  | none => some v
  | some w => some (min w v)) none

/-- The offset in a range of its first byte in an uncorrectable codeword; for a write only codewords it covers in part
count (R526). -/
def Ram.firstBad (r : Ram) (write : Bool) (a n : Nat) : Option Nat :=
  leastOf ((r.bad.filter fun c => decide (a < c * 32 + 32) && decide (c * 32 < a + n) &&
    !(write && decide (a ≤ c * 32) && decide (c * 32 + 32 ≤ a + n))).map fun c => c * 32 - a)

/-- The first failing access of a range by its offset, true for a data error: an uncorrectable codeword, or the end of the
region (R392). What host memory answers is not part of it. -/
def State.accessFail (s : State) (write : Bool) (a n : Nat) : Option (Nat × Bool) :=
  let k := s.reach a
  let (r, rel) := s.ramAt a
  match if inHostMem a then none else r.firstBad write rel (min n k) with
  | some o => some (o, true)
  | none => if k < n then some (k, false) else none

/-- The bytes of a range that lies in its region; `host` holds those that host memory returns (R399). -/
def State.readMem (s : State) (a n : Nat) (host : List Byte) : List Byte :=
  if inHostMem a then padTo n host
  else
    let (r, rel) := s.ramAt a
    r.readBytes rel n

/-- Posted writes of at most 256 bytes, none across a 4 KiB boundary (R396). -/
def hostPieces : Nat → Nat → List Byte → List HostWrite
  | 0, _, _ => []
  | k + 1, a, bs =>
    match bs with
    | [] => []
    | _ =>
      let n := min 256 (4096 - a % 4096)
      { addr := a % 9223372036854775808, bytes := bs.take n } :: hostPieces k (a + n) (bs.drop n)

/-- Bytes written to a device address (R396, R526). -/
def State.writeMem (a : Nat) (bs : List Byte) (s : State) : State :=
  if inHostMem a then
    s.modHost fun h => { h with writes := (hostPieces (bs.length / 256 + bs.length / 4096 + 3) a bs).reverse ++ h.writes }
  else
    let (r, rel) := s.ramAt a
    s.setRamAt a (r.write rel bs).1

/-- Codewords found uncorrectable, of image SRAM (true) or DRAM (R526). -/
def State.spoil (found : List (Bool × Nat)) (s : State) : State :=
  let add (sram : Bool) (r : Ram) : Ram :=
    { r with bad := r.bad ++ ((found.filter fun p => p.1 == sram).map Prod.snd).filter fun c => !r.bad.contains c }
  s.modMemory fun m => { m with sram := add true m.sram, dram := add false m.dram }

/-- One DMA channel changed. -/
def State.modChannel (n : Nat) (f : DmaChannel → DmaChannel) (s : State) : State :=
  s.modDma fun d => { d with channels := modN d.channels n f }

/-- A host channel, 8 to 31 (R380). -/
def hostChannel (n : Nat) : Bool := 8 ≤ n && n < 32

/-- The operation of an OPCODE (R382). -/
def dmaOpOf : Nat → Option DmaOp
  | 1 => some .copy
  | 2 => some .fill
  | 3 => some .compare
  | 4 => some .link
  | _ => none

/-- A descriptor's fields (R382). -/
def parseDescriptor (addr : Nat) (b : List Byte) : Descriptor :=
  let c := leAt b 0 4
  { addr := addr, op := (dmaOpOf (field c 3 0)).getD .link, cmpSrc := bitOf c 4, cq := field c 11 8, record := bitOf c 12,
    irq := bitOf c 13, fence := bitOf c 14, readback := bitOf c 15, last := bitOf c 16, length := leAt b 4 4,
    source := leAt b 8 8, dest := leAt b 16 8, next := leAt b 24 8 }

/-- Whether a descriptor breaks R382. -/
def badDescriptor (b : List Byte) : Bool :=
  let c := leAt b 0 4
  let d := parseDescriptor 0 b
  (dmaOpOf (field c 3 0)).isNone || field c 7 5 != 0 || field c 31 17 != 0 || (d.record && decide (13 < d.cq)) ||
  d.next % 32 != 0 || (d.op == .link && (d.source != 0 || d.dest != 0))

/-- Whether a queue exists and takes 16-byte records (R391). -/
def State.takesDma (s : State) (cq : Nat) : Bool := cq < 14 && !(getN s.host.cqs cq {}).slot64

/-- A completion record (R387), with the queue it waits for. -/
def dmaRecord (n : Nat) (cq addr residue : Nat) (st : DmaStatus) (flags : Nat) (irq : Bool) (now : Nat) : Held × Nat :=
  ({ dma := true, irq := irq, sinceUs := now,
     body := le 8 addr ++ le 4 residue ++ le 1 st.code ++ le 1 n ++ le 1 flags ++ le 1 0 }, cq)

/-- An error record to the descriptor's own queue when it may take it, otherwise to ERR_CQ; with neither, DMA_n.NO_RECORD is
raised (R391). -/
def State.errorRecord (n : Nat) (own : Option Nat) (addr residue : Nat) (st : DmaStatus) (flags : Nat) (irq : Bool)
    (s : State) : State :=
  let c := getN s.dma.channels n {}
  let now := s.timeUs
  match own.filter fun q => s.takesDma q with
  | some q => s.modChannel n fun c => { c with held := c.held ++ [dmaRecord n q addr residue st flags irq now] }
  | none =>
    if c.errCqEn && s.takesDma c.errCq then s.modChannel n fun c =>
      { c with held := c.held ++ [dmaRecord n c.errCq addr residue st (flags + 8) irq now] }
    else s.raise .dmaNoRecord n

/-- The source of a halt (R404). -/
def haltSource : DmaStatus → Source
  | .busError => .dmaBusError
  | .dataError => .dmaDataError
  | _ => .dmaDescError

/-- A channel halts with its error latched (R392, R393). -/
def State.haltChannel (n addr residue : Nat) (st : DmaStatus) (dir readback fetch : Bool) (s : State) : State :=
  (s.modChannel n fun c => { c with
    state := .halted, errAddr := addr, errDir := dir, errReadback := readback, errFetch := fetch, errStatus := st
    residue := residue, halts := satAdd 16 c.halts 1, ahead := [], next := none }).raise (haltSource st) n

/-- A failed fetch or a bad descriptor halts the channel, with a record to ERR_CQ (R391, R393). -/
def State.fetchHalt (n addr : Nat) (d : Option Descriptor) (st : DmaStatus) (s : State) : State :=
  ((s.modChannel n fun c => { c with desc := d, cur := addr }).haltChannel n addr 0 st false false true).errorRecord n none
    addr 0 st 0 false

/-- RUN: the chain head is taken and the error registers are cleared (R386). -/
def DmaChannel.run (c : DmaChannel) : DmaChannel :=
  { c with
    state := .active, next := some c.head, desc := none, ahead := [], errAddr := 0, errDir := false, errReadback := false
    errFetch := false, errStatus := .ok }

/-- DMA_RUN (R381, R386): RUN written in IDLE. -/
def execDmaRun (n : Fin 32) (s : State) : Host.Outcome State Fault Refusal :=
  let c := s.dma.channels[n]
  liveIf (s.barOpen && hostChannel n && c.state == .idle && !c.disable) s (s.modChannel n DmaChannel.run)

/-- The chain goes on at an address (R386). -/
def DmaChannel.goOn (next : Nat) (c : DmaChannel) : DmaChannel :=
  { c with state := .active, next := some next, desc := none, ahead := [] }

/-- RESUME in END (R386): the kept descriptor's NEXT is read again; `host` is what host memory answers, none for an error. -/
def State.resumeEnd (n : Nat) (d : Descriptor) (host : Option (Vector Byte 8)) (s : State) : State :=
  let a := d.addr + 24
  match s.accessFail false a 8 with
  | some _ => s.fetchHalt n d.addr none .fetchError
  | none =>
    if inHostMem a && host.isNone then s.fetchHalt n d.addr none .fetchError
    else
      let v := leNat (s.readMem a 8 ((host.map Vector.toList).getD []))
      if v = 0 then s
      else if v % 32 ≠ 0 then s.fetchHalt n d.addr (some { d with next := v }) .descError
      else s.modChannel n (·.goOn v)

/-- RESUME in HALTED (R386): the failed descriptor counts as completed; its LAST and NEXT are followed, open when it was
never read (log entry 5). -/
def State.resumeHalted (n : Nat) (s : State) : State :=
  let c := getN s.dma.channels n {}
  let last := s.takeBool
  let next := last.2.takeNat
  let r : Descriptor × State := match c.desc with
    | some d => (d, s)
    | none => ({ addr := c.cur, last := last.1, next := 32 * next.1 }, next.2)
  let d := r.1
  r.2.modChannel n fun c =>
    let c := { c with done := wrapAdd 32 c.done 1, lastStatus := c.errStatus }
    if d.last then { c with state := .idle, desc := none }
    else if d.next = 0 then { c with state := .ended, desc := some d }
    else c.goOn d.next

/-- DMA_RESUME (R386): RESUME written in END or HALTED. -/
def execDmaResume (n : Fin 32) (host : Option (Vector Byte 8)) (s : State) : Host.Outcome State Fault Refusal :=
  let c := s.dma.channels[n]
  let t := match c.state, c.desc with
    | .ended, some d => s.resumeEnd n d host
    | .halted, _ => s.resumeHalted n
    | _, _ => s
  liveIf (s.barOpen && hostChannel n) s t

/-- DMA_RESET (R386): RESET written in END or HALTED. -/
def execDmaReset (n : Fin 32) (s : State) : Host.Outcome State Fault Refusal :=
  let c := s.dma.channels[n]
  liveIf (s.barOpen && hostChannel n && (c.state == .ended || c.state == .halted)) s
    (s.modChannel n fun c => { c with state := .idle, desc := none, next := none })

/-- What DISABLE leaves of a descriptor's destination: every byte it may have written is open (R402, log entry 5). -/
def State.openDest (d : Descriptor) (s : State) : State :=
  match d.op with
  | .copy | .fill =>
    let n := min d.length (s.reach d.dest)
    if inHostMem d.dest then s
    else
      let (fresh, s) := s.takeBytes n
      s.writeMem d.dest fresh
  | _ => s

/-- A channel's work dropped by DISABLE (R402): it drains its outstanding reads; what the work in progress wrote and counted
is open. -/
def State.disableChannel (n reads hostReads writes : Nat) (s : State) : State :=
  let c := getN s.dma.channels n {}
  let reads := if c.state = .active then reads else 0
  let busy := c.state == .active && c.desc.isSome
  let s := s.when busy (·.each (c.desc.toList ++ c.ahead) State.openDest)
  let (residue, s1) := s.takeNat
  let (done, s1) := s1.takeNat
  let s := if busy then s1 else s
  s.modChannel n fun c => { c with
    disable := true, desc := none, ahead := [], next := none
    state := if c.state = .draining ∨ c.state = .disabled then c.state else if 0 < reads then .draining else .disabled
    outReads := if c.state = .draining ∨ c.state = .disabled then c.outReads else reads
    outHost := if c.state = .draining ∨ c.state = .disabled then c.outHost else min hostReads reads
    outWrites := if c.state = .draining ∨ c.state = .disabled then c.outWrites else if 0 < reads then writes else 0
    residue := if busy then residue % 4294967296 else c.residue, done := if busy then done % 4294967296 else c.done }

/-- The address and the direction (true for a write) of an access of a descriptor that failed: its offset, whether it is of the
destination, whether it is the read-back (R389, R392). -/
def Descriptor.failedAccess (d : Descriptor) (off : Nat) (dst readback : Bool) : Nat × Bool :=
  (if readback then (d.dest + d.length - 1) / 4 * 4 else if dst then d.dest + off else d.source + off,
    dst && d.op != .compare && !readback)

/-- Whether a descriptor makes the access: not LINK, not an EMPTY one, within LENGTH, and of a range it has (R383, R384). -/
def Descriptor.makes (d : Descriptor) (off : Nat) (dst readback : Bool) : Bool :=
  d.op != .link && decide (off < d.length) && (dst || readback || d.op == .copy || (d.op == .compare && d.cmpSrc)) &&
  (!readback || (d.readback && (d.op == .copy || d.op == .fill)))

/-- An error in the cycle of DISABLE: latched, with no record and no halt (R403). -/
def State.latchAccess (n : Nat) (err : Option (Nat × Bool × Bool × Bool)) (s : State) : State :=
  match err, (getN s.dma.channels n {}).desc with
  | some (off, dst, data, readback), some d =>
    let a := d.failedAccess off dst readback
    s.when ((getN s.dma.channels n {}).state == .active && d.makes off dst readback) (·.modChannel n fun c => { c with
      errAddr := a.1, errDir := a.2, errReadback := readback, errFetch := false, errStatus := if data then .dataError else .busError })
  | _, _ => s

/-- DMA_DISABLE (R402, R403): DISABLE set, with the reads and writes then outstanding and an error of the same cycle. -/
def execDmaDisable (n : Fin 32) (reads : Fin 17) (hostReads : Fin 17) (writes : Fin 65) (err : Option (Nat × Bool × Bool × Bool))
    (s : State) : Host.Outcome State Fault Refusal :=
  liveIf (s.barOpen && hostChannel n) s ((s.latchAccess n err).disableChannel n reads hostReads writes)

/-- DMA_DISABLE_CLEAR (R402): a DISABLED channel returns to IDLE; one that drains does so when it has drained. -/
def execDmaDisableClear (n : Fin 32) (s : State) : Host.Outcome State Fault Refusal :=
  liveIf (s.barOpen && hostChannel n) s (s.modChannel n fun c =>
    { c with disable := false, state := if c.state = .disabled then .idle else c.state })

/-- DMA_DRAIN_DONE (R381, R402): the last outstanding read of a DRAINING channel has returned. -/
def execDmaDrainDone (n : Fin 32) (s : State) : Host.Outcome State Fault Refusal :=
  liveIf (s.dma.channels[n].state == .draining) s (s.modChannel n fun c =>
    { c with state := if c.disable then .disabled else .idle, outReads := 0, outHost := 0, outWrites := 0 })

/-- A good descriptor joins the channel's work (R385, R388). -/
def DmaChannel.takeDesc (d : Descriptor) (c : DmaChannel) : DmaChannel :=
  let c := { c with next := if d.last ∨ d.next = 0 then none else some d.next }
  match c.desc with
  | none => { c with desc := some d, cur := d.addr }
  | some _ => { c with ahead := c.ahead ++ [d] }

/-- Corrected reads counted and raised (R392, R404). -/
def State.rsCorrected (n reads : Nat) (s : State) : State :=
  s.when (0 < reads) fun s => (s.modChannel n fun c => { c with rsCorr := satAdd 16 c.rsCorr reads }).raise .dmaRsCorr n

/-- DESCRIPTOR_FETCH (R385, R391, R393): up to two descriptors ahead; a failing one is acted on once no earlier one is
pending. `bytes` is what host memory answers, none for an error; `found` names codewords found uncorrectable. -/
def execDescriptorFetch (n : Fin 32) (bytes : Option (Vector Byte 32)) (found : List (Bool × Nat)) (corrected : Nat)
    (s : State) : Host.Outcome State Fault Refusal :=
  let c := s.dma.channels[n]
  match c.next with
  | none => live s s
  | some a =>
    let t := (s.spoil found).rsCorrected n corrected
    let failed := (t.accessFail false a 32).isSome || (inHostMem a && bytes.isNone)
    let b := t.readMem a 32 ((bytes.map Vector.toList).getD [])
    let d := parseDescriptor a b
    let refused := badDescriptor b || (d.record && !s.takesDma d.cq)
    let room := decide (c.held.length < 4)
    liveIf (hostChannel n && c.state == .active) s <|
      if failed then (if c.desc.isNone && room then t.fetchHalt n a none .fetchError else s)
      else if refused then (if c.desc.isNone && room then t.fetchHalt n a (some d) .descError else s)
      else if c.ahead.length < 2 then t.modChannel n (·.takeDesc d)
      else s

/-- The first offset at which two lists differ. -/
def firstDiff : List Byte → List Byte → Nat → Option Nat
  | a :: as, b :: bs, k => if a = b then firstDiff as bs (k + 1) else some k
  | _, _, _ => none

/-- The bytes that a descriptor writes or compares with: those of the source, or the pattern repeated (R383). -/
def State.dmaInput (s : State) (d : Descriptor) (hostSrc : List Byte) (n : Nat) : List Byte :=
  if d.op = .copy ∨ (d.op = .compare ∧ d.cmpSrc) then s.readMem d.source n hostSrc
  else (List.range n).map fun k => BitVec.ofNat 8 (d.source / 256 ^ (k % 8))

/-- Whether a descriptor reads a source range (R383). -/
def Descriptor.reads (d : Descriptor) : Bool := d.op == .copy || (d.op == .compare && d.cmpSrc)

/-- The first failing access of a descriptor: its offset, whether it is of the destination, whether a data error; of two at
one offset the source read, issued first (R392, R394). -/
def State.descFail (s : State) (d : Descriptor) : Option (Nat × Bool × Bool) :=
  let src := if d.reads then s.accessFail false d.source d.length else none
  let dst := if d.op = .link then none else s.accessFail (d.op != .compare) d.dest d.length
  match src, dst with
  | none, none => none
  | some a, none => some (a.1, false, a.2)
  | none, some b => some (b.1, true, b.2)
  | some a, some b => if a.1 ≤ b.1 then some (a.1, false, a.2) else some (b.1, true, b.2)

/-- The offset of a COMPARE's first difference among the first `n` bytes (R383). -/
def State.descDiff (s : State) (d : Descriptor) (hostSrc hostDst : List Byte) (n : Nat) : Option Nat :=
  if d.op = .compare then firstDiff (s.readMem d.dest n hostDst) (s.dmaInput d hostSrc n) 0 else none

/-- Whether a COPY's ranges overlap with the destination above the source, which leaves its contents open (R383). -/
def Descriptor.overlaps (d : Descriptor) : Bool :=
  d.op == .copy && decide (d.source < d.dest) && decide (d.dest < d.source + d.length)

/-- What a descriptor writes, `n` bytes of it. -/
def State.descWrite (d : Descriptor) (hostSrc : List Byte) (n : Nat) (s : State) : State :=
  match d.op with
  | .copy | .fill =>
    if d.overlaps then
      let (fresh, s) := s.takeBytes n
      s.writeMem d.dest fresh
    else s.writeMem d.dest (s.dmaInput d hostSrc n)
  | _ => s

/-- A descriptor completed: counted, its record held, the next one started, or the chain ended (R381, R387, R389). -/
def State.completeDesc (n : Nat) (d : Descriptor) (st : DmaStatus) (residue : Nat) (s : State) : State :=
  let now := s.timeUs
  let rb := d.readback && (d.op == .copy || d.op == .fill) && d.length != 0
  s.modChannel n fun c =>
    let c := { c with done := wrapAdd 32 c.done 1, lastStatus := st }
    let c := if d.record then
      { c with held := c.held ++ [dmaRecord n d.cq d.addr residue st (2 * b2n rb) d.irq now], residue := residue } else c
    if d.last then { c with state := .idle, desc := none, ahead := [], next := none }
    else match c.ahead with
      | e :: rest => { c with desc := some e, cur := e.addr, ahead := rest }
      | [] => if c.next.isSome then { c with desc := none } else { c with state := .ended }

/-- DESCRIPTOR_COMPLETE (R383, R384, R389): the transfer of the executing descriptor, none of whose accesses fails before
its end; `hostSrc` and `hostDst` are what host memory returns, `corrected` the reads with corrected RS symbols. -/
def execDescriptorComplete (n : Fin 32) (hostSrc hostDst : List Byte) (corrected : Nat) (s : State) :
    Host.Outcome State Fault Refusal :=
  let c := s.dma.channels[n]
  match c.desc with
  | none => live s s
  | some d =>
    let empty := d.op != .link && d.length == 0
    let good := (s.descFail d).map (·.1)
    let diff := if empty then none else s.descDiff d hostSrc hostDst (good.getD d.length)
    let st := if empty then DmaStatus.empty else if diff.isSome then .mismatch else .ok
    let t := if empty then s else (s.descWrite d hostSrc d.length).rsCorrected n corrected
    liveIf (hostChannel n && c.state == .active && (empty || good.isNone || diff.isSome) && (!d.record || decide (c.held.length < 4))) s
      (t.completeDesc n d st (diff.getD 0))

/-- An error of the executing descriptor (R391, R392, R394): latched with the failing address, its record signalled at once,
the destination below it open; RESIDUE is one of the counts the manual allows (log entry 5). -/
def State.descError (n : Nat) (d : Descriptor) (off : Nat) (dst data readback : Bool) (hostSrc : List Byte) (s : State) : State :=
  let addr := (d.failedAccess off dst readback).1
  let write := (d.failedAccess off dst readback).2
  let (r, s) := s.takeNat
  let (k, s) := s.takeNat
  let residue := if readback then 0 else r % max 1 (d.length - off)
  let st := if data then DmaStatus.dataError else .busError
  let below := if inHostMem d.dest then s.descWrite d hostSrc (k % (off + 1)) else s.openDest { d with length := off }
  let s := if readback then s.descWrite d hostSrc d.length else below
  (s.haltChannel n addr residue st write readback false).errorRecord n (if d.cq < 14 then some d.cq else none)
    d.addr residue st (b2n write + 4 * b2n readback) true

/-- DMA_ACCESS_ERROR (R392, R394): the executing descriptor meets a failing access before a difference. `host` is an error
that host memory reports: its offset, on the destination, a poisoned completion, found by the read-back. -/
def execDmaAccessError (n : Fin 32) (host : Option (Nat × Bool × Bool × Bool)) (hostSrc hostDst : List Byte) (found : List (Bool × Nat))
    (corrected : Nat) (s : State) : Host.Outcome State Fault Refusal :=
  let c := s.dma.channels[n]
  match c.desc with
  | none => live s s
  | some d =>
    let t := s.spoil found
    let own := (t.descFail d).map fun f => (f.1, f.2.1, f.2.2, false)
    let theirs := host.filter fun h =>
      if h.2.2.2 then d.readback && (d.op == .copy || d.op == .fill) && inHostMem d.dest && own.isNone
      else decide (h.1 < d.length) && (if h.2.1 then d.op == .compare && inHostMem d.dest else d.reads && inHostMem d.source)
    let pick := match own, theirs with
      | some a, some b => some (if b.1 ≤ a.1 then b else a)
      | some a, none => some a
      | none, b => b
    match pick with
    | none => live s s
    | some (off, dst, data, readback) =>
      let differs := (t.descDiff d hostSrc hostDst off).isSome
      liveIf (hostChannel n && c.state == .active && d.op != .link && d.length != 0 && !differs && decide (c.held.length < 4)) s
        ((t.rsCorrected n corrected).descError n d off dst data readback hostSrc)

/-- DMA_RECORD_WRITE (R390): the oldest record a channel holds, into its queue once that is enabled and has room. -/
def execDmaRecordWrite (n : Fin 32) (s : State) : Host.Outcome State Fault Refusal :=
  match s.dma.channels[n].held with
  | [] => live s s
  | (r, cq) :: rest =>
    let q := getN s.host.cqs cq {}
    liveIf (s.barOpen && q.enable && !q.full && !q.slot64) s
      ((s.modChannel n fun c => { c with held := rest }).writeSlot cq r)

/-- FEED_CHANNEL_ERROR (R395): a bus or descriptor error of a station's feed channel; before the window its job ends
REJECTED_AT_ADMISSION, cause STREAM_RANGE. -/
def execFeedChannelError (x : Fin 6) (s : State) : Host.Outcome State Fault Refusal :=
  let t := s.raise .dmaFeedError x
  liveIf s.islandsUp s <|
    match (s.decoders[x].jobSeq.bind s.jobOf) with
    | some j => if j.inWindow ∨ j.state = .lower ∨ j.state = .returning ∨ j.state = .ended then t else t.endJob j.seq .rejected .streamRange Source.dmaFeedError.number x
    | none => t

end Sys2Proof.Machine
end

