-- ==== Sys2Proof/Machine/Jenzan.lean ====
section
/-! DEFINITION. The Jenzan ports and the gazetteer: discovery, polls, identification, detach, wear writes (15 R443 to R452,
R454; 03 R98, R108, R113 to R115). -/

namespace Sys2Proof.Machine

open Sys2Proof

/-- One gazetteer entry changed (R447). -/
def State.modUnit (port unit : Nat) (f : Unit → Unit) (s : State) : State :=
  s.modBoot fun b => { b with units := modN b.units (4 * port + unit) f }

/-- One Jenzan port changed (R443). -/
def State.modPort (port : Nat) (f : JzPort → JzPort) (s : State) : State :=
  s.modBoot fun b => { b with ports := modN b.ports port f }

/-- A Jenzan port (R443). -/
def State.port (s : State) (port : Nat) : JzPort := getN s.boot.ports port {}

/-- Whether the LX6 works an enabled port: from discovery on, unless the boot has halted (R429, R443, R451). -/
def State.jzUp (s : State) (port : Nat) : Bool :=
  getN s.legend.boot.portEnable port false && match s.boot.stage with
    | .discovery | .hostOpen | .recovery | .ready => true
    | _ => false

/-- Whether a committed window concerns a port: its imaging station's, or an auxiliary one (R449, R450). -/
def State.portInWindow (s : State) (port : Nat) : Bool :=
  s.layer.jobs.any fun j => j.inWindow && (6 ≤ port || j.images port)

/-- A unit appears (R449): HELD while a window concerns its port, otherwise IDENTIFYING. -/
def State.unitAppears (port unit : Nat) (s : State) : State :=
  let st := if s.portInWindow port then UnitState.held else .identifying
  s.when ((s.unit port unit).state == .absent) (·.modUnit port unit fun u => { u with
    state := st, attaches := satAdd 8 u.attaches 1, misses := 0, crcRun := 0, gone := false, reread := false })

/-- What an entry keeps when its unit detaches (R450, R457): its counts since start; increments not yet written are lost
(R452). -/
def Unit.detached (u : Unit) : Unit :=
  { crcErrors := u.crcErrors, noReply := u.noReply, attaches := u.attaches
    wearLost := if u.wearDue || u.kept.toList.any (· != 0) then satAdd 8 u.wearLost 1 else u.wearLost }

/-- A station whose driver module is gone (R450, R454): lanes DOWN, a training in progress dropped. -/
def Pixel.moduleGone (p : Pixel) : Pixel :=
  { p with
    lanes := mapV (fun l => { l with state := .down, pending := false, marked := false, polls := 0, step := .lock }) p.lanes
    state := if p.state = .training then .idle else p.state, moduleSerial := 0, refresh := false }

/-- A unit detaches (R450, R454): the entry becomes ABSENT and the fault is raised, unless it was still HELD or
IDENTIFYING. -/
def State.unitDetach (port : Fin 8) (unit : Nat) (s : State) : State :=
  let u := s.unit port unit
  let run := s.portInWindow port
  if u.state = .absent then s
  else
    let s := s.modUnit port unit Unit.detached
    let s := s.when (u.state != .held && u.state != .identifying) (·.raiseRun run .jzDetachRun .jzDetachIdle port)
    if h : port.val < 6 then s.when (unit == 0) (·.modPixel ⟨port, h⟩ Pixel.moduleGone) else s

/-- The driver module of a station has become PRESENT (R98, R108, R114, R493): its trims are restored and all five lanes
are due for training; one with another serial releases the lane spare. -/
def State.moduleFound (x : Fin 6) (serial : Nat) (s : State) : State :=
  let same := getN s.survey.record.laneSerial x 0 == serial
  let s := (s.restoreTrims x serial).modPixel x fun p => { p with
    map := if same then p.map else Vector.ofFn fun i => i.val
    spareFree := if same then p.spareFree else true
    lanes := mapV (fun l => { l with state := .down, pending := true, marked := false, attempts := 0, polls := 0, step := .lock }) p.lanes }
  s.when (!same) (·.modSurvey fun v => { v with record := { v.record with
    lanes := v.record.lanes.set x.val none, laneSerial := v.record.laneSerial.set x.val 0 } })

/-- An entry filled from an identity block (R447). -/
def Unit.identified (b : List Byte) (u : Unit) : Unit :=
  { u with
    state := .present, type := leAt b 0 2, variant := leAt b 2 2, serial := leAt b 4 8, fwRev := leAt b 12 4
    emitters := byteAt b 16, lanes := byteAt b 17, wear := Vector.ofFn fun i => leAt b (48 + 4 * i.val) 4
    crcRun := 0, reread := false }

/-- A FAILED entry (R448). -/
def State.unitFailed (port : Fin 8) (unit : Nat) (s : State) : State :=
  (s.modUnit port unit fun u => { u with state := .failed }).raise .jzLink port

/-- An identity block taken for an entry that is IDENTIFYING (R447, R448): its CRC, then its TYPE on the port and unit. -/
def State.unitIdentify (port : Fin 8) (unit : Nat) (b : List Byte) (s : State) : State :=
  if leAt b 62 2 ≠ crc16 (b.take 62) then
    let run := (s.unit port unit).crcRun + 1
    (s.modUnit port unit fun u => { u with crcErrors := satAdd 8 u.crcErrors 1, crcRun := run }).when (run == 3) (·.unitFailed port unit)
  else if (getN s.legend.boot.permit (4 * port.val + unit) []).contains (leAt b 0 2) then
    let s := s.modUnit port unit (·.identified b)
    if h : port.val < 6 then s.when (unit == 0 && leAt b 0 2 == 1) (·.moduleFound ⟨port, h⟩ (leAt b 4 8)) else s
  else s.unitFailed port unit

/-- A PRESENT entry's identity read again after a partner reset (R450, R454): the same SERIAL stays PRESENT and a driver
module's lanes are trained again; another SERIAL is a detach and a new attach. -/
def State.unitReread (port : Fin 8) (unit : Nat) (b : List Byte) (s : State) : State :=
  if leAt b 62 2 ≠ crc16 (b.take 62) then s.modUnit port unit fun u => { u with crcErrors := satAdd 8 u.crcErrors 1 }
  else if leAt b 4 8 = (s.unit port unit).serial then
    let s := s.modUnit port unit fun u => { u with reread := false }
    if h : port.val < 6 then
      s.when (unit == 0 && (s.unit port unit).type == 1) (·.modPixel ⟨port, h⟩ fun p => { p with
        lanes := mapV (fun l => { l with pending := true, attempts := 0, polls := 0, step := .lock }) p.lanes })
    else s
  else
    let s := (s.unitDetach port unit).unitAppears port unit
    s.when ((s.unit port unit).state == .identifying) (·.unitIdentify port unit b)

/-- UNIT_IDENTIFY (R447 to R450): the identity block of a unit is read; a HELD entry waits until no window concerns its
port. -/
def execUnitIdentify (port : Fin 8) (unit : Fin 3) (block : Vector Byte 64) (s : State) : Host.Outcome State Fault Refusal :=
  let b := block.toList
  let u := s.unit port unit
  liveIf (s.jzUp port) s <| match u.state with
    | .identifying => s.unitIdentify port unit b
    | .held => if s.portInWindow port then s
        else (s.modUnit port unit fun u => { u with state := .identifying }).unitIdentify port unit b
    | .present => if u.reread then s.unitReread port unit b else s
    | _ => s

/-- A port binds (R446, R449): unit 0 appears. -/
def State.bind (port : Nat) (s : State) : State :=
  (s.modPort port fun p => { p with link := .bound, announces := 0, misses := 0, repeated := false }).unitAppears port 0

/-- ANNOUNCE_RECEIVED (R446): the third valid frame binds the port; on a bound port the partner has reset, and the
identities behind it are read again (R450). -/
def execAnnounceReceived (port : Fin 8) (s : State) : Host.Outcome State Fault Refusal :=
  let p := s.port port
  liveIf (s.jzUp port) s <|
    if p.link = .bound then
      s.each [0, 1, 2] fun k s => s.modUnit port k fun u => { u with reread := u.state == .present }
    else if p.announces < 2 then s.modPort port fun p => { p with link := .announced, announces := p.announces + 1 }
    else s.bind port

/-- Unit 0's report of the units behind it (R445, R449, R450). -/
def State.pollPresent (port : Nat) (bits : Nat) (s : State) : State :=
  s.each [1, 2] fun k s =>
    if bitOf bits k then (s.modUnit port k fun u => { u with gone := false }).unitAppears port k
    else s.modUnit port k fun u => { u with gone := u.state != .absent }

/-- A lane whose lock a module reports lost (R113, R115). -/
def State.laneLost (x : Fin 6) (lane : Nat) (s : State) : State :=
  let run := s.windowOpen
  let s := s.modPixel x fun p => { p with lanes := modN p.lanes lane fun l =>
    { l with state := .down, marked := true, lockLosses := satAdd 8 l.lockLosses 1 } }
  if run then s.raiseD .laneLockRun x (le 1 lane) else s.raiseD .laneLockIdle x (le 1 lane)

/-- Frames a module reports dropped (R105, R113, R115). The report does not name the lane: it is a free value (log
entry 5). Four within an hour mark the lane. -/
def State.framesDropped (x : Fin 6) (n : Nat) (s : State) : State :=
  let (k, s) := s.takeNat
  let lane := getN s.pixels[x].map (k % 4) 0
  let now := s.timeUs
  let s := s.modPixel x fun p => { p with lanes := modN p.lanes lane fun l =>
    let times := (List.replicate (min n 4) now ++ l.dropTimes.filter fun t => now < t + 3600000000).take 4
    { l with frameDrops := satAdd 16 l.frameDrops n, dropTimes := times, marked := l.marked || times.length == 4 } }
  s.when (s.layer.jobs.any fun j => j.inWindow && j.images x) (·.raiseD .laneFrameDrop x (le 1 lane))

/-- A configuration refresh at ARMED that the module did not take: the CRC-8 it reports is that of no trained lane's frame
(R105, R109, R115). The lane is a free value (log entry 5). -/
def State.checkRefresh (x : Fin 6) (crc : Nat) (s : State) : State :=
  let p := s.pixels[x]
  if !p.refresh then s
  else
    let s := s.modPixel x fun p => { p with refresh := false }
    if p.lanes.toList.any fun l => l.state == .trained && crc8 l.config == crc then s
    else
      let (k, s) := s.takeNat
      s.raiseD .laneConfig x (le 1 (getN p.map (k % 4) 0))

/-- A driver module's part of a status block (R105, R115, R445). -/
def State.pollDriver (x : Fin 6) (b : List Byte) (s : State) : State :=
  let dropped := (leAt b 4 2 + 65536 - (s.unit x 0).dropped) % 65536
  let lost := (List.range 5).filter fun l => (getN s.pixels[x].lanes l {}).state == .trained && !bitOf (byteAt b 2) l
  let s := s.each lost fun l s => s.laneLost x l
  let s := s.when (dropped != 0) (·.framesDropped x dropped)
  s.checkRefresh x (byteAt b 6)

/-- A status block kept in the entry (R445). -/
def Unit.polled (b : List Byte) (u : Unit) : Unit :=
  { u with
    misses := 0, laneLock := BitVec.ofNat 5 (byteAt b 2), laneId := byteAt b 3 % 8, dropped := leAt b 4 2
    configCrc := byteAt b 6, temp := (BitVec.ofNat 8 (byteAt b 7)).toInt }

/-- Whether a unit of a bound port is polled (R445, R449): unit 0 alone while an entry of the port is HELD. -/
def State.polls (s : State) (port unit : Nat) : Bool :=
  s.jzUp port && (s.port port).link == .bound && (unit == 0 || ((s.unit port unit).state != .absent &&
    [0, 1, 2].all fun k => (s.unit port k).state != .held))

/-- JENZAN_POLL (R105, R113, R115, R445, R449, R450): the status block of a polled unit is taken. -/
def execJenzanPoll (port : Fin 8) (unit : Fin 3) (status : Vector Byte 16) (s : State) : Host.Outcome State Fault Refusal :=
  let b := status.toList
  let u := s.unit port unit
  liveIf (s.polls port unit) s <|
    let t := s.modPort port fun p => { p with repeated := false, misses := if unit.val = 0 then 0 else p.misses }
    let t := if h : port.val < 6 then
      t.when (unit.val == 0 && u.state == .present && u.type == 1) (·.pollDriver ⟨port, h⟩ b) else t
    let t := (t.modUnit port unit (·.polled b)).when (unit.val == 0) (·.pollPresent port (byteAt b 0))
    t.when (byteAt b 1 != 0) (·.raiseD .jzLink port (le 1 (byteAt b 1)))

/-- JENZAN_REPLY_MISSING (R444, R450): a reply that did not start in time, fails its CRC (`badCrc`) or carries another SEQ.
The request is repeated once; a poll missed a second time is a missed poll. -/
def execJenzanReplyMissing (port : Fin 8) (unit : Fin 3) (request : JzRequest) (badCrc : Bool) (s : State) :
    Host.Outcome State Fault Refusal :=
  let again := (s.port port).repeated
  liveIf (s.polls port unit) s <|
    let t := s.modPort port fun p => { p with
      repeated := !again, badFrames := if badCrc then satAdd 16 p.badFrames 1 else p.badFrames
      misses := if again && request == .poll && unit.val == 0 then satAdd 8 p.misses 1 else p.misses }
    t.when (again && request == .poll) (·.modUnit port unit fun u => { u with
      misses := min 3 (u.misses + 1), noReply := satAdd 8 u.noReply 1 })

/-- Whether a unit's detach is due: three consecutive missed polls, or reported absent by unit 0 (R450). -/
def Unit.detachDue (u : Unit) : Bool := u.state != .absent && (u.misses == 3 || u.gone)

/-- A unit that is due detaches; with unit 0 go the units behind it, and the port waits for ANNOUNCE again (R446, R450). -/
def State.detachIfDue (port : Fin 8) (unit : Nat) (s : State) : State :=
  if (s.unit port unit).detachDue then
    if unit = 0 then
      (s.each [0, 1, 2] fun k s => s.unitDetach port k).modPort port fun p => { p with link := .idle, announces := 0, repeated := false }
    else s.unitDetach port unit
  else s

/-- UNIT_DETACH (R450). -/
def execUnitDetach (port : Fin 8) (unit : Fin 3) (s : State) : Host.Outcome State Fault Refusal :=
  liveIf (s.jzUp port) s (s.detachIfDue port unit)

/-- The increment of a unit for the jobs ended since its last wear write (R452). -/
def Unit.increment (u : Unit) (revolutions : Nat) : Nat :=
  match u.type with
  | 1 => u.frames
  | 2 => revolutions
  | 3 => u.periods
  | _ => 0

/-- A wear write, acknowledged or missing or refused twice (R452). -/
def Unit.wearWrite (revolutions : Nat) (acked : Bool) (u : Unit) : Unit :=
  let n := u.increment revolutions
  let gain (i : Nat) : Nat := getN u.kept i 0 + (if n = 0 then 0 else Config.wearShare u.type n i)
  if acked then
    { u with wear := mapIdxV (fun i w => wrapAdd 32 w (gain i)) u.wear, kept := Vector.replicate 3 0, wearDue := false, frames := 0, periods := 0 }
  else { u with kept := Vector.ofFn fun i => gain i.val, wearDue := false, frames := 0, periods := 0 }

/-- WEAR_WRITE (R452): never inside a committed window. A cartridge's drum revolutions come with the row: no input counts them
(log entry 161). -/
def execWearWrite (port : Fin 8) (unit : Fin 3) (revolutions : Nat) (acked : Bool) (s : State) :
    Host.Outcome State Fault Refusal :=
  let u := s.unit port unit
  liveIf (s.jzUp port && !s.windowOpen && u.state == .present && u.wearDue) s
    (s.modUnit port unit (·.wearWrite revolutions acked))

/-- A unit found in discovery: its port bound, the unit seen and identified (R446, R449, R451). -/
def State.discover (f : JzFound) (s : State) : State :=
  let s := s.when ((s.port f.port).link != .bound) (·.bind f.port)
  let s := s.unitAppears f.port f.unit
  s.when ((s.unit f.port f.unit).state == .identifying) (·.unitIdentify f.port f.unit f.block.toList)

end Sys2Proof.Machine
end

