-- ==== Sys2Proof/Machine/Otp.lean ====
section
/-! DEFINITION. One-time-programmable memory: sensing, locks, life cycle, integrity and programming (16 R458–R479). -/

namespace Sys2Proof.Machine

open Sys2Proof

/-! Words and regions (R458, R459). -/

/-- First words and lengths of the OTP regions (R459). -/
def otpRegions : List (Nat × Nat) := [(0x000, 64), (0x040, 128), (0x0C0, 128), (0x140, 256), (0x240, 16), (0x260, 400)]

/-- The words of a region, by their addresses (R459). -/
def regionWords (r : Nat) : List Nat :=
  let p := nth otpRegions r (0, 0)
  (List.range p.2).map (p.1 + ·)

/-- The shadow data of a word as in use: the CUSTOMER region reads 0 while it is ignored (R464, R471). -/
def Otp.shadow (o : Otp) (a : Nat) : BitVec 32 :=
  if o.customerIgnored && (regionWords 5).contains a then 0 else getN o.shadows a 0

/-- The lock pattern of a region (R467). -/
def lockPattern (r : Nat) : BitVec 32 := BitVec.ofNat 32 (0x4C4B0000 + r)

/-- LOCK of a region, from its lock word (R467): 0 OPEN, 1 LOCKED, 2 LOCKED_IRREGULAR. -/
def Otp.lockCode (o : Otp) (r : Nat) : Nat :=
  let w := getN o.shadows (0x254 + r) 0
  if w = 0 then 0 else if w = lockPattern r then 1 else 2

/-- The region of a word: 0 to 5, LIFE_CYCLE 6, LOCK 7, and 8 for a reserved word (R459). -/
def otpRegionOf (a : Nat) : Nat :=
  if 0x250 ≤ a ∧ a ≤ 0x253 then 6
  else if 0x254 ≤ a ∧ a ≤ 0x259 then 7
  else ((List.range 6).find? fun r => (regionWords r).contains a).getD 8

/-- The word that holds a region's RCHK (R459). -/
def rchkWord (r : Nat) : Nat :=
  let p := nth otpRegions r (0, 0)
  p.1 + p.2 - 1

/-- The 40 raw bits of a word: data below, check bits above (R458). -/
def OtpWord.raw (w : OtpWord) : BitVec 40 := w.check ++ w.data

/-- A word from its 40 raw bits. -/
def rawWord (b : BitVec 40) : OtpWord := { data := b.setWidth 32, check := (b >>> 32).setWidth 8 }

/-- The check bits of 32 data bits; a word never programmed has valid check bits (R458). -/
def otpCheck (d : BitVec 32) : BitVec 8 := if d = 0 then 0 else Config.hsiao d

/-- Whether a word's check bits are those of its data. -/
def otpClean (b : BitVec 40) : Bool := otpCheck (rawWord b).data == (rawWord b).check

/-- SEC-DED of the 40 bits read: clean, one bit corrected, or uncorrectable (R458, R464). -/
inductive SecDed where
  | clean (data : BitVec 32)
  | corrected (data : BitVec 32)
  | uncorrectable
  deriving DecidableEq, Repr

/-- SEC-DED over one word as read (R464). -/
def secDed (b : BitVec 40) : SecDed :=
  if otpClean b then .clean (rawWord b).data
  else match (List.range 40).find? fun i => otpClean (b ^^^ BitVec.twoPow 40 i) with
    | some i => .corrected (rawWord (b ^^^ BitVec.twoPow 40 i)).data
    | none => .uncorrectable

/-- The data that SEC-DED yields; 0 for an uncorrectable word (R464). -/
def SecDed.value : SecDed → BitVec 32
  | .clean d => d
  | .corrected d => d
  | .uncorrectable => 0

/-- What a word reads inverted at the nominal and at the tightened margin. -/
def flipsOf (flips : List OtpFlip) (a : Nat) : OtpFlip := (flips.find? fun f => f.addr == a).getD { addr := a }

/-- The 40 bits of a word as read at the nominal margin (R463). -/
def Otp.nominal (o : Otp) (flips : List OtpFlip) (a : Nat) : BitVec 40 := (getN o.array a {}).raw ^^^ (flipsOf flips a).nominal

/-- Whether the raw bits of the two passes differ (R464). -/
def wordMarginal (flips : List OtpFlip) (a : Nat) : Bool := (flipsOf flips a).nominal != (flipsOf flips a).tight

/-- HCRC over the words of a region except its RCHK (R459). -/
def regionCrc (r : Nat) (value : Nat → BitVec 32) : Nat :=
  crc32 (((regionWords r).dropLast).flatMap fun a => le 4 (value a).toNat)

/-- The pattern of a LIFE_CYCLE word (R468). -/
def lifePattern (k : Nat) : BitVec 32 := BitVec.ofNat 32 (0xC35AA500 + k)

/-- The life-cycle state of the four words (R468). -/
def Otp.lifeCycle (o : Otp) : LifeCycle :=
  let w := (List.range 4).map fun k => getN o.shadows (0x250 + k) 0
  if w = [0, 0, 0, 0] then .blank
  else if w = [lifePattern 0, 0, 0, 0] then .vendorTest
  else if w = [lifePattern 0, lifePattern 1, 0, 0] then .provision
  else if w = [lifePattern 0, lifePattern 1, lifePattern 2, 0] then .deployed
  else if w = [lifePattern 0, lifePattern 1, lifePattern 2, lifePattern 3] then .retired
  else .invalid

/-! Sensing at a boot (R463 to R471). -/

/-- The boot halts at a stage; the ms since the reset release freeze (R430, R432). -/
def State.haltBoot (stage : BootStage) (s : State) : State :=
  s.modBoot fun b => { b with stage := stage, bootMs := (s.timeUs - b.startUs) / 1000 }

/-- The shadows, marks and counts that sensing leaves (R464). -/
def Otp.sense (temp : Int) (flips : List OtpFlip) (o : Otp) : Otp :=
  let read := Vector.ofFn (n := 1024) fun a => secDed (o.nominal flips a.val)
  let marginal := Vector.ofFn (n := 1024) fun a => wordMarginal flips a.val
  let count (p : SecDed → Bool) : Nat := (read.toList.filter p).length
  { o with
    shadows := mapV SecDed.value read
    marginal := marginal
    uncorr := mapV (fun r : SecDed => r == .uncorrectable) read
    countMarginal := (marginal.toList.filter id).length
    countUncorr := count fun r => r == .uncorrectable
    countCorr := min 1023 (count fun r => match r with
      | .corrected _ => true
      | _ => false)
    senseTemp := temp
    senseUs := 205 }

/-- Whether SEC-DED corrected a word as read. -/
def Otp.correctedAt (o : Otp) (flips : List OtpFlip) (a : Nat) : Bool :=
  match secDed (o.nominal flips a) with
  | .corrected _ => true
  | _ => false

/-- The events of sensing: single- and double-bit errors in address order, then the first 32 MARGINAL words with their
DETAIL (R464, R466). -/
def State.senseEvents (flips : List OtpFlip) (s : State) : State :=
  let o := s.otp
  let marked := (List.range 1024).filter fun a => getN o.marginal a false
  let s := s.each (List.range 1024) fun a t =>
    if getN o.uncorr a false then t.raise .otpUncorrectable (otpRegionOf a)
    else t.raiseIf (o.correctedAt flips a) .otpCorrected (otpRegionOf a)
  s.each (marked.take 32) fun a t =>
    t.raiseD .otpMarginal (otpRegionOf a) (le 2 a ++ le 2 (twos 16 o.senseTemp) ++ le 2 o.countMarginal)

/-- The integrity checks at the end of sensing and the alarm with its causes (R467 to R470). -/
def State.integrity (s : State) : State :=
  let o := s.otp
  let ok := Vector.ofFn (n := 6) fun r => (getN o.shadows (rchkWord r.val) 0).toNat == regionCrc r.val fun a => getN o.shadows a 0
  let bad := (List.range 6).filter fun r => o.lockCode r != 0 && !getN ok r false
  let irregular := (List.range 6).filter fun r => o.lockCode r == 2
  let invalid := o.lifeCycle == .invalid
  let marginal := 0 < o.countMarginal
  let uncorr := 0 < o.countUncorr
  let causes := BitVec.ofNat 4 (b2n marginal + 2 * b2n uncorr + 4 * b2n (!bad.isEmpty) + 8 * b2n (invalid || !irregular.isEmpty))
  let s := s.each bad fun r t => t.raise .otpRegionCheck r
  let s := s.raiseIf invalid .otpLifeCycle 6
  let s := s.each irregular fun _ t => t.raise .otpLifeCycle 7
  s.modOtp fun o => { o with regionOk := ok, causes := causes, alarm := causes != 0 }

/-- POLICY in effect (R471): 0 CONTINUE, 1 CONTINUE_NO_CUSTOMER, 2 HALT. -/
def Otp.policyNow (o : Otp) : Nat :=
  if getN o.uncorr 3 false then 2
  else if o.lockCode 0 = 0 then 0
  else min 2 ((getN o.shadows 3 0).toNat % 4)

/-- The ROM overlay: each VALID entry neither word of which is uncorrectable; entry 63 is none (R462). -/
def Otp.patchEntries (o : Otp) : List (Nat × BitVec 32) :=
  (List.range 63).filterMap fun k =>
    let a := 0xC0 + 2 * k
    let w := getN o.shadows a 0
    if w.getLsbD 31 && !getN o.uncorr a false && !getN o.uncorr (a + 1) false then
      some (w.toNat % 65536, getN o.shadows (a + 1) 0)
    else none

/-- A fetch of a ROM word by any engine through the overlay: the lowest-numbered entry applies (R462). -/
def Otp.romFetch (o : Otp) (addr : Nat) : Option (BitVec 32) := (o.overlay.find? fun e => e.1 == addr).map (·.2)

/-- Step 4 of R429: the identity and the ROM overlay; both PLLs lock (R457, R460, R462). -/
def State.romStep (s : State) : State :=
  let o := s.otp
  let entries := o.patchEntries
  let w (a : Nat) : Nat := (getN o.shadows a 0).toNat
  let s := s.modOtp fun o => { o with overlay := entries }
  let s := s.modScan fun c => { c with sysLocked := true, ctlLocked := true, refOk := true }
  s.modBoot fun b =>
    { b with vendorId := w 0 % 65536, deviceId := w 0 / 65536, serial := w 1 + 4294967296 * w 2, romRev := Config.romRev,
             patches := entries.length }

/-- Step 5 of R429: POLICY, which decides nothing without the alarm (R471). -/
def State.policyStep (s : State) : State :=
  let o := s.otp
  let p := o.policyNow
  let s := s.modOtp fun o => { o with policy := p, customerIgnored := o.alarm && p == 1 }
  let s := s.modBoot fun b => { b with otpAlarm := o.alarm }
  if o.alarm && p == 2 then (s.raise .otpPolicyHalt 0).haltBoot .haltOtp
  else s.modBoot fun b => { b with stage := .legend }

/-- BOOT_OTP_SENSE (R463, R464, R466, R470, R471): steps 3 to 5 of R429. -/
def execBootOtpSense (temp : Int) (flips : List OtpFlip) (s : State) : Host.Outcome State Fault Refusal :=
  liveIf (s.aonUp && s.boot.stage == .otp && s.boot.resetN && !s.pins.testEn) s
    ((((s.modOtp (Otp.sense temp flips)).senseEvents flips).integrity.romStep).policyStep)

/-! Programming (R472 to R476). -/

/-- The checks of R472 up to RANGE, in their order; `inRange` is the last. -/
def State.otpRefusal (s : State) (key : Nat) (inRange : Bool) : Option OtpStatus :=
  if key ≠ 0x4F54 then some .key
  else if s.timeUs < s.otp.busyUntil then some .busy
  else if s.layer.jobs.any Job.past || s.thermal.band != .normal || !getN s.power.ownOk 4 false then some .condition
  else if !inRange then some .range
  else none

/-- Whether the life cycle permits PROGRAM and LOCK in a region (R473). -/
def lifePermits (l : LifeCycle) (r : Nat) : Bool :=
  match l with
  | .vendorTest => r < 4
  | .provision => r == 4 || r == 5
  | _ => false

/-- The checks for PROGRAM and LOCK of a region: R472 in full. -/
def State.regionRefusal (s : State) (key r : Nat) : Option OtpStatus :=
  match s.otpRefusal key (r < 6) with
  | some st => some st
  | none =>
    if !lifePermits s.otp.lifeCycle r then some .state
    else if s.otp.lockCode r ≠ 0 then some .locked
    else none

/-- A command that ends with a status at once and changes nothing else (R472). -/
def State.otpEnd (st : OtpStatus) (s : State) : State :=
  if st = .busy then s.modOtp fun o => { o with busySeen := true }
  else s.modOtp fun o => { o with status := st, busySeen := false, checkOk := false, foundMarginal := false, word := 0 }

/-- A program operation on one word (R474, R477): its pulses, the bits that form, and the shadow on success or on
VERIFY_FAIL. -/
def State.pulseWord (a : Nat) (want : BitVec 40) (p : OtpPulse) (s : State) : State :=
  let old := (getN s.otp.array a {}).raw
  match p with
  | .formed n =>
    s.modOtp fun o =>
      { o with array := modN o.array a fun _ => rawWord (old ||| want)
               shadows := modN o.shadows a fun _ => (secDed (old ||| want)).value
               status := .ok, busySeen := false, pulses := n.val + 1, busyUntil := s.timeUs + 10 * (n.val + 1) }
  | .failed bits nominal =>
    let raw := old ||| (want &&& bits)
    let t := s.modOtp fun o =>
      { o with array := modN o.array a fun _ => rawWord raw
               shadows := modN o.shadows a fun _ => (secDed (raw &&& nominal)).value
               status := .verifyFail, busySeen := false, pulses := 8, busyUntil := s.timeUs + 82 }
    t.raise .otpProgramFail (otpRegionOf a)
  | .cut bits =>
    s.modOtp fun o =>
      { o with array := modN o.array a fun _ => rawWord (old ||| (want &&& bits)), busyUntil := s.timeUs + 82 }

/-- The word a pattern programs, with its check bits. -/
def patternRaw (d : BitVec 32) : BitVec 40 := (OtpWord.raw { data := d, check := otpCheck d })

/-- OTP_PROGRAM (R472 to R474): OTP_DATA into a blank word of an OPEN region, or again into a word that holds it. -/
def execOtpProgram (key : BitVec 16) (p : OtpPulse) (s : State) : Host.Outcome State Fault Refusal :=
  let a := s.otp.addr
  let want := patternRaw s.otp.data
  let old := (getN s.otp.array a {}).raw
  liveIf s.barOpen s <|
    match s.regionRefusal key.toNat (otpRegionOf a) with
    | some st => s.otpEnd st
    | none =>
      if old ≠ 0 ∧ old ≠ want then s.otpEnd .notBlank
      else (s.otpEnd .ok).pulseWord a want p

/-- CHECK_OK and the word reported for a region (R475). -/
def State.verify (r : Nat) (flips : List OtpFlip) (s : State) : State :=
  let o := s.otp
  let value (a : Nat) : BitVec 32 := (secDed (o.nominal flips a)).value
  let differs := (regionWords r).find? fun a => wordMarginal flips a
  let ok := differs.isNone && (value (rchkWord r)).toNat == regionCrc r value
  s.modOtp fun o =>
    { o with status := .ok, busySeen := false, checkOk := ok, foundMarginal := differs.isSome
             word := if ok then 0 else differs.getD (rchkWord r) }

/-- VERIFY_REGION (R475): every word of the region at both margins; no shadow and no mark changes. -/
def execVerifyRegion (key : BitVec 16) (r : Fin 8) (flips : List OtpFlip) (s : State) : Host.Outcome State Fault Refusal :=
  liveIf s.barOpen s <|
    match s.otpRefusal key.toNat (r.val < 6) with
    | some st => s.otpEnd st
    | none => s.verify r.val flips

/-- OTP_LOCK (R474 to R476): CHECK_OK as VERIFY_REGION reports it, then the lock pattern, whatever the result. -/
def execOtpLock (key : BitVec 16) (r : Fin 8) (flips : List OtpFlip) (p : OtpPulse) (s : State) : Host.Outcome State Fault Refusal :=
  liveIf s.barOpen s <|
    match s.regionRefusal key.toNat r.val with
    | some st => s.otpEnd st
    | none => (s.verify r.val flips).pulseWord (0x254 + r.val) (patternRaw (lockPattern r.val)) p

/-- The number of the next transition, where the life cycle permits one, and whether its prerequisites hold (R473). -/
def Otp.nextTransition (o : Otp) : Option (Nat × Bool) :=
  match o.lifeCycle with
  | .blank => some (0, true)
  | .vendorTest => some (1, (List.range 4).all fun r => o.lockCode r != 0)
  | .provision => some (2, o.lockCode 4 != 0)
  | .deployed => some (3, true)
  | .retired | .invalid => none

/-- OTP_ADVANCE (R473, R474): the next LIFE_CYCLE word; the new state governs programming at once. -/
def execOtpAdvance (key : BitVec 16) (p : OtpPulse) (s : State) : Host.Outcome State Fault Refusal :=
  liveIf s.barOpen s <|
    match s.otpRefusal key.toNat true with
    | some st => s.otpEnd st
    | none =>
      match s.otp.nextTransition with
      | none => s.otpEnd .state
      | some (_, false) => s.otpEnd .prereq
      | some (k, true) => (s.otpEnd .ok).pulseWord (0x250 + k) (patternRaw (lifePattern k)) p

end Sys2Proof.Machine
end

