-- ==== Sys2Proof/Machine/Regs.lean ====
section
/-! DEFINITION. What every BAR0 register reads, block by block (01 R51, 02 R81, 03 R117, 04 R150, 05 R182, 06 R208, 07 R240,
08 R270, 09 R289, 10 R320, 11 R347, 12 R379, 13 R405, 14 R425, 15 R432, R457, 16 R479, 17 R498), and reads by the host
(00_scope R10 to R14). -/

namespace Sys2Proof.Machine

open Sys2Proof

/-- The low half of a 64-bit quantity (R11). -/
def lo32 (v : Nat) : Nat := v % 4294967296

/-- The high half of a 64-bit quantity (R11). -/
def hi32 (v : Nat) : Nat := v / 4294967296 % 4294967296

/-- A signed field at bit `lsb`, `w` bits wide. -/
def putI (v : Int) (w lsb : Nat) : Nat := put (twos w v) w lsb

/-- A number whose bit `i` is `p i`, for `i` below `n`. -/
def bitsOf (n : Nat) (p : Nat → Bool) : Nat := (List.range n).foldl (fun m i => m + b2n (p i) * 2 ^ i) 0

/-! Layer engine (R51). -/

/-- The job furthest along, whatever its state before its end (R51). -/
def State.foremost (s : State) : Option Job := s.layer.jobs.find? fun j => j.state != .ended && j.state != .none

/-- The job of HEAD_STATE and HEAD_SEQ (R51): the next job behind the running one, up to IMAGING under overlap; a first job
that is ADMITTED or ARMED; otherwise the admission candidate. -/
def State.headJob (s : State) : Option Job :=
  ((((s.layer.jobs.filter Job.past).drop 1).find? fun j => decide (j.state.code ≤ 4)).or
    (s.layer.jobs.find? fun j => j.state == .admitted || j.state == .armed)).or s.candidate

/-- Whether two jobs are past QUEUED under overlap (R24, R32, R51): one ARMED or later while an earlier one has not ended. -/
def State.overlapActive (s : State) : Bool := decide (2 ≤ (s.layer.jobs.filter Job.armedOn).length)

/-- The conditions that fail for the admission candidate now, none without one (R26, R51). -/
def State.unmetNow (s : State) : Nat := (s.candidate.map s.unmetOf).getD 0

/-- The time left of the admission timer, in µs (R27, R51). -/
def State.timerRemain (s : State) : Nat :=
  let l := s.layer
  if l.timerRunning then l.timerRemainUs - (s.timeUs - l.timerStartUs) else l.timerRemainUs

/-- LYR registers at an offset in the layer block (R51). -/
def State.regLayer (s : State) (o : Nat) : Nat :=
  let l := s.layer
  let run := (s.runningJob.map (·.seq)).getD 0
  let head := (s.headJob.map (·.seq)).getD 0
  if 0x20 ≤ o ∧ o < 0x38 then
    let x := (o - 0x20) / 4
    put (getN ((s.runningJob.map (·.emitted)).getD l.lastEmitted) x 0) 16 0 + put (getN s.decoders x {}).ringLevel 7 16
  else match o with
    | 0x00 => put ((s.foremost.map (·.state.code)).getD 0) 4 0 + put ((s.headJob.map (·.state.code)).getD 0) 4 4 +
        put (b2n l.hold) 1 8 + put (b2n s.boundaryWait) 1 9 + put (b2n s.overlapActive) 1 10 +
        put s.queuedJobs 4 16
    | 0x04 => lo32 run
    | 0x08 => hi32 run
    | 0x0C => lo32 head
    | 0x10 => hi32 head
    | 0x14 => put s.unmetNow 17 0
    | 0x18 => put (s.timerRemain / 1000) 22 0 + put (b2n l.timerRunning) 1 31
    | 0x1C => put l.lastStatus.code 8 0 + put l.lastCause.code 8 8 + put l.lastFlags.code 8 16
    | 0x38 => l.cntOk
    | 0x3C => l.cntScrapped
    | 0x40 => l.cntRejected
    | _ => 0

/-! Stations (R81, R117). -/

/-- KRC registers at an offset from 0xC00 (R81). -/
def Decoder.reg (d : Decoder) (o : Nat) : Nat :=
  match o with
  | 0x00 => put d.state.code 3 0 + put (b2n d.refChain) 1 3 + put d.nextLine 16 16
  | 0x04 => put d.lineCount 16 0 + put d.lineLength 16 16
  | 0x08 => put d.replaced 16 0
  | 0x0C => put d.errCheck.code 4 0 + put d.errLine 16 16
  | 0x10 => put d.feedCorr 16 0 + put d.feedUncorr 16 16
  | 0x14 => put d.ringCorr 16 0 + put d.ringUncorr 16 16
  | 0x18 => put d.lines 32 0
  | _ => 0

/-- PX_STATUS (R117). -/
def State.regPixelStatus (s : State) (x : Nat) : Nat :=
  let g := getN s.legend.pixels x {}
  let p := getN s.pixels x {}
  put p.state.code 2 0 + put (b2n p.bdSource) 1 2 + s.shown (put (b2n g.fastEnable) 1 3 + put (b2n g.slowEnable) 1 4) +
    put p.expoSet 3 8 + put p.drumBand 2 11 + put p.frames 16 16

/-- PX_LANE_STAT (R117). -/
def Lane.reg (l : Lane) : Nat :=
  put l.state.code 2 0 + put l.attempts 2 2 + put l.lockLosses 8 8 + put l.frameDrops 16 16

/-- PX_FORCE_OFF (R117). -/
def Pixel.regForce (p : Pixel) : Nat := put p.forceCount 16 0 + put p.forceSource.code 2 16

/-- PX_FAST (R117). -/
def Pixel.regFast (p : Pixel) : Nat := put p.nextProbe 5 0 + put p.lastAmp 16 8 + put p.lastProbe 5 24

/-- PX registers at an offset in the station block (R117). -/
def State.regPixel (s : State) (x o : Nat) : Nat :=
  let g := getN s.legend.pixels x {}
  let p := getN s.pixels x {}
  if 0x10 ≤ o ∧ o < 0x24 then (getN p.lanes ((o - 0x10) / 4) {}).reg
  else if 0x100 ≤ o ∧ o < 0x180 then
    let t := getN p.trims ((o - 0x100) / 4) 0
    putI t 8 0 + s.shown (put (b2n (t.natAbs == g.trimLimit)) 1 8)
  else match o with
    | 0x00 => s.regPixelStatus x
    | 0x04 => s.shown (put g.emitters 6 0 + put (spanOf g) 6 6 + put (bPlusOf g) 5 12 + put (bMinusOf g) 5 17)
    | 0x08 => s.shown (put g.cellQ 16 0)
    | 0x0C => put (getN p.map 0 0) 3 0 + put (getN p.map 1 0) 3 3 + put (getN p.map 2 0) 3 6 + put (getN p.map 3 0) 3 9 +
        put (b2n p.spareFree) 1 12
    | 0x24 => p.regForce
    | 0x28 => p.regFast
    | 0x2C => putI (getN p.offsets 0 0) 8 0 + putI (getN p.offsets 1 0) 8 8 + putI (getN p.offsets 2 0) 8 16 +
        putI (getN p.offsets 3 0) 8 24
    | _ => 0

/-- The station blocks 0x4_0000 to 0x4_5FFF (R81, R117). -/
def State.regStation (s : State) (o : Nat) : Nat :=
  let x := o / 0x1000
  let r := o % 0x1000
  if 6 ≤ x then 0
  else if 0xC00 ≤ r then (getN s.decoders x {}).reg (r - 0xC00)
  else s.regPixel x r

/-! Clocks and scan timing (R150). -/

/-- SCH, BD and DATUM registers of a station (R150). -/
def State.regSchedule (s : State) (x : Fin 6) (o : Nat) : Nat :=
  let t := s.scan.stations[x]
  let age := if t.calUs = 0 then 0 else min 255 ((s.timeUs - t.calUs) / 60000000)
  match o with
  | 0x00 => put t.state.code 3 0 + put (b2n (s.polyLocked x)) 1 3 + put (b2n t.dllLocked) 1 4 + put t.chain 1 5 +
      put (b2n t.spareFree) 1 6 + put (b2n t.calValid) 1 7 + put t.tap 7 8 + put age 8 16 + put t.facet 4 24 + put t.facetId.code 2 28
  | 0x04 => put t.dInt 6 0
  | 0x08 => put t.dFrac 24 0
  | 0x0C => putI t.err 32 0
  | 0x10 => putI t.resid 32 0
  | 0x14 => lo32 t.tick
  | 0x18 => put (hi32 t.tick) 23 0
  | 0x1C => lo32 t.stamp
  | 0x20 => put (hi32 t.stamp) 23 0
  | 0x24 => put t.misses 16 0 + put t.strays 16 16
  | 0x28 => put t.datumSteps 32 0
  | _ => 0

/-- The scan-timing block (R150). -/
def State.regScan (s : State) (o : Nat) : Nat :=
  let c := s.scan
  if h : 0x100 ≤ o ∧ o < 0x700 then s.regSchedule ⟨o / 0x100 - 1, by omega⟩ (o % 0x100)
  else match o with
    | 0x00 => put c.pllN 8 0 + put (b2n c.pllLocked) 1 8 + put (b2n c.gated) 1 9 + put c.relocks 16 16
    | 0x04 => put c.reqState.code 3 0 + put c.req.source.code 2 3 + put (b2n c.req.relock) 1 5 + put c.req.sigma 13 16
    | 0x08 => put c.sigma 13 0 + put c.code 4 16
    | 0x0C => put c.sscDepth 5 0 + put c.sscRate 4 5
    | 0x10 => put (b2n c.ctlLocked) 1 0 + put (b2n c.sysLocked) 1 1 + put (b2n c.laneLocked) 1 2 + put (b2n c.refOk) 1 3 +
        put c.floorHit.toNat 6 4
    | _ => 0

/-! Position feedback and registration (R182). -/

/-- MER registers of a station (R182). -/
def State.regMeridian (s : State) (x o : Nat) : Nat :=
  let m := getN s.position.meridians x {}
  match o with
  | 0x00 => put m.slot 6 0 + put m.state.code 3 6 +
      s.shown (put (if (getN s.legend.polygons x {}).enable then s.legend.position.origins.length else 0) 7 9) + put m.missed 16 16
  | 0x04 => lo32 (twos 64 m.target)
  | 0x08 => hi32 (twos 64 m.target)
  | 0x0C => lo32 (twos 64 m.found)
  | 0x10 => hi32 (twos 64 m.found)
  | _ => 0

/-- CMP registers of a list (R182). -/
def State.regCompare (s : State) (n o : Nat) : Nat :=
  let c := getN s.position.cmps n {}
  match o with
  | 0x00 => put c.next 6 0 + put (b2n c.armed) 1 6 + put (b2n (c.level s.timeUs)) 1 7 +
      s.shown (put (getN s.legend.position.cmps n {}).entries.length 7 8) + put c.fired 8 16 + put c.missed 8 24
  | 0x04 => lo32 (twos 64 c.found)
  | 0x08 => hi32 (twos 64 c.found)
  | _ => 0

/-- REG registers of a station (R182). -/
def RegStation.reg (r : RegStation) (o : Nat) : Nat :=
  match o with
  | 0x00 => putI r.xscan 32 0
  | 0x04 => putI r.inscan 16 0
  | 0x08 => putI r.ex 16 0 + putI r.ei 16 16
  | 0x0C => putI r.ux 16 0 + putI r.ui 16 16
  | _ => 0

/-- Offsets 0x000 to 0x3FF of the motion and loops block (R182). -/
def State.regPosition (s : State) (o : Nat) : Nat :=
  let p := s.position
  let g := s.legend.position
  let axis (i : Nat) : Axis := getN p.axes i {}
  if 0x10 ≤ o ∧ o < 0x28 then putI (axis ((o - 0x10) / 4)).position 32 0
  else if 0x28 ≤ o ∧ o < 0x40 then putI (axis ((o - 0x28) / 4)).beyond 16 0
  else if 0x40 ≤ o ∧ o < 0x50 then
    let n := (o - 0x40) / 4
    s.shown (put (s.encAxis n).code 3 0 + put (getN g.encFilt n 0) 3 3) + put (getN p.encoders n {}).quadErrs 16 8
  else if 0x50 ≤ o ∧ o < 0x60 then
    let n := (o - 0x50) / 4
    s.shown (put ((s.ssiAxis n).elim 0 (· + 2)) 3 0) + put (b2n (getN p.ssi n {}).valid) 1 3 + put (getN p.ssi n {}).frameErrs 16 8
  else if 0x100 ≤ o ∧ o < 0x1C0 then s.regMeridian ((o - 0x100) / 0x20) (o % 0x20)
  else if 0x200 ≤ o ∧ o < 0x280 then s.regCompare ((o - 0x200) / 0x10) (o % 0x10)
  else if 0x310 ≤ o ∧ o < 0x370 then (getN p.reg ((o - 0x310) / 0x10) {}).reg (o % 0x10)
  else if 0x380 ≤ o ∧ o < 0x388 then
    let n := (o - 0x380) / 4
    let e := getN p.emus n {}
    let src := (getN g.emus n {}).source
    let on := src.isSome && (src != some true || (getN g.axes 0 {}).source != .none)
    let behind := if on then (s.emuDemand (getN g.emus n {}) (src.getD false) p.motn - e.position).natAbs else 0
    s.shown (put (b2n on) 1 0 + put (b2n (src.getD false)) 1 1 + put (min 255 behind) 8 8) + put e.overspeed 16 16
  else match o with
    | 0x00 => lo32 (twos 64 p.travel)
    | 0x04 => hi32 (twos 64 p.travel)
    | 0x08 => put s.beltPosition 31 0
    | 0x0C => put (b2n p.forward) 1 0 + put (b2n p.synced) 1 1 + put (b2n (axis 0).atLo) 1 2 + put (b2n (axis 0).atHi) 1 3 +
        put (bitsOf 4 fun i => (axis (2 + i)).atLo || (axis (2 + i)).atHi) 4 4
    | 0x300 => s.shown (put (b2n g.regEnable) 1 0 + put g.refStation 3 3) + put (b2n (anyV (·.held) p.reg)) 1 1 + put (b2n s.regForce) 1 2 +
        put (bitsOf 6 fun x => (getN p.reg x {}).inBand) 6 6 + put (bitsOf 6 fun x => (getN p.reg x {}).measured) 6 12
    | _ => 0

/-! Polygon drives (R208). -/

/-- POLY registers of a station (R208). -/
def Polygon.reg (p : Polygon) (o : Nat) : Nat :=
  match o with
  | 0x00 => put p.state.code 4 0 + put (b2n p.obsOk) 1 4 + put (b2n p.bdPresent) 1 5 + put (b2n p.ramping) 1 6 +
      put (b2n p.phaseLock) 1 7 + put (b2n p.regenClamp) 1 8 + put p.startTry 3 9
  | 0x04 => put p.speed 20 0
  | 0x08 => put p.reference 20 0
  | 0x0C => putI p.ePhi 32 0
  | 0x10 => putI p.iq 16 0 + putI p.id 16 16
  | 0x14 => put (p.theta / 1048576) 12 0 + putI (p.diff.fdiv 1048576) 12 16
  | 0x18 => put p.thetaHat 12 0 + put p.margin 8 12 + put (b2n p.doubled) 1 20
  | 0x1C => put p.starts 8 0 + put p.recatchOk 8 8 + put p.recatchFails 8 16 + put p.obsLosses 8 24
  | 0x20 => putI p.ofsU 10 0 + putI p.ofsV 10 10 + putI p.ofsW 10 20
  | _ => 0

/-! Control loops (R240). -/

/-- HV registers of a channel (R240). -/
def State.regHv (s : State) (k o : Nat) : Nat :=
  let h := getN s.loops.hv k {}
  let l := s.loop k
  let fs := (s.legLoop k).measFs
  match o with
  | 0x0 => put h.mode.code 2 0 + put (b2n l.inBand) 1 2 + put (b2n (getN s.loops.hven (k / 3) false)) 1 3 + put (b2n h.monOk) 1 4 +
      put l.feTimer 16 16
  | 0x4 => putI h.volt 16 0 + putI (inUnit fs 10 l.sp) 16 16
  | 0x8 => putI h.curr 16 0
  | 0xC => put h.code 16 0 + putI (inUnit fs 10 l.fePeak) 16 16
  | _ => 0

/-- DEVAC registers of a station (R240). -/
def State.regDevac (s : State) (x o : Nat) : Nat :=
  let a := getN s.loops.ac x {}
  let l := s.loop (18 + x)
  match o with
  | 0x0 => put a.tBand 2 0 + put a.hBand 2 2 + put (b2n a.running) 1 4 + put (b2n l.inBand) 1 5 + put a.amp 16 16
  | 0x4 => putI (inUnit (s.legLoop (18 + x)).measFs 1 l.sp) 16 0 + put a.gain 16 16
  | 0x8 => s.shown (put (getN s.legend.loops.ac x {}).freq 12 0)
  | _ => 0

/-- HTR registers of a zone (R240). -/
def State.regHeater (s : State) (z o : Nat) : Nat :=
  let h := getN s.loops.heaters z {}
  let l := s.loop (24 + z)
  match o with
  | 0x0 => put h.mode.code 2 0 + put (b2n l.inBand) 1 2 + put (b2n h.throttled) 1 3 + put l.region 3 4 + put (b2n h.sat) 1 7 +
      put h.duty 16 16
  | 0x4 => putI h.temp 16 0 + putI (inUnit (s.legLoop (24 + z)).measFs 10 l.sp) 16 16
  | 0x8 => putI h.target 16 0
  | _ => 0

/-- LOOP registers of a loop (R240). -/
def State.regLoop (s : State) (n o : Nat) : Nat :=
  let g := s.legLoop n
  let l := s.loop n
  match o with
  | 0x00 => s.shown (put (loopClass n).code 3 0 + put (s.engineOf n) 3 3 + put g.law.code 2 6 + put (b2n g.enable) 1 8 + put g.phase 12 12)
  | 0x04 => put l.region 3 0 + put (b2n l.busy) 1 3 + put (b2n l.clamped) 1 4 + put (b2n l.inBand) 1 5 + put (b2n l.feOver) 1 6 +
      put (b2n l.safe) 1 7 + put l.feTimer 16 16
  | 0x08 => putI l.sp 32 0
  | 0x0C => putI l.meas 32 0
  | 0x10 => putI l.out 32 0
  | 0x14 => putI l.fePeak 32 0
  | 0x18 => put l.feEvents 16 0 + put l.regionChanges 16 16
  | _ => 0

/-- Offsets 0x1000 to 0x27FF of the motion and loops block (R240); loops 0 to 52 have registers. -/
def State.regLoops (s : State) (o : Nat) : Nat :=
  if o < 0x1014 then
    let e := getN s.loops.engines ((o - 0x1000) / 4) {}
    put e.state.code 2 0 + put e.serves 3 2 + put e.deadlines 8 8 + put e.loadMax 14 16
  else if 0x1100 ≤ o ∧ o < 0x1220 then s.regHv ((o - 0x1100) / 0x10) (o % 0x10)
  else if 0x1300 ≤ o ∧ o < 0x1360 then s.regDevac ((o - 0x1300) / 0x10) (o % 0x10)
  else if o = 0x1380 then put s.loops.rh 10 0 + put s.loops.humBand 2 10
  else if 0x1400 ≤ o ∧ o < 0x1480 then s.regHeater ((o - 0x1400) / 0x10) (o % 0x10)
  else if 0x2000 ≤ o ∧ o < 0x2000 + 0x20 * 53 then s.regLoop ((o - 0x2000) / 0x20) (o % 0x20)
  else 0

/-! Motion (R270). -/

/-- SRV registers of an axis (R270). -/
def Servo.reg (v : Servo) (o : Nat) : Nat :=
  match o with
  | 0x00 => put v.mode.code 3 0 + put (b2n v.homed) 1 3 + put (b2n v.regen) 1 4 + put (b2n v.retimed) 1 5 + put v.lastStop.code 2 6 +
      put v.feEvents 16 16
  | 0x04 => putI v.vel 32 0
  | 0x08 => putI v.fe 32 0
  | 0x0C => put v.fePeak 32 0
  | 0x10 => put v.remainUs 32 0
  | _ => 0

/-- STP registers of a channel (R270). -/
def Stepper.reg (p : Stepper) (o : Nat) : Nat :=
  match o with
  | 0x0 => put p.state.code 2 0 + put (b2n p.uncertain) 1 2 + put p.segment.code 2 3 + put p.elec 10 16
  | 0x4 => putI p.steps 32 0
  | 0x8 => put (if p.state = .moving ∧ !p.settling then isqrt p.v2 else 0) 24 0
  | 0xC => put p.moves 16 0 + put p.stops 16 16
  | _ => 0

/-- Offsets 0x2800 to 0x2AFF of the motion and loops block (R270). -/
def State.regMotion (s : State) (o : Nat) : Nat :=
  let m := s.motion
  let b := m.bus
  if o < 0x2860 then (getN m.servos ((o - 0x2800) / 0x20) {}).reg (o % 0x20)
  else if 0x2900 ≤ o ∧ o < 0x29A0 then (getN m.steppers ((o - 0x2900) / 0x10) {}).reg (o % 0x10)
  else match o with
    | 0x2A00 => put b.state.code 3 0 + put (b2n b.chopOn) 1 3 + put (b2n b.chopFailed) 1 4 + put (b2n b.chopHot) 1 5 + put b.chopI 16 16
    | 0x2A04 => put b.volt 16 0 + put b.peak 16 16
    | 0x2A08 => put b.v1Events 8 0 + put b.v2Events 8 8 + put b.v3Events 8 16 + put b.chopFails 8 24
    | 0x2A10 => put m.skewPeak 16 0 + s.shown (put (b2n ((List.range 4).all fun i => (s.zSsi i).1)) 1 16) + put (b2n m.brakeReleased) 1 17
    | 0x2A14 => put m.residue 16 0 + put m.lastSteps 16 16
    | _ => 0

/-- The motion and loops block (R182, R208, R240, R270). -/
def State.regMotionLoops (s : State) (o : Nat) : Nat :=
  if o < 0x400 then s.regPosition o
  else if o < 0x580 then (getN s.polygons ((o - 0x400) / 0x40) {}).reg (o % 0x40)
  else if o < 0x1000 then 0
  else if o < 0x2800 then s.regLoops o
  else if o < 0x2B00 then s.regMotion o
  else 0

/-! Power and thermal (R289, R320). -/

/-- The state of a rail (R320). -/
def Rail.stateCode (r : Rail) : Nat := if r.en then (if r.pg then 2 else 1) else (if r.pg then 3 else 0)

/-- RAIL registers of a rail or own supply (R320). -/
def State.regRail (s : State) (n o : Nat) : Nat :=
  let c := getN s.power.counts n {}
  match o with
  | 0x00 =>
    if n < 24 then
      let r := s.rail n
      put (b2n r.en) 1 0 + put (b2n r.pg) 1 1 + put (b2n (s.legRail n).mon.isSome) 1 2 + put (b2n (s.pseFlag n)) 1 3 +
        put r.stateCode 2 4 + put (r.mon / 10) 16 16
    else
      let ok := getN s.power.ownOk (n - 24) false
      if s.aonUp then 1 + put (b2n ok) 1 1 + put (if ok then 2 else 1) 2 4 else 0
  | 0x04 => put c.uv 32 0
  | 0x08 => put c.ov 32 0
  | 0x0C => put c.pgLate 32 0
  | 0x10 => put c.pgLost 32 0
  | 0x14 => put c.offFail 32 0
  | 0x18 => put c.seq 32 0
  | _ => 0

/-- Milliseconds until the input is qualified, QUAL_REMAIN (R304, R320). -/
def State.qualRemain (s : State) : Nat :=
  if s.power.inputOk then 0 else if s.power.inLevel then 50 - min 50 ((s.timeUs - s.power.inUs) / 1000) else 50

/-- Whether this member pulls ULB_ABORT_N low: a level of its own, or its 20 µs layer pulse (R315, R316, R320). -/
def State.abortDriven (s : State) : Bool := s.power.abortDrive || (s.power.abortPulse.map fun t => !s.elapsed t 20).getD false

/-- The level of ULB_ABORT_N (R315, R316, R320): low while this member drives it, for the 20 µs of a received pulse, and while a received
level lasts. -/
def State.abortHigh (s : State) : Bool :=
  !s.abortDriven && (s.power.abortLevel || (!s.power.abortLong && ((s.power.abortFall.map fun t => s.elapsed t 20).getD false)))

/-- Offsets 0x000 to 0x7FF of the power and thermal block (R320). -/
def State.regPower (s : State) (o : Nat) : Nat :=
  let p := s.power
  if 0x100 ≤ o ∧ o < 0x500 then s.regRail ((o - 0x100) / 0x20) (o % 0x20)
  else match o with
    | 0x00 => put p.program.code 3 0 + put (b2n p.upDone) 1 3 + put (b2n p.shutOff) 1 4 + put (b2n p.inputOk) 1 5 + put p.step 8 8
    | 0x04 => put p.lastProgram.code 3 0 + put p.lastStatus.code 3 3 + put p.lastCause.code 4 8 + put p.lastDuration 20 12
    | 0x08 => bitsOf 24 s.pseFlag
    | 0x0C => bitsOf 16 (fun k => s.pseFlag (32 + k)) + put (bitsOf 6 fun k => s.pseFlag (48 + k)) 6 16
    | 0x10 => put (b2n p.inLevel) 1 0 + put p.inFails 8 8 + put s.qualRemain 16 16
    | 0x14 => put p.voutReq 10 0 + put p.voutRead 10 10 + put p.pmbErrors 8 20 + put (b2n p.frozen) 1 28
    | 0x600 => put p.ulbState 8 0 + put (b2n p.syncLevel) 1 8 + put (b2n s.abortHigh) 1 9 + put (b2n p.syncDrive) 1 10 +
        put (b2n s.abortDriven) 1 11 + put (b2n s.legend.power.ulbEnable) 1 12 + put (b2n p.detached) 1 13 + put p.rises 16 16
    | 0x604 => put p.pulses 16 0 + put p.levels 16 16
    | _ => 0

/-- Offsets 0x800 to 0x8FF of the power and thermal block (R289). -/
def State.regThermal (s : State) (o : Nat) : Nat :=
  let t := s.thermal
  if 0x820 ≤ o ∧ o < 0x838 then
    let d := getN t.drums ((o - 0x820) / 4) {}
    put d.band 2 0 + put d.latched 2 2 + putI d.temp 16 16
  else if 0x840 ≤ o ∧ o < 0x870 then
    let d := getN t.sensors ((o - 0x840) / 4) {}
    putI d.temp 16 0 + put (b2n d.valid) 1 16
  else if 0x880 ≤ o ∧ o < 0x8C0 then
    let n := (o - 0x880) / 4
    let i := getN t.inputs n {}
    (if i.state = .ok then putI i.temp 16 0 else 0x7FFF) + put i.state.code 2 16 +
      s.shown (put (getN s.legend.thermal.inputs n {}).type.code 4 20) + put i.faults 8 24
  else if 0x8C0 ≤ o ∧ o < 0x8E0 then
    let z := getN t.zones ((o - 0x8C0) / 4) {}
    put z.factor 16 0 + put (b2n z.beyond) 1 16
  else match o with
    | 0x800 => put t.band.code 3 0 + put (b2n t.refresh2x) 1 3 + put (b2n t.critLatched) 1 4 + put (b2n t.abortDecided) 1 5 +
        put (bitsOf 12 fun i => (getN t.sensors i {}).valid) 12 8
    | 0x804 => putI t.td 16 0 + putI t.peak 16 16
    | 0x808 => putI t.slope 16 0
    | 0x80C => put t.tTripMs 16 0 + put t.tRemMs 16 16
    | 0x810 => put t.requested 7 0 + put t.applied 7 8
    | _ => 0

/-! Faults (R347). -/

/-- Whether an instance of a source stands at Severe (R347). -/
def State.sourceStands (s : State) (n : Nat) : Bool := s.faults.insts.any fun i => i.src == n && i.standing

/-- The base class that FLT_SRC_n reads: of a rail source the highest among the rails in use (R321, R347). -/
def State.baseOf (s : State) (n : Nat) : FaultClass :=
  let rails (f : LegRail → FaultClass) : FaultClass :=
    (s.legend.power.rails.toList.filter (·.use)).foldl (fun m r => maxClass m (f r)) .notice
  match Source.ofNumber n with
  | some .psFailUp => rails (·.failUpClass)
  | some .psPgLost => rails (·.pgLostClass)
  | some .psUv => rails (·.uvClass)
  | some .psOv => rails (·.ovClass)
  | some x => x.base
  | none => .notice

/-- FLT_SRC_n (R347); an unused number reads 0. -/
def State.regSource (s : State) (n : Nat) : Nat :=
  let g := s.sourceEntry n
  let base := s.baseOf n
  let is := s.faults.insts.filter fun i => i.src == n
  if (Source.ofNumber n).isNone || (!s.legendApplied && is.isEmpty) then 0
  else put base.code 2 0 + put (maxClass (g.cap.getD base) base).code 2 2 + put (is.foldl (fun m i => maxClass m i.cls) base).code 2 4 +
    put (b2n (s.sourceStands n)) 1 6 + put (b2n (is.any (·.restricted))) 1 7 + put g.n 8 8 +
    put (min 65535 (is.foldl (fun m i => m + i.events) 0)) 16 16

/-- FLT_WIN_n (R347); an unused number reads 0. -/
def State.regWindow (s : State) (n : Nat) : Nat :=
  let g := s.sourceEntry n
  if (Source.ofNumber n).isNone then 0 else s.shown (put g.w 22 0 + put g.logLimit 8 22 + put g.restrict.code 2 30)

/-- The fault block (R347). -/
def State.regFaults (s : State) (o : Nat) : Nat :=
  let f := s.faults
  let standing := (f.insts.filter (·.standing)).length
  let has (r : Restriction) : Bool := f.insts.any fun i => i.restricted && (s.sourceEntry i.src).restrict == r
  if 0x20 ≤ o ∧ o < 0x30 then put (getN f.counts ((o - 0x20) / 4) 0) 32 0
  else if 0x40 ≤ o ∧ o < 0x60 then bitsOf 32 fun j => s.sourceStands (32 * ((o - 0x40) / 4) + j)
  else if 0x1000 ≤ o ∧ o < 0x1400 then s.regSource ((o - 0x1000) / 4)
  else if 0x1400 ≤ o ∧ o < 0x1800 then s.regWindow ((o - 0x1400) / 4)
  else match o with
    | 0x00 => put (b2n f.grave) 1 0 + put (b2n s.severeStands) 1 1 + put (b2n f.aliveRun) 1 2 + put (b2n f.alive) 1 3 + put (b2n f.len) 1 4 +
        put (b2n f.lsafe) 1 5 + put (b2n (f.insts.any (·.restricted))) 1 6 + put (b2n f.storm) 1 7 + put (min 255 standing) 8 8
    | 0x04 => put f.graveSrc 8 0 + put f.graveInst 6 8 + put (b2n f.graveValid) 1 14
    | 0x08 => put f.firstSrc 8 0 + put f.firstInst 6 8 + put (b2n f.firstValid) 1 14
    | 0x0C => put (b2n (has .noOverlap)) 1 0 + put (b2n f.holdRestrict) 1 1 + put (b2n (has .speed)) 1 2 + put s.restrictSpeed 7 3 +
        put (f.insts.filter (·.restricted)).length 16 16
    | 0x10 => put s.legend.faults.alivePeriod 6 0 + put (b2n f.supOk) 1 6 + put f.stops 16 16
    | 0x14 => put f.logSeq 32 0
    | 0x18 => put f.logHead 10 0
    | 0x30 => put f.dropped 16 0 + put f.logFails 16 16
    | _ => 0

/-! Host queues (R379). -/

/-- Registers of a ring at its offset (R379). -/
def Ring.reg (r : Ring) (o : Nat) : Nat :=
  match o with
  | 0x00 => lo32 r.base
  | 0x04 => hi32 r.base
  | 0x08 => put (b2n r.enable) 1 0 + put (b2n r.error) 1 1
  | 0x0C => put r.tail 6 0
  | 0x10 => put r.head 6 0
  | _ => 0

/-- CQ registers of a queue (R379). -/
def CompQueue.reg (q : CompQueue) (o : Nat) : Nat :=
  match o with
  | 0x00 => lo32 q.base
  | 0x04 => hi32 q.base
  | 0x08 => put (b2n q.enable) 1 0 + put (b2n q.slot64) 1 1 + put q.sizeLog2 4 2 + put q.vector 4 6 + put (b2n q.irqEnable) 1 10 +
      put q.coalCount 8 16 + put q.coalTime 8 24
  | 0x0C => put q.head 12 0
  | 0x10 => put q.tail 12 0 + put (b2n q.phase) 1 12 + put (b2n (q.enable && q.full)) 1 13
  | 0x14 => put (min 65535 q.waiting.length) 16 0
  | _ => 0

/-- An MSI-X table entry at its offset (R379). -/
def MsixEntry.reg (e : MsixEntry) (o : Nat) : Nat :=
  match o with
  | 0x0 => lo32 e.addr
  | 0x4 => hi32 e.addr
  | 0x8 => put e.data 32 0
  | 0xC => b2n e.masked
  | _ => 0

/-- Free atlas slots (R379). -/
def Atlas.freeSlots (a : Atlas) : Nat := 64 - a.slotOf.length

/-- The host queue block (R379). -/
def State.regHost (s : State) (o : Nat) : Nat :=
  let h := s.host
  if o < 0x14 then h.lq.reg o
  else if 0x20 ≤ o ∧ o < 0x34 then h.mq.reg (o - 0x20)
  else if 0x1000 ≤ o ∧ o < 0x1000 + 0x20 * 14 then (getN h.cqs ((o - 0x1000) / 0x20) {}).reg (o % 0x20)
  else if 0xF000 ≤ o ∧ o < 0xF100 then (getN h.msix ((o - 0xF000) / 0x10) {}).reg (o % 0x10)
  else match o with
    | 0x40 => put (b2n h.linkUp) 1 0 + put h.linkSpeed 2 1 + put h.linkWidth 2 3 + put (b2n (h.replayLeft != 0)) 1 5 +
        put h.taken 5 6 + s.shown (put h.atlas.freeSlots 7 11)
    | 0x44 => put h.eventsLost 16 0
    | 0x48 => put h.linkResets 16 0
    | 0x50 => put h.win 7 0
    | 0xF800 => h.pba.toNat
    | _ => 0

/-! DMA (R405). -/

/-- A channel waits at the bound of 4 held records (R390, R397). -/
def DmaChannel.atBound (c : DmaChannel) : Bool := c.state == .active && decide (4 ≤ c.held.length)

/-- The registers' state code of a channel: a feed channel is ACTIVE while its station's decoder fetches (R380, R405). -/
def State.dmaState (s : State) (n : Nat) : DmaState :=
  if n < 6 then
    match (getN s.decoders n {}).state with
    | .streamHeader | .decoding | .ringFull => .active
    | _ => .idle
  else (getN s.dma.channels n {}).state

/-- DMA registers of a channel (R405). -/
def State.regChannel (s : State) (n o : Nat) : Nat :=
  let c := getN s.dma.channels n {}
  match o with
  | 0x00 => put (b2n (s.dmaState n == .active)) 1 0 + put (b2n c.disable) 1 3 + put c.weight 3 8 + put c.errCq 4 12 + put (b2n c.errCqEn) 1 16
  | 0x04 => put (s.dmaState n).code 3 0 + put (b2n c.atBound) 1 3 + put c.lastStatus.code 8 8 + put c.outReads 5 16 + put c.outWrites 7 21 +
      put (min 4 c.held.length) 3 28
  | 0x08 => lo32 c.head
  | 0x0C => hi32 c.head
  | 0x10 => lo32 c.cur
  | 0x14 => hi32 c.cur
  | 0x18 => lo32 c.errAddr
  | 0x1C => hi32 c.errAddr
  | 0x20 => put (b2n c.errDir) 1 0 + put (b2n c.errReadback) 1 1 + put (b2n c.errFetch) 1 2 + put c.errStatus.code 8 8
  | 0x24 => put c.residue 32 0
  | 0x28 => put c.done 32 0
  | 0x2C => put c.halts 16 0 + put c.rsCorr 16 16
  | _ => 0

/-- Whether a station's feed channel holds the feed reservation (R26, R405). -/
def State.feedReserved (s : State) (x : Nat) : Bool :=
  s.layer.feedOwner.isSome && (getN s.decoders x {}).jobSeq == s.layer.feedOwner

/-- The DMA block (R405). -/
def State.regDma (s : State) (o : Nat) : Nat :=
  let cs := s.dma.channels.toList
  if 0x100 ≤ o ∧ o < 0x900 then s.regChannel ((o - 0x100) / 0x40) (o % 0x40)
  else match o with
    | 0x0 => put (min 128 (cs.foldl (fun m c => m + c.outReads) 0)) 8 0 + put (min 32 (cs.foldl (fun m c => m + c.outHost) 0)) 6 8 +
        put (bitsOf 6 s.feedReserved) 6 14
    | 0x4 => bitsOf 32 fun n => s.dmaState n == .active
    | 0x8 => bitsOf 32 fun n => s.dmaState n == .halted
    | 0xC => bitsOf 32 fun n => (getN s.dma.channels n {}).atBound
    | _ => 0

/-! Telemetry (R425). -/

/-- TLM registers of a stream (R425). -/
def State.regStream (s : State) (n o : Nat) : Nat :=
  let t := getN s.telemetry.streams n {}
  match o with
  | 0x00 => put (b2n (t.state == .running)) 1 0 + put t.errCq 4 8 + put (b2n t.errCqEn) 1 12
  | 0x04 => put t.state.code 3 0 + put (b2n (12 ≤ n)) 1 3 + put (b2n t.snapshot) 1 4 +
      put (b2n ((t.buffer.map fun b => inHostMem b.base).getD false)) 1 5 + put t.lastStatus.code 8 8 + put (if 4096 < t.staged.length then t.staged.length - 4096 else t.staged.length) 13 16
  | 0x08 => lo32 t.head
  | 0x0C => hi32 t.head
  | 0x10 => lo32 t.cur
  | 0x14 => hi32 t.cur
  | 0x18 => put t.complete 32 0
  | 0x1C => put t.inTotal 32 0
  | 0x20 => put t.outTotal 32 0
  | 0x24 => put t.blocks 24 0 + put (t.storedBlocks * 100 / max 1 t.blocks) 8 24
  | 0x28 => put t.lost 16 0 + put t.missed 16 16
  | _ => 0

/-- The telemetry block (R425); the codec is between blocks whenever it is read (log entry 21). -/
def State.regTelemetry (s : State) (o : Nat) : Nat :=
  if 0x100 ≤ o ∧ o < 0x500 then s.regStream ((o - 0x100) / 0x40) (o % 0x40)
  else match o with
    | 0x0 => 0x1F + put (bitsOf 16 fun n => (getN s.telemetry.streams n {}).state == .running) 16 16
    | _ => 0

/-! Identity, boot, legend and gazetteer (R432, R457). -/

/-- The identity and global status block (R457). -/
def State.regGlobal (s : State) (o : Nat) : Nat :=
  let b := s.boot
  match o with
  | 0x00 => put b.vendorId 16 0 + put b.deviceId 16 16
  | 0x04 => 1 + put b.romRev 8 8 + put b.patches 7 16
  | 0x08 => lo32 b.serial
  | 0x0C => hi32 b.serial
  | 0x10 => put (b2n b.ready) 1 0 + put b.lastReset.code 3 1 + put (b2n b.dramKept) 1 4 + put (b2n b.otpAlarm) 1 5 + put b.stage.code 8 8 +
      put b.warmResets 16 16
  | 0x14 => put b.dramMib 16 0
  | 0x18 => put b.bootMs 32 0
  | _ => 0

/-- Whether the BOOT section requires a unit (R456, R457). -/
def State.unitRequired (s : State) (e : Nat) : Bool :=
  if e < 24 then (getN s.legend.boot.required (e / 4) []).contains (e % 4)
  else e % 4 == 0 && getN s.legend.boot.auxRequired (e / 4 - 6) false

/-- GZ registers of an entry (R457); a HELD one is identified once no window concerns its port (R449). -/
def State.regUnit (s : State) (e o : Nat) : Nat :=
  let u := getN s.boot.units e {}
  match o with
  | 0x00 => put (if u.state == .held && !s.portInWindow (e / 4) then UnitState.identifying.code else u.state.code) 3 0 + 
      s.shown (put (b2n (s.unitRequired e)) 1 3) + put u.type 8 8 + put u.variant 16 16
  | 0x04 => lo32 u.serial
  | 0x08 => hi32 u.serial
  | 0x0C => put u.fwRev 32 0
  | 0x10 => put (getN u.wear 0 0) 32 0
  | 0x14 => put (getN u.wear 1 0) 32 0
  | 0x18 => put (getN u.wear 2 0) 32 0
  | 0x1C => put u.crcErrors 8 0 + put u.noReply 8 8 + put u.wearLost 8 16 + put u.attaches 8 24
  | _ => 0

/-- Legend status, flash, DRAM and port registers (R457). -/
def State.regBoot (s : State) (o : Nat) : Nat :=
  let b := s.boot
  if 0x80 ≤ o ∧ o < 0xA0 then
    let p := getN b.ports ((o - 0x80) / 4) {}
    put p.link.code 2 0 + put p.misses 8 8 + put p.badFrames 16 16
  else if 0x100 ≤ o ∧ o < 0x500 then s.regUnit ((o - 0x100) / 0x20) (o % 0x20)
  else match o with
    | 0x00 => put b.copy 2 0 + put b.resultA.code 3 2 + put b.resultB.code 3 5 + put (b2n b.unsigned) 1 8
    | 0x04 => put b.failA.1 16 0 + put b.failA.2 16 16
    | 0x08 => put b.failB.1 16 0 + put b.failB.2 16 16
    | 0x0C => lo32 b.header.buildId
    | 0x10 => hi32 b.header.buildId
    | 0x14 => put b.header.totalLen 23 0
    | 0x18 => put b.header.generation 32 0
    | 0x1C => put b.flashMode 2 0 + put b.flashDummy 6 2
    | 0x20 => put b.train 2 0 + put (b2n b.filled) 1 2 + put b.trainMs 16 16
    | _ => 0

/-- Whether a halt stage stands (R430). -/
def bootHalted (b : BootStage) : Bool := b == .haltOtp || b == .haltLegend || b == .haltDdr

/-- The registers of the boot capability (R432): BOOT_STATUS, BOOT_TIME, BOOT_RESET at 0x08, 0x0C, 0x10 (log entry 128). -/
def State.bootCap (s : State) (o : Nat) : Nat :=
  let b := s.boot
  match o with
  | 0x08 => put b.stage.code 8 0 + put (b2n b.ready) 1 8 + put (b2n (bootHalted b.stage)) 1 9 + put b.copy 2 10 +
      put (if b.stage = .haltLegend then b.failA.1 else 0) 16 16
  | 0x0C => put (if b.ready || bootHalted b.stage then b.bootMs else (s.timeUs - b.startUs) / 1000) 32 0
  | 0x10 => put (if s.host.linkLast then RestartKind.linkReset.code else match b.lastReset with
      | .powerOn => RestartKind.powerOn.code
      | .resetN | .perst => RestartKind.perst.code
      | .watchdog => RestartKind.watchdog.code
      | .mqWarmReset => RestartKind.mqWarmReset.code) 3 0
  | _ => 0

/-! OTP (R479). -/

/-- OTP_REGION_r (R479). -/
def Otp.regRegion (o : Otp) (r : Nat) : Nat :=
  let used := ((regionWords r).filter fun a => o.shadow a != 0).length
  put (o.lockCode r) 2 0 + put (b2n (getN o.regionOk r false)) 1 2 + put (b2n (r == 5 && o.customerIgnored)) 1 3 +
    put (b2n (used == 0 && o.senseUs != 0)) 1 4 + put used 9 16

/-- The OTP registers (R479). -/
def Otp.reg (o : Otp) (now off : Nat) : Nat :=
  if 0x10 ≤ off ∧ off < 0x28 then o.regRegion ((off - 0x10) / 4)
  else if 0x100 ≤ off ∧ off < 0x180 then bitsOf 32 fun j => getN o.marginal (32 * ((off - 0x100) / 4) + j) false
  else if 0x180 ≤ off ∧ off < 0x200 then bitsOf 32 fun j => getN o.uncorr (32 * ((off - 0x180) / 4) + j) false
  else if 0x1000 ≤ off ∧ off < 0x2000 then (o.shadow ((off - 0x1000) / 4)).toNat
  else match off with
    | 0x00 => put o.lifeCycle.code 3 0 + put (b2n o.alarm) 1 3 + put o.policy 2 4 + put (b2n o.customerIgnored) 1 6 + put o.causes.toNat 4 8
    | 0x04 => put o.countMarginal 11 0 + put o.countUncorr 11 11 + put o.countCorr 10 22
    | 0x08 => putI o.senseTemp 16 0 + put o.senseUs 16 16
    | 0x40 => put o.addr 10 0
    | 0x44 => o.data.toNat
    | 0x4C => b2n (decide (now < o.busyUntil)) + put (if now < o.busyUntil && o.busySeen then OtpStatus.busy.code else o.status.code) 8 8 +
        put (b2n o.checkOk) 1 16 + put (b2n o.foundMarginal) 1 17 + put o.word 10 18 + put o.pulses 4 28
    | _ => 0

/-! Survey and spares (R498). -/

/-- The island of a ring oscillator (R480). -/
def roIsland (k : Nat) : Nat := ((List.range 14).find? fun i => (islandRos i).contains k).getD 0

/-- The island of a canary (R480). -/
def canaryIsland (c : Nat) : Nat := ((List.range 14).find? fun i => (islandCanaries i).contains c).getD 0

/-- SP_PENDING (R498). -/
def State.regPending (s : State) : Nat :=
  let v := s.survey
  let g := s.legend.survey
  b2n (g.sramSpare && !(v.rowMarks.isEmpty && v.colMarks.isEmpty)) + put (b2n v.lePending.isSome) 1 1 + put (b2n v.sePending.isSome) 1 2 +
    put (b2n (stations.any fun x => s.pixels[x].markedLogical.isSome && s.pixels[x].spareFree && (s.legPixel x).spareEnable)) 1 3 +
    put (b2n (stations.any fun x => s.scan.stations[x].marked && !s.scan.stations[x].failed)) 1 4 + put (b2n s.vcoreDue) 1 5 +
    put (b2n v.capDue) 1 6

/-- The survey block (R498). -/
def State.regSurvey (s : State) (o : Nat) : Nat :=
  let v := s.survey
  let arrays := v.arrays.toList
  let le4 := if s.legendApplied then v.record.le4 else none
  if 0x40 ≤ o ∧ o < 0x78 then
    let i := getN v.islands ((o - 0x40) / 4) {}
    put (i.cap / 1000000) 10 0 + put (b2n (i.cap != 375000000)) 1 10 + put i.slackPs 8 16
  else if 0x100 ≤ o ∧ o < 0x1C0 then
    let k := (o - 0x100) / 4
    let r := getN v.ros k {}
    putI r.degrade 16 0 + s.shown (put (roIsland k) 4 16) + put (b2n r.excluded) 1 20
  else if 0x200 ≤ o ∧ o < 0x260 then
    let k := (o - 0x200) / 4
    let c := getN v.canaries k {}
    put c.slack 6 0 + put (b2n c.fail) 1 6 + s.shown (put (canaryIsland k) 4 8)
  else if 0x800 ≤ o ∧ o < 0xA00 then
    let a := getN v.arrays ((o - 0x800) / 4) {}
    put a.rowsUsed 7 0 + put a.colsUsed 4 7 + put a.assist 2 11 + put a.corrected 16 16
  else match o with
    | 0x000 => put v.state.code 2 0 + put (b2n v.firstDone) 1 2 + put v.surveys 16 16
    | 0x004 => put (min (1048576 - 1) (if v.firstDone then (s.timeUs - v.lastUs) / 1000000 else 0)) 20 0
    | 0x008 => put v.planned 10 0 + put (b2n v.atCeiling) 1 10
    | 0x00C => put v.worstPs 8 0 + put v.worstIsland 4 8
    | 0x400 => put (b2n le4.isNone) 1 0 + put (le4.getD 7) 3 1 + put (b2n v.ses.isNone) 1 4 + put (v.ses.getD 7) 3 5 +
        put (bitsOf 6 fun x => (getN s.pixels x {}).spareFree) 6 8 + put (bitsOf 6 fun x => (getN s.scan.stations x {}).spareFree) 6 14
    | 0x404 => put (arrays.foldl (fun m a => m + (64 - a.rowsUsed)) 0) 14 0 + put (arrays.foldl (fun m a => m + (8 - a.colsUsed)) 0) 11 14 +
        put (min 127 (arrays.filter fun a => 64 ≤ a.rowsUsed && 8 ≤ a.colsUsed).length) 7 25
    | 0x408 => s.regPending
    | 0x40C => s.shown (put v.logSeq 32 0)
    | 0x410 => s.shown (put v.softMap.length 11 0)
    | _ => 0

/-! BAR0 as a whole (R10 to R14). -/

/-- What a register of BAR0 reads; 0 where none lies (R14). -/
def State.reg (s : State) (off : Nat) : Nat :=
  let o := off % 0x10000
  match off / 0x10000 with
  | 0x0 => s.regGlobal o
  | 0x1 => s.regHost o
  | 0x2 => s.regDma o
  | 0x3 => s.regLayer o
  | 0x4 => s.regStation o
  | 0x5 => s.regScan o
  | 0x6 => s.regMotionLoops o
  | 0x7 => if o < 0x800 then s.regPower o else s.regThermal o
  | 0x8 => s.regFaults o
  | 0x9 => s.regTelemetry o
  | 0xA => if o < 0x8000 then s.regBoot o else s.otp.reg s.timeUs (o - 0x8000)
  | 0xB => s.regSurvey o
  | _ => 0

/-- Whether an offset is the low half of a 64-bit quantity, its high half at the next register (R11). -/
def lowHalf (off : Nat) : Bool :=
  let o := off % 0x10000
  match off / 0x10000 with
  | 0x0 => o == 0x08
  | 0x1 => o == 0x00 || o == 0x20 || (0x1000 ≤ o && o < 0x11C0 && o % 0x20 == 0)
  | 0x2 => 0x100 ≤ o && o < 0x900 && (o % 0x40 == 0x08 || o % 0x40 == 0x10 || o % 0x40 == 0x18)
  | 0x3 => o == 0x04 || o == 0x0C
  | 0x5 => 0x100 ≤ o && o < 0x700 && (o % 0x100 == 0x14 || o % 0x100 == 0x1C)
  | 0x6 => o == 0x00 || (0x100 ≤ o && o < 0x1C0 && (o % 0x20 == 0x04 || o % 0x20 == 0x0C)) || (0x200 ≤ o && o < 0x280 && o % 0x10 == 0x04)
  | 0x9 => 0x100 ≤ o && o < 0x500 && (o % 0x40 == 0x08 || o % 0x40 == 0x10)
  | 0xA => o == 0x0C || (0x100 ≤ o && o < 0x500 && o % 0x20 == 0x04)
  | _ => false

/-- The copy that a high half's next read returns, if its low half has been read since its last read (R11; log entry 68). -/
def HostPort.held (off : Nat) (h : HostPort) : Option (BitVec 32) := (h.holding.find? fun p => p.1 == off).map (·.2)

/-- The bytes of a word that a read addresses; the others are not returned and stand at 0 (R10). -/
def enabledBytes (be : BitVec 4) (v : BitVec 32) : BitVec 32 :=
  v &&& BitVec.ofNat 32 ((List.range 4).foldl (fun m i => m + b2n (be.getLsbD i) * (0xFF * 256 ^ i)) 0)

/-- LOW_HALF_READ (R10, R11, R14): a BAR0 read of the bytes enabled, with the full register's side effects. The low half of a
64-bit quantity copies the high half into its holding register, and the next read of that high half returns the copy. -/
def execLowHalfRead (word : Fin 262144) (be : BitVec 4) (s : State) : Host.Outcome State Fault Refusal :=
  let off := 4 * word.val
  let v := (s.host.held off).getD (BitVec.ofNat 32 (s.reg off))
  let copy := BitVec.ofNat 32 (s.reg (off + 4))
  liveIf s.barOpen s <| s.modHost fun h =>
    let kept := h.holding.filter fun p => p.1 != off && !(lowHalf off && p.1 == off + 4)
    { h with
      lastReply := some (enabledBytes be v), lastEnables := be, unsupported := false
      holding := if lowHalf off then (off + 4, copy) :: kept else kept }

end Sys2Proof.Machine
end

