-- ==== Sys2Proof/Machine/Telemetry.lean ====
section
/-! DEFINITION. Telemetry streams, capture records, the codec's blocks, buffers and errors (14 R406 to R425). A block is
coded in one step (log entry 21). -/

namespace Sys2Proof.Machine

open Sys2Proof

/-- One stream changed. -/
def State.modStream (n : Nat) (f : Stream → Stream) (s : State) : State :=
  s.modTelemetry fun t => { t with streams := modN t.streams n f }

/-- A stream. -/
def State.stream (s : State) (n : Nat) : Stream := getN s.telemetry.streams n {}

/-- T12 to T15 (R406). -/
def privileged (n : Nat) : Bool := 12 ≤ n

/-- The legend's fields of a privileged stream (R424). -/
def State.snapOf (s : State) (n : Nat) : LegSnap := getN s.legend.telemetry.snaps (n - 12) {}

/-! Capture records (R407, R408). -/

/-- A capture record (R407). -/
def captureRecord (kind inst time seq : Nat) (body : List Byte) : List Byte :=
  le 1 kind ++ le 1 inst ++ le 2 body.length ++ le 6 time ++ le 2 seq ++ body

/-- One record behind the staged ones; SEQ counts on (R407). -/
def Stream.push (kind inst time : Nat) (body : List Byte) (t : Stream) : Stream :=
  { t with staged := t.staged ++ captureRecord kind inst time t.seq body, lens := t.lens ++ [12 + body.length], seq := wrapAdd 16 t.seq 1 }

/-- A record staged where room for its whole length is left; after a loss a GAP record goes before it, when both fit (R408). -/
def Stream.tryStage (kind inst time : Nat) (body : List Byte) (t : Stream) : Option Stream :=
  if t.episode = 0 then
    if t.staged.length + 12 + body.length ≤ 8192 then some (t.push kind inst time body) else none
  else if t.staged.length + 28 + body.length ≤ 8192 then
    some { (t.push 4 0 time (le 4 t.episode)).push kind inst time body with episode := 0 }
  else none

/-- A record offered to a stream: only a RUNNING one stages; a record without room is lost, and the episode raises
INPUT_LOST once (R408). -/
def State.stageRecord (n kind inst time : Nat) (body : List Byte) (s : State) : State :=
  let t := s.stream n
  if t.state ≠ .running then s
  else match t.tryStage kind inst time body with
    | some u => s.modStream n fun _ => u
    | none =>
      let s := s.modStream n fun t => { t with lost := satAdd 16 t.lost 1, episode := wrapAdd 32 t.episode 1 }
      s.raiseIf (t.episode == 0) .tlmInputLost n

/-- The samples of a snapshot enter the staging buffers as room allows (R416). -/
def Stream.pumpGo : List Sample → Stream → Stream
  | [], t => { t with drain := [] }
  | d :: rest, t =>
    match t.tryStage 1 d.loop d.timeUs d.body with
    | some u => Stream.pumpGo rest u
    | none => { t with drain := d :: rest }

/-- The samples enter; a snapshot that has them all ends with its FLUSH, and a FLUSH with nothing staged is done (R414,
R416). -/
def Stream.pump (t : Stream) : Stream :=
  let t := t.pumpGo t.drain
  let ended := t.snapshot && t.drain.isEmpty && t.postLeft.isEmpty
  let flush := t.flushDue || ended
  if flush && t.staged.isEmpty then { t with flushDue := false, snapshot := t.snapshot && !ended }
  else { t with flushDue := flush }

/-- A legend source of a loop: every DECIM-th period stages its record (R407). -/
def State.traceLoop (d : Sample) (g : LegLoopSource) (s : State) : State :=
  let t := s.stream g.stream
  let count := ((t.decimCount.find? fun p => p.1 == g.loop).map (·.2)).getD 0 + 1
  let due := decide (g.decim ≤ count)
  let rest := t.decimCount.filter fun p => p.1 != g.loop
  if t.state ≠ .running then s
  else
    let s := s.modStream g.stream fun t => { t with decimCount := (g.loop, if due then 0 else count) :: rest }
    s.when due (·.stageRecord g.stream 1 g.loop d.timeUs d.body)

/-- A post-trigger sample waits behind those of the ring (R416). -/
def Stream.postSample (d : Sample) (t : Stream) : Stream :=
  if t.postLeft.any fun p => p.1 == d.loop then
    { t with
      drain := t.drain ++ [d]
      postLeft := (t.postLeft.map fun (p : Nat × Nat) => if p.1 = d.loop then (p.1, p.2 - 1) else p).filter fun (p : Nat × Nat) => p.2 != 0 }.pump
  else t

/-- The ring of a privileged stream takes a sample; what its DRAM area then holds is open (R416, log entry 5). -/
def State.ringSample (n : Nat) (d : Sample) (s : State) : State :=
  let g := s.snapOf n
  let t := s.stream n
  if !g.loops.contains d.loop || t.state == .idle || t.state == .preserved then s
  else
    let (fresh, s) := s.takeBytes (if 0 < g.pre then 16384 else 0)
    let s := s.writeMem g.ringBase fresh
    s.modStream n fun t =>
      let same := ((d :: t.preRing).filter fun p => p.loop == d.loop).take g.pre
      { t with preRing := same ++ t.preRing.filter fun (p : Sample) => p.loop != d.loop }.postSample d

/-- A loop's sample handed to its stream and to the rings that keep it (R407, R416). -/
def State.captureLoop (d : Sample) (s : State) : State :=
  let s := s.each (s.legend.telemetry.sources.filter fun p => p.loop == d.loop) (State.traceLoop d)
  s.each [12, 13, 14, 15] fun n t => t.ringSample n d

/-- A LANE_STATS body: PX_STATUS, PX_LANE_STAT_0 to _4, PX_FORCE_OFF, PX_FAST (R407, R117). -/
def State.laneStats (s : State) (x : Fin 6) : List Byte :=
  let p := s.pixels[x]
  le 4 (s.regPixelStatus x) ++ (List.range 5).flatMap (fun l => le 4 (getN p.lanes l {}).reg) ++ le 4 p.regForce ++ le 4 p.regFast

/-- Whether a station's LANE_STATS record is due: a job of it has ended, or LANE_PERIOD has passed (R407, R424). -/
def State.laneRecordDue (s : State) (x : Fin 6) : Bool :=
  let period := s.legend.telemetry.lanePeriod[x]
  s.telemetry.laneDue[x] || (period != 0 && s.elapsed s.telemetry.laneUs[x] (1000 * period))

/-- A station's LANE_STATS capture. -/
def State.captureLane (x : Fin 6) (s : State) : State :=
  let now := s.timeUs
  let ended := s.telemetry.laneDue[x]
  let body := s.laneStats x
  let s := s.modTelemetry fun t =>
    { t with laneDue := t.laneDue.set x false, laneUs := if ended then t.laneUs else t.laneUs.set x now }
  match s.legend.telemetry.laneStream[x] with
  | some n => s.stageRecord n 2 x.val now body
  | none => s

/-- CAPTURE_RECORD (R407, R408): sources 0 to 52 hand over the loop's sample, the oldest one taken, 53 to 58 the station's LANE_STATS. -/
def execCaptureRecord (src : Fin 59) (s : State) : Host.Outcome State Fault Refusal :=
  let x : Fin 6 := Fin.ofNat 6 (src.val - 53)
  if src.val < 53 then match s.telemetry.due with
    | [] => live s s
    | d :: rest => liveIf (d.loop == src.val) s ((s.modTelemetry fun t => { t with due := rest }).captureLoop d)
  else liveIf (s.boot.ready && s.legend.telemetry.present && s.laneRecordDue x) s (s.captureLane x)

/-- A trigger acted on (R416): the snapshot record, the ring oldest first loop by loop, then the samples to come. -/
def State.snapshot (n : Nat) (record : List Byte) (s : State) : State :=
  let g := s.snapOf n
  let s := s.stageRecord n 3 0 s.timeUs record
  s.modStream n fun t =>
    { t with
      snapshot := true
      drain := (List.range 53).flatMap fun k => (t.preRing.filter fun (d : Sample) => d.loop == k).reverse
      postLeft := (g.loops.map fun k => (k, g.post)).filter fun (p : Nat × Nat) => p.2 != 0 }.pump

/-- SNAPSHOT_TRIGGER (R416, R422): the oldest trigger of stream T12 + n; one during a snapshot is missed. -/
def execSnapshotTrigger (n : Fin 4) (s : State) : Host.Outcome State Fault Refusal :=
  let k := 12 + n.val
  let t := s.stream k
  match t.triggers with
  | [] => live s s
  | r :: rest =>
    let u := s.modStream k fun t => { t with triggers := rest }
    live s <|
      if t.state ≠ .running then u
      else if t.snapshot then (u.modStream k fun t => { t with missed := satAdd 16 t.missed 1 }).raise .tlmSnapMissed k
      else u.snapshot k r

/-! Buffers and records (R417 to R420). -/

/-- A buffer descriptor's fields (R417). -/
def parseBuffer (addr : Nat) (b : List Byte) : TlmBuffer :=
  let c := leAt b 0 4
  { addr := addr, cq := field c 3 0, record := bitOf c 4, irq := bitOf c 5, size := leAt b 4 4, base := leAt b 8 8,
    next := leAt b 16 8 }

/-- Whether a buffer descriptor is in error for a stream (R417, R382). -/
def State.badBuffer (s : State) (n : Nat) (b : List Byte) : Bool :=
  let d := parseBuffer 0 b
  let q := getN s.host.cqs d.cq {}
  field (leAt b 0 4) 31 6 != 0 || !allZero ((b.drop 24).take 8) || decide (d.size < 4096) || decide (2147483648 < d.size) ||
  d.size % 64 != 0 || d.base % 64 != 0 || d.next % 32 != 0 || (d.record && decide (13 < d.cq)) ||
  (!privileged n && decide (d.cq < 14) && q.slot64) ||
  !(decide (dramBase ≤ d.base ∧ d.base < dramBase + s.dramBytes) || (inHostMem d.base && !privileged n))

/-- The source of a stop (R423). -/
def tlmSource : TlmStatus → Option Source
  | .overflow => some .tlmOverflow
  | .busError => some .tlmBusError
  | .descError => some .tlmDescError
  | _ => none

/-- A buffer record (R419) into a queue. -/
def State.bufferRecord (n cq addr used : Nat) (st : TlmStatus) (irq : Bool) (s : State) : State :=
  s.offer cq { dma := true, irq := irq, body := le 8 addr ++ le 4 used ++ le 1 st.code ++ le 1 6 ++ le 1 n ++ le 1 0 }

/-- The record of a status that stops a host stream on an error: the descriptor's queue, else ERR_CQ, else none (R419). -/
def State.stopRecord (n : Nat) (st : TlmStatus) (s : State) : State :=
  let t := s.stream n
  let own := t.buffer.filter fun b => s.takesDma b.cq
  match own with
  | some b => s.bufferRecord n b.cq t.cur t.complete st b.irq
  | none =>
    if t.errCqEn && s.takesDma t.errCq then s.bufferRecord n t.errCq t.cur t.complete st false
    else s.raise .tlmDescError n

/-- A stream stops on an error: its staged input is lost, USED stays at the last complete block or header (R418, R420). -/
def State.stopStream (n : Nat) (st : TlmStatus) (s : State) : State :=
  let s := s.modStream n fun t => { t with
    state := .stopped, lastStatus := st, staged := [], lens := [], lost := satAdd 16 t.lost t.lens.length, episode := 0
    history := [], flushDue := false, snapshot := false, drain := [], postLeft := [] }
  let s := s.modTelemetry fun t => { t with context := if t.context = some n then none else t.context }
  let s := match tlmSource st with
    | some src => s.raise src n
    | none => s
  s.when (!privileged n) (·.stopRecord n st)

/-- A buffer comes into use: its descriptor is read (R417, R420). `host` is what host memory answers. -/
def State.useBuffer (n addr : Nat) (host : Option (Vector Byte 32)) (s : State) : State × Option TlmStatus :=
  let s := s.modStream n fun t => { t with cur := addr, buffer := none, complete := 0 }
  let there := if privileged n then s.inDram addr 32 else !(inHostMem addr && host.isNone)
  if !there || (s.accessFail false addr 32).isSome then (s, some .descError)
  else
    let b := s.readMem addr 32 ((host.map Vector.toList).getD [])
    let s := s.modStream n fun t => { t with buffer := some (parseBuffer addr b) }
    if s.badBuffer n b then (s, some .descError) else (s, none)

/-- NEXT of the buffer in use, read again; none for a failed fetch (R417). -/
def State.readNext (s : State) (b : TlmBuffer) (host : Option (BitVec 64)) : Option Nat :=
  let a := b.addr + 16
  if inHostMem a then host.map BitVec.toNat
  else if (s.accessFail false a 8).isSome then none
  else some (leNat (s.readMem a 8 []))

/-- A full buffer is finished and the next one comes into use; with none the stream stops with OVERFLOW (R418). -/
def State.nextBuffer (n : Nat) (b : TlmBuffer) (ans : TlmAnswer) (s : State) : State × Option TlmStatus :=
  match s.readNext b ans.next with
  | none => (s, some .descError)
  | some 0 => (s, some .overflow)
  | some a =>
    let s := s.when (b.record && !privileged n) (·.bufferRecord n b.cq b.addr b.size .bufferFull b.irq)
    let s := s.modStream n fun t => { t with lastStatus := .bufferFull }
    if a % 32 ≠ 0 then (s, some .descError) else s.useBuffer n a ans.desc

/-- Output bytes into the chain (R418): a buffer that fills gives way to the next, unless the stream's last byte fills it.
The answer is the status that stops the stream. -/
def State.putOut : Nat → Nat → Bool → List Byte → List TlmAnswer → State → State × Option TlmStatus
  | 0, _, _, _, _, s => (s, none)
  | k + 1, n, last, bs, answers, s =>
    match (s.stream n).buffer with
    | none => (s, some .descError)
    | some b =>
      let room := b.size - b.used
      let part := bs.take room
      let a := b.base + b.used
      match s.accessFail true a part.length with
      | some (off, _) => (s.writeMem a (part.take off), some .busError)
      | none =>
        let used := b.used + part.length
        let s := (s.writeMem a part).modStream n fun t => { t with
          buffer := some { b with used := used }, outTotal := wrapAdd 32 t.outTotal part.length }
        let rest := bs.drop room
        if used < b.size || (last && rest.isEmpty) then (s, none)
        else
          let s := s.modStream n fun t => if rest.isEmpty then { t with complete := used } else t
          let r := s.nextBuffer n b (answers.head?.getD { next := none, desc := none })
          if r.2.isNone then State.putOut k n last rest answers.tail r.1 else r

/-- Everything of a block or header has been written: USED moves to its end (R418). -/
def Stream.settleUsed (t : Stream) : Stream := { t with complete := (t.buffer.map (·.used)).getD 0 }

/-! Starting and stopping (R409, R415, R421). -/

/-- The stream header (R409). -/
def streamHeader (n time : Nat) : List Byte :=
  let b : List Byte := [0x54, 0x4C, 0x5A, 0x31, 1] ++ le 1 n ++ le 1 (if privileged n then 2 else 1) ++ [0] ++ le 6 time
  b ++ le 2 (crc16 b)

/-- A new stream begins: its descriptor is read and its header written (R409, R415, R421). -/
def State.openStream (n head : Nat) (host : Option (Vector Byte 32)) (s : State) : State :=
  let s := s.modTelemetry fun t => { t with context := if t.context = some n then none else t.context }
  let s := s.modStream n fun t => { t with
    state := .running, snapshot := false, staged := [], lens := [], inTotal := 0, outTotal := 0, episode := 0, seq := 0
    history := [], resetNext := false, flushDue := false, drain := [], postLeft := [], triggers := [], decimCount := [] }
  let r := s.useBuffer n head host
  match r.2 with
  | some st => r.1.stopStream n st
  | none =>
    let q := r.1.putOut 1 n false (streamHeader n s.timeUs) []
    match q.2 with
    | some st => q.1.stopStream n st
    | none => q.1.modStream n fun t => { t.settleUsed with outTotal := 0 }

/-- TLM_START (R415): START written for a host stream that is IDLE or STOPPED; ignored for T12 to T15. -/
def execTlmStart (n : Fin 16) (host : Option (Vector Byte 32)) (s : State) : Host.Outcome State Fault Refusal :=
  let t := s.telemetry.streams[n]
  liveIf (s.barOpen && !privileged n && (t.state == .idle || t.state == .stopped)) s (s.openStream n t.head host)

/-- TLM_STOP (R415): STOP written for a RUNNING host stream, which stages nothing more; its last block follows. -/
def execTlmStop (n : Fin 16) (s : State) : Host.Outcome State Fault Refusal :=
  liveIf (s.barOpen && !privileged n && s.telemetry.streams[n].state == .running) s
    (s.modStream n fun t => { t with state := .stopping })

/-- TLM_FLUSH (R414): bits 12 to 15 of the value written end the open blocks of those streams. -/
def execTlmFlush (value : BitVec 32) (s : State) : Host.Outcome State Fault Refusal :=
  liveIf s.barOpen s <| s.each ([12, 13, 14, 15].filter fun n => value.getLsbD n) fun n s =>
    s.modStream n fun t => if t.state = .running ∧ !t.staged.isEmpty then { t with flushDue := true } else t

/-- TLM_REARM (R421): a stopped or preserved privileged stream begins again at the head of its chain. -/
def execTlmRearm (value : BitVec 32) (s : State) : Host.Outcome State Fault Refusal :=
  liveIf (s.barOpen && s.legend.telemetry.present) s <| s.each ([12, 13, 14, 15].filter fun n => value.getLsbD n) fun n s =>
    let st := (s.stream n).state
    s.when (st == .stopped || st == .preserved) (·.openStream n (s.snapOf n).chain none)

/-- Whether a privileged stream's first buffer still begins with a stream header that passes its CRC (R421). -/
def State.headerKept (s : State) (n : Nat) : Bool :=
  let a := (s.snapOf n).chain
  let d := parseBuffer a (s.readMem a 32 [])
  let h := s.readMem d.base 16 []
  s.inDram a 32 && (s.accessFail false a 32).isNone && s.inDram d.base 16 && (s.accessFail false d.base 16).isNone &&
  h.take 4 == [0x54, 0x4C, 0x5A, 0x31] && leAt h 14 2 == crc16 (h.take 14)

/-- The privileged streams at READY: PRESERVED after a warm reset that kept DRAM and their header, otherwise started (R421). -/
def State.startPrivileged (s : State) : State :=
  s.when s.legend.telemetry.present fun s => s.each [12, 13, 14, 15] fun n s =>
    if s.boot.dramKept && s.headerKept n then s.modStream n fun t => { t with state := .preserved }
    else s.openStream n (s.snapOf n).chain none

/-! The codec (R410 to R414). -/

/-- Copying `m` bytes one at a time from an offset back; the output stands newest first. -/
def copyBack : Nat → Nat → List Byte → Option (List Byte)
  | 0, _, out => some out
  | m + 1, off, out =>
    match out[off - 1]? with
    | some b => copyBack m off (b :: out)
    | none => none

/-- The R411 decoder: items from a payload onto the output, newest first, with the block's last offset; `fuel` items. -/
def decodeItems : Nat → List Byte → Option Nat → List Byte → Option (List Byte)
  | _, [], _, out => some out
  | 0, _, _, _ => none
  | k + 1, t :: rest, last, out =>
    let low := t.toNat % 64
    match t.toNat / 64 with
    | 0 => if rest.length ≤ low then none else decodeItems k (rest.drop (low + 1)) last ((rest.take (low + 1)).reverse ++ out)
    | 1 =>
      match rest with
      | b :: rest =>
        let off := low % 8 * 256 + b.toNat + 1
        (copyBack (low / 8 + 3) off out).bind fun out => decodeItems k rest (some off) out
      | [] => none
    | 2 =>
      match rest with
      | b0 :: b1 :: rest =>
        let off := b0.toNat + 256 * b1.toNat + 1
        if 32768 < off then none else (copyBack (low + 3) off out).bind fun out => decodeItems k rest (some off) out
      | _ => none
    | _ =>
      match last with
      | some off => (copyBack (low + 3) off out).bind fun out => decodeItems k rest (some off) out
      | none => none

/-- Whether a payload decodes, over a history given newest first, to exactly the block's input (R411). -/
def payloadOk (history input payload : List Byte) : Bool :=
  decodeItems (payload.length + 1) payload none history == some (input.reverse ++ history)

/-- Whether the codec may take a stream's block (R413). -/
def Stream.blockDue (t : Stream) : Bool :=
  match t.state with
  | .running => decide (4096 ≤ t.staged.length) || (t.flushDue && !t.staged.isEmpty)
  | .stopping => true
  | _ => false

/-- The stream whose block is taken: T12 to T15 lowest first, then T0 to T11 in turn (R413). -/
def State.codecTurn (s : State) : Option Nat :=
  let due (n : Nat) : Bool := (s.stream n).blockDue
  ([12, 13, 14, 15].find? due).or (((List.range 12).map fun k => (s.telemetry.turn + k) % 12).find? due)

/-- The slot of a stream's context in DRAM (R412). -/
def State.contextSlot (s : State) (n : Nat) : Nat := s.legend.telemetry.contextBase + n * 36864

/-- The codec moves to a host stream's context: that of another is saved, its own restored when it has coded before; a
restore that meets an uncorrectable codeword discards it (R412). What the slot holds is open (log entry 5). -/
def State.switchContext (n : Nat) (s : State) : State :=
  if privileged n || s.telemetry.context == some n then s
  else
    let s := match s.telemetry.context with
      | some m =>
        let (fresh, s) := s.takeBytes 33024
        s.writeMem (s.contextSlot m) fresh
      | none => s
    let s := s.modTelemetry fun t => { t with context := some n }
    if !(s.stream n).history.isEmpty && (s.accessFail false (s.contextSlot n) 33024).isSome then
      (s.modStream n fun t => { t with history := [], resetNext := true }).raise .tlmContextLost n
    else s

/-- Bytes consumed off the front of the record lengths. -/
def eatLens : List Nat → Nat → List Nat
  | [], _ => []
  | l :: ls, k => if l ≤ k then eatLens ls (k - l) else (l - k) :: ls

/-- A block's 8-byte header (R410). -/
def blockHeader (inLen outLen : Nat) (stored final flushed reset : Bool) (input : List Byte) : List Byte :=
  le 2 (inLen + 8192 * b2n stored + 16384 * b2n final + 32768 * b2n flushed) ++ le 2 (outLen + 8192 * b2n reset) ++
    le 4 (if inLen = 0 then 0 else crc32 input)

/-- A block written whole: the totals, the history, what stays staged (R410, R412). -/
def Stream.blockOut (n : Nat) (input : List Byte) (stored flushed : Bool) (t : Stream) : Stream :=
  { t.settleUsed with
    inTotal := wrapAdd 32 t.inTotal input.length, blocks := satAdd 24 t.blocks 1
    storedBlocks := if stored then satAdd 24 t.storedBlocks 1 else t.storedBlocks
    staged := t.staged.drop input.length, lens := eatLens t.lens input.length, resetNext := false
    history := if privileged n then [] else (input.reverse ++ t.history).take 32768
    flushDue := t.flushDue && !flushed
    snapshot := t.snapshot && !(flushed && t.drain.isEmpty && t.postLeft.isEmpty) }

/-- A block written whole; a last block ends the stream (R415). -/
def State.blockDone (n : Nat) (input : List Byte) (stored final flushed : Bool) (s : State) : State :=
  let s := s.modStream n fun t =>
    let t := t.blockOut n input stored flushed
    if final then { t with state := .stopped, lastStatus := .stopped, history := [] } else t.pump
  let s := s.modTelemetry fun t => { t with
    turn := if privileged n then t.turn else (n + 1) % 12
    context := if final ∧ t.context = some n then none else t.context }
  let t := s.stream n
  match t.buffer with
  | some b => s.when (final && b.record) (·.bufferRecord n b.cq t.cur t.complete .stopped b.irq)
  | none => s

/-- Input bytes of a stream's next block (R410). -/
def Stream.blockInput (t : Stream) : List Byte := t.staged.take 4096

/-- Whether a block is STORED: its payload would not be shorter than its input (R411). -/
def Stream.blockStored (t : Stream) (payload : List Byte) : Bool :=
  !t.blockInput.isEmpty && decide (t.blockInput.length ≤ payload.length)

/-- Whether R411 allows a payload for a stream's next block: it decodes to the block's input, or the block is STORED or empty. -/
def Stream.payloadFits (n : Nat) (payload : List Byte) (t : Stream) : Bool :=
  t.blockStored payload || t.blockInput.isEmpty ||
    payloadOk (if privileged n || t.resetNext then [] else t.history) t.blockInput payload

/-- The codec codes one block of a stream and writes it out (R410 to R418): one written whole before its buffer's end stops the
stream is a complete block. -/
def State.codeBlock (n : Nat) (payload : List Byte) (answers : List TlmAnswer) (s : State) : State :=
  let t := s.stream n
  let input := t.blockInput
  let final := t.state == .stopping && decide (t.staged.length ≤ 4096)
  let flushed := t.flushDue && decide (t.staged.length < 4096)
  let stored := t.blockStored payload
  let body := if input.isEmpty then [] else if stored then input else payload
  let out := blockHeader input.length body.length stored final flushed t.resetNext input ++ body
  let r := s.putOut 4 n final out answers
  match r.2 with
  | some st =>
    let whole := (r.1.stream n).outTotal == wrapAdd 32 t.outTotal out.length
    (r.1.when whole (·.modStream n (·.blockOut n input stored flushed))).stopStream n st
  | none => r.1.blockDone n input stored final flushed

/-- BLOCK_CODE (R410 to R418): the payload is the codec's choice among those that R411 allows; `answers` is what host memory
returns at each change of buffer, `found` names codewords found uncorrectable. -/
def execBlockCode (payload : List Byte) (answers : List TlmAnswer) (found : List (Bool × Nat)) (s : State) :
    Host.Outcome State Fault Refusal :=
  match s.codecTurn with
  | none => live s s
  | some n =>
    let t := (s.spoil found).switchContext n
    liveIf ((t.stream n).payloadFits n payload) s (t.codeBlock n payload answers)

/-- TLM_WRITE_ERROR (R420): an access of a stream ends in an error, on its output or on a descriptor fetch. -/
def execTlmWriteError (n : Fin 16) (fetch : Bool) (s : State) : Host.Outcome State Fault Refusal :=
  let st := s.telemetry.streams[n].state
  liveIf (st == .running || st == .stopping) s (s.stopStream n (if fetch then .descError else .busError))

/-- A host-link reset ends the host streams that write host memory in bus errors (R398, R420). -/
def State.tlmLinkReset (s : State) : State :=
  s.each (List.range 12) fun n s =>
    let t := s.stream n
    let hostMem := (t.buffer.map fun b => inHostMem b.base).getD false
    s.when (hostMem && (t.state == .running || t.state == .stopping)) (·.stopStream n .busError)

end Sys2Proof.Machine
end

