-- ==== Sys2Proof/Machine/Reset.lean ====
section
/-! DEFINITION. Resets: power-on, warm resets of every kind, what each keeps, TEST_EN, the host-link reset
(15 R426 to R428; 11 R339, R344; 10 R292, R309; 12 R349, R368, R379; 13 R398; 18 R504, R505, R508, R517, R525). -/

namespace Sys2Proof.Machine

open Sys2Proof

/-! What a warm reset keeps (R426). -/

/-- The fault collector across a warm reset (R344): the Grave latch, standing instances, restrictions and registers stay;
every count and window restarts; ALIVE and LEN are low; live thresholds return to the legend (R367). -/
def Faults.warm (now : Nat) (f : Faults) : Faults :=
  { f with
    insts := f.insts.map fun i => { i with counted := [], logged := [], suppressed := 0, recordUs := none, lastUs := now }
    alive := false, aliveRun := false, supOk := false, beat := false, missed := 0, len := false, thresholds := [] }

/-- The PSE across a warm reset (R292): a running program, the rails, the flags and the Uliber counter stay; only what R530
holds for a device that ran through the shutdown is dropped. -/
def Power.warm (p : Power) : Power := { p with afterShut := false, resumeDue := false }

/-- The thermal block across a warm reset (R289): CRIT_LATCHED stays while a shutdown is in progress; the comparators in AON
act on. -/
def Thermal.warm (shutdown : Bool) (t : Thermal) : Thermal :=
  { critLatched := t.critLatched && shutdown, shutdown := t.shutdown, trip := t.trip }

/-- The atlas as MRAM keeps it (R370): the two copies. -/
def Atlas.kept (a : Atlas) : Atlas := { copies := a.copies }

/-- The survey's MRAM (R490, R493, R494): the soft map, the spares in use, the spare log. -/
def Survey.kept (v : Survey) : Survey :=
  { softMap := v.softMap, record := v.record, log := v.log, logHead := v.logHead, logSeq := v.logSeq }

/-- The host side across a reset (R379): HQ_LINK_RESETS in AON and the atlas in MRAM; what the device has sent is sent. -/
def HostPort.warm (h : HostPort) : HostPort :=
  { atlas := h.atlas.kept, linkResets := h.linkResets, writes := h.writes, msixSent := h.msixSent }

/-- The antifuse array, which no reset clears (R458, R477). -/
def Otp.kept (o : Otp) : Otp := { array := o.array }

/-- The boot block after a warm reset (R427, R457): the boot resumes at step 3. -/
def Boot.warm (cause : ResetCause) (kept : Bool) (now : Nat) (b : Boot) : Boot :=
  { stage := .otp, lastReset := cause, dramKept := kept && (b.filled || b.ready || b.dramKept), warmResets := satAdd 16 b.warmResets 1
    startUs := now, resetN := b.resetN, perstN := b.perstN, aonUp := b.aonUp, savedTrims := b.savedTrims }

/-- Every island but AON reset (R427 step 4, R508). A station that is forced off stays so until BD_ON (R112). -/
def State.resetIslands (s : State) : State :=
  { pending := s.pending, free := s.free, timeUs := s.timeUs, legend := s.legend
    faults := s.faults.warm s.timeUs, power := s.power.warm
    pixels := mapV (fun p => { forced := p.forced }) s.pixels
    thermal := s.thermal.warm (isShutdown s.power.program), host := s.host.warm, otp := s.otp.kept
    survey := s.survey.kept, boot := s.boot, pins := s.pins, memory := s.memory, logs := s.logs }

/-- Steps 1 and 2 of R427: the layer made safe inside a committed window, the DMA channels stopped. -/
def State.beforeReset (s : State) : State :=
  let s := s.when s.windowOpen (·.cutLayer .warmReset)
  s.each (List.range 32) fun n s => s.disableChannel n 0 0 0

/-- A warm reset (R426, R427): `kept` tells whether the DDR4 controller entered self-refresh within 2 µs. -/
def State.warmReset (cause : ResetCause) (kind : RestartKind) (kept : Bool) (s : State) : State :=
  let now := s.timeUs
  let s := s.beforeReset.resetIslands
  let s := s.modBoot (Boot.warm cause kept now)
  s.modHost fun h => { h with restartKind := kind, linkResets := h.linkResets }

/-- EXTERNAL_WARM_RESET (R426 to R428): RESET_N low for 1 µs, or a falling edge of PERST# after configuration has opened;
before that PERST# holds only the HOST island. -/
def execExternalWarmReset (perst kept : Bool) (s : State) : Host.Outcome State Fault Refusal :=
  liveIf s.aonUp s <|
    if perst then
      let t := s.modBoot fun b => { b with perstN := false }
      if s.host.configOpen then t.warmReset .perst .perst kept else t
    else
      let t := (s.warmReset .resetN .perst kept).modBoot fun b => { b with resetN := false }
      if s.boot.resetN then t else s

/-- RESET_N_RELEASE (R517): the boot continues from step 3; a boot after power-on keeps its kind. -/
def execResetNRelease (s : State) : Host.Outcome State Fault Refusal :=
  let now := s.timeUs
  liveIf (s.aonUp && !s.boot.resetN) s (s.modBoot fun b => { b with resetN := true, stage := .otp, startUs := now })

/-- WATCHDOG_RESET (R339): WDOG_TIMEOUT since the supervisor's last heartbeat. -/
def execWatchdogReset (kept : Bool) (s : State) : Host.Outcome State Fault Refusal :=
  liveIf (s.boot.ready && s.elapsed s.faults.beatUs (1000 * s.legend.faults.wdogTimeout)) s (s.warmReset .watchdog .watchdog kept)

/-! Power-on reset (R505). -/

/-- POWER_ON_RESET_ASSERT (R426, R504, R505): everything but MRAM and the antifuses is reset; AON stops. -/
def execPowerOnResetAssert (s : State) : Host.Outcome State Fault Refusal :=
  .next
    { State.reset with
      pending := s.pending, free := s.free, logs := s.logs, otp := s.otp.kept, survey := s.survey.kept
      host := { s.host.warm with linkResets := 0 }
      boot := { savedTrims := s.boot.savedTrims, resetN := s.boot.resetN, perstN := s.boot.perstN }
      pins := s.pins }

/-- The current slot of a rail's counters (R309): a valid one whose SEQ is ahead. -/
def currentSlot (slots : Vector (List Byte) 2) (rail : Nat) : Option Nat :=
  let ok (i : Nat) : Bool :=
    let b := getN slots i []
    b.length == 32 && leAt b 30 2 == crc16 (b.take 30) && byteAt b 4 == rail && byteAt b 5 == 1
  let sq (i : Nat) : Nat := leAt (getN slots i []) 0 4
  match ok 0, ok 1 with
  | true, true => some (if (sq 1 + 4294967296 - sq 0) % 4294967296 ≤ 2147483648 ∧ sq 1 ≠ sq 0 then 1 else 0)
  | true, false => some 0
  | false, true => some 1
  | false, false => none

/-- Counters from a slot's record (R308). -/
def countsOf (b : List Byte) (slot : Nat) : RailCounts :=
  { uv := leAt b 8 4, ov := leAt b 12 4, pgLate := leAt b 16 4, pgLost := leAt b 20 4, offFail := leAt b 24 4, seq := leAt b 0 4
    slot := slot }

/-- The rail counters loaded at AON start; a rail with no valid slot starts at 0 and is named by COUNTER_LOST (R309, R310). -/
def State.loadCounters (s : State) : State :=
  s.each (List.range 32) fun n s =>
    let slots := getN s.logs.counters n (Vector.replicate 2 [])
    match currentSlot slots n with
    | some i => s.modPower fun p => { p with counts := modN p.counts n fun _ => countsOf (getN slots i []) i }
    | none => s.powerLog 0x0B 0 0xFF n 0

/-- POWER_ON_RESET (R429, R505, R525): steps 1 and 2; the levels of RESET_N, PERST# and TEST_EN as the release finds them. -/
def execPowerOnReset (resetN perstN testEn : Bool) (s : State) : Host.Outcome State Fault Refusal :=
  if s.aonUp then live s s
  else
    let s := s.modBoot fun b => { b with
      aonUp := true, resetN := resetN, perstN := perstN, stage := if resetN then .otp else .aonUp, startUs := 0 }
    let s := s.modPins fun p => { p with testEn := testEn, unspecified := p.unspecified && testEn }
    let pin := s.pins.lsafePin
    let s := (s.modTimeUs fun _ => 0).modFaults fun f => { f with lsafe := pin, lsafeUs := 0 }
    .next (s.loadCounters.raiseIf (!pin) .faultLsafe 0)

/-- TEST_EN_ASSERT (R508, R525): every island but AON resets and LEN goes low; nothing is specified from here until TEST_EN
is low and a power-on reset has followed. -/
def execTestEnAssert (s : State) : Host.Outcome State Fault Refusal :=
  live s (s.resetIslands.modPins fun p => { p with testEn := true, unspecified := true })

/-! The host-link reset (R349, R379, R398). -/

/-- A completion queue after a host-link reset: its registers reset, its records kept (R349, R379). -/
def CompQueue.linkReset (n : Nat) (q : CompQueue) : CompQueue := { slot64 := n == 0, waiting := q.waiting }

/-- The host queue block after a host-link reset (R349, R374, R379): rings and queues disabled, taken commands kept; from
READY on every unreported job's records are due again, and a RESTART record not yet written keeps its kind. -/
def HostPort.linkReset (ready : Bool) (speed width : Nat) (h : HostPort) : HostPort :=
  let keep := h.restartDue || !ready
  let ended : List Nat := if ready then h.atlas.finals.map (·.1) else []
  { h with
    lq := {}, mq := {}, linkUp := true, linkSpeed := speed, linkWidth := width, replayLeft := 0, eventsLost := 0
    linkResets := satAdd 16 h.linkResets 1, win := 0, cqs := mapIdxV CompQueue.linkReset h.cqs
    msix := Vector.replicate 16 {}, pba := 0, lastReply := none, lastBytes := [], poisoned := false, unsupported := false, crs := false
    holding := [], lastEnables := 0, lqOpen := false, restartDue := h.restartDue || ready, linkLast := true
    restartKind := if keep then h.restartKind else .linkReset
    requeued := if keep then h.requeued else 0, interrupted := if keep then h.interrupted else 0
    dataLost := if keep then h.dataLost else 0
    atlas := { h.atlas with again := h.atlas.again ++ ended.filter (fun q => !h.atlas.again.contains q), written := [] } }

/-- HOST_LINK_RESET (R349, R374, R379, R398, R420): once configuration has opened; only the HOST island, the configuration
space and the host queue block reset; channels 8 to 31 stop; the device's work goes on. -/
def execHostLinkReset (speed width : Fin 4) (s : State) : Host.Outcome State Fault Refusal :=
  let t := s.each ((List.range 24).map (· + 8)) fun n s => s.disableChannel n 0 0 0
  let t := t.modDma fun d => { d with channels := mapIdxV (fun n c => if 8 ≤ n then {} else c) d.channels }
  let t := (t.modHost (HostPort.linkReset s.boot.ready speed width)).raise .hostLinkReset 0
  liveIf s.host.configOpen s t.tlmLinkReset

end Sys2Proof.Machine
end

