-- ==== Sys2Proof/Machine/Boot.lean ====
section
/-! DEFINITION. The boot from the legend to READY: the copies checked, the legend applied, training, spares, discovery,
configuration, recovery of DRAM and the atlas, READY, the halts (15 R429 to R442, R451, R453; 12 R371 to R374; 04 R129; 10 R291,
R292; 17 R493). -/

namespace Sys2Proof.Machine

open Sys2Proof

/-! One legend copy (R434 to R438, R527). -/

/-- What a check of a copy finds: its result, and the section and field of the first failure; a field that R527 does not
give is open. -/
structure CopyVerdict where
  /-- RESULT -/
  result : LegResult
  /-- TYPE of the first failure, where the manual gives it -/
  type : Option Nat := some 0
  /-- FIELD of the first failure, where the manual gives it -/
  field : Option Nat := some 0

/-- The first header field that fails, in the order of R438, by its index in R434. -/
def headerFails (b : List Byte) : Option Nat :=
  let total := leAt b 8 4
  ([(0, leAt b 0 4 == 0x444E474C), (1, leAt b 4 2 == 1), (2, leAt b 6 2 == 64), (3, inN 304 4194304 total && total % 8 == 0),
    (4, inN 2 15 (leAt b 12 2)), (7, leAt b 24 4 == 0x4136584C), (5, leAt b 14 2 == 0), (9, allZero ((b.drop 32).take 28)),
    (10, leAt b 60 4 == crc32 (b.take 60))].find? fun t => !t.2).map (·.1)

/-- The sections found, by TYPE, offset of the header and LENGTH, or the TYPE and field of R435 at which framing fails;
`left` sections remain, the last of which is SIGNATURE and ends at TOTAL_LEN. -/
def readSections (b : List Byte) (total : Nat) : Nat → Nat → Option Nat → List (Nat × Nat × Nat) → (List (Nat × Nat × Nat)) ⊕ (Nat × Nat)
  | 0, _, _, found => .inl found
  | left + 1, off, prev, found =>
    if total < off + 16 then .inr (0, 0)
    else
      let type := leAt b off 2
      let len := leAt b (off + 4) 4
      let next := off + 16 + (len + 7) / 8 * 8
      let rising := match prev with
        | some p => decide (p < type)
        | none => true
      if !rising || (left == 0 && type != 0xFFFF) then .inr (type, 0)
      else if leAt b (off + 2) 2 ≠ 1 then .inr (type, 1)
      else if total < next || (left == 0 && next != total) || !allZero ((b.drop (off + 16 + len)).take (next - off - 16 - len)) then .inr (type, 2)
      else if leAt b (off + 8) 4 ≠ 0 then .inr (type, 3)
      else if leAt b (off + 12) 4 ≠ crc32 ((b.drop off).take 12 ++ (b.drop (off + 16)).take (next - off - 16)) then .inr (type, 4)
      else readSections b total left next (some type) (found ++ [(type, off, len)])

/-- The key hash in force: the shadow words, or 0 in RETIRED (R460, R469). -/
def Otp.keyHash (o : Otp) : List Byte :=
  if o.lifeCycle = .retired then List.replicate 48 0
  else (List.range 12).flatMap fun k => le 4 (getN o.shadows (0x240 + k) 0).toNat

/-- Whether the signature is not checked: no key hash, and BLANK, VENDOR_TEST or PROVISION (R437). -/
def Otp.unsignedAllowed (o : Otp) : Bool :=
  allZero o.keyHash && match o.lifeCycle with
    | .blank | .vendorTest | .provision => true
    | _ => false

/-- Whether a copy's signature section, at an offset, authenticates what precedes it (R437). -/
def authentic (keyHash b : List Byte) (off len : Nat) : Bool :=
  let body := (b.drop (off + 16)).take len
  let key := body.take 97
  !allZero keyHash && len == 200 && allZero ((body.drop 97).take 7) && sha384 key == keyHash &&
    ecdsaVerify key (sha384 (b.take off)) (beNat ((body.drop 104).take 48)) (beNat ((body.drop 152).take 48))

/-- The first refusal of the content, section by section in ascending type: an unknown type, a missing section, a body of
another length, then the section's own refusals (R436, R438). -/
def contentFails (c : LegendCopy) (found : List Nat) : Option (Nat × Option Nat) :=
  let unknown := found.filter fun t => !inN 1 14 t && t != 0xFFFF
  let order : List Nat := unknown.filter (· == 0) ++ (List.range 14).map (· + 1) ++ unknown.filter (· != 0) ++ [0xFFFF]
  order.findSome? fun (t : Nat) =>
    if unknown.contains t then some (t, none)
    else if !found.contains t then (if t = 0xD then none else some (t, none))
    else if c.badLength.contains t then some (t, none)
    else (sectionFails c t).map fun f => ((t, some f) : Nat × Option Nat)

/-- A copy checked in the order of R438. -/
def checkCopy (o : Otp) (c : LegendCopy) : CopyVerdict :=
  let b := c.bytes
  if c.readError then { result := .readError, type := none, field := none }
  else match headerFails b with
    | some f => { result := .header, field := some f }
    | none =>
      match readSections b (leAt b 8 4) (leAt b 12 2) 64 none [] with
      | .inr (t, f) => { result := .framing, type := some t, field := some f }
      | .inl found =>
        let signed := match found.getLast? with
          | some (_, off, len) => authentic o.keyHash b off len
          | none => false
        if !o.unsignedAllowed && !signed then { result := .signature, type := some 0xFFFF, field := none }
        else match contentFails c (found.map (·.1)) with
          | some (t, f) => { result := .content, type := some t, field := f }
          | none => { result := .ok }

/-- The numbers of a failure as the registers hold them; what the manual leaves open is a free value (log entry 5). -/
def State.failNumbers (v : CopyVerdict) (s : State) : (Nat × Nat) × State :=
  let (a, s') := s.takeNat
  let (b, s') := s'.takeNat
  let t := (v.type.getD (a % 65536), v.field.getD (b % 65536))
  if v.type.isNone || v.field.isNone then (t, s') else (t, s)

/-- The legend of a copy in use: without its TELEMETRY section nothing is captured (R436). -/
def copyLegend (c : LegendCopy) : Legend :=
  let found : List Nat := match readSections c.bytes (leAt c.bytes 8 4) (leAt c.bytes 12 2) 64 none [] with
    | .inl l => l.map (·.1)
    | .inr _ => []
  { c.content with telemetry := if found.contains 0xD then { c.content.telemetry with present := true } else {} }

/-- The header of a copy (R434). -/
def copyHeader (c : LegendCopy) : LegendHeader :=
  { totalLen := leAt c.bytes 8 4, buildId := leAt c.bytes 16 8, generation := leAt c.bytes 28 4 }

/-! The legend applied (R439, R429 step 7). -/

/-- The pixel clocks at the legend's first speed entry: multiplier, dividers, schedules in FREE, a calibration due at every
station (R124, R129, R137). -/
def State.startClocks (s : State) : State :=
  let n := (speedEntry s.legend.scan 0).2
  let sigma := s.effectiveSigma 0
  let g := s.legend.scan
  let s := s.modScan fun c => { c with
    pllN := n, pllLocked := true, gated := false, relocking := false, sigma := sigma, code := 0, sscDepth := g.sscDepth, sscRate := g.sscRate
    laneLocked := true }
  let s := s.loadDividers n sigma
  s.modScan fun c => { c with stations := Vector.ofFn fun x => { c.stations[x].restart (s.tSw x) with calDue := true } }

/-- The loop engines run, LE4 spare, the heaters' set-points at SP_INIT (R210, R236, R491). -/
def State.startEngines (s : State) : State :=
  let zones := s.legend.loops.zones
  s.modLoops fun l => { l with
    engines := mapIdxV (fun i (e : Engine) => if i < 4 then { e with state := .run, serves := i } else { e with state := .spareIdle, serves := 7 }) l.engines
    heaters := mapIdxV (fun z (h : Heater) => { h with target := (getN zones z {}).spInit }) l.heaters }

/-- The PSE under the new legend: its programs unless one runs, VOUT_COMMAND at VCORE_INIT, ULB_SYNC_N released where Uliber is
not enabled (R291, R292, R311). -/
def State.startPower (s : State) : State :=
  let g := s.legend.power
  s.modPower fun p => { p with
    stored := if p.program = .none then some g else p.stored
    voutReq := g.vcoreInit, voutTarget := g.vcoreInit, frozen := false
    syncDrive := p.syncDrive && g.ulbEnable }

/-- BOOT_ISLANDS (R168, R439): the legend in force, every island started by it, the compare outputs at their idle levels. -/
def State.applyLegend (g : Legend) (s : State) : State :=
  let running := s.power.program != .none
  let old := s.legend.power
  let s := s.when running (·.modPower fun p => { p with stored := some (p.stored.getD old) })
  let s := (s.modLegend fun _ => g).modLegendApplied fun _ => true
  let s := s.startClocks.startEngines.startPower.compareIdle
  let s := s.modMotion fun m => { m with
    servos := mapIdxV (fun a (v : Servo) => { v with commOffset := (getN g.motion.servos a {}).commOffset }) m.servos }
  s.modBoot fun b => { b with
    stage := .ddr
    ports := mapIdxV (fun i (p : JzPort) => { p with link := if getN g.boot.portEnable i false then .idle else .disabled }) b.ports }

/-- Whether the records that R466 asks for are in MRAM: step 4 of R429 has begun. -/
def State.marginalDurable (s : State) : Bool :=
  !(s.faults.queue.any fun e => e.src == Source.otpMarginal.number) && s.faults.records.isEmpty

/-- The copy in use, applied (R438, R439). -/
def State.useCopy (n : Nat) (c : LegendCopy) (s : State) : State :=
  ((s.modBoot fun b => { b with copy := n, header := copyHeader c }).raiseIf (n == 2) .legendCopyABad 0).applyLegend (copyLegend c)

/-- The read mode and dummy cycles of the flash: 1-4-4 where its table advertises it, otherwise 1-1-4, otherwise 1-1-1 (R433). -/
def flashRead (quad dual : Option (Fin 64)) (fast : Fin 64) : Nat × Nat :=
  match quad, dual with
  | some d, _ => (2, d)
  | none, some d => (1, d)
  | none, none => (0, fast)

/-- BOOT_LEGEND (R433 to R439, R527): copy A, else copy B, else the halt; the dummy cycles are those that the flash's SFDP table
gives for each read mode that it advertises. -/
def execBootLegend (quad dual : Option (Fin 64)) (fast : Fin 64) (a b : LegendCopy) (s : State) : Host.Outcome State Fault Refusal :=
  let va := checkCopy s.otp a
  let vb := checkCopy s.otp b
  let okA := va.result == .ok
  let okB := vb.result == .ok
  let open' := s.otp.unsignedAllowed && (va.result == .ok || va.result == .content || (!okA && (vb.result == .ok || vb.result == .content)))
  liveIf (s.boot.stage == .legend && s.marginalDurable) s <|
    let ra := if okA then ((0, 0), s) else s.failNumbers va
    let rb := if okA || okB then ((0, 0), ra.2) else ra.2.failNumbers vb
    let s := rb.2.modBoot fun k => { k with
      flashMode := (flashRead quad dual fast).1, flashDummy := (flashRead quad dual fast).2, resultA := va.result, resultB := if okA then .notRead else vb.result
      failA := ra.1, failB := rb.1, unsigned := open' }
    let s := s.raiseIf open' .legendUnsigned 0
    if okA then s.useCopy 1 a
    else if okB then s.useCopy 2 b
    else ((s.raise .legendNone 0).haltBoot .haltLegend).modBoot fun k => { k with qspiReleased := true }

/-! Training and spares (R440, R442). -/

/-- The entries of the OTP repair map that are VALID (R461). -/
def Otp.repairs (o : Otp) : List (BitVec 32) :=
  (List.range 127).filterMap fun k =>
    let w := getN o.shadows (0x40 + k) 0
    if w.getLsbD 31 then some w else none

/-- A repair entry applied to its array (R461, R488). -/
def State.applyRepair (e : BitVec 32) (s : State) : State :=
  let n := e.toNat
  s.modSurvey fun v => { v with arrays := modN v.arrays (field n 29 23) (·.useSpare (bitOf n 30) (field n 10 3)) }

/-- Whether two entries name one spare of one array. -/
def sameSpare (a b : BitVec 32) : Bool :=
  field a.toNat 30 23 == field b.toNat 30 23 && field a.toNat 10 3 == field b.toNat 10 3

/-- BOOT_SPARES (R442, R490 to R493): the hard map, the soft map unless one of its records fails its CRC, then the spares in
use. -/
def State.applySpares (softBad : Bool) (s : State) : State :=
  let hard := s.otp.repairs
  let soft := (s.survey.softMap.map (·.entry)).filter fun e => !hard.any (sameSpare e)
  let s := (s.modSurvey fun v => { v with hardMap := hard }).each hard State.applyRepair
  let s := if softBad then s.raise .bootSpareMap 0 else s.each soft State.applyRepair
  let r := s.survey.record
  let s := s.modSurvey fun v => { v with ses := r.ses }
  let s := match r.le4 with
    | some e => s.modLoops fun l => { l with engines := modN (modN l.engines e fun k => { k with state := .off, serves := 7 }) 4 fun k =>
        { k with state := .run, serves := e } }
    | none => s
  let s := s.modScan fun c => { c with stations := mapIdxV (fun x (t : ScanStation) =>
    if r.chains.getLsbD x then { t with chain := 1, spareFree := false } else t) c.stations }
  s.each stations fun x s => match r.lanes[x] with
    | some l => s.modPixel x fun p => { p with map := modN p.map l fun _ => 4, spareFree := false }
    | none => s

/-- BOOT_DDR_TRAIN (R440, R442): training, full or warm, of `sizeMib` MiB; the second failure halts the boot. `softBad`: a
soft-map record fails its CRC. -/
def execBootDdrTrain (ok : Bool) (ms sizeMib : Nat) (softBad : Bool) (s : State) : Host.Outcome State Fault Refusal :=
  let warm := s.boot.dramKept
  liveIf (s.boot.stage == .ddr) s <|
    let s := s.modBoot fun b => { b with train := if warm then 2 else 1, trainMs := min ms 65535 }
    if ok then
      (s.modBoot fun b => { b with dramMib := sizeMib - 1, stage := .discovery }).applySpares softBad
    else if s.boot.trainFails = 0 then s.modBoot fun b => { b with trainFails := 1 }
    else ((s.modBoot fun b => { b with trainFails := 2 }).raise .bootDdrTrain 0).haltBoot .haltDdr

/-! Discovery and configuration (R429 steps 10 and 11, R430, R451). -/

/-- BOOT_DISCOVERY (R451): 50 ms on every enabled port, with what was found there. -/
def execBootDiscovery (found : List JzFound) (s : State) : Host.Outcome State Fault Refusal :=
  let known := found.filter fun f => getN s.legend.boot.portEnable f.port.val false
  liveIf (s.boot.stage == .discovery) s ((s.each known State.discover).modBoot fun b => { b with stage := .hostOpen })

/-- PCI Express configuration opens, PERST# high, with the link as it trains (R350, R379). -/
def State.openConfig (speed width : Nat) (s : State) : State :=
  (s.modBoot fun b => { b with perstN := true }).modHost fun h => { h with
    configOpen := true, linkUp := true, linkSpeed := speed, linkWidth := width, crs := false }

/-- CONFIG_OPEN (R429 step 11). -/
def execConfigOpen (speed width : Fin 4) (s : State) : Host.Outcome State Fault Refusal :=
  liveIf (s.boot.stage == .hostOpen) s ((s.openConfig speed width).modBoot fun b => { b with stage := .recovery })

/-- BOOT_HALT (R430): configuration opens with the halt reported. -/
def execBootHalt (speed width : Fin 4) (s : State) : Host.Outcome State Fault Refusal :=
  liveIf (bootHalted s.boot.stage && !s.host.configOpen) s (s.openConfig speed width)

/-! Recovery (R371, R373, R441). -/

/-- The outcome that the state table gives a slot (R373). -/
inductive SlotOutcome where
  | free
  | requeued
  | dataLost
  | interrupted
  | unchanged
  deriving DecidableEq, Repr

/-- The ACCEPTED mark of a slot: copy A's when it is whole, else copy B's (R373). -/
def Atlas.accepted (a : Atlas) (slot : Nat) : Option (List Byte) :=
  [0, 1].findSome? fun i =>
    let m := (getN (getN a.copies i {}).slots slot {}).mark 1
    if markValid 1 m then some m else none

/-- A mark present in a slot, from either copy, of the slot's ACCEPTED sequence number (R373). -/
def Atlas.present (a : Atlas) (slot kind seq : Nat) : Option (List Byte) :=
  [0, 1].findSome? fun i =>
    let m := (getN (getN a.copies i {}).slots slot {}).mark kind
    if markValid kind m && leAt m 0 8 == seq then some m else none

/-- A slot's copies after repair: every present mark and the entry copy stand in both (R373). -/
def Atlas.repairSlot (slot seq : Nat) (entry : List Byte) (a : Atlas) : Atlas :=
  let marks := (List.range 4).map fun k => a.present slot (k + 1) seq
  { a with copies := mapV (fun c => c.modSlot slot fun t =>
      { entry := entry, marks := Vector.ofFn fun k => (nth marks k.val none).getD (getN t.marks k.val []) }) a.copies }

/-- The entry copy of a slot: the one that matches ENTRY_CRC, else copy A's (R370, R373). -/
def Atlas.trueEntry (a : Atlas) (slot crc : Nat) : List Byte :=
  let e (i : Nat) : List Byte := (getN (getN a.copies i {}).slots slot {}).entry
  if crc32 (e 0) = crc then e 0 else if crc32 (e 1) = crc then e 1 else e 0

/-- The bytes of a job's stream extents hold no uncorrectable codeword (R373). -/
def State.streamsIntact (s : State) (entry : List Byte) : Bool :=
  let j : Job := { seq := 0, entry := entry }
  stations.all fun x => !j.inMask x.val ||
    (let a := j.streamAddr x.val
     let h := s.dramRead a 64
     let ok := s.inDram a 64 && streamHeaderOk h (j.lines x.val) s.legend.decoder.restartLimit
     let n := if ok then max 64 (leAt h 16 8) else 64
     !s.memory.dram.anyBad (a - dramBase) n)

/-- The body of the FINAL record of a job that the restart ends (R373). -/
def restartFinal (status : EndStatus) (cause : Cause) (started : Option (List Byte)) (entry : List Byte) : List Byte :=
  let sigma := match started with
    | some m => leAt m 40 2
    | none => 0
  let flags := match started with
    | some m => byteAt m 42 % 32 + 32
    | none => 0
  padTo 48 (le 1 status.code ++ le 1 cause.code ++ le 1 flags ++ le 3 0 ++ le 2 sigma ++ List.replicate 24 0 ++ le 8 (leAt entry 8 8))

/-- An ENDED mark that the state table writes, durable before READY (R373). -/
def State.endAtRestart (slot seq : Nat) (status : EndStatus) (body : List Byte) (s : State) : State :=
  s.modAtlas fun a =>
    { (a.write slot 3 [] (markBytes seq 3 slot 0 (body.take 32)) .durable).setHeader (·.countLife status.code) with
      finals := a.finals ++ [(seq, body)] }

/-- One slot of the atlas at a restart (R373): repaired, then given its outcome. -/
def State.recoverSlot (powerLoss kept : Bool) (slot : Nat) (s : State) : State :=
  let a := s.host.atlas
  match a.accepted slot with
  | none => s
  | some m =>
    let seq := leAt m 0 8
    let has (k : Nat) : Option (List Byte) := a.present slot k seq
    let crc := leAt m 12 4
    let entry := a.trueEntry slot crc
    let fixed := a.repairSlot slot seq entry
    let s := (s.modAtlas fun _ => fixed).raiseIf (fixed.copies != a.copies) .atlasRepair 0
    let cause : Cause := if powerLoss then .powerLoss else .restart
    if (has 4).isSome then s
    else
      let s := s.modAtlas fun a => { a with slotOf := a.slotOf ++ [(seq, slot)] }
      match has 3, has 2 with
      | some e, _ => s.modAtlas fun a => { a with
          finals := a.finals ++ [(seq, padTo 48 ((e.drop 16).take 32 ++ le 8 (leAt entry 8 8)))], again := a.again ++ [seq] }
      | none, some st =>
        (s.endAtRestart slot seq .interrupted (restartFinal .interrupted cause (some st) entry)).modHost fun h =>
          { h with interrupted := satAdd 8 h.interrupted 1 }
      | none, none =>
        if !powerLoss && kept && crc32 entry == crc && s.streamsIntact entry then
          (s.modHost fun h => { h with requeued := satAdd 8 h.requeued 1 }).modLayer fun l =>
            { l with jobs := l.jobs ++ [{ seq := seq, entry := entry, state := .queued }] }
        else
          (s.endAtRestart slot seq .dataLost (restartFinal .dataLost cause none entry)).modHost fun h =>
            { h with dataLost := satAdd 8 h.dataLost 1 }

/-- Slots in the order of the sequence numbers they hold, so that jobs stand in acceptance order. -/
def Atlas.slotsBySeq (a : Atlas) : List Nat :=
  (((List.range 64).filterMap fun k => (a.accepted k).map fun m => (leAt m 0 8, k)).foldr insertSeq []).map (·.2)

/-- The registration offsets restored from the atlas header, or 0 with the record rewritten (R371). -/
def State.restoreOffsets (s : State) : State :=
  let h := s.host.atlas.header
  let build := s.boot.header.buildId
  if h.regValid && h.buildId == build then
    s.modPosition fun p => { p with reg := mapIdxV (fun x (r : RegStation) =>
      { r with xscan := getN h.xscan x 0, inscan := getN h.inscan x 0 }) p.reg }
  else
    (s.modPosition fun p => { p with reg := mapV (fun r => { r with xscan := 0, inscan := 0 }) p.reg }).modAtlas fun a =>
      a.setHeader fun h => { h with
        regValid := true, buildId := build, xscan := Vector.replicate 6 0, inscan := Vector.replicate 6 0 }

/-- BOOT_RECOVERY (R371, R373, R374, R441): DRAM filled unless its content was kept, the atlas read, repaired and settled, the
registration offsets restored; `bad` are codewords that the stream reads find uncorrectable. -/
def execBootRecovery (bad : List Nat) (s : State) : Host.Outcome State Fault Refusal :=
  let kept := s.boot.dramKept
  let power := s.boot.lastReset == .powerOn
  liveIf (s.boot.stage == .recovery && !s.host.restartDue) s <|
    let s := if kept then s.spoilDram bad
      else (s.modMemory fun m => { m with dram := {} }).modBoot fun b => { b with filled := true }
    let s := s.modAtlas Atlas.kept
    let s := s.each s.host.atlas.slotsBySeq (State.recoverSlot power kept)
    let hold := 0 < s.host.interrupted
    ((s.modLayer fun l => { l with hold := l.hold || hold }).restoreOffsets).modHost fun h =>
      { h with restartDue := true, lqOpen := false }

/-! READY (R453). -/

/-- The axes that homing at READY takes: every one that is uncertain (R259). -/
def State.homingMask (s : State) : BitVec 13 :=
  BitVec.ofNat 13 (bitsOf 13 fun a =>
    if a = 1 then !(getN s.motion.servos 1 {}).homed else 3 ≤ a && (getN s.motion.steppers (a - 3) {}).uncertain)

/-- READY (R203, R226, R246, R259, R264, R339, R374, R421, R453, R483): BAR access opens; ALIVE's period, HV, heaters,
homing, the first survey, the chopper self-test and the privileged streams start. -/
def execReady (s : State) : Host.Outcome State Fault Refusal :=
  let now := s.timeUs
  liveIf (s.boot.stage == .recovery && s.host.restartDue && !s.boot.ready) s <|
    let mask := s.homingMask
    let s := s.modBoot fun b => { b with stage := .ready, ready := true, bootMs := (now - b.startUs) / 1000 }
    let s := s.modFaults fun f => { f with periodUs := now, beatUs := now, beat := false, missed := 0, stops := 0 }
    let s := (s.modMotion fun m => { m with homeDue := mask, bus := { m.bus with testDue := true } }).modSurvey fun v =>
      { v with state := .due }
    let s := s.enableServos.steppersOn
    let s := if s.faults.grave || isShutdown s.power.program then s else s.hvStart.heatersStart
    s.startPrivileged

end Sys2Proof.Machine
end

