-- ==== Sys2Proof/Machine/Operands.lean ====
section
/-! DEFINITION. The operand forms of a maintenance-queue entry: opcode, header, arguments, their ranges, the bytes a command
does not use (12 R364, R365; 11 R341). -/

namespace Sys2Proof.Machine

open Sys2Proof

/-! The commands' codes and checks (R364, R365). -/

/-- The opcode of a command (R365). -/
def opcodeOf : MqOp → Nat
  | .layerAbort _ => 0x0001
  | .layerResume => 0x0002
  | .layerFlush => 0x0003
  | .setExposure _ => 0x0010
  | .setSpeed _ => 0x0011
  | .setHeater _ _ => 0x0012
  | .setZStep _ => 0x0013
  | .regSet _ _ _ => 0x0014
  | .faultThresh _ _ _ => 0x0015
  | .faultClear _ _ _ => 0x0020
  | .polyCtrl _ _ => 0x0030
  | .hvCtrl _ _ => 0x0031
  | .motionStop _ => 0x0032
  | .motionHome _ => 0x0033
  | .powerDown => 0x0040
  | .powerUp => 0x0041
  | .powerProg _ => 0x0042
  | .survey => 0x0050
  | .logRead _ _ _ _ => 0x0051
  | .warmReset _ => 0x0060
  | .nop => 0x00FF

/-- The stations of a mask. -/
def maskStations (m : BitVec 8) : List (Fin 6) := stations.filter fun x => m.getLsbD x.val

/-- Whether a command's argument lies in its range (R341, R365); the mask bits that name nothing are 0. -/
def State.mqInRange (s : State) (op : MqOp) : Bool :=
  let g := s.legend.position
  match op with
  | .setExposure n => decide (n < 8)
  | .setSpeed c => decide (c < 16) && (speedEntry s.legend.scan c).1 != 0
  | .setHeater _ v => inI (-400) 4500 v
  | .setZStep nm => decide (nm ≤ 1000000)
  | .regSet m x i => decide (m.toNat < 64) && inI (-(g.regRangeX : Int)) g.regRangeX x && inI (-(g.regRangeI : Int)) g.regRangeI i
  | .faultThresh _ n w => inN 1 255 n && inN 1 3600000 w
  | .faultClear scope src inst => decide (scope ≤ 2) && (scope == 2 || (Source.ofNumber src).isSome) && (scope != 0 || decide (inst < 64))
  | .polyCtrl m a | .hvCtrl m a => decide (m.toNat < 64) && decide (a ≤ 1)
  | .motionStop m | .motionHome m => decide (m.toNat < 8192)
  | .powerProg n => decide (n < 4)
  | .logRead log _ count addr => decide (log ≤ 4) && inN 1 1024 count && addr % 64 == 0
  | _ => true

/-- A signed field of a structure. -/
def signedAt (b : List Byte) (off n : Nat) : Int := (BitVec.ofNat (8 * n) (leAt b off n)).toInt

/-- The command that an entry names with the argument bytes it uses, or none for an unknown opcode (R365). -/
def parseOp (b : List Byte) : Option (MqOp × List Nat) :=
  let at' (off n : Nat) : Nat := leAt b off n
  let mask (off : Nat) : BitVec 8 := BitVec.ofNat 8 (at' off 1)
  match leAt b 0 2 with
  | 0x0001 => some (.layerAbort (at' 8 8), List.range' 8 8)
  | 0x0002 => some (.layerResume, [])
  | 0x0003 => some (.layerFlush, [])
  | 0x0010 => some (.setExposure (at' 16 1), [16])
  | 0x0011 => some (.setSpeed (at' 16 1), [16])
  | 0x0012 => some (.setHeater (mask 16) (signedAt b 18 2), [16, 18, 19])
  | 0x0013 => some (.setZStep (at' 16 4), [16, 17, 18, 19])
  | 0x0014 => some (.regSet (mask 16) (signedAt b 20 4) (signedAt b 24 2), [16, 20, 21, 22, 23, 24, 25])
  | 0x0015 => some (.faultThresh (at' 16 1) (at' 17 1) (at' 20 4), [16, 17, 20, 21, 22, 23])
  | 0x0020 => some (.faultClear (at' 16 1) (at' 17 1) (at' 18 1), [16, 17, 18])
  | 0x0030 => some (.polyCtrl (mask 16) (at' 17 1), [16, 17])
  | 0x0031 => some (.hvCtrl (mask 16) (at' 17 1), [16, 17])
  | 0x0032 => some (.motionStop (BitVec.ofNat 16 (at' 16 2)), [16, 17])
  | 0x0033 => some (.motionHome (BitVec.ofNat 16 (at' 16 2)), [16, 17])
  | 0x0040 => some (.powerDown, [])
  | 0x0041 => some (.powerUp, [])
  | 0x0042 => some (.powerProg (at' 16 1), [16])
  | 0x0050 => some (.survey, [])
  | 0x0051 => some (.logRead (at' 16 1) (at' 20 4) (at' 24 2) (at' 32 8), [16, 20, 21, 22, 23, 24, 25, 32, 33, 34, 35, 36, 37, 38, 39])
  | 0x0060 => some (.warmReset (bitOf (at' 16 1) 0), [16])
  | 0x00FF => some (.nop, [])
  | _ => none

/-- The header of an entry (R364). -/
def parseHeader (b : List Byte) : MqHeader := { cq := byteAt b 2 % 16, tag := leAt b 4 4, seq := leAt b 8 8 }

/-- Whether every byte of an entry that its command does not use is 0 (R364, R365). -/
def unusedZero (b : List Byte) (op : MqOp) (used : List Nat) : Bool :=
  byteAt b 2 / 16 == 0 && byteAt b 3 == 0 && ((List.range' 8 56).all fun k => used.contains k || byteAt b k == 0) &&
  match op with
  | .warmReset _ => decide (byteAt b 16 < 2)
  | _ => true

end Sys2Proof.Machine
end

