-- ==== Sys2Proof/Machine/Mq.lean ====
section
/-! DEFINITION. The maintenance queue: taking an entry, its checks, the commands and their statuses, records written on the
completion queues, the command warm reset (12 R354, R355, R359 to R369; 01 R28, R46; 04 R130; 05 R175; 06 R203; 07 R228, R236;
08 R257 to R259, R267, R528; 10 R301, R307; 11 R341, R343; 17 R483). -/

namespace Sys2Proof.Machine

open Sys2Proof

/-! What waits for a boundary (R365). -/

/-- Whether a station images in a job past QUEUED (R203, R228). -/
def State.imagesPast (s : State) (m : BitVec 8) : Bool :=
  (s.layer.jobs.filter Job.past).any fun j => (maskStations m).any fun x => j.images x.val

/-- Whether MOTION_STOP's mask names an axis of a job past QUEUED (R267): belt, carriage, roller, Z0 to Z3, and the feed
channels that the job moves. -/
def State.axesPast (s : State) (m : BitVec 16) : Bool :=
  (s.layer.jobs.filter Job.past).any fun j =>
    m.toNat % 16 != 0 || m.toNat / 1024 != 0 || stations.any fun x => m.getLsbD (4 + x.val) && j.feedSteps x.val != 0

/-- Whether a command is an action that waits for a layer boundary (R365). -/
def State.mqWaits (s : State) (op : MqOp) : Bool :=
  match op with
  | .layerAbort _ | .setSpeed _ | .powerUp | .logRead _ _ _ _ | .nop => false
  | .layerResume | .layerFlush | .setExposure _ | .setHeater _ _ | .setZStep _ | .regSet _ _ _ | .faultThresh _ _ _
  | .faultClear _ _ _ | .motionHome _ | .powerDown | .powerProg _ | .survey => true
  | .polyCtrl m a => a == 0 && s.imagesPast m
  | .hvCtrl m _ => s.imagesPast m
  | .motionStop m => s.axesPast m
  | .warmReset force => !force

/-! What each command does as it acts; each answers its status (R365). -/

/-- LAYER_ABORT (R46): SEQ 0 names the job furthest along among those past QUEUED. -/
def State.abortJob (seq : Nat) (s : State) : MqStatus × State :=
  match if seq = 0 then s.runningJob else s.jobOf seq with
  | none => (.noJob, s)
  | some j =>
    match j.state with
    | .imaging | .transfer | .transfuse => (.ok, s.abort .hostAbort 0 0)
    | .queued => (.ok, s.rejectJob j.seq .hostCancel)
    | .admitted => (.ok, (s.rejectJob j.seq .hostCancel).drivePulse s.power.layerReleased)
    | .armed => (.ok, s.rejectJob j.seq .hostCancel)
    | .lower | .returning => (.notAbortable, s)
    | .none | .ended => (.noJob, s)

/-- LAYER_RESUME begins (R28, R259): every uncertain axis is due to home, the carriage returns; with nothing to home and the
carriage at its start, HOLD clears at once. -/
def State.resumeLayer (h : MqHeader) (s : State) : State :=
  let mask := s.homingMask
  let there := mask == 0 && s.motion.homeDue == 0 && s.carrAtStart
  let s := (s.modMotion fun m => { m with homeDue := m.homeDue ||| mask, resumeReturn := true }).modLayer fun l =>
    { l with resumes := l.resumes ++ [h] }
  s.when there State.finishResume

/-- LAYER_FLUSH (R28): every job that has not reached ARMED ends HOST_CANCEL in acceptance order, then HOLD clears. -/
def State.flushLayer (s : State) : State :=
  let own := s.power.layerReleased && s.layer.jobs.any fun j => j.state == .admitted
  let open' := (s.layer.jobs.filter fun j => j.state == .queued || j.state == .admitted).map (·.seq)
  ((s.each open' fun q s => s.rejectJob q .hostCancel).drivePulse own).modLayer fun l => { l with hold := false }

/-- SET_EXPOSURE (R6, R98, R228): as the index changes, every channel and AC loop at its layer set-point is offered a new target,
the track offsets restart from 0. -/
def State.setExposure (n : Nat) (s : State) : State :=
  let moved := s.loops.expoSet != n
  let s := s.modLoops fun l => { l with expoSet := n }
  let s := s.each (List.range 24) fun k s =>
    s.when (moved && (s.legLoop k).enable && (s.loop k).running && !(s.loop k).safe) (·.modLoop k fun l => l.offerGoal (s.loopGoal k))
  s.when moved (·.allPixels fun p => { p with offsets := Vector.replicate 4 0, clampRevs := Vector.replicate 4 0 })

/-- SET_SPEED (R130): applied at once, held, or refused. -/
def State.setSpeed (code : Nat) (s : State) : MqStatus × State :=
  let s := s.frequencyRequest .speedCode code
  match s.scan.reqState with
  | .deferred => (.deferred, s)
  | .refused => (.refused, s)
  | _ => (.ok, s)

/-- SET_HEATER (R236). -/
def State.setHeater (mask : BitVec 8) (v : Int) (s : State) : State :=
  s.each ((List.range 8).filter fun z => mask.getLsbD z) fun z s =>
    let s := s.modHeater z fun h => { h with target := v }
    s.when (s.loop (24 + z)).running (·.modLoop (24 + z) fun l => l.offerGoal (s.loopGoal (24 + z)))

/-- The registration record of the atlas header rewritten when the offsets in use have changed (R371). -/
def State.saveOffsets (s : State) : State :=
  let reg := s.position.reg
  let build := s.boot.header.buildId
  s.when s.position.regDirty fun s =>
    (s.modPosition fun p => { p with regDirty := false }).modAtlas fun a => a.setHeader fun h => { h with
      regValid := true, buildId := build, xscan := mapV (fun r : RegStation => r.xscan) reg, inscan := mapV (fun r : RegStation => r.inscan) reg }

/-- REG_SET (R175, R371). -/
def State.regSet (mask : BitVec 8) (xs ins : Int) (s : State) : State :=
  (s.each (maskStations mask) fun x s => s.setOffsets x.val xs ins).saveOffsets

/-- FAULT_THRESH (R343): a source whose base class is Notice takes new values, and every count of it restarts. -/
def State.faultThresh (src n w : Nat) (s : State) : MqStatus × State :=
  match Source.ofNumber src with
  | none => (.notLive, s)
  | some v =>
    if highestBase s.legend.power v ≠ .notice then (.notLive, s)
    else (.ok, s.modFaults fun f => { f with
      thresholds := (src, n, w) :: f.thresholds.filter (·.1 != src)
      insts := f.insts.map fun i => if i.src = src then { i with counted := [] } else i })

/-- POLY_CTRL (R203). -/
def State.polyCtrl (mask : BitVec 8) (action : Nat) (s : State) : State :=
  s.each (maskStations mask) fun x s =>
    if action = 0 then s.polyStop x
    else (s.modPolygon x fun p => { p with hostStopped := false }).when (s.enabled x) (·.polyStart x)

/-- HV_CTRL (R223, R228): the channels and the AC loop of a station to their safe set-points by step, or free to return. -/
def State.hvCtrl (mask : BitVec 8) (action : Nat) (s : State) : State :=
  s.each (maskStations mask) fun x s =>
    let ks := [3 * x.val, 3 * x.val + 1, 3 * x.val + 2]
    if action = 0 then
      (s.each ks fun k s => (s.modHv k fun h => { h with commanded := true }).hvToSafe k).acStop x
    else s.each ks fun k s => s.modHv k fun h => { h with commanded := false }

/-- MOTION_STOP (R258, R528): steppers stop at once; a named servo sets HOLD, belt and carriage make controlled stops, the
roller stays geared. -/
def State.motionStop (m : BitVec 16) (s : State) : State :=
  let s := s.each ((List.range 10).filter fun n => m.getLsbD n) State.stopStepper
  let s := s.when (m.getLsbD 10) (·.modServo 0 (Servo.askStop .controlled))
  let s := s.when (m.getLsbD 11) (·.modServo 1 (Servo.askStop .controlled))
  s.when (m.toNat / 1024 != 0) (·.modLayer fun l => { l with hold := true })

/-- MOTION_HOME (R259): exactly the axes named; belt and roller need no homing, and a feed channel that is certain is left as
it is. -/
def State.motionHome (m : BitVec 16) (s : State) : State :=
  let due (ax : Nat) : Bool :=
    if ax = 1 then m.getLsbD 11
    else 3 ≤ ax && m.getLsbD (ax - 3) && (ax < 7 || (getN s.motion.steppers (ax - 3) {}).uncertain)
  s.modMotion fun k => { k with homeDue := k.homeDue ||| BitVec.ofNat 13 (bitsOf 13 due) }

/-- POWER_UP (R301, R307): UP starts after a shutdown that R307 leaves to the host, otherwise BUSY. -/
def State.powerUp (s : State) : MqStatus × State :=
  if s.upReady && s.power.shutOff && !s.recoveryDue && !s.power.shutGrave && s.coolEnough then (.ok, s.startProgram .up .host)
  else (.busy, s)

/-- User program U0 to U3 by its number. -/
def userProgram : Nat → Program
  | 0 => .u0
  | 1 => .u1
  | 2 => .u2
  | _ => .u3

/-- POWER_PROG (R301): only when UP has ended and no program runs. -/
def State.powerProg (n : Nat) (s : State) : MqStatus × State :=
  if s.power.upDone && s.power.program == .none then (.ok, s.startProgram (userProgram n) .host) else (.busy, s)

/-! LOG_READ (R366, R371). -/

/-- The one record of log 3, built from the atlas header (R371). -/
def Atlas.lifeRecord (a : Atlas) : List Byte :=
  let b := a.header.life.toList.flatMap (le 8) ++ le 8 a.header.nextSeq ++ List.replicate 14 0
  b ++ le 2 (crc16 b)

/-- The counter record of a rail's current slot (R308, R366); 32 zero bytes where neither slot is valid. -/
def State.counterRecord (s : State) (n : Nat) : List Byte :=
  let slots := getN s.logs.counters n (Vector.replicate 2 [])
  match currentSlot slots n with
  | some i => getN slots i []
  | none => List.replicate 32 0

/-- The records of a log in index order, and the size of one (R366, R494). -/
def State.logRecords (s : State) : Nat → List (List Byte) × Nat
  | 0 => (s.logs.faults.toList, 32)
  | 1 => (s.logs.power.toList, 16)
  | 2 => ((List.range 32).map s.counterRecord, 32)
  | 3 => ([s.host.atlas.lifeRecord], 64)
  | _ => (s.survey.log.toList, 16)

/-- Whether a ring record is whole: its length, and the CRC-16 at its end (R309). -/
def recordWhole (size : Nat) (b : List Byte) : Bool := b.length == size && leAt b (size - 2) 2 == crc16 (b.take (size - 2))

/-- SEQ of the newest whole record of a ring of `n` records, the nearest one before its head; 0 for an empty ring (R309, R366). -/
def newestOf (n size head : Nat) (ring : List (List Byte)) : Nat :=
  match (List.range n).find? fun k => recordWhole size (nth ring ((head + n - 1 - k) % n) []) with
  | some k => leAt (nth ring ((head + n - 1 - k) % n) []) 0 4
  | none => 0

/-- SEQ of the newest record of a log that is one sequence, 0 for the others and for an empty log (R309, R366). -/
def State.newestSeq (s : State) : Nat → Nat
  | 0 => newestOf 1024 32 s.faults.logHead s.logs.faults.toList
  | 1 => newestOf 256 16 s.logs.powerHead s.logs.power.toList
  | 4 => newestOf 128 16 s.survey.logHead s.survey.log.toList
  | _ => 0

/-- LOG_READ (R366): records are copied to host memory in index order, one posted write each; a slot never written is all 0. -/
def State.logRead (log first count addr : Nat) (s : State) : List Byte × State :=
  let (all, size) := s.logRecords log
  let part := ((all.drop first).take count).map (padTo size)
  let writes : List HostWrite := part.zipIdx.map fun p => { addr := (addr + size * p.2) % 9223372036854775808, bytes := p.1 }
  (le 4 part.length ++ le 4 (s.newestSeq log), s.modHost fun h => { h with writes := writes.reverse ++ h.writes })

/-! The command warm reset, and writing records (R359, R369). -/

/-- Whether a waiting record is WARM_RESET's COMMAND record. -/
def isResetRecord (r : Held) : Bool := r.kind == .command && !r.dma && leAt r.body 0 2 == 0x60

/-- The records of a queue are written, oldest first, up to WARM_RESET's COMMAND record; the answer says whether that one was
written. -/
def State.writeToReset (n : Nat) : Nat → State → Bool × State
  | 0, s => (false, s)
  | fuel + 1, s =>
    let q := getN s.host.cqs n {}
    match q.waiting with
    | [] => (false, s)
    | r :: _ => if !q.ready then (false, s) else if isResetRecord r then (true, s.writeRecord n) else State.writeToReset n fuel (s.writeRecord n)

/-- WARM_RESET (R369): its COMMAND record is written, then the reset takes effect; where the record must wait for its queue,
the reset follows its writing. -/
def State.commandReset (h : MqHeader) (kept : Bool) (s : State) : State :=
  let n := s.commandCq h.cq
  let t := s.complete h 0x60 .ok []
  let r := State.writeToReset n (getN t.host.cqs n {}).waiting.length t
  let t := r.2
  if r.1 then t.warmReset .mqWarmReset .mqWarmReset kept else t.modHost fun h => { h with resetDue := true }

/-- CQ_RECORD_WRITE (R359, R360, R369, R374): the oldest record that waits for an enabled queue with room; a command warm reset
follows its COMMAND record. -/
def execCqRecordWrite (n : Fin 14) (kept : Bool) (s : State) : Host.Outcome State Fault Refusal :=
  let q := s.host.cqs[n]
  let reset := s.host.resetDue && (q.waiting.head?.map isResetRecord).getD false
  liveIf q.ready s <|
    let t := s.writeRecord n
    if reset then t.warmReset .mqWarmReset .mqWarmReset kept else t

/-! Acting and taking. -/

/-- A command acts and, but for LAYER_RESUME, completes (R365). SURVEY completes with its survey, which its callers run. -/
def State.mqAct (h : MqHeader) (e : MqOutside) (op : MqOp) (s : State) : State :=
  let done (r : MqStatus × State) : State := r.2.complete h (opcodeOf op) r.1 []
  match op with
  | .layerAbort seq => done (s.abortJob seq)
  | .layerResume => s.resumeLayer h
  | .layerFlush => done (.ok, s.flushLayer)
  | .setExposure n => done (.ok, s.setExposure n)
  | .setSpeed c => done (s.setSpeed c)
  | .setHeater m v => done (.ok, s.setHeater m v)
  | .setZStep nm => done (.ok, s.modMotion fun k => { k with zStep := nm })
  | .regSet m x i => done (.ok, s.regSet m x i)
  | .faultThresh src n w => done (s.faultThresh src n w)
  | .faultClear scope src inst => done (s.clearFaults scope src inst e.reported)
  | .polyCtrl m a => done (.ok, s.polyCtrl m a)
  | .hvCtrl m a => done (.ok, s.hvCtrl m a)
  | .motionStop m => done (.ok, s.motionStop m)
  | .motionHome m => done (.ok, s.motionHome m)
  | .powerDown => done (.ok, s.requestDown .host)
  | .powerUp => done s.powerUp
  | .powerProg n => done (s.powerProg n)
  | .survey => done (.ok, s)
  | .logRead log first count addr =>
    let r := s.logRead log first count addr
    r.2.complete h 0x51 .ok r.1
  | .warmReset _ => s.commandReset h e.kept
  | .nop => done (.ok, s)

/-- A command held for a layer boundary; SURVEY makes a survey due (R365, R483). -/
def State.mqHold (h : MqHeader) (op : MqOp) (s : State) : State :=
  let s := s.modHost fun k => { k with mqWaiting := k.mqWaiting ++ [(h, op)] }
  s.when (op == .survey) (·.modSurvey fun v => { v with state := if v.state = .idle then .due else v.state })

/-- Whether a command that waits for boundaries acts at once: one stands and nothing waits before it. -/
def State.mqNow (s : State) (op : MqOp) : Bool := !s.mqWaits op || (s.boundary && s.host.mqWaiting.isEmpty)

/-- Whether a command uses its header's SEQ (R365). -/
def usesSeq : MqOp → Bool
  | .layerAbort _ => true
  | _ => false

/-- A command that need not wait acts (R365); SURVEY measures first, and waits where nothing has been measured (R483). -/
def State.mqRun (h : MqHeader) (e : MqOutside) (reading : Option SurveyReading) (op : MqOp) (s : State) : State :=
  if op = .survey then
    match reading with
    | some r => (s.runSurvey r).mqAct h e op
    | none => s.mqHold h op
  else s.mqAct h e op

/-- A command taken from the ring (R364, R365): a queue that cannot take its record and an argument out of range complete with
RANGE, otherwise it acts or waits. `reading` is the survey's, where one can be made at once. -/
def State.mqCommand (h : MqHeader) (e : MqOutside) (reading : Option SurveyReading) (op : MqOp) (s : State) : State :=
  let q := getN s.host.cqs h.cq {}
  if 14 ≤ h.cq || (q.enable && !q.slot64) || (!usesSeq op && h.seq != 0) || !s.mqInRange op then s.complete h (opcodeOf op) .range []
  else if !s.mqNow op then s.mqHold h op
  else s.mqRun h e reading op

/-- Why no MQ entry is taken now (R355); none when one may be. -/
def State.mqStop (s : State) (cq : Nat) : Option DoorReason :=
  if 16 ≤ s.host.taken then some .mqLimit
  else if !(getN s.host.cqs (s.commandCq cq) {}).enable then some .cqDisabled
  else none

/-- Taking stops before the tail (R354). -/
def State.stopMq (reason : DoorReason) (s : State) : State :=
  (s.doorRecord 1 s.host.mq.tail s.host.mq.head reason).modHost fun h => { h with mq := { h.mq with rung := false } }

/-- One MQ entry taken, for as long as R355 holds (R354). -/
def State.mqTake (cq : Nat) (act : State → State) (s : State) : Host.Outcome State Fault Refusal :=
  liveIf (s.boot.ready && s.host.mq.offers) s <|
    match s.mqStop cq with
    | some r => s.stopMq r
    | none => act (s.modHost fun h => { h with mq := h.mq.advance, taken := h.taken + 1 })

/-- MQ_DOORBELL (R354): a write of MQ_TAIL. -/
def execMqDoorbell (tail : Fin 64) (s : State) : Host.Outcome State Fault Refusal :=
  liveIf s.barOpen s (s.modHost fun h => { h with mq := h.mq.ring tail.val })

/-- RING_READ_ERROR (R354, R356): a read of an entry ends in an error; the ring stops with ERROR until it is enabled anew. -/
def execRingReadError (mq : Bool) (s : State) : Host.Outcome State Fault Refusal :=
  if mq then
    liveIf (s.boot.ready && s.host.mq.offers && decide (s.host.taken < 16)) s
      (((s.stopMq .readError).modHost fun h => { h with mq := { h.mq with error := true } }).raise .hostRingRead 0)
  else
    liveIf (s.boot.ready && s.host.lq.offers && s.host.lqOpen && s.lqStop.isNone) s
      (((s.stopLq .readError).modHost fun h => { h with lq := { h.lq with error := true } }).raise .hostRingRead 0)

/-- MQ_ENTRY_TAKE (R364, R365): an entry as its 64 bytes; an unknown opcode completes with BAD_COMMAND, bytes that should be 0
with RANGE. -/
def execMqEntryTake (entry : Vector Byte 64) (outside : MqOutside) (s : State) : Host.Outcome State Fault Refusal :=
  let b := entry.toList
  let h := parseHeader b
  s.mqTake h.cq fun s => match parseOp b with
    | none => s.complete h (leAt b 0 2) (if 14 ≤ h.cq || !(getN s.host.cqs h.cq {}).slot64 then .range else .badCommand) []
    | some (op, used) =>
      if unusedZero b op used then s.mqCommand { h with seq := if op == .layerAbort h.seq then h.seq else 0 } outside none op
      else s.complete h (opcodeOf op) .range []

/-- LAYER_ABORT (R46): taken now; the job is the header's SEQ. -/
def execLayerAbort (h : MqHeader) (s : State) : Host.Outcome State Fault Refusal :=
  s.mqTake h.cq (·.mqCommand h {} none (.layerAbort h.seq))

/-- LAYER_RESUME (R28): at a layer boundary. -/
def execLayerResume (h : MqHeader) (s : State) : Host.Outcome State Fault Refusal := s.mqTake h.cq (·.mqCommand h {} none .layerResume)

/-- LAYER_FLUSH (R28): at a layer boundary. -/
def execLayerFlush (h : MqHeader) (s : State) : Host.Outcome State Fault Refusal := s.mqTake h.cq (·.mqCommand h {} none .layerFlush)

/-- SET_EXPOSURE (R228): at a layer boundary. -/
def execSetExposure (h : MqHeader) (set : BitVec 8) (s : State) : Host.Outcome State Fault Refusal :=
  s.mqTake h.cq (·.mqCommand h {} none (.setExposure set.toNat))

/-- SET_SPEED (R130): taken now. -/
def execSetSpeed (h : MqHeader) (code : BitVec 8) (s : State) : Host.Outcome State Fault Refusal :=
  s.mqTake h.cq (·.mqCommand h {} none (.setSpeed code.toNat))

/-- SET_HEATER (R236): at a layer boundary. -/
def execSetHeater (h : MqHeader) (mask : BitVec 8) (setPoint : BitVec 16) (s : State) : Host.Outcome State Fault Refusal :=
  s.mqTake h.cq (·.mqCommand h {} none (.setHeater mask setPoint.toInt))

/-- SET_Z_STEP (R257): at a layer boundary. -/
def execSetZStep (h : MqHeader) (nm : BitVec 32) (s : State) : Host.Outcome State Fault Refusal :=
  s.mqTake h.cq (·.mqCommand h {} none (.setZStep nm.toNat))

/-- REG_SET (R175): at a layer boundary. -/
def execRegSet (h : MqHeader) (mask : BitVec 8) (xscan : BitVec 32) (inscan : BitVec 16) (s : State) : Host.Outcome State Fault Refusal :=
  s.mqTake h.cq (·.mqCommand h {} none (.regSet mask xscan.toInt inscan.toInt))

/-- FAULT_THRESH (R343): at a layer boundary. -/
def execFaultThresh (h : MqHeader) (src n : BitVec 8) (w : BitVec 32) (s : State) : Host.Outcome State Fault Refusal :=
  s.mqTake h.cq (·.mqCommand h {} none (.faultThresh src.toNat n.toNat w.toNat))

/-- FAULT_CLEAR (R341): at a layer boundary; `outside` tells what is still reported. -/
def execFaultClear (h : MqHeader) (scope src inst : BitVec 8) (outside : MqOutside) (s : State) : Host.Outcome State Fault Refusal :=
  s.mqTake h.cq (·.mqCommand h outside none (.faultClear scope.toNat src.toNat inst.toNat))

/-- POLY_CTRL (R203): a start at once, a stop of an imaging station of a job past QUEUED at a boundary. -/
def execPolyCtrl (h : MqHeader) (mask action : BitVec 8) (s : State) : Host.Outcome State Fault Refusal :=
  s.mqTake h.cq (·.mqCommand h {} none (.polyCtrl mask action.toNat))

/-- HV_CTRL (R228): at a boundary where it names an imaging station of a job past QUEUED. -/
def execHvCtrl (h : MqHeader) (mask action : BitVec 8) (s : State) : Host.Outcome State Fault Refusal :=
  s.mqTake h.cq (·.mqCommand h {} none (.hvCtrl mask action.toNat))

/-- MOTION_STOP (R258, R267, R528). -/
def execMotionStop (h : MqHeader) (mask : BitVec 16) (s : State) : Host.Outcome State Fault Refusal :=
  s.mqTake h.cq (·.mqCommand h {} none (.motionStop mask))

/-- MOTION_HOME (R259): at a layer boundary. -/
def execMotionHome (h : MqHeader) (mask : BitVec 16) (s : State) : Host.Outcome State Fault Refusal :=
  s.mqTake h.cq (·.mqCommand h {} none (.motionHome mask))

/-- POWER_DOWN (R301): at a layer boundary. -/
def execPowerDown (h : MqHeader) (s : State) : Host.Outcome State Fault Refusal := s.mqTake h.cq (·.mqCommand h {} none .powerDown)

/-- POWER_UP (R301, R307): taken now. -/
def execPowerUp (h : MqHeader) (s : State) : Host.Outcome State Fault Refusal := s.mqTake h.cq (·.mqCommand h {} none .powerUp)

/-- POWER_PROG (R301): at a layer boundary. -/
def execPowerProg (h : MqHeader) (n : BitVec 8) (s : State) : Host.Outcome State Fault Refusal :=
  s.mqTake h.cq (·.mqCommand h {} none (.powerProg n.toNat))

/-- SURVEY (R483): a survey at the next layer boundary; `reading` is what it measures where one stands. -/
def execSurvey (h : MqHeader) (reading : SurveyReading) (s : State) : Host.Outcome State Fault Refusal :=
  s.mqTake h.cq (·.mqCommand h {} (some reading) .survey)

/-- LOG_READ (R366): taken now. -/
def execLogRead (h : MqHeader) (log : BitVec 8) (first : BitVec 32) (count : BitVec 16) (addr : BitVec 64) (s : State) :
    Host.Outcome State Fault Refusal :=
  s.mqTake h.cq (·.mqCommand h {} none (.logRead log.toNat first.toNat count.toNat addr.toNat))

/-- WARM_RESET (R369): at a layer boundary, or at once with FORCE; `outside` tells whether self-refresh is entered in time. -/
def execWarmReset (h : MqHeader) (force : Bool) (outside : MqOutside) (s : State) : Host.Outcome State Fault Refusal :=
  s.mqTake h.cq (·.mqCommand h outside none (.warmReset force))

/-- NOP (R365). -/
def execNop (h : MqHeader) (s : State) : Host.Outcome State Fault Refusal := s.mqTake h.cq (·.mqCommand h {} none .nop)

end Sys2Proof.Machine
end

