-- ==== Sys2Proof/Machine/Boundary.lean ====
section
/-! DEFINITION. The actions of a layer boundary in their order, and host writes of registers without behaviour of their own
(00_scope R13, R14, R18; 03 R113, R114; 05 R174; 12 R361, R365, R368, R371, R379; 13 R405; 14 R425; 16 R479; 17 R487). -/

namespace Sys2Proof.Machine

open Sys2Proof

/-- The survey of a boundary (R483): one that is due runs once, and every SURVEY command that waits completes. -/
def State.boundarySurvey (r : SurveyReading) (s : State) : State :=
  s.when (s.survey.state == .due) fun s =>
    let served := s.host.mqWaiting.filter fun p => p.2 == .survey
    let s := (s.runSurvey r).modHost fun h => { h with mqWaiting := h.mqWaiting.filter fun p => p.2 != .survey }
    s.each served fun p s => s.complete p.1 0x50 .ok []

/-- The frequency request of a boundary (R129, R130, R485): the survey's cap, otherwise the held one once every drive permits
it. -/
def State.boundaryClock (s : State) : State :=
  if s.survey.capDue then (s.modSurvey fun v => { v with capDue := false }).frequencyRequest .surveyCap ((s.scan.held.map (·.code)).getD s.scan.code)
  else match s.scan.held with
    | some r => s.when (!anyV Polygon.holdsSpeed s.polygons) (·.applyRequest r)
    | none => s

/-- SRAM repairs, then the spare engines (R490 to R492). -/
def State.boundaryEngines (s : State) : State :=
  let s := s.repairSram
  (s.when s.legend.survey.leSpare (·.takeOverEngine)).takeOverStation

/-- Lane and tap-chain swaps, then the calibrations that wait (R113, R137, R138, R487). -/
def State.boundaryStations (b : BoundaryInput) (s : State) : State :=
  let s := s.each (stations.filter fun x => s.enabled x) fun x s => (s.swapLane x b.lanes[x]).swapDatum x b.taps[x]
  s.each (stations.filter fun x => s.enabled x && s.scan.stations[x].calDue) fun x s => s.calibrate x b.taps[x]

/-- Whether a command is POWER_PROG. -/
def isPowerProg : MqOp → Bool
  | .powerProg _ => true
  | _ => false

/-- A waiting command acts; a POWER_PROG beside a POWER_DOWN completes BUSY (R317). -/
def State.actWaiting (down : Bool) (e : MqOutside) (p : MqHeader × MqOp) (s : State) : State :=
  if down && isPowerProg p.2 then s.complete p.1 (opcodeOf p.2) .busy [] else s.mqAct p.1 e p.2

/-- The commands that wait, in ring order; WARM_RESET acts last (R365, R368). -/
def State.boundaryCommands (e : MqOutside) (s : State) : State :=
  let waiting := s.host.mqWaiting
  let s := s.modHost fun h => { h with mqWaiting := [] }
  let (resets, others) := waiting.partition fun p => p.2 == .warmReset false
  let down := others.any fun p => p.2 == .powerDown
  (s.each others (State.actWaiting down e)).each (resets.take 1) (State.actWaiting false e)

/-- Units that are due detach before a swap (R114). -/
def State.boundaryDetach (s : State) : State :=
  s.each (List.finRange 8) fun p s => s.each [0, 1, 2] fun u s => s.detachIfDue p u

/-- LAYER_BOUNDARY_ACTIONS (R487): the waiting actions in their order. VDD_CORE steps and a relock take time of their own; what
comes after them waits until they have ended. -/
def execLayerBoundaryActions (b : BoundaryInput) (s : State) : Host.Outcome State Fault Refusal :=
  liveIf s.boundary s <|
    let s := s.boundaryDetach.boundarySurvey b.reading
    if s.vcoreDue || s.scan.relocking then s
    else
      let s := s.boundaryClock
      if s.scan.relocking then s
      else
        let s := s.boundaryEngines.boundaryStations b
        (s.applyHeldUpdates.saveOffsets).boundaryCommands b.outside

/-! Register writes (R13, R14). -/

/-- The low half of a 64-bit field written, its lowest `n` bits reserved. -/
def setLo (n v old : Nat) : Nat := old / 4294967296 * 4294967296 + v % 4294967296 / 2 ^ n * 2 ^ n

/-- The high half of a 64-bit field written. -/
def setHi (v old : Nat) : Nat := old % 4294967296 + v % 4294967296 * 4294967296

/-- A ring's base, taken while ENABLE is 0 (R353, R379). -/
def Ring.writeReg (o v : Nat) (r : Ring) : Ring :=
  if r.enable then r
  else match o with
    | 0x0 => { r with base := setLo 12 v r.base }
    | 0x4 => { r with base := setHi v r.base }
    | _ => r

/-- A completion queue's base, taken while ENABLE is 0 (R379). -/
def CompQueue.writeReg (o v : Nat) (q : CompQueue) : CompQueue :=
  if q.enable then q
  else match o with
    | 0x0 => { q with base := setLo 12 v q.base }
    | 0x4 => { q with base := setHi v q.base }
    | _ => q

/-- An MSI-X table entry (R361, R379). -/
def MsixEntry.writeReg (o v : Nat) (e : MsixEntry) : MsixEntry :=
  match o with
  | 0x0 => { e with addr := setLo 2 v e.addr }
  | 0x4 => { e with addr := setHi v e.addr }
  | 0x8 => { e with data := v }
  | 0xC => { e with masked := bitOf v 0 }
  | _ => e

/-- A vector that pends is sent once its entry is unmasked (R361). -/
def State.unmasked (v : Nat) (s : State) : State :=
  s.when (s.host.pba.getLsbD v && !(getN s.host.msix v {}).masked) (·.modHost fun h =>
    { h with pba := h.pba &&& ~~~(BitVec.ofNat 16 (2 ^ v)), msixSent := v :: h.msixSent })

/-- The host queue block's fields without behaviour of their own (R379). -/
def State.writeHost (o v : Nat) (s : State) : State :=
  if o < 0x14 then s.modHost fun h => { h with lq := h.lq.writeReg o v }
  else if 0x20 ≤ o ∧ o < 0x34 then s.modHost fun h => { h with mq := h.mq.writeReg (o - 0x20) v }
  else if 0x1000 ≤ o ∧ o < 0x1000 + 0x20 * 14 then s.modCq ((o - 0x1000) / 0x20) (·.writeReg (o % 0x20) v)
  else if 0xF000 ≤ o ∧ o < 0xF100 then
    let k := (o - 0xF000) / 0x10
    (s.modHost fun h => { h with msix := modN h.msix k (·.writeReg (o % 0x10) v) }).unmasked k
  else s

/-- A host DMA channel's fields without behaviour of their own (R405). -/
def DmaChannel.writeReg (o v : Nat) (c : DmaChannel) : DmaChannel :=
  match o with
  | 0x0 => { c with weight := field v 10 8, errCq := field v 15 12, errCqEn := bitOf v 16 }
  | 0x8 => { c with head := setLo 5 v c.head }
  | 0xC => { c with head := setHi v c.head }
  | _ => c

/-- A host stream's fields without behaviour of their own (R425). -/
def Stream.writeReg (o v : Nat) (t : Stream) : Stream :=
  match o with
  | 0x0 => { t with errCq := field v 11 8, errCqEn := bitOf v 12 }
  | 0x8 => { t with head := setLo 5 v t.head }
  | 0xC => { t with head := setHi v t.head }
  | _ => t

/-- A BAR0 write to what has no behaviour of its own (R13): RW fields take the value, everything else ignores it. -/
def State.writeReg (off v : Nat) (s : State) : State :=
  let o := off % 0x10000
  match off / 0x10000 with
  | 0x1 => s.writeHost o v
  | 0x2 => if 0x300 ≤ o ∧ o < 0x900 then
      s.modDma fun d => { d with channels := modN d.channels ((o - 0x100) / 0x40) (·.writeReg (o % 0x40) v) } else s
  | 0x9 => if 0x100 ≤ o ∧ o < 0x400 then s.modStream ((o - 0x100) / 0x40) (·.writeReg (o % 0x40) v) else s
  | 0xA => if o = 0x8040 then s.modOtp fun t => { t with addr := field v 9 0 }
      else if o = 0x8044 then s.modOtp fun t => { t with data := BitVec.ofNat 32 v } else s
  | _ => s

/-- REGISTER_WRITE (R13, R14): a whole 32-bit write to a register without behaviour of its own. -/
def execRegisterWrite (word : Fin 262144) (value : BitVec 32) (s : State) : Host.Outcome State Fault Refusal :=
  liveIf s.barOpen s (s.writeReg (4 * word.val) value.toNat)

end Sys2Proof.Machine
end

