-- ==== Sys2Proof/Machine/Sampling.lean ====
section
/-! DEFINITION. What a loop does at its sampling instant and at its output instant: polygons, servos, high-voltage channels, developer
AC, heaters (06_polygon_drives R183 to R185, R191 to R202; 07_control_loops R209 to R235; 08 R241 to R244). -/

namespace Sys2Proof.Machine

open Sys2Proof

/-! Polygon drives at a current-loop sample (R185, R191 to R200). -/

/-- The electrical speed of the open-loop ramp, in 2^−32 turn a sample (R191). -/
def Polygon.omegaOl (g : LegPoly) (p : Polygon) : Nat := p.rampFine * g.polePairs * turn / 96000000000

/-- The speed ramps one sample on (R191, R193, R196, R204): in OPEN_LOOP at OL_ACC up to OBS_RPM, with θ_ol; closed-loop toward the target
at POLY_ACC or POLY_DEC, or in STOPPING down to OBS_RPM; under the regeneration clamp it waits for the measured speed. -/
def Polygon.ramp (g : LegPoly) (p : Polygon) : Polygon :=
  if p.state = .openLoop then
    { p with
      thetaOl := angleOf (p.thetaOl + p.omegaOl g : Nat), rampFine := min (40000 * g.obsRpm) (p.rampFine + g.olAcc) }
  else if p.closed then
    let goal := if p.state = .stopping then min p.rampFine (40000 * g.obsRpm) else 4000 * p.target
    let down := max goal (p.rampFine - g.dec)
    let next := if p.rampFine < goal then min goal (p.rampFine + g.acc)
      else if p.regenClamp then min p.rampFine (max down (4000 * p.speed)) else down
    { p with rampFine := next, ramping := next != goal }
  else p

/-- The observer's part of a sample (R192): it runs in OPEN_LOOP, OBSERVER, BEARING and STOPPING. -/
def Polygon.observe (g : LegPoly) (volt : Nat) (amps : Int × Int × Int) (p : Polygon) : Polygon :=
  let i := swapPhases g.dir amps
  let v := appliedVolts g.deadtime volt (swapPhases g.dir p.dutyPrev) (swapPhases g.dir p.duty) i
  { p with obs := p.obs.step g.rs g.ls g.psiM g.obsBw v (toStationary i) }

/-- What the samples of the observer count (R193, R199, R202): samples that agree with the ramp, samples since its end, samples beyond
OBS_RESID, and those of a lost observer that is within OBS_RESID and 10° of θ_bd again. -/
def Polygon.watch (g : LegPoly) (f t64 : Nat) (p : Polygon) : Polygon :=
  let o := p.obs
  let beyond := decide (g.obsResid < o.resid)
  let ol : Int := (p.omegaOl g : Nat)
  let run (c : Bool) (top n : Nat) : Nat := if c then min top (n + 1) else 0
  let agrees := p.state == .openLoop && !beyond && decide (10 * (o.omega - ol).natAbs ≤ ol)
  let near := decide ((angleDiff o.theta (p.thetaBd g f t64)).natAbs ≤ 119304647)
  let o := { o with
    residRun := run (p.closed && p.obsOk && beyond) 8 o.residRun, agreeRun := run agrees 64 o.agreeRun
    rampRun := run (p.state == .openLoop && decide (40000 * g.obsRpm ≤ p.rampFine)) 256 o.rampRun
    okRun := run (!p.obsOk && !beyond) 64 o.okRun, closeRun := if near then o.closeRun else 0, engageRun := min 64 (o.engageRun + 1) }
  let caught := p.closed && p.obsOk && o.engageRun == 64 && p.obs.engageRun != 64
  { p with
    obs := o
    obsOk := p.obsOk || (p.closed && p.bdPresent && o.okRun == 64 && decide (f + 1 ≤ o.closeRun))
    recatchOk := if caught then satAdd 8 p.recatchOk 1 else p.recatchOk, attempts := if caught then 0 else p.attempts }

/-- With bearings absent a facet tick falls as θ_obs passes a multiple of 360° × p / F (R196). -/
def Polygon.obsTick (g : LegPoly) (f : Nat) (p : Polygon) : Polygon :=
  if p.closed ∧ !p.bdPresent then
    let a := p.obs.tickAngle + p.obs.omega * f
    let lap : Int := (g.polePairs * turn : Nat)
    if lap ≤ a then { p with obs := { p.obs with tickAngle := a - lap }, tickDue := true }
    else { p with obs := { p.obs with tickAngle := a } }
  else { p with obs := { p.obs with tickAngle := 0 } }

/-- The angle of the source and its speed at a sample (R187, R194): for OPEN_LOOP the angle whose q axis is θ_ol. -/
def Polygon.sourceAngle (g : LegPoly) (f t64 : Nat) (p : Polygon) : Nat × Int :=
  match p.source with
  | .none => (p.theta, 0)
  | .ramp => (angleOf ((p.thetaOl : Int) - 1073741824), (p.omegaOl g : Nat))
  | .observer => (p.obs.theta, p.obs.omega)
  | .bearing => (p.thetaBd g f t64, p.omegaBd g)

/-- The commutation angle of a sample: the source's, and what is left of a turn toward it, 1° less each sample (R193, R195, R200). -/
def Polygon.commutate (g : LegPoly) (f t : Nat) (p : Polygon) : Polygon :=
  let (a, w) := p.sourceAngle g f (64 * t)
  let blend := p.blend.sign * ((p.blend.natAbs - oneDegree : Nat) : Int)
  { p with
    theta := angleOf (a + blend), omega := w, blend := blend, sampleAt := t
    diff := if p.state = .bearing then angleDiff p.obs.theta (p.thetaBd g f (64 * t)) else 0 }

/-- A polygon's current-loop sample (R184, R185, R204): currents from the shunts, angle from the source, the q loop at the reference
held within its bounds, the d loop at 0. -/
def State.samplePolygon (x : Fin 6) (frame : Nat) (shunts : Int × Int × Int) (s : State) : State :=
  let g := s.legPoly x
  let f := max 1 (s.facets x)
  let t := frame * 10000
  let fs := (s.legLoop (32 + x.val)).measFs
  let p := s.polygons[x]
  let amps := phaseAmps g.deadtime g.tShunt p.duty
    (shuntAmps g.shuntGain shunts.1 p.ofsU, shuntAmps g.shuntGain shunts.2.1 p.ofsV, shuntAmps g.shuntGain shunts.2.2 p.ofsW)
  let p := (((p.observe g s.motion.bus.volt amps).watch g f (64 * t)).obsTick g f).commutate g f t
  let i := toRotor p.theta (toStationary (swapPhases g.dir amps))
  let p := { p with id := i.1, iq := i.2 }.ramp g
  let ref := if p.regenClamp then max 0 p.iqRef else p.iqRef
  (s.modPolygon x fun _ => p).modLoop (32 + x.val) <|
    currentPeriod (pidForm g.currentPid) (pidForm g.currentPidD) (pidCoef g.currentPid) (pidCoef g.currentPidD)
      (fraction fs (clampI (-(g.iMax : Int)) g.iMax ref) 1, fraction fs i.2 1) (0, fraction fs i.1 1)

/-- A polygon's output at the counter peak (R183, R185, R213): the voltage vector, at the angle advanced from the sampling instant by
half a period, becomes the duties. -/
def State.outputPolygon (x : Fin 6) (s : State) : State :=
  let g := s.legPoly x
  let l := s.loop (32 + x.val)
  let angle := (s.polygons[x].theta : Int) + s.polygons[x].omega.fdiv 2
  let duty := swapPhases g.dir (modulate g.deadtime g.tShunt (fromRotor angle (l.dAxis.out, l.out)))
  s.modPolygon x fun p => { p with dutyPrev := p.duty, duty := duty }

/-- The six gate outputs of a polygon's bridge at a cycle of the PWM period, high side first, phases U, V, W; all off in coast (R183). -/
def State.polyGates (s : State) (x : Fin 6) (t : Nat) : List (Bool × Bool) :=
  let p := s.polygons[x]
  let dt := (s.legPoly x).deadtime
  if p.gates then [gatesAt dt p.duty.1 t, gatesAt dt p.duty.2.1 t, gatesAt dt p.duty.2.2 t] else List.replicate 3 (false, false)

/-! Servos (R241 to R244). -/

/-- A servo's current-loop sample (R242, R243): the q reference is the velocity loop's output and KA × a_ff, in mA, held against
braking under the regeneration clamp (R266); while it aligns, I_ALIGN on the d axis at θ = 0. -/
def State.sampleServoCurrent (a frame : Nat) (shunts : Int × Int × Int) (s : State) : State :=
  let n := 44 + 3 * a
  let g := s.legServo a
  let leg := s.legLoop n
  let fs := leg.measFs
  let v := getN s.motion.servos a {}
  let amps := phaseAmps g.deadtime g.tShunt v.duty
    (shuntAmps g.shuntGain shunts.1 0, shuntAmps g.shuntGain shunts.2.1 0, shuntAmps g.shuntGain shunts.2.2 0)
  let theta := if v.mode = .align then 0 else commAngle g (v.commOffset.getD 0) (s.commCount a (frame * 10000))
  let i := toRotor theta (toStationary amps)
  let want := satQ31 ((s.loop (n + 1)).out + fraction fs (g.ka * v.aff) 4503599627370496)
  let braking := v.regen && ((0 < v.vel && want < 0) || (v.vel < 0 && 0 < want))
  let q := if v.mode = .align ∨ braking then 0 else want
  let d := if v.mode = .align then fraction fs g.iAlign 1 else 0
  (s.modServo a fun v => { v with theta := theta, id := i.1, iq := i.2 }).modLoop n <|
    currentPeriod leg leg (nth leg.coefs 0 {}) (nth leg.coefs 1 {}) (q, fraction fs i.2 1) (d, fraction fs i.1 1)

/-- A servo's output at the counter peak (R183, R241). -/
def State.outputServo (a : Nat) (s : State) : State :=
  let g := s.legServo a
  let l := s.loop (44 + 3 * a)
  s.modServo a fun v => { v with duty := modulate g.deadtime g.tShunt (fromRotor v.theta (l.dAxis.out, l.out)) }

/-- The fields of a servo's velocity or position loop: its second variable is the measured speed of the axis, whatever source the legend
names (R244). -/
def loopBySpeed (g : LegLoop) : LegLoop := { g with xSource := .speed }

/-- A fraction of full scale brought within half of it on either side: a position loop's measurement goes round (log entry 157). -/
def wrapHalf (v : Int) : Int := (v + 1073741824) % 2147483648 - 1073741824

/-- A servo's position-loop sample (R215, R242, R244): the position at the instant, the set-point that ME0 wrote. -/
def State.sampleServoPos (a frame : Nat) (s : State) : State :=
  let n := 46 + 3 * a
  let g := s.legLoop n
  let v := getN s.motion.servos a {}
  let pos := s.servoPosAt a (frame * 10000)
  let y := wrapHalf (roundDiv (pos * 2147483648) (g.measFs * 16777216))
  let err := satQ31 (roundDiv ((v.sp - pos) * 2147483648) (g.measFs * 16777216))
  (s.modLoop n fun l => { l with measPrev := y - wrapHalf (y - l.measPrev) }).loopPeriodAs (loopBySpeed g) n (satQ31 (y + err)) y (roundDiv v.vel 1000)

/-- A servo's velocity-loop sample (R215, R242, R244): the way of the axis over the period, in counts per ms; the set-point is the
position loop's correction and v_ff. -/
def State.sampleServoVel (a frame : Nat) (s : State) : State :=
  let n := 45 + 3 * a
  let g := s.legLoop n
  let v := getN s.motion.servos a {}
  let pos := s.servoPosAt a (frame * 10000)
  let way := (pos - v.velAt) * 10
  let r := satQ31 ((s.loop (n + 1)).out + fraction g.measFs v.vff 16777216000)
  (s.modServo a fun v => { v with velAt := pos }).loopPeriodAs (loopBySpeed g) n r (fraction g.measFs way 16777216) (roundDiv way 16777216)

/-! High-voltage channels, developer AC, heaters. -/

/-- Whether this sample of a channel counts as an HV period of its station at layer set-points (R452): the station's first enabled
channel, its profile at a set-point other than SAFE_SP, for a job from ARMED on (log entry 161). -/
def State.hvAtLayer (s : State) (k : Nat) (l : Loop) : Bool :=
  !l.safe && l.curve.isNone && ((List.range 3).find? fun i => (s.legLoop (k / 3 * 3 + i)).enable) == some (k % 3) &&
  s.layer.jobs.any fun j => j.armedOn && j.inMask (k / 3)

/-- An HV channel's sample (R226, R229, R230): a channel that stood at SAFE_CODE begins to regulate to SAFE_SP, unless its monitor source
stands; one that the sample finds over its limit stays at SAFE_CODE until the next. -/
def State.sampleHv (k : Nat) (held : AnalogInput) (s : State) : State :=
  let g := s.legLoop k
  let back := (getN s.loops.hv k {}).mux && !s.hvOver k held.mon
  let s := s.hvSample k held.mon held.cur
  if (getN s.loops.hv k {}).mux then s.when (back && !s.hvMonStands k) (State.hvRegulate k)
  else
    let l := (s.loop k).profileStep g
    let s := s.when (s.hvAtLayer k l) (·.modLoops fun p => { p with hvPeriods := modN p.hvPeriods (k / 3) fun n => wrapAdd 32 n 1 })
    (s.modLoop k fun _ => l).loopPeriod k l.sp (fraction g.measFs (s.hvVolt k held.mon) 10) (s.secondVar k 0)

/-- An AC amplitude loop's sample (R229, R233): by the peak to peak of the last AC period; a stopped waveform's set-point is 0. -/
def State.sampleAc (x : Nat) (s : State) : State :=
  let n := 18 + x
  let g := s.legLoop n
  let a := getN s.loops.ac x {}
  let old := s.loop n
  let l := if a.running then old.profileStep g else if old.safe then old else old.safeStep g 0
  (s.modLoop n fun _ => l).loopPeriod n l.sp (fraction g.measFs a.amp 1) (s.secondVar n 0)

/-- A heater loop's sample (R215, R234): by its temperature input; a second input, where the legend names one, is the second variable. -/
def State.sampleHeater (z : Nat) (s : State) : State :=
  let n := 24 + z
  let g := s.legLoop n
  let zone := getN s.legend.loops.zones z {}
  let temp := (getN s.thermal.inputs zone.sensor {}).temp
  let second := match zone.sensor2 with
    | some i => (getN s.thermal.inputs i {}).temp / 10
    | none => s.secondVar n 0
  let l := (s.loop n).profileStep g
  ((s.modHeater z fun h => { h with temp := temp }).modLoop n fun _ => l).loopPeriod n l.sp (fraction g.measFs temp 10) second

/-- Whether a loop is computed at the sampling instant of a frame (R209, R210, R212 to R214): a FACET loop computes at its ticks, a
polygon's current loop while its bridge is driven. -/
def State.sampleDue (s : State) (n frame : Nat) : Bool :=
  let g := s.legLoop n
  let cls := loopClass n
  g.enable && (s.loop n).running && s.engineRuns n && decide (n < 53) && cls != .facet && frame % periodFrames cls == g.phase &&
    (decide (n < 32 ∨ 38 ≤ n) || (getN s.polygons (n - 32) {}).gates)

/-- LOOP_SAMPLE (R210, R213 to R225, R230, R242): at a sampling instant the loop's inputs are held and its law computed, charged to the
engine's frame. -/
def execLoopSample (n : Fin 64) (frame : Nat) (held : AnalogInput) (s : State) : Host.Outcome State Fault Refusal :=
  liveIf (s.sampleDue n frame) s <|
    let s := (s.chargeLoad n frame).atCycle (frame * 10000)
    if n.val < 18 then s.sampleHv n held
    else if n.val < 24 then s.sampleAc (n.val - 18)
    else if n.val < 32 then s.sampleHeater (n.val - 24)
    else if n.val < 38 then s.samplePolygon (Fin.ofNat 6 (n.val - 32)) frame held.shunts
    else
      let a := (n.val - 44) / 3
      match loopClass n with
      | .pos => s.sampleServoPos a frame
      | .vel => s.sampleServoVel a frame
      | _ => s.sampleServoCurrent a frame held.shunts

/-- A heater's duty for the next period, reduced for zone excess; a reduced duty counts as clamped (R235, R280). -/
def State.outputHeater (z : Nat) (u : Int) (s : State) : State :=
  let zone := getN s.legend.loops.zones z {}
  let factor := (getN s.thermal.zones z {}).factor
  let raw := (clampI 0 zone.dutyMax (roundShift u 15)).toNat
  let cut := factor < 0xFFFF
  let duty := if cut then raw * factor / 65536 else raw
  let s := s.modHeater z fun h => if h.mode = .control then { h with nextDuty := duty, throttled := cut } else h
  s.when cut (·.modLoop (24 + z) fun l => { l with clamped := true, clampHi := true })

/-- LOOP_OUTPUT (R213, R226, R227, R231, R235): the computed output takes effect: a PWM-DAC code, an amplitude gain for the
next point 0, a duty for the next heater period, or a bridge's duties. -/
def execLoopOutput (n : Fin 64) (s : State) : Host.Outcome State Fault Refusal :=
  let g := s.legLoop n
  let l := s.loop n
  match l.next with
  | none => live s s
  | some u =>
    liveIf (s.engineRuns n && l.running) s <|
      let form := if n.val < 38 then pidForm (getN s.legend.polygons (n.val - 32) {}).currentPidD else g
      let s := (s.modLoop n fun l => { l.emit u with dAxis := l.dAxis.emit form }).traceOutput n
      let code := (clampI 0 65535 (roundShift u 15)).toNat
      if n.val < 18 then s.modHv n fun h => if h.mux then h else h.take code
      else if n.val < 24 then s.modAc (n.val - 18) fun a => { a with nextGain := code }
      else if n.val < 32 then s.outputHeater (n.val - 24) u
      else if n.val < 38 then s.outputPolygon (Fin.ofNat 6 (n.val - 32))
      else s.when (loopClass n == .cur) (State.outputServo ((n.val - 44) / 3))

end Sys2Proof.Machine
end

