-- ==== Sys2Proof/Machine/Dispatch.lean ====
section
/-! DEFINITION. One arm per command, each one call of its meaning. -/

namespace Sys2Proof.Machine

open Sys2Proof

def exec (i : Instr) (s : State) : Host.Outcome State Fault Refusal :=
  match i with
  | .lqDoorbell tail => Sys2Proof.Machine.execLqDoorbell tail s
  | .mqDoorbell tail => Sys2Proof.Machine.execMqDoorbell tail s
  | .lqEntryAccept entry verdict => Sys2Proof.Machine.execLqEntryAccept entry verdict s
  | .ringReadError mq => Sys2Proof.Machine.execRingReadError mq s
  | .mqEntryTake entry outside => Sys2Proof.Machine.execMqEntryTake entry outside s
  | .layerAbort h => Sys2Proof.Machine.execLayerAbort h s
  | .layerResume h => Sys2Proof.Machine.execLayerResume h s
  | .layerFlush h => Sys2Proof.Machine.execLayerFlush h s
  | .setExposure h set => Sys2Proof.Machine.execSetExposure h set s
  | .setSpeed h code => Sys2Proof.Machine.execSetSpeed h code s
  | .setHeater h mask setPoint => Sys2Proof.Machine.execSetHeater h mask setPoint s
  | .setZStep h nm => Sys2Proof.Machine.execSetZStep h nm s
  | .regSet h mask xscan inscan => Sys2Proof.Machine.execRegSet h mask xscan inscan s
  | .faultThresh h src n w => Sys2Proof.Machine.execFaultThresh h src n w s
  | .faultClear h scope src inst outside => Sys2Proof.Machine.execFaultClear h scope src inst outside s
  | .polyCtrl h mask action => Sys2Proof.Machine.execPolyCtrl h mask action s
  | .hvCtrl h mask action => Sys2Proof.Machine.execHvCtrl h mask action s
  | .motionStop h mask => Sys2Proof.Machine.execMotionStop h mask s
  | .motionHome h mask => Sys2Proof.Machine.execMotionHome h mask s
  | .powerDown h => Sys2Proof.Machine.execPowerDown h s
  | .powerUp h => Sys2Proof.Machine.execPowerUp h s
  | .powerProg h n => Sys2Proof.Machine.execPowerProg h n s
  | .survey h reading => Sys2Proof.Machine.execSurvey h reading s
  | .logRead h log first count addr => Sys2Proof.Machine.execLogRead h log first count addr s
  | .warmReset h force outside => Sys2Proof.Machine.execWarmReset h force outside s
  | .nop h => Sys2Proof.Machine.execNop h s
  | .ringEnable mq value => Sys2Proof.Machine.execRingEnable mq value s
  | .cqEnable n value => Sys2Proof.Machine.execCqEnable n value s
  | .cqHeadWrite n head verdicts => Sys2Proof.Machine.execCqHeadWrite n head verdicts s
  | .hostWinWrite value => Sys2Proof.Machine.execHostWinWrite value s
  | .bar2Read off len bad => Sys2Proof.Machine.execBar2Read off len bad s
  | .bar2Write off data bad => Sys2Proof.Machine.execBar2Write off data bad s
  | .partialWrite => Sys2Proof.Machine.execPartialWrite s
  | .lowHalfRead word be => Sys2Proof.Machine.execLowHalfRead word be s
  | .registerWrite word value => Sys2Proof.Machine.execRegisterWrite word value s
  | .configRequest => Sys2Proof.Machine.execConfigRequest s
  | .barAccessBeforeReady write => Sys2Proof.Machine.execBarAccessBeforeReady write s
  | .hostLinkReset speed width => Sys2Proof.Machine.execHostLinkReset speed width s
  | .cqRecordWrite n kept => Sys2Proof.Machine.execCqRecordWrite n kept s
  | .cqWaitLong n => Sys2Proof.Machine.execCqWaitLong n s
  | .coalTimerExpiry n => Sys2Proof.Machine.execCoalTimerExpiry n s
  | .finalRecord => Sys2Proof.Machine.execFinalRecord s
  | .restartRecords => Sys2Proof.Machine.execRestartRecords s
  | .atlasMarkWrite verdict => Sys2Proof.Machine.execAtlasMarkWrite verdict s
  | .primingStart x => Sys2Proof.Machine.execPrimingStart x s
  | .admissionEvaluation => Sys2Proof.Machine.execAdmissionEvaluation s
  | .admitTimeout => Sys2Proof.Machine.execAdmitTimeout s
  | .admittedRequeue => Sys2Proof.Machine.execAdmittedRequeue s
  | .armingStart => Sys2Proof.Machine.execArmingStart s
  | .armingComplete => Sys2Proof.Machine.execArmingComplete s
  | .overlapTest => Sys2Proof.Machine.execOverlapTest s
  | .armedRetestFail => Sys2Proof.Machine.execArmedRetestFail s
  | .layerAbortSequence => Sys2Proof.Machine.execLayerAbortSequence s
  | .abortEnd => Sys2Proof.Machine.execAbortEnd s
  | .postFaultEnd => Sys2Proof.Machine.execPostFaultEnd s
  | .layerBoundaryActions b => Sys2Proof.Machine.execLayerBoundaryActions b s
  | .streamHeaderRead x corrected uncorrectable => Sys2Proof.Machine.execStreamHeaderRead x corrected uncorrectable s
  | .lineDecode x ringCorr ringBad => Sys2Proof.Machine.execLineDecode x ringCorr ringBad s
  | .feedRead x len corrected bad => Sys2Proof.Machine.execFeedRead x len corrected bad s
  | .sweepFrameStart x corrected bad => Sys2Proof.Machine.execSweepFrameStart x corrected bad s
  | .sweepFrameComplete x => Sys2Proof.Machine.execSweepFrameComplete x s
  | .xsyncExposure x => Sys2Proof.Machine.execXsyncExposure x s
  | .probeSample x amp => Sys2Proof.Machine.execProbeSample x amp s
  | .slowLoopSample x track volts => Sys2Proof.Machine.execSlowLoopSample x track volts s
  | .bdOn x => Sys2Proof.Machine.execBdOn x s
  | .laneTraining x lane reports => Sys2Proof.Machine.execLaneTraining x lane reports s
  | .trimSave x => Sys2Proof.Machine.execTrimSave x s
  | .bearingStamp x edge => Sys2Proof.Machine.execBearingStamp x edge s
  | .bearingWindowClose x => Sys2Proof.Machine.execBearingWindowClose x s
  | .strayEdge x edge => Sys2Proof.Machine.execStrayEdge x edge s
  | .facetIdCheck x => Sys2Proof.Machine.execFacetIdCheck x s
  | .scheduleTick x => Sys2Proof.Machine.execScheduleTick x s
  | .crossingTimeDelivery x pair => Sys2Proof.Machine.execCrossingTimeDelivery x pair s
  | .pixelPllRelock => Sys2Proof.Machine.execPixelPllRelock s
  | .pixelPllUnlock => Sys2Proof.Machine.execPixelPllUnlock s
  | .refLoss => Sys2Proof.Machine.execRefLoss s
  | .ctlSysPllUnlock sys => Sys2Proof.Machine.execCtlSysPllUnlock sys s
  | .frequencyRequest src => Sys2Proof.Machine.execFrequencyRequest src s
  | .dllUnlock x => Sys2Proof.Machine.execDllUnlock x s
  | .datumCalibration x m => Sys2Proof.Machine.execDatumCalibration x m s
  | .calibrationDue x => Sys2Proof.Machine.execCalibrationDue x s
  | .encoderEdge e qa qb cycle held => Sys2Proof.Machine.execEncoderEdge e qa qb cycle held s
  | .ssiFrame n frame => Sys2Proof.Machine.execSsiFrame n frame s
  | .markEdge m rising cycle held => Sys2Proof.Machine.execMarkEdge m rising cycle held s
  | .beltIndex e cycle held => Sys2Proof.Machine.execBeltIndex e cycle held s
  | .compareFire u t => Sys2Proof.Machine.execCompareFire u t s
  | .entryFoundBehind u => Sys2Proof.Machine.execEntryFoundBehind u s
  | .registrationMeasure => Sys2Proof.Machine.execRegistrationMeasure s
  | .emulationEdge n t => Sys2Proof.Machine.execEmulationEdge n t s
  | .polyStart x => Sys2Proof.Machine.execPolyStart x s
  | .listenTimeout x quietUs => Sys2Proof.Machine.execListenTimeout x quietUs s
  | .shuntCalibrate x u v w => Sys2Proof.Machine.execShuntCalibrate x u v w s
  | .alignPulses x c => Sys2Proof.Machine.execAlignPulses x c s
  | .observerHandover x => Sys2Proof.Machine.execObserverHandover x s
  | .bearingHandover x => Sys2Proof.Machine.execBearingHandover x s
  | .speedTick x => Sys2Proof.Machine.execSpeedTick x s
  | .observerLoss x => Sys2Proof.Machine.execObserverLoss x s
  | .rotorLossCoast x => Sys2Proof.Machine.execRotorLossCoast x s
  | .coastExpiry x => Sys2Proof.Machine.execCoastExpiry x s
  | .recatchEngage x frame crossings => Sys2Proof.Machine.execRecatchEngage x frame crossings s
  | .recatchFail x crossings => Sys2Proof.Machine.execRecatchFail x crossings s
  | .polyStopComplete x => Sys2Proof.Machine.execPolyStopComplete x s
  | .overcurrentTrip b => Sys2Proof.Machine.execOvercurrentTrip b s
  | .polySpeedFault x => Sys2Proof.Machine.execPolySpeedFault x s
  | .loopSample n frame held => Sys2Proof.Machine.execLoopSample n frame held s
  | .loopOutput n => Sys2Proof.Machine.execLoopOutput n s
  | .deadlineMiss n => Sys2Proof.Machine.execDeadlineMiss n s
  | .profileTarget n => Sys2Proof.Machine.execProfileTarget n s
  | .followingError n => Sys2Proof.Machine.execFollowingError n s
  | .hvSafeStep k => Sys2Proof.Machine.execHvSafeStep k s
  | .hvMonitorRange k => Sys2Proof.Machine.execHvMonitorRange k s
  | .hvReturn => Sys2Proof.Machine.execHvReturn s
  | .devacPeriodStart x mon => Sys2Proof.Machine.execDevacPeriodStart x mon s
  | .humidityBandChange mv => Sys2Proof.Machine.execHumidityBandChange mv s
  | .heaterPeriod z => Sys2Proof.Machine.execHeaterPeriod z s
  | .heaterSaturation z => Sys2Proof.Machine.execHeaterSaturation z s
  | .posInstant frame => Sys2Proof.Machine.execPosInstant frame s
  | .servoAlign a => Sys2Proof.Machine.execServoAlign a s
  | .servoStop a => Sys2Proof.Machine.execServoStop a s
  | .beltStart => Sys2Proof.Machine.execBeltStart s
  | .carriageApproachStart => Sys2Proof.Machine.execCarriageApproachStart s
  | .carriageLock => Sys2Proof.Machine.execCarriageLock s
  | .leadingEdgeAtNip => Sys2Proof.Machine.execLeadingEdgeAtNip s
  | .carriageSeparation => Sys2Proof.Machine.execCarriageSeparation s
  | .carriageReturn => Sys2Proof.Machine.execCarriageReturn s
  | .carriageTrackFault => Sys2Proof.Machine.execCarriageTrackFault s
  | .servoFollowingError a => Sys2Proof.Machine.execServoFollowingError a s
  | .stepperStep n cycle => Sys2Proof.Machine.execStepperStep n cycle s
  | .stepperChopTrip n phaseB cycle => Sys2Proof.Machine.execStepperChopTrip n phaseB cycle s
  | .stepperOffTimeEnd n phaseB cycle => Sys2Proof.Machine.execStepperOffTimeEnd n phaseB cycle s
  | .stepperMoveComplete n => Sys2Proof.Machine.execStepperMoveComplete n s
  | .holdCurrentDelay n => Sys2Proof.Machine.execHoldCurrentDelay n s
  | .stepperImmediateStop n => Sys2Proof.Machine.execStepperImmediateStop n s
  | .homing ax ev => Sys2Proof.Machine.execHoming ax ev s
  | .servoRestReentry a => Sys2Proof.Machine.execServoRestReentry a s
  | .busSample volt chopMa => Sys2Proof.Machine.execBusSample volt chopMa s
  | .chopperHot => Sys2Proof.Machine.execChopperHot s
  | .chopperFail => Sys2Proof.Machine.execChopperFail s
  | .chopperSelfTest chopMa => Sys2Proof.Machine.execChopperSelfTest chopMa s
  | .busOv3 => Sys2Proof.Machine.execBusOv3 s
  | .regenClampRelease => Sys2Proof.Machine.execRegenClampRelease s
  | .tinResult n frame raw => Sys2Proof.Machine.execTinResult n frame raw s
  | .dieSensorRead t => Sys2Proof.Machine.execDieSensorRead t s
  | .dieBandChange => Sys2Proof.Machine.execDieBandChange s
  | .thermalThrottle => Sys2Proof.Machine.execThermalThrottle s
  | .criticalDecision => Sys2Proof.Machine.execCriticalDecision s
  | .thermalShutdown => Sys2Proof.Machine.execThermalShutdown s
  | .thermalTrip k => Sys2Proof.Machine.execThermalTrip k s
  | .pseStep => Sys2Proof.Machine.execPseStep s
  | .pseWaitEnd => Sys2Proof.Machine.execPseWaitEnd s
  | .programStart own abortHigh => Sys2Proof.Machine.execProgramStart own abortHigh s
  | .programPreempt => Sys2Proof.Machine.execProgramPreempt s
  | .programEnd => Sys2Proof.Machine.execProgramEnd s
  | .progTimeout => Sys2Proof.Machine.execProgTimeout s
  | .inputFail lowUs => Sys2Proof.Machine.execInputFail lowUs s
  | .inputQualified => Sys2Proof.Machine.execInputQualified s
  | .inputReturn => Sys2Proof.Machine.execInputReturn s
  | .brownoutRecovery own abortHigh => Sys2Proof.Machine.execBrownoutRecovery own abortHigh s
  | .upEndResume => Sys2Proof.Machine.execUpEndResume s
  | .railEvent n pin => Sys2Proof.Machine.execRailEvent n pin s
  | .pgFilterChange n level heldUs => Sys2Proof.Machine.execPgFilterChange n level heldUs s
  | .counterRecordWrite n => Sys2Proof.Machine.execCounterRecordWrite n s
  | .powerLogWrite => Sys2Proof.Machine.execPowerLogWrite s
  | .ownSupplyFault k uv => Sys2Proof.Machine.execOwnSupplyFault k uv s
  | .vcoreStep => Sys2Proof.Machine.execVcoreStep s
  | .readVoutPoll mv => Sys2Proof.Machine.execReadVoutPoll mv s
  | .pmbusFailure => Sys2Proof.Machine.execPmbusFailure s
  | .uliberRise => Sys2Proof.Machine.execUliberRise s
  | .syncTimeout => Sys2Proof.Machine.execSyncTimeout s
  | .uliberLayerRelease => Sys2Proof.Machine.execUliberLayerRelease s
  | .uliberAbortPulseReceived => Sys2Proof.Machine.execUliberAbortPulseReceived s
  | .uliberAbortLevel => Sys2Proof.Machine.execUliberAbortLevel s
  | .faultEvent => Sys2Proof.Machine.execFaultEvent s
  | .faultFastPath => Sys2Proof.Machine.execFaultFastPath s
  | .faultQueueOverflow src inst => Sys2Proof.Machine.execFaultQueueOverflow src inst s
  | .classFallback src inst => Sys2Proof.Machine.execClassFallback src inst s
  | .graveLatch => Sys2Proof.Machine.execGraveLatch s
  | .suppressedRecord src inst => Sys2Proof.Machine.execSuppressedRecord src inst s
  | .faultLogWrite verified => Sys2Proof.Machine.execFaultLogWrite verified s
  | .alivePeriodEnd => Sys2Proof.Machine.execAlivePeriodEnd s
  | .heartbeatWrite => Sys2Proof.Machine.execHeartbeatWrite s
  | .watchdogReset kept => Sys2Proof.Machine.execWatchdogReset kept s
  | .lsafeAssert => Sys2Proof.Machine.execLsafeAssert s
  | .lenAssert => Sys2Proof.Machine.execLenAssert s
  | .dmaRun n => Sys2Proof.Machine.execDmaRun n s
  | .dmaResume n host => Sys2Proof.Machine.execDmaResume n host s
  | .dmaReset n => Sys2Proof.Machine.execDmaReset n s
  | .dmaDisable n reads hostReads writes err => Sys2Proof.Machine.execDmaDisable n reads hostReads writes err s
  | .dmaDisableClear n => Sys2Proof.Machine.execDmaDisableClear n s
  | .dmaDrainDone n => Sys2Proof.Machine.execDmaDrainDone n s
  | .descriptorFetch n bytes found corrected => Sys2Proof.Machine.execDescriptorFetch n bytes found corrected s
  | .descriptorComplete n hostSrc hostDst corrected => Sys2Proof.Machine.execDescriptorComplete n hostSrc hostDst corrected s
  | .dmaAccessError n host hostSrc hostDst found corrected => Sys2Proof.Machine.execDmaAccessError n host hostSrc hostDst found corrected s
  | .dmaRecordWrite n => Sys2Proof.Machine.execDmaRecordWrite n s
  | .feedChannelError x => Sys2Proof.Machine.execFeedChannelError x s
  | .captureRecord src => Sys2Proof.Machine.execCaptureRecord src s
  | .blockCode payload answers found => Sys2Proof.Machine.execBlockCode payload answers found s
  | .tlmStart n desc => Sys2Proof.Machine.execTlmStart n desc s
  | .tlmStop n => Sys2Proof.Machine.execTlmStop n s
  | .tlmFlush value => Sys2Proof.Machine.execTlmFlush value s
  | .tlmRearm value => Sys2Proof.Machine.execTlmRearm value s
  | .snapshotTrigger n => Sys2Proof.Machine.execSnapshotTrigger n s
  | .tlmWriteError n fetch => Sys2Proof.Machine.execTlmWriteError n fetch s
  | .powerOnReset resetN perstN testEn => Sys2Proof.Machine.execPowerOnReset resetN perstN testEn s
  | .powerOnResetAssert => Sys2Proof.Machine.execPowerOnResetAssert s
  | .externalWarmReset perst kept => Sys2Proof.Machine.execExternalWarmReset perst kept s
  | .bootOtpSense temp flips => Sys2Proof.Machine.execBootOtpSense temp flips s
  | .bootLegend quad dual fast a b => Sys2Proof.Machine.execBootLegend quad dual fast a b s
  | .bootDdrTrain ok ms sizeMib softBad => Sys2Proof.Machine.execBootDdrTrain ok ms sizeMib softBad s
  | .bootDiscovery found => Sys2Proof.Machine.execBootDiscovery found s
  | .configOpen speed width => Sys2Proof.Machine.execConfigOpen speed width s
  | .bootRecovery bad => Sys2Proof.Machine.execBootRecovery bad s
  | .ready => Sys2Proof.Machine.execReady s
  | .bootHalt speed width => Sys2Proof.Machine.execBootHalt speed width s
  | .jenzanPoll port unit status => Sys2Proof.Machine.execJenzanPoll port unit status s
  | .jenzanReplyMissing port unit request badCrc => Sys2Proof.Machine.execJenzanReplyMissing port unit request badCrc s
  | .announceReceived port => Sys2Proof.Machine.execAnnounceReceived port s
  | .unitIdentify port unit block => Sys2Proof.Machine.execUnitIdentify port unit block s
  | .unitDetach port unit => Sys2Proof.Machine.execUnitDetach port unit s
  | .wearWrite port unit revolutions acked => Sys2Proof.Machine.execWearWrite port unit revolutions acked s
  | .otpProgram key pulse => Sys2Proof.Machine.execOtpProgram key pulse s
  | .otpLock key region flips pulse => Sys2Proof.Machine.execOtpLock key region flips pulse s
  | .otpAdvance key pulse => Sys2Proof.Machine.execOtpAdvance key pulse s
  | .verifyRegion key region flips => Sys2Proof.Machine.execVerifyRegion key region flips s
  | .surveyIntervalExpiry => Sys2Proof.Machine.execSurveyIntervalExpiry s
  | .rsCorrectionMark array row col uncorrectable => Sys2Proof.Machine.execRsCorrectionMark array row col uncorrectable s
  | .seParity x => Sys2Proof.Machine.execSeParity x s
  | .dllRelock x => Sys2Proof.Machine.execDllRelock x s
  | .lsafeNRelease => Sys2Proof.Machine.execLsafeNRelease s
  | .resetNRelease => Sys2Proof.Machine.execResetNRelease s
  | .testEnAssert => Sys2Proof.Machine.execTestEnAssert s
  | .aerError uncorrectable => Sys2Proof.Machine.execAerError uncorrectable s
  | .mainsZeroCrossing => Sys2Proof.Machine.execMainsZeroCrossing s

end Sys2Proof.Machine
end

