-- ==== Sys2Proof/WellFormed.lean ====
section
/-! DEFINITION. What operands a command may carry: the bounds that the manual gives for what a command brings from outside. A
meaning does not test them; what the outside cannot send, no run contains. -/

namespace Sys2Proof

/-- A maintenance entry's header as its field widths allow (R364). -/
def headerOk (h : MqHeader) : Bool := decide (h.cq < 16) && decide (h.tag < 2 ^ 32) && decide (h.seq < 2 ^ 64)

/-- A bearing's edge: a cycle of the 48-bit station time, a tap of the line (R133, R140). -/
def BdEdge.wellFormed (e : BdEdge) : Bool := decide (e.cycle < 2 ^ 48) && decide (e.tap < 128)

/-- A code-density measurement: 2^20 samples over 128 taps (R137). -/
def TapMeasure.wellFormed (m : TapMeasure) : Bool :=
  decide (m.hist.length = 128) && decide (m.hist.sum = 2 ^ 20) && decide (m.disorder ≤ 2 ^ 20)

/-- The operand bounds of each command: headers (R364), accesses inside the BAR2 window (R352), stamps and taps (R133, R140),
samples of 256 table points (R233), samples of 128 taps (R137), modulator results of 24 bits (R271), SSI fields of 40 bits at most (R153), CRC-8 values (R108), DRAM of 4 to
32 GiB less the training region (R7, R440). -/
def Instr.wellFormed : Instr → Bool
  | .lqDoorbell _ => true
  | .mqDoorbell _ => true
  | .lqEntryAccept _ _ => true
  | .ringReadError _ => true
  | .mqEntryTake _ _ => true
  | .layerAbort h => headerOk h
  | .layerResume h => headerOk h
  | .layerFlush h => headerOk h
  | .setExposure h _ => headerOk h
  | .setSpeed h _ => headerOk h
  | .setHeater h _ _ => headerOk h
  | .setZStep h _ => headerOk h
  | .regSet h _ _ _ => headerOk h
  | .faultThresh h _ _ _ => headerOk h
  | .faultClear h _ _ _ _ => headerOk h
  | .polyCtrl h _ _ => headerOk h
  | .hvCtrl h _ _ => headerOk h
  | .motionStop h _ => headerOk h
  | .motionHome h _ => headerOk h
  | .powerDown h => headerOk h
  | .powerUp h => headerOk h
  | .powerProg h _ => headerOk h
  | .survey h _ => headerOk h
  | .logRead h _ _ _ _ => headerOk h
  | .warmReset h _ _ => headerOk h
  | .nop h => headerOk h
  | .ringEnable _ _ => true
  | .cqEnable _ _ => true
  | .cqHeadWrite _ _ _ => true
  | .hostWinWrite _ => true
  | .bar2Read off len _ => decide (1 ≤ len) && decide (off.val + len ≤ 2 ^ 28)
  | .bar2Write off data _ => decide (1 ≤ data.length) && decide (off.val + data.length ≤ 2 ^ 28)
  | .partialWrite => true
  | .lowHalfRead _ _ => true
  | .registerWrite _ _ => true
  | .configRequest => true
  | .barAccessBeforeReady _ => true
  | .hostLinkReset _ _ => true
  | .cqRecordWrite _ _ => true
  | .cqWaitLong _ => true
  | .coalTimerExpiry _ => true
  | .finalRecord => true
  | .restartRecords => true
  | .atlasMarkWrite _ => true
  | .primingStart _ => true
  | .admissionEvaluation => true
  | .admitTimeout => true
  | .admittedRequeue => true
  | .armingStart => true
  | .armingComplete => true
  | .overlapTest => true
  | .armedRetestFail => true
  | .layerAbortSequence => true
  | .abortEnd => true
  | .postFaultEnd => true
  | .layerBoundaryActions b => b.taps.all (·.wellFormed)
  | .streamHeaderRead _ _ _ => true
  | .lineDecode _ _ _ => true
  | .feedRead _ _ _ _ => true
  | .sweepFrameStart _ _ _ => true
  | .sweepFrameComplete _ => true
  | .xsyncExposure _ => true
  | .probeSample _ _ => true
  | .slowLoopSample _ _ _ => true
  | .bdOn _ => true
  | .laneTraining _ _ reports => reports.all fun r => decide (r.crc < 256)
  | .trimSave _ => true
  | .bearingStamp _ e => e.wellFormed
  | .bearingWindowClose _ => true
  | .strayEdge _ e => e.wellFormed
  | .facetIdCheck _ => true
  | .scheduleTick _ => true
  | .crossingTimeDelivery _ _ => true
  | .pixelPllRelock => true
  | .pixelPllUnlock => true
  | .refLoss => true
  | .ctlSysPllUnlock _ => true
  | .frequencyRequest _ => true
  | .dllUnlock _ => true
  | .datumCalibration _ m => m.wellFormed
  | .calibrationDue _ => true
  | .encoderEdge _ _ _ cycle held => decide (1 ≤ held) && decide (held ≤ cycle + 1)
  | .ssiFrame _ f => decide (f.code < 2 ^ 40)
  | .markEdge _ _ cycle held => decide (1 ≤ held) && decide (held ≤ cycle + 1)
  | .beltIndex _ cycle held => decide (1 ≤ held) && decide (held ≤ cycle + 1)
  | .compareFire _ _ => true
  | .entryFoundBehind _ => true
  | .registrationMeasure => true
  | .emulationEdge _ _ => true
  | .polyStart _ => true
  | .listenTimeout _ _ => true
  | .shuntCalibrate _ _ _ _ => true
  | .alignPulses _ _ => true
  | .observerHandover _ => true
  | .bearingHandover _ => true
  | .speedTick _ => true
  | .observerLoss _ => true
  | .rotorLossCoast _ => true
  | .coastExpiry _ => true
  | .recatchEngage _ _ _ => true
  | .recatchFail _ _ => true
  | .polyStopComplete _ => true
  | .overcurrentTrip _ => true
  | .polySpeedFault _ => true
  | .loopSample _ _ _ => true
  | .loopOutput _ => true
  | .deadlineMiss _ => true
  | .profileTarget _ => true
  | .followingError _ => true
  | .hvSafeStep _ => true
  | .hvMonitorRange _ => true
  | .hvReturn => true
  | .devacPeriodStart _ mon => decide (mon.length = 256)
  | .humidityBandChange _ => true
  | .heaterPeriod _ => true
  | .heaterSaturation _ => true
  | .posInstant _ => true
  | .servoAlign _ => true
  | .servoStop _ => true
  | .beltStart => true
  | .carriageApproachStart => true
  | .carriageLock => true
  | .leadingEdgeAtNip => true
  | .carriageSeparation => true
  | .carriageReturn => true
  | .carriageTrackFault => true
  | .servoFollowingError _ => true
  | .stepperStep _ _ => true
  | .stepperChopTrip _ _ _ => true
  | .stepperOffTimeEnd _ _ _ => true
  | .stepperMoveComplete _ => true
  | .holdCurrentDelay _ => true
  | .stepperImmediateStop _ => true
  | .homing _ _ => true
  | .servoRestReentry _ => true
  | .busSample _ _ => true
  | .chopperHot => true
  | .chopperFail => true
  | .chopperSelfTest _ => true
  | .busOv3 => true
  | .regenClampRelease => true
  | .tinResult _ _ raw => decide (-8388608 ≤ raw.code) && decide (raw.code ≤ 8388607)
  | .dieSensorRead _ => true
  | .dieBandChange => true
  | .thermalThrottle => true
  | .criticalDecision => true
  | .thermalShutdown => true
  | .thermalTrip _ => true
  | .pseStep => true
  | .pseWaitEnd => true
  | .programStart _ _ => true
  | .programPreempt => true
  | .programEnd => true
  | .progTimeout => true
  | .inputFail _ => true
  | .inputQualified => true
  | .inputReturn => true
  | .brownoutRecovery _ _ => true
  | .upEndResume => true
  | .railEvent _ _ => true
  | .pgFilterChange _ _ _ => true
  | .counterRecordWrite _ => true
  | .powerLogWrite => true
  | .ownSupplyFault _ _ => true
  | .vcoreStep => true
  | .readVoutPoll _ => true
  | .pmbusFailure => true
  | .uliberRise => true
  | .syncTimeout => true
  | .uliberLayerRelease => true
  | .uliberAbortPulseReceived => true
  | .uliberAbortLevel => true
  | .faultEvent => true
  | .faultFastPath => true
  | .faultQueueOverflow _ _ => true
  | .classFallback _ _ => true
  | .graveLatch => true
  | .suppressedRecord _ _ => true
  | .faultLogWrite _ => true
  | .alivePeriodEnd => true
  | .heartbeatWrite => true
  | .watchdogReset _ => true
  | .lsafeAssert => true
  | .lenAssert => true
  | .dmaRun _ => true
  | .dmaResume _ _ => true
  | .dmaReset _ => true
  | .dmaDisable _ _ _ _ _ => true
  | .dmaDisableClear _ => true
  | .dmaDrainDone _ => true
  | .descriptorFetch _ _ _ _ => true
  | .descriptorComplete _ _ _ _ => true
  | .dmaAccessError _ _ _ _ _ _ => true
  | .dmaRecordWrite _ => true
  | .feedChannelError _ => true
  | .captureRecord _ => true
  | .blockCode _ _ _ => true
  | .tlmStart _ _ => true
  | .tlmStop _ => true
  | .tlmFlush _ => true
  | .tlmRearm _ => true
  | .snapshotTrigger _ => true
  | .tlmWriteError _ _ => true
  | .powerOnReset _ _ _ => true
  | .powerOnResetAssert => true
  | .externalWarmReset _ _ => true
  | .bootOtpSense _ _ => true
  | .bootLegend _ _ _ _ _ => true
  | .bootDdrTrain ok _ sizeMib _ => !ok || (decide (4096 ≤ sizeMib) && decide (sizeMib ≤ 32768))
  | .bootDiscovery _ => true
  | .configOpen _ _ => true
  | .bootRecovery _ => true
  | .ready => true
  | .bootHalt _ _ => true
  | .jenzanPoll _ _ _ => true
  | .jenzanReplyMissing _ _ _ _ => true
  | .announceReceived _ => true
  | .unitIdentify _ _ _ => true
  | .unitDetach _ _ => true
  | .wearWrite _ _ _ _ => true
  | .otpProgram _ _ => true
  | .otpLock _ _ _ _ => true
  | .otpAdvance _ _ => true
  | .verifyRegion _ _ _ => true
  | .surveyIntervalExpiry => true
  | .rsCorrectionMark _ _ _ _ => true
  | .seParity _ => true
  | .dllRelock _ => true
  | .lsafeNRelease => true
  | .resetNRelease => true
  | .testEnAssert => true
  | .aerError _ => true
  | .mainsZeroCrossing => true

end Sys2Proof
end

