-- ==== Sys2Proof/Safety.lean ====
section
/-! DEFINITION. What a safe run is: the invariants that every step keeps, and the conditions under which the device may expose
paper. Statements are made in these terms. -/

namespace Sys2Proof.Machine

open Sys2Proof

/-- The device is specified: TEST_EN has not been driven high since power-on (R525). -/
def State.specified (s : State) : Bool := !s.pins.unspecified

/-- The parts of the state, by the chapters they come from. -/
inductive Part where
  | pending | free | timeUs | legend | legendApplied | layer | decoders | pixels | scan | position | polygons | loops | motion | thermal
  | power | faults | host | dma | telemetry | boot | otp | survey | pins | memory | logs
  deriving DecidableEq, Repr

/-- What a part holds. -/
def Part.type : Part → Type
  | .pending => List Instr
  | .free => Nat
  | .timeUs => Nat
  | .legend => Legend
  | .legendApplied => Bool
  | .layer => Layer
  | .decoders => Vector Decoder 6
  | .pixels => Vector Pixel 6
  | .scan => Scan
  | .position => Position
  | .polygons => Vector Polygon 6
  | .loops => Loops
  | .motion => Motion
  | .thermal => Thermal
  | .power => Power
  | .faults => Faults
  | .host => HostPort
  | .dma => Dma
  | .telemetry => Telemetry
  | .boot => Boot
  | .otp => Otp
  | .survey => Survey
  | .pins => Pins
  | .memory => Memory
  | .logs => Logs

/-- A part of a state. -/
def State.part (s : State) : (p : Part) → p.type
  | .pending => s.pending
  | .free => s.free
  | .timeUs => s.timeUs
  | .legend => s.legend
  | .legendApplied => s.legendApplied
  | .layer => s.layer
  | .decoders => s.decoders
  | .pixels => s.pixels
  | .scan => s.scan
  | .position => s.position
  | .polygons => s.polygons
  | .loops => s.loops
  | .motion => s.motion
  | .thermal => s.thermal
  | .power => s.power
  | .faults => s.faults
  | .host => s.host
  | .dma => s.dma
  | .telemetry => s.telemetry
  | .boot => s.boot
  | .otp => s.otp
  | .survey => s.survey
  | .pins => s.pins
  | .memory => s.memory
  | .logs => s.logs

/-- `t` differs from `s` at most in the parts listed: the frame of a command. -/
def Keeps (changed : List Part) (s t : State) : Prop := ∀ p, p ∉ changed → t.part p = s.part p

/-- A command completes: it answers a next state, and that state has the property. -/
def Completes (c : Instr) (s : State) (P : State → Prop) : Prop := ∃ t, exec c s = .next t ∧ P t

/-- The job list holds a job with the sequence number, and every entry with it has the property. -/
def JobIs (t : State) (seq : Nat) (P : Job → Prop) : Prop :=
  (∃ k ∈ t.layer.jobs, k.seq = seq) ∧ ∀ k ∈ t.layer.jobs, k.seq = seq → P k

/-- Every job of another sequence number stands as it was. -/
def JobsElse (seq : Nat) (s t : State) : Prop := ∀ k : Job, k.seq ≠ seq → (k ∈ t.layer.jobs ↔ k ∈ s.layer.jobs)

/-- Every other station's decoder, pixel path, schedule and polygon drive stands as it was. -/
def StationsElse (x : Fin 6) (s t : State) : Prop :=
  ∀ y : Fin 6, y ≠ x → t.decoders[y] = s.decoders[y] ∧ t.pixels[y] = s.pixels[y] ∧ t.scan.stations[y] = s.scan.stations[y] ∧
    t.polygons[y] = s.polygons[y]

/-- What the end of a job leaves (R21, R28, R29, R47, R51, R70, R74, R370): the job ended with its status, cause and fault, its ENDED
mark due, the end counted and shown, the feed reservation released, its stations freed and its armed entries disabled; SCRAPPED sets
HOLD; no other job, no other station's decoder and no pixel path but for the job it belonged to is changed. -/
def EndedBy (seq : Nat) (st : EndStatus) (c : Cause) (src inst : Nat) (s t : State) : Prop :=
  (JobIs t seq fun k => k.state = .ended ∧ k.status = st ∧ k.cause = c ∧ k.source = src ∧ k.inst = inst) ∧ JobsElse seq s t ∧
  t.layer.lastStatus = st ∧ t.layer.lastCause = c ∧ t.layer.timerSeq ≠ some seq ∧
  t.layer.feedOwner = (if s.layer.feedOwner = some seq then none else s.layer.feedOwner) ∧
  t.layer.cntOk = (if st = .endedOk then wrapAdd 32 s.layer.cntOk 1 else s.layer.cntOk) ∧
  t.layer.cntScrapped = (if st = .scrapped then wrapAdd 32 s.layer.cntScrapped 1 else s.layer.cntScrapped) ∧
  t.layer.cntRejected = (if st = .rejected then wrapAdd 32 s.layer.cntRejected 1 else s.layer.cntRejected) ∧
  (s.layer.hold = true ∨ st = .scrapped → t.layer.hold = true) ∧
  (∃ b, t.host.atlas.todo = s.host.atlas.todo ++ [{ seq := seq, kind := 3, body := b }]) ∧
  (∀ x : Fin 6, t.pixels[x] = if s.pixels[x].job = some seq then { s.pixels[x] with job := none } else s.pixels[x]) ∧
  (∀ x : Fin 6, s.decoders[x].jobSeq ≠ some seq → t.decoders[x] = s.decoders[x]) ∧
  ∀ x : Fin 6, t.position.meridians[x].job = seq → t.position.meridians[x].state ≠ .armed

/-- The maintenance ring's next entry, with this header, may be taken now, and its record has an enabled 64-byte queue (R354,
R355, R364). -/
def State.takesMq (s : State) (h : MqHeader) : Prop :=
  s.boot.ready = true ∧ s.host.mq.offers = true ∧ s.host.taken < 16 ∧ h.cq < 14 ∧ (getN s.host.cqs h.cq {}).enable = true ∧
    (getN s.host.cqs h.cq {}).slot64 = true

/-- The state once an entry has been taken from the maintenance ring (R354, R355). -/
def State.tookMq (s : State) : State := s.modHost fun h => { h with mq := h.mq.advance, taken := h.taken + 1 }

/-- A command that waits for boundaries acts at once: a layer boundary stands and no other command waits for one (R365). -/
def State.atBoundary (s : State) : Prop := s.boundary = true ∧ s.host.mqWaiting = []

/-- The parts that a command may change: its frame. No other part differs in the state it answers. -/
def changes : Instr → List Part
  | .lqDoorbell _ => [.host]
  | .mqDoorbell _ => [.host]
  | .lqEntryAccept _ _ => [.layer, .faults, .host]
  | .ringReadError _ => [.faults, .host]
  | .mqEntryTake _ _ => [.free, .legendApplied, .layer, .decoders, .pixels, .scan, .position, .polygons, .loops, .motion, .thermal, .power, .faults, .host, .dma, .telemetry, .boot, .otp, .survey, .memory]
  | .layerAbort _ => [.layer, .decoders, .pixels, .scan, .position, .polygons, .loops, .motion, .power, .faults, .host, .telemetry, .boot, .survey]
  | .layerResume _ => [.layer, .motion, .faults, .host, .survey]
  | .layerFlush _ => [.layer, .decoders, .pixels, .scan, .position, .polygons, .loops, .power, .faults, .host, .telemetry, .boot, .survey]
  | .setExposure _ _ => [.pixels, .loops, .faults, .host, .survey]
  | .setSpeed _ _ => [.scan, .polygons, .motion, .thermal, .faults, .host, .survey]
  | .setHeater _ _ _ => [.loops, .faults, .host, .survey]
  | .setZStep _ _ => [.motion, .faults, .host, .survey]
  | .regSet _ _ _ _ => [.scan, .position, .faults, .host, .survey]
  | .faultThresh _ _ _ _ => [.faults, .host, .survey]
  | .faultClear _ _ _ _ _ => [.scan, .polygons, .motion, .thermal, .faults, .host, .survey]
  | .polyCtrl _ _ _ => [.polygons, .faults, .host, .survey]
  | .hvCtrl _ _ _ => [.loops, .faults, .host, .survey]
  | .motionStop _ _ => [.layer, .motion, .faults, .host, .survey]
  | .motionHome _ _ => [.motion, .faults, .host, .survey]
  | .powerDown _ => [.layer, .decoders, .pixels, .scan, .position, .polygons, .loops, .motion, .power, .faults, .host, .telemetry, .boot, .survey]
  | .powerUp _ => [.layer, .decoders, .pixels, .scan, .position, .polygons, .loops, .motion, .power, .faults, .host, .telemetry, .boot, .survey]
  | .powerProg _ _ => [.layer, .decoders, .pixels, .scan, .position, .polygons, .loops, .motion, .power, .faults, .host, .telemetry, .boot, .survey]
  | .survey _ _ => [.scan, .power, .faults, .host, .survey]
  | .logRead _ _ _ _ _ => [.faults, .host, .survey]
  | .warmReset _ _ _ => [.free, .legendApplied, .layer, .decoders, .pixels, .scan, .position, .polygons, .loops, .motion, .thermal, .power, .faults, .host, .dma, .telemetry, .boot, .otp, .survey, .memory]
  | .nop _ => [.faults, .host, .survey]
  | .ringEnable _ _ => [.host]
  | .cqEnable _ _ => [.host]
  | .cqHeadWrite _ _ _ => [.faults, .host]
  | .hostWinWrite _ => [.host]
  | .bar2Read _ _ _ => [.free, .faults, .host, .memory]
  | .bar2Write _ _ _ => [.faults, .memory]
  | .partialWrite => [.faults]
  | .lowHalfRead _ _ => [.host]
  | .registerWrite _ _ => [.host, .dma, .telemetry, .otp]
  | .configRequest => [.host]
  | .barAccessBeforeReady _ => [.host]
  | .hostLinkReset _ _ => [.free, .faults, .host, .dma, .telemetry, .memory]
  | .cqRecordWrite _ _ => [.free, .legendApplied, .layer, .decoders, .pixels, .scan, .position, .polygons, .loops, .motion, .thermal, .power, .faults, .host, .dma, .telemetry, .boot, .otp, .survey, .memory]
  | .cqWaitLong _ => [.faults, .host]
  | .coalTimerExpiry _ => [.host]
  | .finalRecord => [.layer, .faults, .host]
  | .restartRecords => [.layer, .host]
  | .atlasMarkWrite _ => [.layer, .decoders, .pixels, .position, .loops, .power, .faults, .host, .telemetry, .boot]
  | .primingStart _ => [.decoders]
  | .admissionEvaluation => [.layer, .decoders, .pixels, .position, .loops, .host, .telemetry, .boot]
  | .admitTimeout => [.layer, .decoders, .pixels, .position, .loops, .host, .telemetry, .boot]
  | .admittedRequeue => [.layer, .decoders, .pixels, .position, .loops, .power, .host, .telemetry, .boot]
  | .armingStart => [.layer, .position, .host]
  | .armingComplete => [.layer, .decoders, .pixels, .scan, .position, .polygons, .loops, .motion, .thermal, .power, .faults, .host, .telemetry, .boot]
  | .overlapTest => [.layer, .position, .host]
  | .armedRetestFail => [.layer, .decoders, .pixels, .position, .loops, .host, .telemetry, .boot]
  | .layerAbortSequence => [.layer, .decoders, .pixels, .scan, .position, .polygons, .loops, .motion, .power, .faults, .host, .telemetry, .boot]
  | .abortEnd => [.layer, .decoders, .pixels, .position, .loops, .host, .telemetry, .boot]
  | .postFaultEnd => [.layer, .decoders, .pixels, .position, .loops, .host, .telemetry, .boot]
  | .layerBoundaryActions _ => [.free, .legendApplied, .layer, .decoders, .pixels, .scan, .position, .polygons, .loops, .motion, .thermal, .power, .faults, .host, .dma, .telemetry, .boot, .otp, .survey, .memory]
  | .streamHeaderRead _ _ _ => [.layer, .decoders, .faults]
  | .lineDecode _ _ _ => [.layer, .decoders, .faults]
  | .feedRead _ _ _ _ => [.layer, .decoders, .faults]
  | .sweepFrameStart _ _ _ => [.decoders, .pixels, .faults]
  | .sweepFrameComplete _ => [.layer, .decoders, .pixels]
  | .xsyncExposure _ => [.pixels, .scan]
  | .probeSample _ _ => [.pixels, .faults]
  | .slowLoopSample _ _ _ => [.pixels, .faults]
  | .bdOn _ => [.pixels]
  | .laneTraining _ _ _ => [.pixels, .faults]
  | .trimSave _ => [.boot]
  | .bearingStamp _ _ => [.scan, .polygons, .faults]
  | .bearingWindowClose _ => [.scan, .polygons, .faults]
  | .strayEdge _ _ => [.scan, .faults]
  | .facetIdCheck _ => [.scan, .faults]
  | .scheduleTick _ => [.scan]
  | .crossingTimeDelivery _ _ => [.scan, .position, .faults]
  | .pixelPllRelock => [.scan, .faults, .host]
  | .pixelPllUnlock => [.layer, .decoders, .pixels, .scan, .position, .polygons, .loops, .motion, .power, .faults, .host, .telemetry, .boot]
  | .refLoss => [.scan, .faults]
  | .ctlSysPllUnlock _ => [.scan, .faults]
  | .frequencyRequest _ => [.scan, .polygons, .motion, .thermal, .faults, .host]
  | .dllUnlock _ => [.scan, .faults]
  | .datumCalibration _ _ => [.scan, .survey]
  | .calibrationDue _ => [.scan]
  | .encoderEdge _ _ _ _ _ => [.position, .motion, .faults]
  | .ssiFrame _ _ => [.position, .motion, .faults]
  | .markEdge _ _ _ _ => [.position]
  | .beltIndex _ _ _ => [.position, .faults]
  | .compareFire _ _ => [.layer, .pixels, .scan, .position]
  | .entryFoundBehind _ => [.layer, .decoders, .pixels, .scan, .position, .polygons, .loops, .motion, .power, .faults, .host, .telemetry, .boot]
  | .registrationMeasure => [.position, .faults]
  | .emulationEdge _ _ => [.position, .faults]
  | .polyStart _ => [.polygons]
  | .listenTimeout _ _ => [.polygons, .faults]
  | .shuntCalibrate _ _ _ _ => [.polygons, .faults]
  | .alignPulses _ _ => [.polygons, .loops, .faults]
  | .observerHandover _ => [.polygons, .loops, .faults]
  | .bearingHandover _ => [.polygons]
  | .speedTick _ => [.polygons, .loops, .faults, .telemetry]
  | .observerLoss _ => [.polygons, .faults]
  | .rotorLossCoast _ => [.polygons, .faults]
  | .coastExpiry _ => [.polygons]
  | .recatchEngage _ _ _ => [.polygons, .loops]
  | .recatchFail _ _ => [.polygons, .faults]
  | .polyStopComplete _ => [.polygons]
  | .overcurrentTrip _ => [.polygons, .loops, .motion, .faults]
  | .polySpeedFault _ => [.polygons, .faults]
  | .loopSample _ _ _ => [.position, .polygons, .loops, .motion, .faults]
  | .loopOutput _ => [.polygons, .loops, .motion, .telemetry]
  | .deadlineMiss _ => [.polygons, .loops, .motion, .faults, .survey]
  | .profileTarget _ => [.loops]
  | .followingError _ => [.loops, .faults]
  | .hvSafeStep _ => [.loops]
  | .hvMonitorRange _ => [.loops, .faults]
  | .hvReturn => [.loops]
  | .devacPeriodStart _ _ => [.loops]
  | .humidityBandChange _ => [.loops, .faults]
  | .heaterPeriod _ => [.loops]
  | .heaterSaturation _ => [.loops, .faults]
  | .posInstant _ => [.layer, .decoders, .pixels, .position, .loops, .motion, .faults, .host, .telemetry, .boot]
  | .servoAlign _ => [.loops, .motion, .faults]
  | .servoStop _ => [.motion]
  | .beltStart => [.motion]
  | .carriageApproachStart => [.motion]
  | .carriageLock => [.motion]
  | .leadingEdgeAtNip => [.layer, .motion]
  | .carriageSeparation => [.layer, .decoders, .pixels, .position, .loops, .motion, .host, .telemetry, .boot]
  | .carriageReturn => [.layer, .motion, .faults, .host]
  | .carriageTrackFault => [.motion, .faults]
  | .servoFollowingError _ => [.loops, .motion, .faults]
  | .stepperStep _ _ => [.position, .motion, .faults]
  | .stepperChopTrip _ _ _ => [.position, .motion]
  | .stepperOffTimeEnd _ _ _ => [.position, .motion]
  | .stepperMoveComplete _ => [.layer, .decoders, .pixels, .position, .loops, .motion, .host, .telemetry, .boot]
  | .holdCurrentDelay _ => [.motion]
  | .stepperImmediateStop _ => [.motion, .faults]
  | .homing _ _ => [.position, .motion, .faults]
  | .servoRestReentry _ => [.loops, .motion]
  | .busSample _ _ => [.polygons, .loops, .motion, .faults]
  | .chopperHot => [.polygons, .motion, .faults]
  | .chopperFail => [.polygons, .motion, .faults]
  | .chopperSelfTest _ => [.motion]
  | .busOv3 => [.polygons, .loops, .motion, .faults]
  | .regenClampRelease => [.polygons, .motion]
  | .tinResult _ _ _ => [.loops, .thermal, .faults]
  | .dieSensorRead _ => [.thermal, .faults]
  | .dieBandChange => [.scan, .thermal, .faults, .host]
  | .thermalThrottle => [.scan, .polygons, .motion, .thermal, .faults, .host]
  | .criticalDecision => [.free, .layer, .decoders, .pixels, .scan, .position, .polygons, .loops, .motion, .thermal, .power]
  | .thermalShutdown => [.layer, .decoders, .pixels, .scan, .position, .polygons, .loops, .motion, .thermal, .power, .faults, .host, .telemetry, .boot]
  | .thermalTrip _ => [.layer, .decoders, .pixels, .scan, .position, .polygons, .loops, .motion, .thermal, .power, .faults, .host, .telemetry, .boot]
  | .pseStep => [.free, .power, .faults]
  | .pseWaitEnd => [.power, .faults]
  | .programStart _ _ => [.layer, .decoders, .pixels, .scan, .position, .polygons, .loops, .motion, .power, .faults, .host, .telemetry, .boot]
  | .programPreempt => [.layer, .decoders, .pixels, .scan, .position, .polygons, .loops, .motion, .power, .faults, .host, .telemetry, .boot]
  | .programEnd => [.power]
  | .progTimeout => [.power, .faults]
  | .inputFail _ => [.layer, .decoders, .pixels, .scan, .position, .polygons, .loops, .motion, .power, .faults, .host, .telemetry, .boot]
  | .inputQualified => [.power]
  | .inputReturn => [.power]
  | .brownoutRecovery _ _ => [.layer, .decoders, .pixels, .scan, .position, .polygons, .loops, .motion, .power, .faults, .host, .telemetry, .boot]
  | .upEndResume => [.polygons, .loops, .motion, .power]
  | .railEvent _ _ => [.power, .faults]
  | .pgFilterChange _ _ _ => [.power]
  | .counterRecordWrite _ => [.power, .logs]
  | .powerLogWrite => [.power, .logs]
  | .ownSupplyFault _ _ => [.power, .faults]
  | .vcoreStep => [.power]
  | .readVoutPoll _ => [.power, .faults]
  | .pmbusFailure => [.power, .faults]
  | .uliberRise => [.layer, .power]
  | .syncTimeout => [.power, .faults]
  | .uliberLayerRelease => [.power]
  | .uliberAbortPulseReceived => [.layer, .decoders, .pixels, .scan, .position, .polygons, .loops, .motion, .power, .host, .telemetry, .boot]
  | .uliberAbortLevel => [.layer, .decoders, .pixels, .scan, .position, .polygons, .loops, .motion, .power, .faults, .host, .telemetry, .boot]
  | .faultEvent => [.free, .layer, .decoders, .pixels, .scan, .position, .polygons, .loops, .motion, .thermal, .power, .faults, .host, .telemetry, .boot]
  | .faultFastPath => [.layer, .decoders, .pixels, .scan, .position, .polygons, .loops, .motion, .power, .faults, .host, .telemetry, .boot]
  | .faultQueueOverflow _ _ => [.faults]
  | .classFallback _ _ => [.faults]
  | .graveLatch => [.layer, .decoders, .pixels, .scan, .position, .polygons, .loops, .motion, .power, .faults, .host, .telemetry, .boot]
  | .suppressedRecord _ _ => [.faults]
  | .faultLogWrite _ => [.faults, .logs]
  | .alivePeriodEnd => [.faults]
  | .heartbeatWrite => [.faults]
  | .watchdogReset _ => [.free, .legendApplied, .layer, .decoders, .pixels, .scan, .position, .polygons, .loops, .motion, .thermal, .power, .faults, .host, .dma, .telemetry, .boot, .otp, .survey, .memory]
  | .lsafeAssert => [.layer, .decoders, .pixels, .scan, .position, .polygons, .loops, .motion, .power, .faults, .host, .telemetry, .boot, .pins]
  | .lenAssert => [.faults]
  | .dmaRun _ => [.dma]
  | .dmaResume _ _ => [.free, .faults, .dma]
  | .dmaReset _ => [.dma]
  | .dmaDisable _ _ _ _ _ => [.free, .host, .dma, .memory]
  | .dmaDisableClear _ => [.dma]
  | .dmaDrainDone _ => [.dma]
  | .descriptorFetch _ _ _ _ => [.faults, .dma, .memory]
  | .descriptorComplete _ _ _ _ => [.free, .faults, .host, .dma, .memory]
  | .dmaAccessError _ _ _ _ _ _ => [.free, .faults, .host, .dma, .memory]
  | .dmaRecordWrite _ => [.host, .dma]
  | .feedChannelError _ => [.layer, .decoders, .pixels, .position, .loops, .faults, .host, .telemetry, .boot]
  | .captureRecord _ => [.free, .faults, .host, .telemetry, .memory]
  | .blockCode _ _ _ => [.free, .faults, .host, .dma, .telemetry, .memory]
  | .tlmStart _ _ => [.free, .faults, .host, .dma, .telemetry, .memory]
  | .tlmStop _ => [.telemetry]
  | .tlmFlush _ => [.telemetry]
  | .tlmRearm _ => [.free, .faults, .host, .dma, .telemetry, .memory]
  | .snapshotTrigger _ => [.faults, .telemetry]
  | .tlmWriteError _ _ => [.free, .faults, .host, .dma, .telemetry, .memory]
  | .powerOnReset _ _ _ => [.timeUs, .power, .faults, .boot, .pins]
  | .powerOnResetAssert => [.timeUs, .legend, .legendApplied, .layer, .decoders, .pixels, .scan, .position, .polygons, .loops, .motion, .thermal, .power, .faults, .host, .dma, .telemetry, .boot, .otp, .survey, .memory]
  | .externalWarmReset _ _ => [.free, .legendApplied, .layer, .decoders, .pixels, .scan, .position, .polygons, .loops, .motion, .thermal, .power, .faults, .host, .dma, .telemetry, .boot, .otp, .survey, .memory]
  | .bootOtpSense _ _ => [.scan, .faults, .boot, .otp]
  | .bootLegend _ _ _ _ _ => [.free, .legend, .legendApplied, .scan, .position, .loops, .motion, .power, .faults, .boot]
  | .bootDdrTrain _ _ _ _ => [.pixels, .scan, .loops, .faults, .boot, .survey]
  | .bootDiscovery _ => [.pixels, .faults, .boot, .survey]
  | .configOpen _ _ => [.host, .boot]
  | .bootRecovery _ => [.layer, .position, .faults, .host, .boot, .memory]
  | .ready => [.free, .loops, .motion, .faults, .host, .dma, .telemetry, .boot, .survey, .memory]
  | .bootHalt _ _ => [.host, .boot]
  | .jenzanPoll _ _ _ => [.free, .pixels, .faults, .boot]
  | .jenzanReplyMissing _ _ _ _ => [.boot]
  | .announceReceived _ => [.boot]
  | .unitIdentify _ _ _ => [.pixels, .faults, .boot, .survey]
  | .unitDetach _ _ => [.pixels, .faults, .boot]
  | .wearWrite _ _ _ _ => [.boot]
  | .otpProgram _ _ => [.faults, .otp]
  | .otpLock _ _ _ _ => [.faults, .otp]
  | .otpAdvance _ _ => [.faults, .otp]
  | .verifyRegion _ _ _ => [.otp]
  | .surveyIntervalExpiry => [.survey]
  | .rsCorrectionMark _ _ _ _ => [.survey]
  | .seParity _ => [.scan, .faults, .survey]
  | .dllRelock _ => [.scan]
  | .lsafeNRelease => [.faults, .pins]
  | .resetNRelease => [.boot]
  | .testEnAssert => [.legendApplied, .layer, .decoders, .pixels, .scan, .position, .polygons, .loops, .motion, .thermal, .power, .faults, .host, .dma, .telemetry, .otp, .survey, .pins]
  | .aerError _ => [.faults]
  | .mainsZeroCrossing => [.loops]

/-- The commands that may reset the islands: the resets, and those that may act a WARM_RESET of the maintenance queue (R369, R426). -/
def mayReset : Instr → Bool
  | .externalWarmReset _ _ | .watchdogReset _ | .warmReset _ _ _ | .mqEntryTake _ _ | .cqRecordWrite _ _ | .layerBoundaryActions _
  | .powerOnResetAssert | .testEnAssert => true
  | _ => false

end Sys2Proof.Machine
end

