-- ==== Sys2Proof/Certificates/Slice0/Obligations.lean ====
section
/-! DEFINITION. The statements for the provers, chapter by chapter: what a command does, what it leaves, where it completes,
and what every step keeps. `Completes c s P` says that the command answers a next state of which P holds; `Keeps l s t` says
that every part of the state outside l is unchanged. -/

open Sys2Proof Sys2Proof.Machine

/-! The layer cycle. -/

/-- (From R21, R23, R24, R26, R27.) An evaluation of the admission candidate ends it with the cause of the lowest-numbered
rejecting condition that fails, keeps it QUEUED while only wait conditions fail, its timer running except while condition 12 or
16 fails, and admits it with the feed reservation when every condition holds; without a candidate, or with another job ahead of
TRANSFUSE, nothing is evaluated. The reading of conditions 2 and 15 is the model's, log entry 51. -/
def Obligations.AdmissionFollowsTheConditions : Prop :=
  ∀ s : State, s.specified = true →
    (s.candidate = none ∨ s.islandsUp = false ∨ s.mayEvaluate = false → exec .admissionEvaluation s = .next s) ∧
    ∀ j : Job, s.islandsUp = true → s.mayEvaluate = true → s.candidate = some j →
    (∀ n, (List.range 17).find? (fun n => s.rejects j n) = some n →
      Completes .admissionEvaluation s fun t =>
        Keeps [.layer, .decoders, .pixels, .position, .loops, .host, .telemetry, .boot] s t ∧
        EndedBy j.seq .rejected (condCause n) 0 0 s t) ∧
    ((∀ n < 17, s.rejects j n = false) → s.unmetOf j ≠ 0 →
      Completes .admissionEvaluation s fun t => Keeps [.layer] s t ∧ t.layer.jobs = s.layer.jobs ∧ t.layer.feedOwner = s.layer.feedOwner ∧
        t.layer.hold = s.layer.hold ∧ t.layer.unmet = BitVec.ofNat 17 (s.unmetOf j) ∧ t.layer.timerSeq = some j.seq ∧
        (s.fails j 12 = true ∨ s.fails j 16 = true → t.layer.timerRunning = false ∧
          (s.layer.timerSeq ≠ some j.seq → t.layer.timerRemainUs = 1000000 * s.legend.layer.admitTimeoutS) ∧
          (s.layer.timerSeq = some j.seq → s.layer.timerRunning = true →
            t.layer.timerRemainUs = s.layer.timerRemainUs - (s.timeUs - s.layer.timerStartUs))) ∧
        (s.fails j 12 = false → s.fails j 16 = false → t.layer.timerRunning = true ∧
          (s.layer.timerSeq ≠ some j.seq → t.layer.timerRemainUs = 1000000 * s.legend.layer.admitTimeoutS ∧ t.layer.timerStartUs = s.timeUs) ∧
          (s.layer.timerSeq = some j.seq → t.layer.timerRemainUs = s.layer.timerRemainUs ∧
            t.layer.timerStartUs = if s.layer.timerRunning then s.layer.timerStartUs else s.timeUs))) ∧
    ((∀ n < 17, s.rejects j n = false) → s.unmetOf j = 0 →
      Completes .admissionEvaluation s fun t => Keeps [.layer] s t ∧ t.layer.feedOwner = some j.seq ∧ t.layer.timerSeq = none ∧
        t.layer.timerRunning = false ∧ t.layer.hold = s.layer.hold ∧ t.layer.unmet = 0 ∧ JobsElse j.seq s t ∧
        JobIs t j.seq fun k => k.state = .admitted ∧ k.flags.throttled = s.throttledNow)

/-- (From R27, R29, R314.) The admission timer's end gives the cause of the lowest-numbered failing wait condition; a rejecting
condition ends an ADMITTED job; a wait condition that ceases to hold returns it to QUEUED and releases the feed reservation, or
ends it once the member has released the Uliber line; while its STARTED mark is not durable the first failure is kept; nothing
happens before time or with every condition holding. -/
def Obligations.AdmissionTimeoutAndRequeue : Prop :=
  ∀ s : State, s.specified = true →
    (s.candidate = none ∨ s.mayEvaluate = false ∨ s.layer.timerRunning = false ∨
      s.elapsed s.layer.timerStartUs s.layer.timerRemainUs = false → exec .admitTimeout s = .next s) ∧
    (s.layer.jobs.find? (fun k => k.state == .admitted) = none → exec .admittedRequeue s = .next s) ∧
    ∀ j : Job,
    (∀ n, s.candidate = some j → s.mayEvaluate = true → s.layer.timerSeq = some j.seq → s.layer.timerRunning = true →
      s.elapsed s.layer.timerStartUs s.layer.timerRemainUs = true → s.fails j 12 = false → s.fails j 16 = false →
      [5, 6, 8, 9, 10, 11, 14, 15].find? (fun n => s.fails j n) = some n →
      Completes .admitTimeout s fun t =>
        Keeps [.layer, .decoders, .pixels, .position, .loops, .host, .telemetry, .boot] s t ∧ t.layer.timerRunning = false ∧
        EndedBy j.seq .rejected (condCause n) 0 0 s t) ∧
    (s.layer.jobs.find? (fun k => k.state == .admitted) = some j → j.arming = false →
      ((∀ m < 17, s.fails j m = false) → exec .admittedRequeue s = .next s) ∧
      (∀ n, (List.range 17).find? (fun n => s.rejects j n) = some n →
        Completes .admittedRequeue s fun t =>
          Keeps [.layer, .decoders, .pixels, .position, .loops, .power, .host, .telemetry, .boot] s t ∧
          EndedBy j.seq .rejected (condCause n) 0 0 s t ∧
          ((s.power.layerReleased && s.legend.power.ulbEnable) = false → t.power = s.power) ∧
          ((s.power.layerReleased && s.legend.power.ulbEnable) = true → t.power = { s.power with abortPulse := some s.timeUs })) ∧
      ∀ n, (∀ m < 17, s.rejects j m = false) → (List.range 17).find? (fun n => s.fails j n) = some n →
        ((s.power.layerReleased && s.legend.power.ulbEnable) = false →
          Completes .admittedRequeue s fun t => Keeps [.layer] s t ∧ JobsElse j.seq s t ∧
            t.layer = { s.layer with
              jobs := t.layer.jobs, feedOwner := if s.layer.feedOwner = some j.seq then none else s.layer.feedOwner } ∧
            JobIs t j.seq fun k => k.state = .queued) ∧
        ((s.power.layerReleased && s.legend.power.ulbEnable) = true →
          Completes .admittedRequeue s fun t =>
            Keeps [.layer, .decoders, .pixels, .position, .loops, .power, .host, .telemetry, .boot] s t ∧
            EndedBy j.seq .rejected (condCause n) 0 0 s t ∧ t.power = { s.power with abortPulse := some s.timeUs })) ∧
    (s.layer.jobs.find? (fun k => k.state == .admitted) = some j → j.arming = true →
      (s.retestFail j = none ∨ j.armFail ≠ .none → exec .admittedRequeue s = .next s) ∧
      ∀ n, s.retestFail j = some n → j.armFail = .none →
        Completes .admittedRequeue s fun t => Keeps [.layer] s t ∧ JobsElse j.seq s t ∧
          JobIs t j.seq fun k => k.armFail = condCause n ∧ (k.source, k.inst) = if n = 12 then s.standingFault else (0, 0))

/-- (From R32, R40, R165.) Arming begins alone or under overlap: the first slot occurrence whose every meridian lies ARM_LEAD
ahead is chosen as Ô and kept with the job, and its STARTED mark falls due with Ô, SIGMA_Q and the flags known; with an earlier
job not ended, or with overlap not permitted, nothing begins. That neither neighbour may forbid overlap, and the origin of a job
with no imaging station, are the model's choices, log entries 52 and 53. -/
def Obligations.ArmingWritesStarted : Prop :=
  (∀ (s : State) (j : Job), (s.legend.layer.sharedBelt && s.legend.power.ulbEnable) = false → s.legend.position.origins ≠ [] →
    (∀ x : Fin 6, j.images x.val = true →
      s.position.travel + 256 * s.legend.position.armLead ≤ s.meridianOf x (s.chooseOrigin j).2) ∧
    (∃ o, s.legend.position.origins[(s.chooseOrigin j).1]? = some o ∧
      ((s.chooseOrigin j).2 - ((o : Int) - 256 * s.position.indexOffset)) % (256 * max 1 s.legend.position.beltLen : Int) = 0) ∧
    ∀ (i o : Nat) (p : Int), s.legend.position.origins[i]? = some o →
      (p - ((o : Int) - 256 * s.position.indexOffset)) % (256 * max 1 s.legend.position.beltLen : Int) = 0 →
      (∃ x : Fin 6, j.images x.val = true ∧ s.meridianOf x 0 < 4611686018427387904) →
      (∀ x : Fin 6, j.images x.val = true → s.position.travel + 256 * s.legend.position.armLead ≤ s.meridianOf x p) →
      (s.chooseOrigin j).2 ≤ p) ∧
  ∀ s : State, s.specified = true →
    (s.armable = none → exec .armingStart s = .next s ∧ exec .overlapTest s = .next s) ∧
    (s.layer.jobs.find? (fun k => k.state == .returning) = none → exec .overlapTest s = .next s) ∧
    ∀ j : Job, s.armable = some j →
    (((s.layer.jobs.takeWhile fun k => k.seq != j.seq).all fun k => k.state == .ended) = false → exec .armingStart s = .next s) ∧
    (((s.layer.jobs.takeWhile fun k => k.seq != j.seq).all fun k => k.state == .ended) = true →
      Completes .armingStart s fun t => Keeps [.layer, .position, .host] s t ∧ JobsElse j.seq s t ∧
        (JobIs t j.seq fun k => k.arming = true ∧ k.armFail = .none ∧
          k.origin = (if j.imagesAny then (s.chooseOrigin j).2 else s.position.travel) ∧ k.flags.overlapped = false) ∧
        (∀ x : Fin 6, t.position.meridians[x] = if j.images x.val then { s.position.meridians[x] with slot := (s.chooseOrigin j).1 }
          else s.position.meridians[x]) ∧
        t.host.atlas.todo = s.host.atlas.todo ++ [{ seq := j.seq, kind := 2, body := padTo 32 (s.startedBody
          (if j.imagesAny then (s.chooseOrigin j).2 else s.position.travel) { j.flags with overlapped := false }) }]) ∧
    (∀ n, s.layer.jobs.find? (fun k => k.state == .returning) = some n →
      (s.overlapOk n j = false → exec .overlapTest s = .next s) ∧
      (s.overlapOk n j = true →
      Completes .overlapTest s fun t => Keeps [.layer, .position, .host] s t ∧ JobsElse j.seq s t ∧
        (JobIs t j.seq fun k => k.arming = true ∧ k.armFail = .none ∧ k.origin = (s.chooseOrigin j).2 ∧
          k.flags.overlapped = true) ∧
        t.host.atlas.todo = s.host.atlas.todo ++ [{ seq := j.seq, kind := 2, body := padTo 32 (s.startedBody
          (s.chooseOrigin j).2 { j.flags with overlapped := true }) }]))

/-- (From R21, R22, R29, R32, R33, R34, R92, R174, R232.) Once STARTED is durable, a job with every condition holding and every
entry ahead of the belt is ARMED, its entries armed and the exposure set, the bands and the registration offsets latched; one
with no imaging station passes to LOWER; a condition that failed meanwhile ends it; an entry found behind ends it
MERIDIAN_MISSED; in ARMED a failing condition of 0 to 13 ends it with that condition's cause, condition 12 before the others. -/
def Obligations.ArmingCompletesOrEnds : Prop :=
  ∀ s : State, s.specified = true →
    (s.layer.jobs.find? (fun k => k.state == .admitted && k.arming && k.startedDurable) = none → exec .armingComplete s = .next s) ∧
    (s.layer.jobs.find? (fun k => k.state == .armed) = none → exec .armedRetestFail s = .next s) ∧
    ∀ j : Job,
    (s.layer.jobs.find? (fun k => k.state == .admitted && k.arming && k.startedDurable) = some j →
      (j.armFail ≠ .none → Completes .armingComplete s fun t => EndedBy j.seq .rejected j.armFail j.source j.inst s t) ∧
      (∀ n, j.armFail = .none → s.retestFail j = some n → Completes .armingComplete s fun t =>
        EndedBy j.seq .rejected (condCause n) (if n = 12 then s.standingFault.1 else 0) (if n = 12 then s.standingFault.2 else 0) s t) ∧
      (j.armFail = .none → (∀ n < 14, s.fails j n = false) → j.imagesAny = true →
        ((∀ x : Fin 6, j.images x.val = true → s.travelNow < s.meridianOf x j.origin) →
        Completes .armingComplete s fun t =>
          Keeps [.layer, .decoders, .pixels, .scan, .position, .polygons, .loops, .motion, .thermal, .power, .faults, .host,
            .telemetry, .boot] s t ∧ JobsElse j.seq s t ∧ (JobIs t j.seq fun k => k.state = .armed ∧ k.arming = false) ∧
          (∀ x : Fin 6, (j.images x.val = true → t.position.meridians[x].state = .armed ∧ t.position.meridians[x].job = j.seq ∧
              t.position.meridians[x].target = s.meridianOf x j.origin) ∧
            (j.images x.val = false → t.position.meridians[x] = s.position.meridians[x])) ∧
          (∀ x : Fin 6, t.pixels[x].expoSet = s.loops.expoSet ∧ t.pixels[x].drumBand = s.thermal.drums[x].band ∧
            t.thermal.drums[x] = { s.thermal.drums[x] with latched := s.thermal.drums[x].band } ∧
            t.loops.ac[x] = { s.loops.ac[x] with nextT := s.thermal.drums[x].band, nextH := s.loops.humBand } ∧
            t.position.reg[x] = { s.position.reg[x] with
              xLatched := s.position.reg[x].xscan, iLatched := s.position.reg[x].inscan } ∧
            t.decoders[x] = s.decoders[x] ∧ t.scan.stations[x] = s.scan.stations[x] ∧
            ∀ l : Fin 5, s.pixels[x].lanes[l].state = .trained → t.pixels[x].lanes[l].state = .trained ∧ t.pixels[x].lanes[l].last = .soc)) ∧
        ((∃ x : Fin 6, j.images x.val = true ∧ s.meridianOf x j.origin ≤ s.travelNow) →
        Completes .armingComplete s fun t =>
          Keeps [.layer, .decoders, .pixels, .scan, .position, .polygons, .loops, .motion, .thermal, .power, .faults, .host,
            .telemetry, .boot] s t ∧ (∃ x : Fin 6, j.images x.val = true ∧
            EndedBy j.seq .rejected .meridianMissed Source.merMissed.number x.val s t) ∧
          ∀ x : Fin 6, j.images x.val = true → s.meridianOf x j.origin ≤ s.travelNow →
            t.position.meridians[x].state = .missed ∧ t.position.meridians[x].found = s.travelNow ∧
            t.position.meridians[x].missed = min 65535 (s.position.meridians[x].missed + 1))) ∧
      (j.armFail = .none → (∀ n < 14, s.fails j n = false) → j.imagesAny = false →
        max 1 s.legend.motion.stepNm ≤ s.motion.zStep + s.motion.residue →
        Completes .armingComplete s fun t => JobsElse j.seq s t ∧ (JobIs t j.seq fun k => k.state = .lower) ∧
          t.motion.residue = (s.motion.zStep + s.motion.residue) % max 1 s.legend.motion.stepNm ∧
          t.position.meridians = s.position.meridians)) ∧
    (s.layer.jobs.find? (fun k => k.state == .armed) = some j →
      ((∀ n < 14, s.fails j n = false) → exec .armedRetestFail s = .next s) ∧
      ∀ n, (if s.fails j 12 then some 12 else (List.range 14).find? (fun n => s.fails j n)) = some n →
      Completes .armedRetestFail s fun t =>
        Keeps [.layer, .decoders, .pixels, .position, .loops, .host, .telemetry, .boot] s t ∧
        EndedBy j.seq .rejected (condCause n) (if n = 12 then s.standingFault.1 else 0) (if n = 12 then s.standingFault.2 else 0) s t)

/-- (From R41 to R44, R46, R49.) The first trigger that the state shows (Grave, Severe, LSAFE_N, a missed meridian, the carriage
not ready) aborts the layer in its window, once: every lane forced off, the job's entries disabled; with LSAFE_N asserted the
cause is LSAFE and LEN is low; with belt and carriage at rest the job ends SCRAPPED with the first trigger's cause and HOLD is
set; a layer past its nip that a fault overtook ends ENDED_OK; with no layer in its window, an abort running or nothing at rest,
nothing happens. -/
def Obligations.AbortRunsOnceAndScraps : Prop :=
  ∀ s : State, s.specified = true →
    (s.windowJob = none ∨ s.layer.abortRunning = true → exec .layerAbortSequence s = .next s) ∧
    (s.layer.abortRunning = false ∨ (getN s.motion.servos 0 {}).atRest = false ∨ (getN s.motion.servos 1 {}).atRest = false →
      exec .abortEnd s = .next s) ∧
    ((s.layer.jobs.find? fun k => (k.state == .lower || k.state == .returning) && k.flags.postFault) = none →
      exec .postFaultEnd s = .next s) ∧
    ∀ j : Job,
    (s.windowJob = some j → s.layer.abortRunning = false →
      (s.faults.grave = true → Completes .layerAbortSequence s fun t => t.layer.abortRunning = true ∧ t.layer.abortSeq = j.seq ∧
        t.layer.abortCause = .grave ∧ t.layer.abortSource = s.faults.graveSrc ∧ (∀ x : Fin 6, t.pixels[x].forced = true)) ∧
      (s.faults.grave = false → s.severeStands = true → Completes .layerAbortSequence s fun t => t.layer.abortRunning = true ∧
        t.layer.abortSeq = j.seq ∧ t.layer.abortCause = faultCause .severe s.faults.firstSrc s.faults.firstInst ∧
        t.layer.abortSource = s.faults.firstSrc ∧ (∀ x : Fin 6, t.pixels[x].forced = true)) ∧
      (s.faults.grave = false → s.severeStands = false → s.faults.lsafe = false →
        Completes .layerAbortSequence s fun t => t.layer.abortRunning = true ∧ t.layer.abortSeq = j.seq ∧
        t.layer.abortCause = .lsafe ∧ t.faults = { s.faults with len := false } ∧ JobsElse j.seq s t ∧ (JobIs t j.seq fun k => k.inst = 0) ∧
        (∀ x : Fin 6, t.pixels[x].forced = true ∧ t.pixels[x].forceSource = .lsafe ∧ t.pixels[x].job = none ∧
          t.pixels[x].bdSource = false ∧ t.position.meridians[x].state ≠ .armed) ∧
        Keeps [.layer, .decoders, .pixels, .scan, .position, .polygons, .loops, .motion, .power, .faults, .host, .telemetry,
          .boot] s t) ∧
      (∀ x : Fin 6, s.faults.grave = false → s.severeStands = false → s.faults.lsafe = true →
        stations.find? (fun x => s.position.meridians[x].job == j.seq && s.position.meridians[x].state == .missed) = some x →
        Completes .layerAbortSequence s fun t => t.layer.abortRunning = true ∧ t.layer.abortSeq = j.seq ∧ t.faults = s.faults ∧
          t.layer.abortCause = .meridianMissed ∧ t.layer.abortSource = Source.merMissed.number ∧ ∀ y : Fin 6, t.pixels[y].forced = true) ∧
      (s.faults.grave = false → s.severeStands = false → s.faults.lsafe = true →
        (∀ x : Fin 6, s.position.meridians[x].job ≠ j.seq ∨ s.position.meridians[x].state ≠ .missed) →
        (s.carriageLate j = false → exec .layerAbortSequence s = .next s) ∧
        (s.carriageLate j = true → Completes .layerAbortSequence s fun t => t.layer.abortRunning = true ∧ t.layer.abortSeq = j.seq ∧
          t.faults = s.faults ∧ t.layer.abortCause = .carriageNotReady ∧ ∀ y : Fin 6, t.pixels[y].forced = true))) ∧
    (s.layer.abortRunning = true → s.jobOf s.layer.abortSeq = some j → j.state ≠ .ended → (getN s.motion.servos 0 {}).atRest = true →
      (getN s.motion.servos 1 {}).atRest = true →
      Completes .abortEnd s fun t => Keeps [.layer, .decoders, .pixels, .position, .loops, .host, .telemetry, .boot] s t ∧
        t.layer.hold = true ∧ t.layer.abortRunning = false ∧ EndedBy j.seq .scrapped s.layer.abortCause s.layer.abortSource j.inst s t) ∧
    (s.layer.jobs.find? (fun k => (k.state == .lower || k.state == .returning) && k.flags.postFault) = some j →
      ((getN s.motion.servos 0 {}).atRest = false ∨ (getN s.motion.servos 1 {}).atRest = false ∨ s.motion.carrPhase = .returning ∨
        anyV (fun p => p.state == .moving) s.motion.steppers = true → exec .postFaultEnd s = .next s) ∧
      ((getN s.motion.servos 0 {}).atRest = true → (getN s.motion.servos 1 {}).atRest = true → s.motion.carrPhase ≠ .returning →
      anyV (fun p => p.state == .moving) s.motion.steppers = false →
      Completes .postFaultEnd s fun t => Keeps [.layer, .decoders, .pixels, .position, .loops, .host, .telemetry, .boot] s t ∧
        EndedBy j.seq .endedOk .none 0 0 s t))

/-! The raster code. -/

/-- (From R25, R54, R62, R66, R73, R75.) A station begins to prime the admission candidate with an empty ring, nothing of the
stream before kept; a valid stream header gives the line length, the line count, the restart interval and the stream's size, and
a stream of no lines is done at once; an invalid header stops the decoder, latches STREAM_HEADER and fails the job's checksum
condition; an uncorrectable codeword in it latches FEED_RS and fails condition 2; without a candidate, before READY, for a
station outside the mask or with an earlier job's lines still to emit, nothing is primed. -/
def Obligations.PrimingReadsTheStreamHeader : Prop :=
  ∀ (s : State) (x : Fin 6), s.specified = true →
    (s.candidate = none → exec (.primingStart x) s = .next s) ∧
    ((s.decoders[x].jobSeq.bind s.jobOf = none ∨ s.decoders[x].state ≠ .streamHeader) →
      ∀ c u, exec (.streamHeaderRead x c u) s = .next s) ∧
    ∀ j : Job,
    (s.candidate = some j →
      (s.boot.ready = false ∨ j.inMask x.val = false ∨ s.stationFree x j.seq = false ∨ s.decoders[x].jobSeq = some j.seq →
        exec (.primingStart x) s = .next s) ∧
      (s.boot.ready = true → j.inMask x.val = true → s.stationFree x j.seq = true → s.decoders[x].jobSeq ≠ some j.seq →
        Completes (.primingStart x) s fun t => Keeps [.decoders] s t ∧ (∀ y : Fin 6, y ≠ x → t.decoders[y] = s.decoders[y]) ∧
          t.decoders[x] = { s.decoders[x] with
            ring := Vector.replicate 64 {}, buffer := [], header := none, refChain := false, state := .streamHeader,
            jobSeq := some j.seq, fetched := 0, consumed := 0, failedEnd := none, lastFree := none, nextLine := 0, lineCount := 0,
            lineLength := 0, restartInterval := 0, streamBytes := 0, replaced := 0, replacedLines := [], errCheck := .none,
            errLine := 0 })) ∧
    (s.decoders[x].jobSeq = some j.seq → s.jobOf j.seq = some j → s.decoders[x].state = .streamHeader →
      s.inDram (j.streamAddr x.val) 64 = true → ∀ c : Nat,
      (s.memory.dram.anyBad (j.streamAddr x.val - dramBase) 64 = false →
        streamHeaderOk (s.dramRead (j.streamAddr x.val) 64) (j.lines x.val) s.legend.decoder.restartLimit = true →
        Completes (.streamHeaderRead x c false) s fun t => Keeps [.decoders, .faults] s t ∧ (c = 0 → t.faults = s.faults) ∧
          (∀ y : Fin 6, y ≠ x → t.decoders[y] = s.decoders[y]) ∧
          t.decoders[x] = { s.decoders[x] with
            replaced := 0, replacedLines := [], errCheck := .none, errLine := 0, feedCorr := satAdd 16 s.decoders[x].feedCorr c,
            lineLength := leAt (s.dramRead (j.streamAddr x.val) 64) 6 2, lineCount := leAt (s.dramRead (j.streamAddr x.val) 64) 8 2,
            restartInterval := leAt (s.dramRead (j.streamAddr x.val) 64) 10 2,
            streamBytes := leAt (s.dramRead (j.streamAddr x.val) 64) 16 8, fetched := 64, consumed := 64,
            state := if leAt (s.dramRead (j.streamAddr x.val) 64) 8 2 = 0 then .done else .decoding } ∧
          t.decoders[x].lineCount = j.lines x.val) ∧
      (s.memory.dram.anyBad (j.streamAddr x.val - dramBase) 64 = false →
        streamHeaderOk (s.dramRead (j.streamAddr x.val) 64) (j.lines x.val) s.legend.decoder.restartLimit = false →
        s.decoderInWindow x = false →
        Completes (.streamHeaderRead x c false) s fun t => Keeps [.layer, .decoders, .faults] s t ∧ JobsElse j.seq s t ∧
          (∀ y : Fin 6, y ≠ x → t.decoders[y] = s.decoders[y]) ∧
          t.decoders[x].state = .stopped ∧ t.decoders[x].errCheck = .streamHeader ∧
          t.decoders[x].streamBytes = s.decoders[x].streamBytes ∧ JobIs t j.seq fun k => k.crcBad = true) ∧
      (∀ u : Bool, (u || s.memory.dram.anyBad (j.streamAddr x.val - dramBase) 64) = true → s.decoderInWindow x = false →
        Completes (.streamHeaderRead x c u) s fun t => Keeps [.layer, .decoders, .faults] s t ∧ JobsElse j.seq s t ∧
          (∀ y : Fin 6, y ≠ x → t.decoders[y] = s.decoders[y]) ∧
          t.decoders[x].state = .stopped ∧ t.decoders[x].errCheck = .feedRs ∧
          t.decoders[x].feedUncorr = satAdd 16 s.decoders[x].feedUncorr 1 ∧ JobIs t j.seq fun k => k.rsBad = true))

/-- (From R64, R66, R60, R61, R63.) A line header that passes the checks keeps the decode budget, the size bound and the restart
rule, and a line decoded without a LINE_FORMAT error has exactly PIXELS levels, each of 0 to 15. -/
def Obligations.CheckedLinesKeepTheirBounds : Prop :=
  (∀ (d : Decoder) (b : List Byte) (h : LineHeader), checkLineHeader d b = .ok h →
    h.line = d.nextLine ∧ 1 ≤ h.pixels ∧ h.pixels ≤ d.lineLength ∧ h.symbols ≤ (h.pixels + 1) / 2 ∧
    h.payload ≤ rawSize h.pixels ∧ h.recordLen ≤ rawSize h.pixels + 16 ∧ h.level < 16 ∧ (h.mode ≠ .solid → h.level = 0) ∧
    (h.mode = .literal → h.payload = 8 * ((h.pixels + 15) / 16)) ∧
    (h.mode = .ref → ∃ j, d.lastFree = some j ∧ h.line < j + d.restartInterval)) ∧
  ∀ (h : LineHeader) (ref : List Nat) (payload : List Byte) (ls : List Nat),
    (h.mode = .literal → h.payload = 8 * ((h.pixels + 15) / 16)) → payload.length = h.payload →
    decodeLine h ref payload = .ok ls →
    ls.length = h.pixels ∧ (h.level < 16 → (∀ l ∈ ref, l < 16) → ∀ l ∈ ls, l < 16)

/-- (From R392, R78, R66 to R72, R75 to R77.) What a feed read brings, and that an uncorrectable codeword in it stops the
decoder and fails the job's condition 2 before the window; a line with its header checked and its record fetched is decoded into
a free slot; with no free slot the decoder waits; a LINE_FORMAT error or a checksum mismatch replaces the line by level 0 in the
window and rejects the job before it; a REF line in a chain is replaced; an uncorrectable codeword of the reference stops the
decoder; during an abort nothing is fetched, and a decoder neither decoding nor waiting decodes nothing. -/
def Obligations.LinesAreDecodedIntoTheRing : Prop :=
  ∀ (s : State) (x : Fin 6), s.specified = true →
    (s.layer.abortRunning = true → ∀ n c k, exec (.feedRead x n c k) s = .next s) ∧
    (s.decoders[x].state ≠ .decoding → s.decoders[x].state ≠ .ringFull → ∀ c b, exec (.lineDecode x c b) s = .next s) ∧
    ∀ j : Job, s.decoders[x].jobSeq = some j.seq → s.jobOf j.seq = some j → s.decoders[x].state = .decoding →
    (∀ n : Nat, 0 < n → n ≤ 65536 - s.decoders[x].buffer.length → n ≤ s.decoders[x].feedEnd - s.decoders[x].fetched →
      s.inDram (j.streamAddr x.val + s.decoders[x].fetched) n = true →
      s.layer.abortRunning = false →
      (s.memory.dram.anyBad (j.streamAddr x.val + s.decoders[x].fetched - dramBase) n = false →
        Completes (.feedRead x n 0 none) s fun t => Keeps [.decoders] s t ∧ (∀ y : Fin 6, y ≠ x → t.decoders[y] = s.decoders[y]) ∧
          t.decoders[x].buffer = s.decoders[x].buffer ++ s.dramRead (j.streamAddr x.val + s.decoders[x].fetched) n ∧
          t.decoders[x].fetched = s.decoders[x].fetched + n ∧ t.decoders[x].ring = s.decoders[x].ring) ∧
      (∀ k : Nat, k < n → s.decoderInWindow x = false → s.decoders[x].failedEnd = none →
        Completes (.feedRead x n 0 (some k)) s fun t => Keeps [.layer, .decoders, .faults] s t ∧ JobsElse j.seq s t ∧
          t.decoders[x].state = .stopped ∧ t.decoders[x].feedUncorr = satAdd 16 s.decoders[x].feedUncorr 1 ∧
          (s.decoders[x].errCheck = .none → t.decoders[x].errCheck = .feedRs) ∧ JobIs t j.seq fun k => k.rsBad = true)) ∧
    (∀ (h : LineHeader), s.decoders[x].header = some h → h.recordLen ≤ s.decoders[x].buffer.length →
      (s.decoders[x].freeSlot = none →
        Completes (.lineDecode x 0 false) s fun t =>
          Keeps [.decoders] s t ∧ (∀ y : Fin 6, y ≠ x → t.decoders[y] = s.decoders[y]) ∧
          t.decoders[x] = { s.decoders[x] with state := .ringFull }) ∧
      (∀ slot, s.decoders[x].freeSlot = some slot → h.mode = .ref → s.decoders[x].refChain = false →
        (s.decoders[x].slotOf (h.line - 1)).map (·.tag) = some .data → s.decoderInWindow x = false →
        Completes (.lineDecode x 0 true) s fun t => Keeps [.layer, .decoders, .faults] s t ∧ JobsElse j.seq s t ∧
          t.decoders[x].state = .stopped ∧ t.decoders[x].ringUncorr = satAdd 16 s.decoders[x].ringUncorr 1 ∧
          t.decoders[x].ring = s.decoders[x].ring ∧ JobIs t j.seq fun k => k.rsBad = true) ∧
      (∀ slot, s.decoders[x].freeSlot = some slot → s.decoders[x].nextHeaderError h = none → h.mode = .ref →
        s.decoders[x].refChain = true →
        Completes (.lineDecode x 0 false) s fun t => Keeps [.layer, .decoders, .faults] s t ∧
          t.decoders[x].ring = (modN s.decoders[x].ring slot fun _ => { tag := .zero, line := h.line, pixels := h.pixels }) ∧
          t.decoders[x].replaced = wrapAdd 16 s.decoders[x].replaced 1 ∧ t.decoders[x].lines = wrapAdd 32 s.decoders[x].lines 1) ∧
      (∀ slot sym, s.decoders[x].freeSlot = some slot → s.decoders[x].nextHeaderError h = none →
        (h.mode = .ref → s.decoders[x].refChain = false) →
        decodeLine h (((s.decoders[x].slotOf (h.line - 1)).map RingSlot.read).getD [])
          (((s.decoders[x].buffer.take h.recordLen).drop 16).take h.payload) = .error sym →
        (s.decoderInWindow x = true →
          Completes (.lineDecode x 0 false) s fun t => Keeps [.layer, .decoders, .faults] s t ∧
            t.decoders[x].ring = (modN s.decoders[x].ring slot fun _ => { tag := .zero, line := h.line, pixels := h.pixels }) ∧
            t.decoders[x].replacedLines = h.line :: s.decoders[x].replacedLines) ∧
        (s.decoderInWindow x = false →
          Completes (.lineDecode x 0 false) s fun t => Keeps [.layer, .decoders, .faults] s t ∧ JobsElse j.seq s t ∧
            t.decoders[x].state = .stopped ∧ t.decoders[x].ring = s.decoders[x].ring ∧
            (s.decoders[x].errCheck = .none → t.decoders[x].errCheck = .lineFormat ∧ t.decoders[x].errLine = h.line) ∧
            JobIs t j.seq fun k => k.headerBad = true)) ∧
      (∀ slot levels, s.decoders[x].freeSlot = some slot → s.decoders[x].nextHeaderError h = none →
        (h.mode = .ref → s.decoders[x].refChain = false) →
        decodeLine h (((s.decoders[x].slotOf (h.line - 1)).map RingSlot.read).getD [])
          (((s.decoders[x].buffer.take h.recordLen).drop 16).take h.payload) = .ok levels →
        (leAt (s.decoders[x].buffer.take h.recordLen) 14 2 =
            crc16 ((s.decoders[x].buffer.take h.recordLen).take 14 ++ (s.decoders[x].buffer.take h.recordLen).drop 16) →
          Completes (.lineDecode x 0 false) s fun t => Keeps [.layer, .decoders, .faults] s t ∧
            (∀ y : Fin 6, y ≠ x → t.decoders[y] = s.decoders[y]) ∧
            (s.decoders[x].lineCount = s.decoders[x].nextLine + 1 → t.decoders[x].state = .done) ∧
            t.decoders[x].nextLine = s.decoders[x].nextLine + 1 ∧ t.decoders[x].lines = wrapAdd 32 s.decoders[x].lines 1 ∧
            t.decoders[x].replaced = s.decoders[x].replaced ∧
            t.decoders[x].buffer = s.decoders[x].buffer.drop h.recordLen ∧
            t.decoders[x].ring = modN s.decoders[x].ring slot fun _ =>
              { decodedSlot h levels with line := h.line, pixels := h.pixels }) ∧
        (leAt (s.decoders[x].buffer.take h.recordLen) 14 2 ≠
            crc16 ((s.decoders[x].buffer.take h.recordLen).take 14 ++ (s.decoders[x].buffer.take h.recordLen).drop 16) →
          (s.decoderInWindow x = true →
            Completes (.lineDecode x 0 false) s fun t => Keeps [.layer, .decoders, .faults] s t ∧
              t.decoders[x].ring = (modN s.decoders[x].ring slot fun _ => { tag := .zero, line := h.line, pixels := h.pixels }) ∧
              t.decoders[x].replacedLines = h.line :: s.decoders[x].replacedLines) ∧
          (s.decoderInWindow x = false →
            Completes (.lineDecode x 0 false) s fun t => Keeps [.layer, .decoders, .faults] s t ∧ JobsElse j.seq s t ∧
              t.decoders[x].state = .stopped ∧ t.decoders[x].ring = s.decoders[x].ring ∧
              JobIs t j.seq fun k => k.crcBad = true))))

/-! The pixel path. -/

/-- (From R82, R99, R45, R21, R83, R101 to R103, R106, R112.) The frame of sweep k starts at XSYNC(k−1) or at the meridian, SOF
before it on each lane that carries a logical lane, its header and blocks after; as it completes, EOF and the CRC-8 follow, its
lines count as emitted and its trim update is taken; XSYNC(k) then begins the exposure of that sweep; nothing starts while a
frame is sent, and nothing is exposed without a frame complete. The step in which the first frame is built is the model's
choice, log entry 10. -/
def Obligations.SweepFramesStartCompleteAndAreExposed : Prop :=
  (∀ (g : LegPixel) (px : Pixel) (d : Decoder) (f : SweepFrame) (k : Int) (lane : Nat),
    (laneFrame g px d f k lane).length = 8 + 26 * (g.emitters / 4) * ((d.lineLength + 19) / 20)) ∧
  ∀ (s : State) (x : Fin 6), s.specified = true →
    (s.pixels[x].job = none ∨ s.pixels[x].state ≠ .framing ∨ s.pixels[x].frame ≠ none ∨ s.pixels[x].k1 < s.pixels[x].k ∨
      (s.pixels[x].k ≠ s.pixels[x].k0 ∧ s.pixels[x].exposing ≠ some (s.pixels[x].k - 1)) →
      ∀ c b, exec (.sweepFrameStart x c b) s = .next s) ∧
    (s.pixels[x].frame = none → exec (.sweepFrameComplete x) s = .next s) ∧
    (s.pixels[x].ready = none ∨ s.scan.stations[x].phi = none → exec (.xsyncExposure x) s = .next s) ∧
    (∀ q, s.pixels[x].job = some q → s.pixels[x].state = .framing → s.pixels[x].frame = none → s.pixels[x].k ≤ s.pixels[x].k1 →
      (s.pixels[x].k = s.pixels[x].k0 ∨ s.pixels[x].exposing = some (s.pixels[x].k - 1)) →
      Completes (.sweepFrameStart x 0 []) s fun t => Keeps [.decoders, .pixels, .faults] s t ∧ t.faults = s.faults ∧
        StationsElse x s t ∧ t.pixels[x].frame = some (s.buildFrame x q s.pixels[x].k) ∧
        t.pixels[x].nextProbe = (s.pixels[x].nextProbe + 1) % (s.legPixel x).emitters ∧
        t.pixels[x].k = s.pixels[x].k ∧ t.pixels[x].trims = s.pixels[x].trims ∧
        t.decoders[x] = { s.decoders[x].releaseBelow (s.pixels[x].k * (s.legPixel x).emitters - bMinusOf (s.legPixel x)) with
          ringCorr := satAdd 16 s.decoders[x].ringCorr 0 } ∧
        ((∀ g h : Fin 4, s.pixels[x].map[g] = s.pixels[x].map[h] → g = h) → ∀ g : Fin 4, ∀ l : Fin 5, s.pixels[x].map[g] = l.val →
          t.pixels[x].lanes[l].sent = [.symbols .sof 1, .bytes (s.buildFrame x q s.pixels[x].k).data[g]])) ∧
    (∀ f j, s.pixels[x].frame = some f → s.jobOf f.job = some j →
      Completes (.sweepFrameComplete x) s fun t => Keeps [.layer, .decoders, .pixels] s t ∧ StationsElse x s t ∧ JobsElse f.job s t ∧
        t.pixels[x].frame = none ∧ t.pixels[x].ready = some f ∧ t.pixels[x].k = s.pixels[x].k + 1 ∧
        t.pixels[x].frames = wrapAdd 16 s.pixels[x].frames 1 ∧
        (f.trimValid = true → t.pixels[x].trims = modN s.pixels[x].trims f.trimEmitter fun _ => f.trimValue) ∧
        (f.trimValid = false → t.pixels[x].trims = s.pixels[x].trims) ∧
        ((∀ g h : Fin 4, s.pixels[x].map[g] = s.pixels[x].map[h] → g = h) → ∀ g : Fin 4, ∀ l : Fin 5, s.pixels[x].map[g] = l.val →
          t.pixels[x].lanes[l].sent =
            s.pixels[x].lanes[l].sent ++ [.symbols .eof 1, .bytes (le 1 (crc8 f.data[g]))]) ∧
        (f.last = false → t.decoders = s.decoders ∧ ∃ k ∈ t.layer.jobs, k.seq = f.job ∧ k.state = j.state ∧
          k.emitted[x] = j.emitted[x] + (sweepLines (s.legPixel x) (j.lines x.val) s.pixels[x].k).length) ∧
        (f.last = true → t.decoders[x].ringLevel = 0 ∧ JobIs t f.job fun k => k.stationEnd[x] = true)) ∧
    (∀ f p, s.pixels[x].ready = some f → s.scan.stations[x].phi = some p →
      Completes (.xsyncExposure x) s fun t => Keeps [.pixels, .scan] s t ∧ StationsElse x s t ∧
        t.pixels[x] = { s.pixels[x] with
          ready := none, exposing := some (f.sweep + s.pixels[x].k0),
          target := (datumWalk (s.legPixel x) f.lineLength s.scan.stations[x].phiFacet p).1,
          phase := (datumWalk (s.legPixel x) f.lineLength s.scan.stations[x].phiFacet p).2.1,
          steps := (datumWalk (s.legPixel x) f.lineLength s.scan.stations[x].phiFacet p).2.2,
          bdSource := if f.first then false else s.pixels[x].bdSource, bdWaitLast := s.pixels[x].bdWaitLast || f.last } ∧
        t.scan.stations[x].phi = none ∧ t.scan.stations[x].tap = ((t.pixels[x].phase) % 128).toNat ∧
        t.scan.stations[x].datumSteps = wrapAdd 32 s.scan.stations[x].datumSteps t.pixels[x].steps)

/-- (From R89, R90.) Over an exposure of A cycles the datum line takes at most one step in any two cycles, each of one tap. -/
def Obligations.DatumLineWalksByHalfItsCycles : Prop :=
  ∀ (g : LegPixel) (p facet : Nat) (phase : Int),
    2 * (datumWalk g p facet phase).2.2 ≤ cellEdge g.cellQ p + 1 ∧
    ((datumWalk g p facet phase).2.1 - phase).natAbs ≤ (datumWalk g p facet phase).2.2

/-- (From R96, R97, R98.) A probe amplitude in range moves the probe's trim by at most 1/1024, inside ±TRIM_LIMIT, from sweep
k+2 on, and one out of range moves none; a surface sample moves the track offset by at most one, inside ±SLOW_LIMIT; the trims
are saved under the module's serial number. -/
def Obligations.ExposureAdaptsByOneStep : Prop :=
  (∀ (g : LegPixel) (target amp : Nat) (trim : Int), g.trimLimit ≤ 128 → trim.natAbs ≤ g.trimLimit → -128 ≤ trim → trim ≤ 127 →
    (adjustTrim g target amp trim - trim).natAbs ≤ 1 ∧ (adjustTrim g target amp trim).natAbs ≤ g.trimLimit) ∧
  ∀ (s : State) (x : Fin 6), s.specified = true →
    (∀ f a, s.pixels[x].ready = some f →
      (nth (s.legPixel x).fastTarget f.probe 0 ≤ 4 * a → a ≤ 4 * nth (s.legPixel x).fastTarget f.probe 0 →
        Completes (.probeSample x (some a)) s fun t => Keeps [.pixels, .faults] s t ∧ t.pixels[x].lastAmp = a ∧
          t.pixels[x].lastProbe = f.probe ∧ t.pixels[x].trims = s.pixels[x].trims ∧
          ((s.legPixel x).fastEnable = false → t.pixels[x].updates = s.pixels[x].updates) ∧
          ((s.legPixel x).fastEnable = true →
            adjustTrim (s.legPixel x) (nth (s.legPixel x).fastTarget f.probe 0) a (getN s.pixels[x].trims f.probe 0) ≠
              getN s.pixels[x].trims f.probe 0 →
            t.pixels[x].updates = s.pixels[x].updates ++ [⟨f.probe,
              adjustTrim (s.legPixel x) (nth (s.legPixel x).fastTarget f.probe 0) a (getN s.pixels[x].trims f.probe 0),
              f.sweep + s.pixels[x].k0 + 2⟩])) ∧
      (4 * nth (s.legPixel x).fastTarget f.probe 0 < a ∨ 4 * a < nth (s.legPixel x).fastTarget f.probe 0 →
        Completes (.probeSample x (some a)) s fun t => Keeps [.pixels, .faults] s t ∧ t.pixels[x].lastAmp = a ∧
          t.pixels[x].updates = s.pixels[x].updates)) ∧
    (∀ (track : Fin 4) (v : Int), (s.legPixel x).slowEnable = true → track.val < (s.legPixel x).tracks → s.islandsUp = true →
      (s.legPixel x).slowLimit ≤ 15 → s.pixels[x].offsets[track].natAbs ≤ (s.legPixel x).slowLimit →
      Completes (.slowLoopSample x track v) s fun t => Keeps [.pixels, .faults] s t ∧
        (t.pixels[x].offsets[track] - s.pixels[x].offsets[track]).natAbs ≤ 1 ∧
        t.pixels[x].offsets[track].natAbs ≤ (s.legPixel x).slowLimit) ∧
    (∀ (track : Fin 4) (v : Int), (s.legPixel x).slowEnable = false ∨ (s.legPixel x).tracks ≤ track.val ∨ s.islandsUp = false →
      exec (.slowLoopSample x track v) s = .next s) ∧
    (s.pixels[x].ready = none → ∀ a, exec (.probeSample x a) s = .next s) ∧
    (s.boot.ready = false ∨ s.pixels[x].moduleSerial = 0 → exec (.trimSave x) s = .next s) ∧
    (s.boot.ready = true → s.pixels[x].moduleSerial ≠ 0 →
      Completes (.trimSave x) s fun t => Keeps [.boot] s t ∧
        t.boot = { s.boot with savedTrims := (s.pixels[x].moduleSerial, s.pixels[x].trims.toList) ::
          s.boot.savedTrims.filter fun p => p.1 != s.pixels[x].moduleSerial })

/-- (From R108, R109, R112.) A lane whose module reports lock with the lane's identity and then the configuration's CRC-8 is
TRAINED at its first attempt, having sent the configuration frame; nine reports without lock leave it FAILED after three
attempts, raised; BD_ON goes out on every trained lane, and on no other, after a force-off once LSAFE_N is deasserted and no
abort is left, and after the sweep whose frame carried LAST; without such a cause none goes out, and outside a layer boundary no
lane trains. -/
def Obligations.LanesTrainAndBearingSourceReturns : Prop :=
  ∀ (s : State) (x : Fin 6), s.specified = true →
    (∀ (lane : Fin 5) (rs : List LaneReport),
      (s.boundary = false ∨ s.pixels[x].lanes[lane].pending = false → exec (.laneTraining x lane rs) s = .next s) ∧
      (s.boundary = true → s.pixels[x].lanes[lane].pending = true → s.pixels[x].lanes[lane].state ≠ .training →
        (∀ a b, rs = [a, b] → a.lock = true → a.id = lane.val →
          b.crc = crc8 (configBlock (s.legPixel x) s.pixels[x] lane.val none) →
          Completes (.laneTraining x lane rs) s fun t => Keeps [.pixels] s t ∧ StationsElse x s t ∧
            (∀ l : Fin 5, l ≠ lane → t.pixels[x].lanes[l] = s.pixels[x].lanes[l]) ∧
            t.pixels[x].lanes[lane] = { s.pixels[x].lanes[lane] with
              state := .trained, attempts := 1, step := .config, polls := 0, pending := false, marked := false, last := .idle,
              sent := configRuns (configBlock (s.legPixel x) s.pixels[x] lane.val none),
              config := configBlock (s.legPixel x) s.pixels[x] lane.val none }) ∧
        (rs.length = 9 → (∀ r ∈ rs, r.lock = false) →
          Completes (.laneTraining x lane rs) s fun t => Keeps [.pixels, .faults] s t ∧ StationsElse x s t ∧
            (∀ l : Fin 5, l ≠ lane → t.pixels[x].lanes[l] = s.pixels[x].lanes[l]) ∧
            t.pixels[x].lanes[lane] = { s.pixels[x].lanes[lane] with
              state := .failed, attempts := 3, step := .lock, polls := 0, pending := false, marked := true, last := .idle,
              sent := trainRuns lane.val x.val s.pixels[x].moduleSerial } ∧
            t.faults = (s.raiseD .laneTrain x.val (le 1 lane.val)).faults))) ∧
    (anyV (fun l => l.state == .trained) s.pixels[x].lanes = false ∨
      (s.pixels[x].forced = true ∧ (s.faults.lsafe = false ∨ s.layer.abortRunning = true)) ∨
      (s.pixels[x].forced = false ∧ s.pixels[x].bdWaitLast = false) → exec (.bdOn x) s = .next s) ∧
    (anyV (fun l => l.state == .trained) s.pixels[x].lanes = true →
      (s.pixels[x].forced = true ∧ s.faults.lsafe = true ∧ s.layer.abortRunning = false) ∨
        (s.pixels[x].forced = false ∧ s.pixels[x].bdWaitLast = true) →
      Completes (.bdOn x) s fun t => Keeps [.pixels] s t ∧ StationsElse x s t ∧ t.pixels[x].bdSource = true ∧
        t.pixels[x].forced = false ∧ t.pixels[x].bdWaitLast = false ∧
        ∀ l : Fin 5,
          (s.pixels[x].lanes[l].state = .trained →
            t.pixels[x].lanes[l] = { s.pixels[x].lanes[l] with last := .bdOn, sent := [.symbols .bdOn 1] }) ∧
          (s.pixels[x].lanes[l].state ≠ .trained → t.pixels[x].lanes[l] = s.pixels[x].lanes[l]))

/-! Scan timing. -/

/-- (From R128, R130, R131.) The loss of REF_25M or of a PLL is raised once; the pixel PLL's loss stops all six clocks at once,
after the layer in its window has been forced off; a relock starts them FREE at station time 0; a frequency request that finds
no layer boundary is held DEFERRED with the scale of R123; one at a boundary is refused, nothing changed, where a divider lies
below the floor, and otherwise, N unchanged, loads the six dividers of R125 and restarts the stations FREE. -/
def Obligations.ClockLossesAndRequests : Prop :=
  ∀ (s : State), s.specified = true →
    (s.scan.refOk = true → Completes .refLoss s fun t => Keeps [.scan, .faults] s t ∧ t.scan.refOk = false ∧
      t.faults = (s.raise .clkRefLoss 0).faults) ∧
    (s.scan.sysLocked = true → Completes (.ctlSysPllUnlock true) s fun t => Keeps [.scan, .faults] s t ∧ t.scan.sysLocked = false ∧
      t.faults = (s.raise .clkSysUnlock 0).faults) ∧
    (s.scan.ctlLocked = true → Completes (.ctlSysPllUnlock false) s fun t => Keeps [.scan, .faults] s t ∧ t.scan.ctlLocked = false ∧
      t.faults = (s.raise .clkCtlUnlock 0).faults) ∧
    (s.scan.pllLocked = true → Completes .pixelPllUnlock s fun t => t.scan.gated = true ∧ t.scan.pllLocked = false ∧
      t.scan.relocking = true ∧ (∀ x : Fin 6, t.scan.stations[x].state = .stopped) ∧
      (s.windowOpen = false → Keeps [.scan, .polygons, .faults] s t ∧ t.faults = (s.raise .clkPxUnlockIdle 0).faults) ∧
      (s.windowOpen = true → Keeps [.layer, .decoders, .pixels, .scan, .position, .polygons, .loops, .motion, .power, .faults,
          .host, .telemetry, .boot] s t ∧
        ∀ j, s.windowJob = some j → s.layer.abortRunning = false → ∀ x : Fin 6, t.pixels[x].forced = true)) ∧
    (s.scan.relocking = true → s.islandsUp = true →
      Completes .pixelPllRelock s fun t => Keeps [.scan, .faults, .host] s t ∧ t.scan.pllLocked = true ∧ t.scan.gated = false ∧
        (s.scan.reqState = .applying → t.scan.reqState = .applied) ∧
        ∀ x : Fin 6, t.scan.stations[x].state = .free ∧ t.scan.stations[x].dllLocked = true ∧ t.scan.stations[x].tick = 0) ∧
    (∀ src, s.islandsUp = true → s.scan.held = none →
      (s.boundary = false →
        Completes (.frequencyRequest src) s fun t => Keeps [.scan, .polygons, .motion, .thermal, .faults, .host] s t ∧
          t.scan.reqState = .deferred ∧ t.scan.pllN = s.scan.pllN ∧ t.scan.sigma = s.scan.sigma ∧
          ∃ r, t.scan.held = some r ∧ r.source = src ∧ r.sigma = s.effectiveSigma s.scan.code) ∧
      (s.boundary = true → s.scan.relocking = false → anyV Polygon.holdsSpeed s.polygons = false →
        (s.effectiveSigma s.scan.code = 0 ∨ (∃ x : Fin 6, dividerOk (speedEntry s.legend.scan s.scan.code).2
            (dividerOf s.legend.scan.lineRate (s.legScan x).lineCycles (speedEntry s.legend.scan s.scan.code).2
              (s.effectiveSigma s.scan.code)) = false) →
          Completes (.frequencyRequest src) s fun t => Keeps [.scan, .polygons, .motion, .thermal, .faults, .host] s t ∧
            t.scan.reqState = .refused ∧ t.scan.pllN = s.scan.pllN ∧ t.scan.sigma = s.scan.sigma ∧ t.scan.code = s.scan.code) ∧
        (s.effectiveSigma s.scan.code ≠ 0 → (∀ x : Fin 6, dividerOk (speedEntry s.legend.scan s.scan.code).2
            (dividerOf s.legend.scan.lineRate (s.legScan x).lineCycles (speedEntry s.legend.scan s.scan.code).2
              (s.effectiveSigma s.scan.code)) = true) → (speedEntry s.legend.scan s.scan.code).2 = s.scan.pllN →
          Completes (.frequencyRequest src) s fun t => Keeps [.scan, .polygons, .motion, .thermal, .faults, .host] s t ∧
            t.scan.reqState = .applied ∧ t.scan.sigma = s.effectiveSigma s.scan.code ∧
            ∀ x : Fin 6, t.scan.stations[x].state = .free ∧
              16777216 * t.scan.stations[x].dInt + t.scan.stations[x].dFrac = dividerHeld s.scan.pllN
                (dividerOf s.legend.scan.lineRate (s.legScan x).lineCycles s.scan.pllN (s.effectiveSigma s.scan.code)))))

/-- (From R136, R137, R138, R279.) A datum line's unlock takes its schedule out of LOCKED, is raised as RUN while the station
images, and marks the line on the second within an hour; a calibration's map, which gives each requested phase a tap that none
is nearer to, is loaded only while the station is not imaging; a tap wider than 1.5 taps or one out of order marks the line; a
calibration is due again when the interval of the die band has run out. -/
def Obligations.DatumLinesRelockAndCalibrate : Prop :=
  (∀ (m : TapMeasure) (k i : Nat), k < 128 → i < 128 → nth (tapMap m) k 0 < 128 ∧
    tapDistance (tapPlaces m) k (nth (tapMap m) k 0) ≤ tapDistance (tapPlaces m) k i) ∧
  ∀ (s : State) (x : Fin 6), s.specified = true → s.scan.stations[x].state ≠ .stopped →
    (s.scan.stations[x].dllLocked = true →
      (Completes (.dllUnlock x) s fun t => Keeps [.scan, .faults] s t ∧ t.scan.stations[x].dllLocked = false ∧
        t.scan.stations[x].state ≠ .locked ∧
        (t.scan.stations[x].marked = (s.scan.stations[x].marked ||
          !(s.scan.stations[x].unlocks.filter fun u => s.timeUs < u + 3600000000).isEmpty)) ∧
        t.faults = (if s.imaging x then s.raise .datumUnlockRun x.val else s.raise .datumUnlockIdle x.val).faults) ∧
      ∀ m, (s.scan.stations[x].calDue = true → s.imaging x = false) →
        Completes (.datumCalibration x m) s fun t => Keeps [.scan, .survey] s t ∧ t.scan.stations[x].calUs = s.timeUs ∧
          t.scan.stations[x].marked = (s.scan.stations[x].marked || m.hist.any (fun h => decide (12288 < h)) || m.disorder != 0) ∧
          (s.imaging x = false → t.scan.stations[x].calMap = tapMap m ∧ t.scan.stations[x].calValid = true) ∧
          (s.imaging x = true → t.scan.stations[x].calMap = s.scan.stations[x].calMap ∧
            t.scan.stations[x].newMap = some (tapMap m))) ∧
    (s.scan.stations[x].dllLocked = false →
      Completes (.dllRelock x) s fun t => Keeps [.scan] s t ∧ t.scan.stations[x].dllLocked = true) ∧
    (s.islandsUp = true → s.scan.stations[x].calDue = false → s.elapsed s.scan.stations[x].calUs s.calIntervalUs = true →
      Completes (.calibrationDue x) s fun t => Keeps [.scan] s t ∧ t.scan.stations[x].calDue = true)

/-- (From R139 to R142.) A qualified edge of the acceptance window, or during acquisition, is the bearing, stamped at 128 c + t
after the correction map; one active for fewer than BD_MIN_WIDTH cycles is none; a window that closes empty takes the predicted
time in its place and raises BEAR_x.MISS; other qualified edges are stray; four revolutions in which the same other rotation
scores best make the identity UNKNOWN. -/
def Obligations.BearingsAreStampedSubstitutedAndIdentified : Prop :=
  ∀ (s : State) (x : Fin 6), s.specified = true → s.bearingsExpected x = true →
    (∀ e : BdEdge, e.width < (s.legScan x).bdMinWidth → Completes (.bearingStamp x e) s fun t => t = s) ∧
    (∀ (e : BdEdge) (b : Nat), e.falling = (s.legScan x).bdFalling → (s.legScan x).bdMinWidth ≤ e.width → e.tap < 128 →
      (if e.falling then e.level < 4 * (s.legScan x).bdThresh else 4 * (s.legScan x).bdThresh ≤ e.level) →
      b = 128 * e.cycle + (if s.scan.stations[x].calValid then nth s.scan.stations[x].calMap e.tap e.tap else e.tap) →
      (s.scan.stations[x].predicted (s.facets x) = none → s.scan.stations[x].windowHit = false →
        Completes (.bearingStamp x e) s fun t => Keeps [.scan, .polygons, .faults] s t ∧ t.scan.stations[x].stamp = b ∧
          t.scan.stations[x].count = s.scan.stations[x].count + 1) ∧
      ∀ p, s.scan.stations[x].predicted (s.facets x) = some p →
        (s.scan.stations[x].windowHit = false → p ≤ b + 128 * (s.legScan x).bdWindow → b ≤ p + 128 * (s.legScan x).bdWindow →
          Completes (.bearingStamp x e) s fun t => Keeps [.scan, .polygons, .faults] s t ∧ t.scan.stations[x].stamp = b ∧
            t.scan.stations[x].count = s.scan.stations[x].count + 1 ∧ t.scan.stations[x].windowHit = true ∧
            t.scan.stations[x].missRun = 0) ∧
        (s.scan.stations[x].windowHit = true ∨ b + 128 * (s.legScan x).bdWindow < p ∨ p + 128 * (s.legScan x).bdWindow < b →
          Completes (.strayEdge x e) s fun t => Keeps [.scan, .faults] s t ∧ t.faults = (s.raise .bearStray x.val).faults ∧
            t.scan.stations[x].strays = satAdd 16 s.scan.stations[x].strays 1 ∧
            t.scan.stations[x].stamp = s.scan.stations[x].stamp)) ∧
    (∀ p, s.scan.stations[x].predicted (s.facets x) = some p → s.scan.stations[x].windowHit = false →
      s.scan.stations[x].missRun = 0 →
        Completes (.bearingWindowClose x) s fun t => Keeps [.scan, .polygons, .faults] s t ∧
          t.scan.stations[x].stamp = p ∧ t.scan.stations[x].misses = satAdd 16 s.scan.stations[x].misses 1 ∧
          t.scan.stations[x].missRun = 1) ∧
    (∀ r, (s.legScan x).signature = true → 4 * s.facets x + 1 ≤ s.scan.stations[x].count →
      4 * s.facets x < s.scan.stations[x].history.length → s.scan.stations[x].facetId = .identified →
      (bestRotation (s.facets x) (s.legScan x).facetSig (s.scan.stations[x].signature (s.facets x))).1 = r →
      (r = s.scan.stations[x].origin →
        Completes (.facetIdCheck x) s fun t => Keeps [.scan, .faults] s t ∧ t.scan.stations[x].facetId = .identified) ∧
      (r ≠ s.scan.stations[x].origin → s.scan.stations[x].rival = r → s.scan.stations[x].rivalRuns = 3 →
        Completes (.facetIdCheck x) s fun t => Keeps [.scan, .faults] s t ∧ t.scan.stations[x].facetId = .unknown ∧
          t.faults = (if s.imaging x then s.raise .bearFacetRun x.val else s.raise .bearFacetIdle x.val).faults))

/-- (From R143.) The ticks follow the slew rule: each error, clamped to ±SCHED_SLEW, corrects the tick after next; in ACQUIRE
outside a window an error beyond CAPTURE_BAND makes the tick jump to the crossing time, and inside a window no tick ever moves.
The crossing time reaches station time through the timebase bridge. -/
def Obligations.ScheduleSlewsAndJumpsOnlyOutsideWindows : Prop :=
  ∀ (s : State) (x : Fin 6), s.specified = true →
    (s.scan.stations[x].state ≠ .stopped →
      Completes (.scheduleTick x) s fun t => Keeps [.scan] s t ∧ t.scan.stations[x].tick = s.scan.stations[x].nextTick ∧
        t.scan.stations[x].tickIndex = s.scan.stations[x].tickIndex + 1 ∧
        (s.beltAtSpeed = false → t.scan.stations[x].state = .free ∧
          t.scan.stations[x].nextTick = s.scan.stations[x].nextTick + 128 * s.tSw x) ∧
        (s.beltAtSpeed = true → s.legend.position.indexSrc = none → s.scan.stations[x].state ≠ .free →
          t.scan.stations[x].nextTick =
            ((s.scan.stations[x].nextTick : Int) + 128 * s.tSw x + s.scan.stations[x].correction).toNat ∧
          t.scan.stations[x].correction = s.scan.stations[x].early)) ∧
    (∀ (pair : ClockPair) (k : Crossing) (c e : Int), s.position.crossings[x] = some k → s.scan.stations[x].aligned = true →
      c = bridge pair k.time64 → e = c - s.scan.stations[x].tickAt (128 * s.tSw x) k.index →
      s.scan.stations[x].state = .acquire ∨ s.scan.stations[x].state = .locked ∨ s.scan.stations[x].state = .slip →
      (s.scan.stations[x].state = .acquire → s.windowOpen = false → s.position.reg[x].slewing = false →
        128 * (s.legScan x).captureBand < e.natAbs →
        Completes (.crossingTimeDelivery x pair) s fun t => Keeps [.scan, .position, .faults] s t ∧
          t.scan.stations[x].tick = c.toNat ∧ t.scan.stations[x].nextTick = c.toNat + 128 * s.tSw x ∧
          t.scan.stations[x].tickIndex = k.index ∧ t.position.crossings[x] = none) ∧
      (s.windowOpen = true →
        Completes (.crossingTimeDelivery x pair) s fun t => Keeps [.scan, .position, .faults] s t ∧
          t.scan.stations[x].tick = s.scan.stations[x].tick ∧ t.scan.stations[x].nextTick = s.scan.stations[x].nextTick ∧
          t.scan.stations[x].err = e ∧ t.position.crossings[x] = none ∧
          (k.index ≤ s.scan.stations[x].tickIndex →
            t.scan.stations[x].correction = clampI (-(128 * (s.legScan x).schedSlew : Nat)) (128 * (s.legScan x).schedSlew : Nat)
              (roundDiv e (2 ^ (s.legScan x).schedGain)) ∧
            t.scan.stations[x].correction.natAbs ≤ 128 * (s.legScan x).schedSlew) ∧
          (s.scan.stations[x].tickIndex < k.index → t.scan.stations[x].correction = s.scan.stations[x].correction ∧
            t.scan.stations[x].early.natAbs ≤ 128 * (s.legScan x).schedSlew)))

/-! Position and registration. -/

/-- (From R152 to R154, R156 to R158, R178.) One level changed on the belt's input, shown for ENC_FILT + 1 samples, is one count
of 256 of travel, stamped with the first of them; both changed are an illegal transition that counts nothing, and fewer samples
are no edge; a valid SSI frame gives its position to its axis, a failed one moves nothing and the third in a row raises
SSIn.LOST; a limited axis reports the limit and keeps the rest in OVER, so its true position is never lost; a mark is placed by
the travel at its stamp; the first index sets the belt position and never moves travel, a later one only raises the difference;
an emulated output makes one edge toward the demanded count. The sense in which QA leads QB and the whole width of OVER are the
model's choices, log entries 22 and 29. -/
def Obligations.PositionsCountEdgesAndAreNeverLost : Prop :=
  (∀ (g : LegAxis) (p : Int) (a : Axis), g.lo ≤ g.hi →
    (a.moveTo g true p).position + (a.moveTo g true p).beyond = p ∧ g.lo ≤ (a.moveTo g true p).position ∧
    (a.moveTo g true p).position ≤ g.hi ∧
    ((a.moveTo g true p).beyond = 0 → g.lo < p → p < g.hi → (a.moveTo g true p).atLo = false ∧ (a.moveTo g true p).atHi = false)) ∧
  (∀ (g : LegSsi) (f : SsiBits), ssiPasses g f = true ↔
    (g.parity = true → (onesOf (f.code % 2 ^ ssiWidth g) + b2n (g.error && f.errorBit) + b2n f.parityBit) % 2 = 0) ∧
    (g.error = true → f.errorBit = false) ∧ ∃ t, f.high = some t ∧ t ≤ 1000 * g.tm) ∧
  ∀ (s : State), s.specified = true → s.islandsUp = true →
    (∀ (e : Fin 4) (qa qb : Bool) (cycle held : Nat), s.encAxis e = .belt →
      (held ≤ getN s.legend.position.encFilt e.val 0 →
        Completes (.encoderEdge e qa qb cycle held) s fun t =>
          Keeps [.position, .motion, .faults] s t ∧ t.position.travel = s.position.travel ∧
          t.position.encoders = s.position.encoders) ∧
      (getN s.legend.position.encFilt e.val 0 < held → (qa != s.position.encoders[e].qa) ≠ (qb != s.position.encoders[e].qb) →
        Completes (.encoderEdge e qa qb cycle held) s fun t =>
          Keeps [.position, .motion, .faults] s t ∧
          t.position.travel = s.position.travel + (if quadForward s.position.encoders[e] qa qb then 256 else -256) ∧
          t.position.encoders[e].stamp = cycle + 1 - held ∧ t.position.encoders[e].qa = qa ∧ t.position.encoders[e].qb = qb) ∧
      (getN s.legend.position.encFilt e.val 0 < held → qa ≠ s.position.encoders[e].qa → qb ≠ s.position.encoders[e].qb →
        Completes (.encoderEdge e qa qb cycle held) s fun t =>
          Keeps [.position, .motion, .faults] s t ∧ t.position.travel = s.position.travel ∧
          t.position.encoders[e].quadErrs = satAdd 16 s.position.encoders[e].quadErrs 1 ∧
          t.faults = (if s.windowOpen then s.raise .encQuadRun e.val else s.raise .encQuadIdle e.val).faults)) ∧
    (∀ (n : Fin 4) (f : SsiBits),
      (ssiPasses s.legend.position.ssi[n] f = true →
        Completes (.ssiFrame n f) s fun t => Keeps [.position, .motion, .faults] s t ∧ t.position.ssi[n].valid = true ∧
          t.position.ssi[n].badRun = 0 ∧ t.position.ssi[n].position = ssiPosition s.legend.position.ssi[n] f ∧
          t.position.ssi[n].stamp = (f.edgeNs : Int) - s.legend.position.ssi[n].lat ∧
          t.position.ssi[n].frameErrs = s.position.ssi[n].frameErrs ∧
          (s.ssiAxis n = none → t.position.axes = s.position.axes) ∧
          ∀ i, s.ssiAxis n = some i → t.position.axes = modN s.position.axes i fun a =>
            a.moveTo (getN s.legend.position.axes i {}) (i != 1) (ssiPosition s.legend.position.ssi[n] f)) ∧
      (ssiPasses s.legend.position.ssi[n] f = false →
        Completes (.ssiFrame n f) s fun t => Keeps [.position, .motion, .faults] s t ∧ t.position.axes = s.position.axes ∧
          t.position.ssi[n].frameErrs = satAdd 16 s.position.ssi[n].frameErrs 1 ∧ t.position.ssi[n].valid = false ∧
          t.position.ssi[n].position = s.position.ssi[n].position ∧ t.motion = s.motion ∧
          (s.position.ssi[n].badRun ≠ 2 → t.faults = (s.raise .ssiFrame n).faults) ∧
          (s.position.ssi[n].badRun = 2 → t.faults = ((s.raise .ssiFrame n).raise .ssiLost n).faults))) ∧
    (∀ (m : Fin 4) rising (cycle held : Nat), s.position.marks.length < 1024 → s.legend.position.marks[m].filt < held →
      Completes (.markEdge m rising cycle held) s fun t =>
        Keeps [.position] s t ∧ t.position.marks = s.position.marks ++ [⟨m.val, rising, s.travelAt (cycle + 1 - held)⟩] ∧
        t.position.travel = s.position.travel) ∧
    (∀ (e : Fin 4) (cycle held : Nat), s.legend.position.indexSrc = some e.val → getN s.legend.position.encFilt e.val 0 < held →
      (s.position.synced = false →
        Completes (.beltIndex e cycle held) s fun t => Keeps [.position, .faults] s t ∧ t.position.synced = true ∧
          t.position.travel = s.position.travel ∧
          (s.legend.position.indexPos < s.legend.position.beltLen →
            t.beltAt (s.travelAt (cycle + 1 - held)) = s.legend.position.indexPos)) ∧
      (s.position.synced = true →
        Completes (.beltIndex e cycle held) s fun t => Keeps [.position, .faults] s t ∧ t.position.travel = s.position.travel ∧
          t.position.indexOffset = s.position.indexOffset ∧
          (∀ d : Nat, d = ((s.beltAt (s.travelAt (cycle + 1 - held)) : Int) - s.legend.position.indexPos).natAbs →
            t.faults = (if s.legend.position.indexTol < min d (s.legend.position.beltLen - d)
              then s.raise .posBeltIndex 0 else s).faults))) ∧
    (∀ (n : Fin 2) (at' : Nat), s.legend.position.emus[n].source = some false →
      (∀ l, s.position.emus[n].lastEdge = some l → l + 16 ≤ at') →
      (s.travelAt at' * s.legend.position.emus[n].n).fdiv (max 1 s.legend.position.emus[n].m : Nat) = s.position.emus[n].position + 1 →
      Completes (.emulationEdge n at') s fun t => Keeps [.position, .faults] s t ∧
        t.position.emus[n].position = s.position.emus[n].position + 1 ∧ t.position.emus[n].behind = false ∧
        t.position.emus[n].lastEdge = some at')

/-- (From R21, R36, R160, R161, R163, R165, R168.) An armed meridian that an edge or the interpolation of forward travel reaches
fires: its job is IMAGING and the station frames from k0 on; one found behind is MISSED where it was found, and an ARMED job
then ends REJECTED_AT_ADMISSION; the head of a list fires with its action, and one found behind is MISSED. -/
def Obligations.MeridiansFireOrAreMissed : Prop :=
  (∀ (s : State) (x : Fin 6) (j : Job), s.specified = true → s.jobOf s.position.meridians[x].job = some j →
    s.position.meridians[x].state = .armed →
    (∀ at' : Nat, s.position.meridians[x].due = true ∨ (s.position.forward = true ∧ s.position.meridians[x].target ≤ s.travelAt at') →
      j.state = .armed ∨ j.state = .imaging → s.layer.abortRunning = false →
      Completes (.compareFire ⟨x.val, by omega⟩ at') s fun t => Keeps [.layer, .pixels, .scan, .position] s t ∧
        t.position.meridians[x].state = .fired ∧
        (JobIs t j.seq fun k => k.startedMask.getLsbD x.val = true ∧ k.state ≠ .armed) ∧
        t.pixels[x].state = .framing ∧ t.pixels[x].job = some j.seq ∧ t.pixels[x].k = firstSweep (s.legPixel x) ∧
        t.pixels[x].k1 = lastSweep (s.legPixel x) (j.lines x.val)) ∧
    (s.position.meridians[x].due = false → s.beltForward = false → s.position.meridians[x].target ≤ s.travelNow → j.state = .armed →
      Completes (.entryFoundBehind ⟨x.val, by omega⟩) s fun t =>
        Keeps [.layer, .decoders, .pixels, .scan, .position, .polygons, .loops, .motion, .power, .faults, .host, .telemetry,
          .boot] s t ∧
        t.position.meridians[x].state = .missed ∧ t.position.meridians[x].found = s.travelNow ∧
        JobIs t j.seq fun k => k.state = .ended ∧ k.status = .rejected ∧ k.cause = .meridianMissed)) ∧
  ∀ (s : State) (n : Fin 8), s.specified = true →
    (∀ (at' i : Nat) (e : LegCmpEntry), s.cmpDue s.legend.position.cmps[n] s.position.cmps[n] at' = true →
      s.position.cmps[n].group s.legend.position.cmps[n] = [i] → s.legend.position.cmps[n].entries[i]? = some e →
      Completes (.compareFire ⟨n.val + 6, by omega⟩ at') s fun t => Keeps [.position] s t ∧
        t.position.cmps[n].fired = satAdd 8 s.position.cmps[n].fired 1 ∧
        (e.action = .pulse → t.position.cmps[n].out = true ∧ t.position.cmps[n].pulse = some e.width) ∧
        (e.action = .set → t.position.cmps[n].out = true) ∧ (e.action = .clear → t.position.cmps[n].out = false) ∧
        (e.action = .toggle → t.position.cmps[n].out = !s.position.cmps[n].level s.timeUs)) ∧
    (s.position.cmps[n].behind ≠ [] →
      Completes (.entryFoundBehind ⟨n.val + 6, by omega⟩) s fun t => Keeps [.position, .faults] s t ∧
        t.position.cmps[n].missed = satAdd 8 s.position.cmps[n].missed 1 ∧ t.faults = (s.raise .cmpMissed n.val).faults)

/-- (From R171 to R173.) With the layer past the nip its marks are measured and given up, those of a later layer kept; a held
update is 0 inside the deadband and never above REG_STEP_MAX, the reference station is never given one, and no offset in use
moves. -/
def Obligations.RegistrationHoldsBoundedUpdates : Prop :=
  (∀ (g : LegPosition) (e : Int), (e.natAbs ≤ g.regDeadband → regUpdate g e = 0) ∧ (regUpdate g e).natAbs ≤ g.regStep) ∧
  ∀ (s : State) (j : Job), s.specified = true →
    s.layer.jobs.find? (fun j => j.state == .transfuse || j.state == .lower || j.state == .returning) = some j →
    Completes .registrationMeasure s fun t => Keeps [.position, .faults] s t ∧
      t.position.marks = s.position.marks.filter (fun e => decide (s.marksEnd j.origin < e.travel)) ∧
      ∀ x : Fin 6, t.position.reg[x].xscan = s.position.reg[x].xscan ∧ t.position.reg[x].inscan = s.position.reg[x].inscan ∧
        (x.val = s.legend.position.refStation % 6 → t.position.reg[x].held = s.position.reg[x].held)

/-! Polygon drives. -/

/-- (From R187, R188, R190, R191, R193, R195, R203.) A polygon drive goes from OFF through LISTEN, CALIBRATE, ALIGN, OPEN_LOOP
and OBSERVER to BEARING, each step for its one cause; crossings that do not end within SPINDOWN_TIMEOUT and a shunt offset
beyond its limit end the start in FAULT; an ambiguous ALIGN is repeated once with SAT_PULSE doubled, and a failed attempt goes
back to LISTEN, by way of COAST where the observer never agreed. The formula of the angle and its margin is alignResult's (its
cases of a zero divisor are log entry 147), the conversion of the shunts pulseAmps's (log entry 144). -/
def Obligations.PolygonsStartStepByStep : Prop :=
  ∀ (s : State) (x : Fin 6), s.specified = true →
    (s.boot.ready = true → (s.legPoly x).enable = true → s.busNormal = true → s.polygons[x].hostStopped = false →
      s.polygons[x].state = .off → s.power.program ≠ .down → s.power.program ≠ .brownout → s.faults.grave = false →
      Completes (.polyStart x) s fun t => Keeps [.polygons] s t ∧ t.polygons[x].state = .listen ∧ t.polygons[x].gates = false ∧
        t.polygons[x].target = s.polyTarget x s.scan.sigma ∧ (∀ y : Fin 6, y ≠ x → t.polygons[y] = s.polygons[y])) ∧
    (∀ quiet, s.polygons[x].state = .listen →
      (1000 * (s.legPoly x).listenMs ≤ quiet → s.elapsed s.polygons[x].coastUs (1000 * (s.legPoly x).listenMs) = true →
        Completes (.listenTimeout x quiet) s fun t => Keeps [.polygons] s t ∧
          t.polygons[x] = { s.polygons[x] with state := .calibrate, starts := satAdd 8 s.polygons[x].starts 1 } ∧
          (∀ y : Fin 6, y ≠ x → t.polygons[y] = s.polygons[y])) ∧
      (quiet < 1000 * (s.legPoly x).listenMs → s.elapsed s.polygons[x].coastUs (1000000 * (s.legPoly x).spindownS) = true →
        Completes (.listenTimeout x quiet) s fun t => Keeps [.polygons, .faults] s t ∧ t.polygons[x].state = .fault ∧
          t.polygons[x].gates = false ∧ (∀ y : Fin 6, y ≠ x → t.polygons[y] = s.polygons[y]) ∧
          t.faults = (s.raise .polyStartFail x.val).faults)) ∧
    (∀ u v w : Int, s.polygons[x].state = .calibrate → s.engineRuns (32 + x.val) = true →
      ((roundDiv u 256).natAbs ≤ (s.legPoly x).shuntOfsMax → (roundDiv v 256).natAbs ≤ (s.legPoly x).shuntOfsMax →
        (roundDiv w 256).natAbs ≤ (s.legPoly x).shuntOfsMax →
        Completes (.shuntCalibrate x u v w) s fun t => Keeps [.polygons] s t ∧
          t.polygons[x] = { s.polygons[x] with
            ofsU := roundDiv u 256, ofsV := roundDiv v 256, ofsW := roundDiv w 256, state := .align, doubled := false, pulses := [] } ∧
          (∀ y : Fin 6, y ≠ x → t.polygons[y] = s.polygons[y])) ∧
      ((s.legPoly x).shuntOfsMax < (roundDiv u 256).natAbs ∨ (s.legPoly x).shuntOfsMax < (roundDiv v 256).natAbs ∨
        (s.legPoly x).shuntOfsMax < (roundDiv w 256).natAbs →
        Completes (.shuntCalibrate x u v w) s fun t => Keeps [.polygons, .faults] s t ∧ t.polygons[x].state = .fault ∧
          t.polygons[x].gates = false ∧ (∀ y : Fin 6, y ≠ x → t.polygons[y] = s.polygons[y]) ∧
          t.faults = (s.raise .polyShunt x.val).faults)) ∧
    (∀ c r, s.polygons[x].state = .align → s.engineRuns (32 + x.val) = true →
      r = alignResult (s.legPoly x).satMargin
        (pulseAmps (s.legPoly x).dir (s.legPoly x).shuntGain (s.polygons[x].ofsU, s.polygons[x].ofsV, s.polygons[x].ofsW) c) →
      (r.2.2 = true →
        Completes (.alignPulses x c) s fun t => Keeps [.polygons, .loops] s t ∧ t.polygons[x].state = .openLoop ∧
          t.polygons[x].thetaHat = r.1 ∧ t.polygons[x].margin = r.2.1 ∧ t.polygons[x].gates = true ∧
          t.polygons[x].iqRef = (s.legPoly x).iOl ∧ t.polygons[x].rampFine = 0 ∧
          (∀ y : Fin 6, y ≠ x → t.polygons[y] = s.polygons[y])) ∧
      (r.2.2 = false → s.polygons[x].doubled = false →
        Completes (.alignPulses x c) s fun t => Keeps [.polygons] s t ∧ t.polygons[x].state = .align ∧ t.polygons[x].doubled = true ∧
          (∀ y : Fin 6, y ≠ x → t.polygons[y] = s.polygons[y])) ∧
      (r.2.2 = false → s.polygons[x].doubled = true → s.polygons[x].startTry + 1 < (s.legPoly x).startTries →
        (s.legPoly x).startTries ≤ 7 →
        Completes (.alignPulses x c) s fun t => Keeps [.polygons, .faults] s t ∧ t.polygons[x].state = .listen ∧
          t.polygons[x].gates = false ∧ t.polygons[x].startTry = s.polygons[x].startTry + 1 ∧
          (∀ y : Fin 6, y ≠ x → t.polygons[y] = s.polygons[y]) ∧ t.faults = (s.raise .polyStartAngle x.val).faults)) ∧
    (s.polygons[x].state = .openLoop → s.engineRuns (32 + x.val) = true →
      (40000 * (s.legPoly x).obsRpm ≤ s.polygons[x].rampFine → 64 ≤ s.polygons[x].obs.agreeRun →
        Completes (.observerHandover x) s fun t => Keeps [.polygons, .loops] s t ∧ t.polygons[x].state = .observer ∧
          t.polygons[x].source = .observer ∧ t.polygons[x].obsOk = true ∧ t.polygons[x].iqRef = (s.legPoly x).iOl ∧
          (t.loop (38 + x.val)).i = fraction (s.legPoly x).iMax (s.legPoly x).iOl 1 ∧
          (∀ y : Fin 6, y ≠ x → t.polygons[y] = s.polygons[y])) ∧
      (s.polygons[x].obs.agreeRun < 64 → 256 ≤ s.polygons[x].obs.rampRun → s.polygons[x].startTry + 1 < (s.legPoly x).startTries →
        (s.legPoly x).startTries ≤ 7 →
        Completes (.observerHandover x) s fun t => Keeps [.polygons, .faults] s t ∧ t.polygons[x].state = .coast ∧
          t.polygons[x].toListen = true ∧ t.polygons[x].gates = false ∧ t.polygons[x].startTry = s.polygons[x].startTry + 1 ∧
          (∀ y : Fin 6, y ≠ x → t.polygons[y] = s.polygons[y]) ∧ t.faults = (s.raise .polyStartObs x.val).faults)) ∧
    (s.polygons[x].state = .observer → s.polygons[x].alignRun = true → s.polygons[x].alignLeft = 0 →
      s.polygons[x].bdPresent = true → s.polygons[x].obsOk = true → s.engineRuns (32 + x.val) = true →
      Completes (.bearingHandover x) s fun t => Keeps [.polygons] s t ∧ t.polygons[x].state = .bearing ∧
        t.polygons[x].source = .bearing ∧
        t.polygons[x].thetaAlign = some (angleOfVector s.polygons[x].alignSum.1 s.polygons[x].alignSum.2) ∧
        (∀ y : Fin 6, y ≠ x → t.polygons[y] = s.polygons[y]))

/-- (From R186, R196, R199 to R203, R205, R206.) A facet tick computes the speed and a q reference within ±I_MAX, not negative
under the regeneration clamp; with the observer lost the drive goes on by bearings, or coasts when they are absent, and an
engagement lost within 64 samples is a failed attempt; 5 ms of coast lead to a re-catch, crossings that qualify engage the
drive, a window without them fails the attempt, slow or backward crossings end in LISTEN; STOPPING ends at OBS_RPM; an
overcurrent turns the gates off into FAULT from every state. -/
def Obligations.PolygonsCoastRecatchAndStop : Prop :=
  ∀ (s : State) (x : Fin 6), s.specified = true →
    (s.polygons[x].closed = true → s.polygons[x].tickDue = true → (s.legLoop (38 + x.val)).enable = true →
      s.engineRuns (38 + x.val) = true →
      Completes (.speedTick x) s fun t => Keeps [.polygons, .loops, .faults, .telemetry] s t ∧
        t.polygons[x].speed = min (if s.polygons[x].bdPresent then 15360000000000 / max 1 s.polygons[x].tRev
          else s.polygons[x].obsSpeed (s.legPoly x)) 1048575 ∧
        t.polygons[x].iqRef.natAbs ≤ (s.legPoly x).iMax ∧ (s.polygons[x].regenClamp = true → 0 ≤ t.polygons[x].iqRef) ∧
        t.polygons[x].tickDue = false ∧ t.polygons[x].state = s.polygons[x].state ∧
        (∀ y : Fin 6, y ≠ x → t.polygons[y] = s.polygons[y])) ∧
    (s.polygons[x].closed = true → s.polygons[x].obsOk = true →
      8 ≤ s.polygons[x].obs.residRun ∨ s.polygons[x].state = .bearing ∧ 357913941 < s.polygons[x].diff.natAbs →
      (s.polygons[x].bdPresent = true → s.polygons[x].thetaAlign.isSome = true →
        Completes (.observerLoss x) s fun t => Keeps [.polygons, .faults] s t ∧ t.polygons[x].source = .bearing ∧
          t.polygons[x].state = (if s.polygons[x].state = .observer then .bearing else s.polygons[x].state) ∧
          t.polygons[x].gates = true ∧ t.polygons[x].obsOk = false ∧ t.polygons[x].obsLosses = satAdd 8 s.polygons[x].obsLosses 1 ∧
          (∀ y : Fin 6, y ≠ x → t.polygons[y] = s.polygons[y]) ∧ t.faults = (s.raise .polyObsLoss x.val).faults) ∧
      (s.polygons[x].bdPresent = false ∨ s.polygons[x].thetaAlign = none → 64 ≤ s.polygons[x].obs.engageRun →
        Completes (.observerLoss x) s fun t => Keeps [.polygons, .faults] s t ∧ t.polygons[x].state = .coast ∧
          t.polygons[x].gates = false ∧ t.polygons[x].obsOk = false ∧
          (∀ y : Fin 6, y ≠ x → t.polygons[y] = s.polygons[y]))) ∧
    (s.polygons[x].closed = true → s.polygons[x].obsOk = false → s.polygons[x].bdPresent = false →
      (64 ≤ s.polygons[x].obs.engageRun →
        Completes (.rotorLossCoast x) s fun t => Keeps [.polygons, .faults] s t ∧ t.polygons[x].state = .coast ∧
          t.polygons[x].gates = false ∧ t.polygons[x].phaseLock = false ∧ (∀ y : Fin 6, y ≠ x → t.polygons[y] = s.polygons[y]) ∧
          t.faults = (if s.imagingRun x then s.raise .polyRotorLostRun x.val else s.raise .polyRotorLostIdle x.val).faults) ∧
      (s.polygons[x].obs.engageRun < 64 → s.polygons[x].attempts + 1 < (s.legPoly x).recatchTries → (s.legPoly x).recatchTries ≤ 15 →
        Completes (.rotorLossCoast x) s fun t => Keeps [.polygons, .faults] s t ∧ t.polygons[x].state = .coast ∧
          t.polygons[x].gates = false ∧ t.polygons[x].attempts = s.polygons[x].attempts + 1 ∧
          (∀ y : Fin 6, y ≠ x → t.polygons[y] = s.polygons[y]))) ∧
    (s.polygons[x].state = .coast → s.elapsed s.polygons[x].coastUs 5000 = true →
      s.polygons[x].busCoast = false ∨ s.motion.bus.coasting = false → s.faults.grave = false →
      Completes (.coastExpiry x) s fun t => Keeps [.polygons] s t ∧
        t.polygons[x] = { s.polygons[x] with
          state := if s.polygons[x].toListen then .listen else .recatch, toListen := false, busCoast := false, coastUs := s.timeUs } ∧
        (∀ y : Fin 6, y ≠ x → t.polygons[y] = s.polygons[y])) ∧
    (∀ frame (cs : Vector EmfCrossing 4), s.faults.grave = false →
      crossingsQualify (s.legPoly x).dir (max 1 (s.legPoly x).polePairs) (s.legPoly x).emfThresh (s.legPoly x).recatchMinRpm cs.toList = true →
      (s.polygons[x].state = .listen →
        Completes (.recatchEngage x frame cs) s fun t => Keeps [.polygons] s t ∧
          t.polygons[x] = { s.polygons[x] with state := .recatch, attempts := 0, coastUs := s.timeUs } ∧
          (∀ y : Fin 6, y ≠ x → t.polygons[y] = s.polygons[y])) ∧
      (s.polygons[x].state = .recatch → s.engineRuns (32 + x.val) = true → s.motion.bus.coasting = false →
        Completes (.recatchEngage x frame cs) s fun t => Keeps [.polygons, .loops] s t ∧
          t.polygons[x].state = (if s.polygons[x].hostStopped then .stopping else .observer) ∧ t.polygons[x].gates = true ∧
          t.polygons[x].speed = min 1048575 (crossingsSpeed (max 1 (s.legPoly x).polePairs) cs.toList) ∧ t.polygons[x].iqRef = 0 ∧
          (∀ y : Fin 6, y ≠ x → t.polygons[y] = s.polygons[y]))) ∧
    (∀ cs seen : List EmfCrossing, s.polygons[x].state = .recatch → seen = cs.filter (crossingSeen (s.legPoly x).emfThresh) →
      (2 ≤ seen.length → sixthsFollow (s.legPoly x).dir true seen = true ∨ (sixthsFollow (s.legPoly x).dir false seen = true ∧
          crossingsSpeed (max 1 (s.legPoly x).polePairs) seen < 10 * (s.legPoly x).recatchMinRpm) →
        Completes (.recatchFail x cs) s fun t => Keeps [.polygons, .faults] s t ∧
          t.polygons[x] = { s.polygons[x] with state := .listen, attempts := 0, coastUs := s.timeUs } ∧
          (∀ y : Fin 6, y ≠ x → t.polygons[y] = s.polygons[y]) ∧ t.faults = (s.raise .polyRecatchFail x.val).faults) ∧
      (seen.length < 2 → s.elapsed s.polygons[x].coastUs (1000 * (s.legPoly x).recatchWindow) = true →
        (s.polygons[x].attempts + 1 < (s.legPoly x).recatchTries → (s.legPoly x).recatchTries ≤ 15 →
          Completes (.recatchFail x cs) s fun t => Keeps [.polygons, .faults] s t ∧ t.polygons[x].state = .coast ∧
            t.polygons[x].attempts = s.polygons[x].attempts + 1 ∧ (∀ y : Fin 6, y ≠ x → t.polygons[y] = s.polygons[y]) ∧
            t.faults = (s.raise .polyRecatch x.val).faults) ∧
        ((s.legPoly x).recatchTries ≤ s.polygons[x].attempts + 1 → (s.legPoly x).recatchTries ≤ 15 →
          Completes (.recatchFail x cs) s fun t => Keeps [.polygons, .faults] s t ∧ t.polygons[x].state = .listen ∧
            t.polygons[x].attempts = 0 ∧ (∀ y : Fin 6, y ≠ x → t.polygons[y] = s.polygons[y]) ∧
            t.faults = ((s.raise .polyRecatch x.val).raise .polyRecatchFail x.val).faults))) ∧
    (s.polygons[x].state = .stopping → s.polygons[x].gates = false ∨ s.polygons[x].rampFine ≤ 40000 * (s.legPoly x).obsRpm →
      Completes (.polyStopComplete x) s fun t => Keeps [.polygons] s t ∧ t.polygons[x].state = .off ∧ t.polygons[x].gates = false ∧
        (∀ y : Fin 6, y ≠ x → t.polygons[y] = s.polygons[y])) ∧
    (s.islandsUp = true →
      Completes (.overcurrentTrip ⟨x.val, by omega⟩) s fun t => Keeps [.polygons, .faults] s t ∧
        t.polygons[x].state = .fault ∧ t.polygons[x].gates = false ∧ (∀ y : Fin 6, y ≠ x → t.polygons[y] = s.polygons[y]) ∧
        t.faults = (s.raise .polyOvercurrent x.val).faults) ∧
    (∀ u, s.polygons[x].offUs = some u → s.polygons[x].closed = true → s.polygons[x].speedRaised = false →
      s.elapsed u (1000 * (s.legPoly x).speedTimer) = true →
      Completes (.polySpeedFault x) s fun t => Keeps [.polygons, .faults] s t ∧
        t.polygons[x] = { s.polygons[x] with speedRaised := true } ∧ (∀ y : Fin 6, y ≠ x → t.polygons[y] = s.polygons[y]) ∧
        t.faults = (if s.imagingRun x then s.raise .polySpeedRun x.val else s.raise .polySpeedIdle x.val).faults)

/-! Control loops. -/

/-- (From R213, R216, R217, R222 to R224, R226, R227, R231, R235.) A law's output lies between U_LO and U_HI and its integrator
does not move further into the clamp; a loop sampled at its instant has an output between its limits, held until its output
instant, when it becomes the PWM-DAC code, the amplitude gain, the heater duty or the bridge's duties; a waiting target is taken
once no curve runs; a following-error count at FE_TIMER is raised once, RUN inside a window of the station's job. A current loop
has the limits of its set (log entry 151). -/
def Obligations.LoopsComputeWithinTheirLimits : Prop :=
  (∀ (s : State) (g : LegLoop) (r y x : Int) (l : Loop), g.uLo ≤ g.uHi →
    ∃ u, (s.compute g r y x l).1.next = some u ∧ g.uLo ≤ u ∧ u ≤ g.uHi) ∧
  (∀ (g : LegLoop) (c : LegCoef) (r y : Int) (l : Loop), (l.atHi = true ∧ 0 < satQ31 (r - y)) ∨ (l.atLo = true ∧ satQ31 (r - y) < 0) →
    (pidLaw g c r y l).2.i = l.i) ∧
  ∀ (s : State) (n : Fin 64), s.specified = true →
    (∀ frame held, s.sampleDue n frame = true →
      Completes (.loopSample n frame held) s fun t => Keeps [.position, .polygons, .loops, .motion, .faults] s t ∧
        (∀ k : Fin 64, k ≠ n → n.val < 18 ∨ t.loop k = s.loop k) ∧
        (∀ k : Fin 18, k.val = n.val → t.loops.hv[k].volt = s.hvVolt n held.mon ∧ t.loops.hv[k].curr = s.hvCurr n held.cur) ∧
        (n.val < 32 ∨ 38 ≤ n.val → (s.legLoop n).uLo ≤ (s.legLoop n).uHi →
          (∀ k : Fin 18, k.val = n.val → s.loops.hv[k].mux = false ∧ s.hvOver n held.mon = false) →
          (t.loop n).out = (s.loop n).out ∧
            ∃ u, (t.loop n).next = some u ∧ (s.legLoop n).uLo ≤ u ∧ u ≤ (s.legLoop n).uHi) ∧
        (∀ x : Fin 6, n.val = 32 + x.val → (s.legPoly x).currentPid.uLo ≤ (s.legPoly x).currentPid.uHi →
          (t.loop n).out = (s.loop n).out ∧
            ∃ u, (t.loop n).next = some u ∧ (s.legPoly x).currentPid.uLo ≤ u ∧ u ≤ (s.legPoly x).currentPid.uHi)) ∧
    (∀ u, (s.loop n).next = some u → s.engineRuns n = true → (s.loop n).running = true →
      Completes (.loopOutput n) s fun t => Keeps [.polygons, .loops, .motion, .telemetry] s t ∧ (t.loop n).out = u ∧
        (t.loop n).next = none ∧ (∀ k : Fin 64, k ≠ n → t.loop k = s.loop k) ∧
        (∀ k : Fin 18, k.val = n.val → s.loops.hv[k].mux = false →
          t.loops.hv[k].code = (clampI 0 65535 (roundShift u 15)).toNat) ∧
        (∀ x : Fin 6, n.val = 18 + x.val → t.loops.ac[x].nextGain = (clampI 0 65535 (roundShift u 15)).toNat) ∧
        (∀ z : Fin 8, n.val = 24 + z.val → s.loops.heaters[z].mode = .control →
          t.loops.heaters[z].nextDuty ≤ (getN s.legend.loops.zones z {}).dutyMax) ∧
        (∀ x : Fin 6, n.val = 32 + x.val → t.polygons[x].dutyPrev = s.polygons[x].duty ∧ ∀ y : Fin 6, y ≠ x → t.polygons[y] = s.polygons[y])) ∧
    (∀ v, (s.loop n).heldTarget = some v → (s.loop n).curve = none → loopClass n ≠ .cur → loopClass n ≠ .facet →
      Completes (.profileTarget n) s fun t => Keeps [.loops] s t ∧ (t.loop n).heldTarget = none ∧
        ((s.legLoop n).vMax = 0 → (t.loop n).sp = v) ∧
        ((s.legLoop n).vMax ≠ 0 → v ≠ (s.loop n).sp → ∃ c, (t.loop n).curve = some c ∧ c.target = v ∧ c.start = (s.loop n).sp)) ∧
    (∀ m : Fin 32, m.val = n.val → (s.loop n).running = true → (s.legLoop n).feTimer ≤ (s.loop n).feTimer →
      (s.loop n).feRaised = false →
      Completes (.followingError m) s fun t => Keeps [.loops, .faults] s t ∧ (t.loop n).feRaised = true ∧
        (m.val < 18 → t.faults = (if s.stationRun (m.val / 3) then s.raise .hvFeRun m.val else s.raise .hvFeIdle m.val).faults) ∧
        (24 ≤ m.val → t.faults = (s.raise .heatFe (m.val - 24)).faults))

/-- (From R228 to R232.) A channel at SAFE_CODE is released at its next sampling instant to regulate to SAFE_SP; one still at
its layer set-point goes to SAFE_CODE while an abort runs; sixteen samples out of range hold it there; with HOLD clear and no
Severe or Grave left the channels made safe return to their layer set-points, but for one still at SAFE_CODE or whose monitor
source stands and a station commanded safe; the AC gain and table change at point 0, where the measured amplitude is that of the
period gone by. The correlation is log entry 154's, a standing monitor source log entry 148's. -/
def Obligations.HighVoltageIsMadeSafeAndReturns : Prop :=
  ∀ (s : State) (k : Fin 18), s.specified = true →
    (s.loops.hv[k].mux = true → s.hvMonStands k = false → (s.loop k).running = true → s.engineRuns k = true →
      Completes (.hvSafeStep k) s fun t => Keeps [.loops] s t ∧ t.loops.hv[k] = { s.loops.hv[k] with mux := false } ∧
        (t.loop k).safe = true ∧ (t.loop k).heldTarget = none ∧
        (t.loop k).sp = fraction (s.legLoop k).measFs (getN s.legend.loops.hv k {}).safeSp 1 ∧
        (t.loop k).next = some (safeOut (getN s.legend.loops.hv k {}).safeCode) ∧
        (∀ j : Fin 18, j ≠ k → t.loops.hv[j] = s.loops.hv[j])) ∧
    (s.loops.hv[k].mux = false → s.loops.hv[k].mode = .layer → s.layer.abortRunning = true →
      Completes (.hvSafeStep k) s fun t => Keeps [.loops] s t ∧ t.loops.hv[k].mux = true ∧ t.loops.hv[k].mode = .safe ∧
        t.loops.hv[k].code = (getN s.legend.loops.hv k {}).safeCode ∧ (∀ j : Fin 18, j ≠ k → t.loops.hv[j] = s.loops.hv[j])) ∧
    (s.loops.hv[k].monRun = 16 → s.loops.hv[k].monRaised = false →
      Completes (.hvMonitorRange k) s fun t => Keeps [.loops, .faults] s t ∧
        (s.loops.hv[k].mode ≠ .grave → s.loops.hv[k].mode ≠ .off → t.loops.hv[k].mux = true) ∧
        (∀ j : Fin 18, j ≠ k → t.loops.hv[j] = s.loops.hv[j]) ∧
        t.faults = (s.raiseAs .hvMon k (if s.stationRun (k.val / 3) then .severe else .degraded) []).faults) ∧
    (s.layer.hold = false → s.severeStands = false → s.faults.grave = false → s.layer.abortRunning = false →
      Completes .hvReturn s fun t => Keeps [.loops] s t ∧ (s.loops.hv[k].mode ≠ .safe → t.loops.hv[k] = s.loops.hv[k]) ∧
        ((getN s.loops.hv (3 * (k.val / 3)) {}).commanded = true → t.loops.hv[k] = s.loops.hv[k]) ∧
        ((getN s.loops.hv (3 * (k.val / 3)) {}).commanded = false → s.loops.hv[k].mode = .safe → s.loops.hv[k].mux = false →
          s.hvMonStands k = false → t.loops.hv[k] = { s.loops.hv[k] with mode := .layer }) ∧
        (s.loops.hv[k].mux = true ∨ s.hvMonStands k = true → t.loops.hv[k] = s.loops.hv[k])) ∧
    (∀ (x : Fin 6) mon, s.loops.ac[x].running = true →
      Completes (.devacPeriodStart x mon) s fun t => Keeps [.loops] s t ∧ t.loops.ac[x].gain = s.loops.ac[x].nextGain ∧
        t.loops.ac[x].tBand = s.loops.ac[x].nextT ∧ t.loops.ac[x].hBand = s.loops.ac[x].nextH ∧
        t.loops.ac[x].amp = min (peakToPeak (getN s.legend.loops.hv (3 * x.val + 1) {}).vmonFs
          (acTable s.legend.loops.ac[x] s.loops.ac[x].tBand s.loops.ac[x].hBand) mon) 65535 ∧
        t.loops.ac[x].pulses = (acTable s.legend.loops.ac[x] s.loops.ac[x].nextT s.loops.ac[x].nextH).map
          (pulseOf s.legend.loops.ac[x].freq s.loops.ac[x].nextGain) ∧
        (∀ y : Fin 6, y ≠ x → t.loops.ac[y] = s.loops.ac[y]) ∧ t.loops.hv = s.loops.hv ∧ t.loops.loops = s.loops.loops)

/-- (From R232, R235, R238.) A humidity reading out of range keeps the band and is raised once, one in range moves the tables
only while no job is ARMED or later; a heater period applies the last duty, in whole half-cycles for AC_ZC, for the first duty ×
40,000,000 LOOP cycles for DC, and a duty held at DUTY_MAX is raised after HEAT_SAT_TIME. That a reading at a humidity threshold
is in the higher band is the model's choice, log entry 32. -/
def Obligations.HumidityAndHeaterPeriods : Prop :=
  ∀ (s : State), s.specified = true →
    (s.islandsUp = true → ∀ mv, (mv < 20 ∨ 2480 < mv → s.loops.humOut = false →
        Completes (.humidityBandChange mv) s fun t => Keeps [.loops, .faults] s t ∧ t.loops = { s.loops with humOut := true } ∧
          t.faults = (s.raise .humRange 0).faults) ∧
      (20 ≤ mv → mv ≤ 2480 →
        Completes (.humidityBandChange mv) s fun t => Keeps [.loops] s t ∧
          t.loops.humBand = humidityBand s.legend.loops s.loops.humBand (min 1000 (s.legend.loops.humFs * mv)) ∧
          t.loops.hv = s.loops.hv ∧ t.loops.loops = s.loops.loops ∧ t.loops.heaters = s.loops.heaters ∧
          (s.layer.jobs.any Job.armedOn = true → t.loops.ac = s.loops.ac) ∧
          (s.layer.jobs.any Job.armedOn = false → t.loops.humBand ≠ s.loops.humBand →
            ∀ x : Fin 6, t.loops.ac[x] = { s.loops.ac[x] with nextH := t.loops.humBand }))) ∧
    (∀ z : Fin 8, s.loops.heaters[z].mode = .control →
      (Completes (.heaterPeriod z) s fun t => Keeps [.loops] s t ∧ t.loops.heaters[z].duty = s.loops.heaters[z].nextDuty ∧
        (s.legend.loops.zones[z].acZc = true →
          t.loops.heaters[z].onHalf = (2 * s.loops.heaters[z].nextDuty * s.loops.heaters[z].zc + 65536) / 131072) ∧
        (s.legend.loops.zones[z].acZc = false →
          t.loops.heaters[z].onCycles = s.loops.heaters[z].nextDuty * 40000000 / 65536 ∧
          t.loops.heaters[z].on = decide (0 < s.loops.heaters[z].nextDuty * 40000000 / 65536) ∧
          ∀ us, t.loops.heaters[z].level (s.timeUs + us) = decide (400 * us < s.loops.heaters[z].nextDuty * 40000000 / 65536)) ∧
        (∀ y : Fin 8, y ≠ z → t.loops.heaters[y] = s.loops.heaters[y])) ∧
      (s.loops.heaters[z].sat = true → s.loops.heaters[z].satRaised = false →
        s.elapsed s.loops.heaters[z].satUs (1000000 * s.legend.loops.zones[z].satTime) = true →
        Completes (.heaterSaturation z) s fun t => Keeps [.loops, .faults] s t ∧ t.loops.heaters[z] = { s.loops.heaters[z] with satRaised := true } ∧
          (∀ y : Fin 8, y ≠ z → t.loops.heaters[y] = s.loops.heaters[y]) ∧ t.faults = (s.raise .heatSat z.val).faults)) ∧
    (Completes .mainsZeroCrossing s fun t => Keeps [.loops] s t ∧ ∀ z : Fin 8,
      t.loops.heaters[z].zc = satAdd 8 s.loops.heaters[z].zc 1 ∧
      (s.legend.loops.zones[z].acZc = true → s.loops.heaters[z].mode = .control →
        t.loops.heaters[z].on = decide (0 < s.loops.heaters[z].onHalf)))

/-! Motion. -/

/-- (From R242, R243, R245, R246, R250, R261, R268.) An axis in ALIGN takes its commutation offset after ALIGN_TIME and holds,
or goes OFF if it moved too far; a stop takes the trajectory's place from its present velocity and acceleration; the belt ramps
to process speed; a coasting axis at rest re-enters at its measured position with its loops from their first sample, or aligns
while its offset is unknown; tracking and following errors are raised. The unit of COMM_OFFSET is log entry 156's. -/
def Obligations.ServosAlignStopAndRestart : Prop :=
  ∀ (s : State) (a : Fin 3), s.specified = true →
    (s.islandsUp = true → (s.legServo a).enable = true → s.motion.servos[a].mode = .align →
      ((s.legServo a).alignMax * 16777216 < (s.servoPos a - s.motion.servos[a].alignFrom).natAbs →
        Completes (.servoAlign a) s fun t => Keeps [.loops, .motion, .faults] s t ∧
          t.motion.servos[a] = { s.motion.servos[a] with mode := .off } ∧ (∀ b : Fin 3, b ≠ a → t.motion.servos[b] = s.motion.servos[b]) ∧
          (t.loop (44 + 3 * a.val)).running = false ∧ t.faults = (s.raise .srvAlign a.val).faults) ∧
      ((s.servoPos a - s.motion.servos[a].alignFrom).natAbs ≤ (s.legServo a).alignMax * 16777216 →
        s.elapsed s.motion.servos[a].alignUs (1000 * (s.legServo a).alignTime) = true →
        Completes (.servoAlign a) s fun t => Keeps [.loops, .motion] s t ∧ t.motion.servos[a].mode = .hold ∧
          t.motion.servos[a].commOffset = some (commZero (s.legServo a) (s.commCount a s.position.motn)) ∧
          (∀ b : Fin 3, b ≠ a → t.motion.servos[b] = s.motion.servos[b]) ∧ t.motion.steppers = s.motion.steppers ∧
          (∀ n : Fin 64, n.val = 44 + 3 * a.val ∨ n.val = 45 + 3 * a.val ∨ n.val = 46 + 3 * a.val → (s.legLoop n).enable = true →
            (t.loop n).running = true ∧ (t.loop n).first = true ∧ (t.loop n).i = 0))) ∧
    (∀ b : Fin 2, b.val = a.val → s.motion.servos[a].stopDue ≠ .none → b = 0 ∨ s.motion.carrPhase ≠ .inNip →
      Completes (.servoStop b) s fun t => Keeps [.motion] s t ∧ t.motion.steppers = s.motion.steppers ∧ t.motion.bus = s.motion.bus ∧
        t.motion.servos[a].mode = .stopping ∧ t.motion.servos[a].stopDue = .none ∧ t.motion.servos[a].lastStop = s.motion.servos[a].stopDue ∧
        t.motion.servos[a].traj.start = s.motion.servos[a].sp ∧ t.motion.servos[a].traj.v0 = s.motion.servos[a].vff ∧
        t.motion.servos[a].traj.a0 = s.motion.servos[a].aff ∧ (∀ b : Fin 3, b ≠ a → t.motion.servos[b] = s.motion.servos[b])) ∧
    (s.boot.ready = true → s.busNormal = true → s.layer.hold = false → s.severeStands = false → s.faults.grave = false →
      s.layer.abortRunning = false → s.motion.servos[0].mode = .hold → s.power.program ≠ .down → s.power.program ≠ .brownout →
      Completes .beltStart s fun t => Keeps [.motion] s t ∧ t.motion.servos[0].mode = .velocity ∧
        t.motion.servos[0].traj.v0 = s.motion.servos[0].vff ∧
        t.motion.servos[0].traj.v1 = beltSpeed s.legend.scan s.scan.sigma ∧
        (∀ b : Fin 3, b ≠ 0 → t.motion.servos[b] = s.motion.servos[b]) ∧ t.motion.steppers = s.motion.steppers) ∧
    (s.motion.servos[a].mode = .coast → s.motion.servos[a].atRest = true → s.engineRuns (44 + 3 * a.val) = true →
      s.engineRuns (45 + 3 * a.val) = true → s.engineRuns (46 + 3 * a.val) = true → s.severeStands = false → s.drivesOn = true →
      s.motion.bus.coasting = false →
      Completes (.servoRestReentry a) s fun t => Keeps [.loops, .motion] s t ∧
        (∀ b : Fin 3, b ≠ a → t.motion.servos[b] = s.motion.servos[b]) ∧ t.motion.steppers = s.motion.steppers ∧
        (s.motion.servos[a].commOffset.isSome = true → t.motion.servos[a].mode = .hold ∧ t.motion.servos[a].sp = s.servoPos a ∧
          (∀ n : Fin 64, n.val = 45 + 3 * a.val → (s.legLoop n).enable = true → (t.loop n).running = true ∧ (t.loop n).i = 0)) ∧
        (s.motion.servos[a].commOffset = none → t.motion.servos[a].mode = .align ∧ t.motion.servos[a].alignFrom = s.servoPos a)) ∧
    (s.motion.servos[1].mode = .geared → s.legend.motion.trackTimer ≤ s.motion.servos[1].trackRun →
      Completes .carriageTrackFault s fun t => Keeps [.motion, .faults] s t ∧
        t.motion.servos[1] = { s.motion.servos[1] with trackRun := 0 } ∧ (∀ b : Fin 3, b ≠ 1 → t.motion.servos[b] = s.motion.servos[b]) ∧
        t.faults = (s.raise .srvCarrTrackRun 1).faults) ∧
    (∀ n : Fin 64, n.val = 45 + 3 * a.val ∨ n.val = 46 + 3 * a.val → (s.loop n).running = true →
      (s.legLoop n).feTimer ≤ (s.loop n).feTimer → (s.loop n).feRaised = false →
      Completes (.servoFollowingError a) s fun t => Keeps [.loops, .motion, .faults] s t ∧ (t.loop n).feRaised = true ∧
        t.motion.servos[a] = { s.motion.servos[a] with feEvents := satAdd 16 s.motion.servos[a].feEvents 1 } ∧
        (∀ b : Fin 3, b ≠ a → t.motion.servos[b] = s.motion.servos[b]) ∧
        t.faults = (if s.windowOpen then s.raise .srvFeRun a.val else s.raise .srvFeIdle a.val).faults)

/-- (From R28, R248 to R252.) The carriage leaves its start position at APPROACH_COUNTS before the origin, locks to the gear
relation at the end of T_a carrying the difference, enters the nip at T = Ô where its job becomes TRANSFUSE, separates after the
last line and the clearance and lowers, and returns to CARR_START, in RETURN or for LAYER_RESUME, which ends with the carriage
there; each POS instant measures every servo and puts the roller on its gear. The direction in which the gantry lowers is the
model's choice, log entry 26. -/
def Obligations.CarriagePassesTheNip : Prop :=
  ∀ (s : State) (j : Job), s.specified = true →
    (s.layer.abortRunning = false → s.approachJob = some j → s.carrAtStart = true →
      j.origin - 256 * s.approachCounts ≤ s.travelNow →
      Completes .carriageApproachStart s fun t => Keeps [.motion] s t ∧ t.motion.carrPhase = .approach ∧ t.motion.carrJob = j.seq ∧
        t.motion.servos[1].mode = .move ∧ t.motion.servos[1].traj.kind = .approach ∧ t.motion.servos[1].traj.total = s.approachTime ∧
        t.motion.servos[1].traj.v1 = s.carrSpeed ∧ (∀ b : Fin 3, b ≠ 1 → t.motion.servos[b] = s.motion.servos[b]) ∧
        t.motion.steppers = s.motion.steppers) ∧
    (s.jobOf s.motion.carrJob = some j →
      (s.motion.carrPhase = .approach → s.motion.servos[1].mode = .move → s.motion.servos[1].traj.kind = .approach →
        s.motion.servos[1].traj.total ≤ s.motion.servos[1].traj.periods * profQ / 5000 →
        Completes .carriageLock s fun t => Keeps [.motion] s t ∧ t.motion.carrPhase = .locked ∧
          t.motion.servos[1].mode = .geared ∧ s.gearPos j.origin (s.travelAt s.motion.posAt) + t.motion.servos[1].lockDiff =
            s.motion.servos[1].sp ∧ (∀ b : Fin 3, b ≠ 1 → t.motion.servos[b] = s.motion.servos[b]) ∧
          t.motion.steppers = s.motion.steppers) ∧
      (s.layer.abortRunning = false → s.motion.carrPhase = .locked → j.origin ≤ s.travelNow →
        Completes .leadingEdgeAtNip s fun t => Keeps [.layer, .motion] s t ∧ t.motion = { s.motion with carrPhase := .inNip } ∧
          (j.state = .transfer → JobIs t j.seq (fun k => k.state = .transfuse)) ∧ (j.state ≠ .transfer → t.layer = s.layer)) ∧
      (s.layer.abortRunning = false → s.motion.carrPhase = .inNip → j.state = .transfuse →
        j.origin + j.maxLines * s.legend.scan.kq + 256 * s.legend.motion.sepCounts ≤ s.travelNow →
        Completes .carriageSeparation s fun t => Keeps [.layer, .decoders, .pixels, .position, .loops, .motion, .host, .telemetry, .boot] s t ∧
          (max 1 s.legend.motion.stepNm ≤ s.motion.zStep + s.motion.residue →
            Keeps [.layer, .motion] s t ∧ t.motion.carrPhase = .separated ∧ JobIs t j.seq (fun k => k.state = .lower) ∧
            t.motion.residue = (s.motion.zStep + s.motion.residue) % max 1 s.legend.motion.stepNm))) ∧
    (j ∈ s.layer.jobs → j.state = .returning → j.imagesAny = true → j.feedStarted = false → s.motion.servos[1].mode = .hold →
      s.motion.servos[1].homed = true → s.faults.grave = false → s.severeStands = false →
      s.motion.carrPhase = .separated ∨ s.motion.carrPhase = .away →
      Completes .carriageReturn s fun t => Keeps [.motion] s t ∧ t.motion.carrPhase = .returning ∧ t.motion.servos[1].mode = .move ∧
        t.motion.servos[1].traj = moveTraj s.motion.servos[1].sp (s.legend.motion.carrStart * 16777216) .layer ∧
        (∀ b : Fin 3, b ≠ 1 → t.motion.servos[b] = s.motion.servos[b]) ∧ t.motion.steppers = s.motion.steppers) ∧
    (s.motion.resumeReturn = true → s.motion.servos[1].mode = .hold → s.motion.servos[1].homed = true → s.faults.grave = false →
      s.severeStands = false →
      (s.motion.carrPhase = .separated ∨ s.motion.carrPhase = .away →
        Completes .carriageReturn s fun t => Keeps [.motion] s t ∧ t.motion.carrPhase = .returning ∧
          t.motion.servos[1].traj.dist = s.legend.motion.carrStart * 16777216 - s.motion.servos[1].sp) ∧
      (s.motion.carrPhase = .atStart →
        Completes .carriageReturn s fun t => Keeps [.layer, .motion, .faults, .host] s t ∧ t.layer.hold = false ∧
          t.layer.resumes = [] ∧ t.layer.jobs = s.layer.jobs ∧ t.motion = { s.motion with resumeReturn := false })) ∧
    (∀ frame, s.islandsUp = true →
      Completes (.posInstant frame) s fun t =>
        Keeps [.layer, .decoders, .pixels, .position, .loops, .motion, .faults, .host, .telemetry, .boot] s t ∧
        (s.motion.carrPhase ≠ .returning →
          (∀ a : Fin 3, t.motion.servos[a].vel = s.motion.servos[a].velocity (s.servoPosAt a (frame * 10000)) ∧
            t.motion.servos[a].posAt = s.servoPosAt a (frame * 10000)) ∧
          (s.motion.servos[2].mode = .geared → s.motion.servos[0].mode ≠ .off →
            t.motion.servos[2].sp = s.legend.motion.rollOfs * 16777216 +
              (s.travelAt (frame * 10000) * s.legend.motion.rollNum * 65536).fdiv (max 1 s.legend.motion.rollDen : Nat))))

/-- (From R253 to R259.) A due step moves the count by one and the electrical position by 256 / 2^MS, a Z step falls on all four
channels, and a Z axis without an SSI source is where its channel's count says; a comparator trip after T_BLANK ends an
on-phase, the off-time starting with fast decay unless MIX is 0 or the clamp stands; fast decay ends with the first MIX / 16 of
the off-time, and after T_OFF the phase drives again at its next current; a move completes SETTLE_TIME after its last step and
then holds I_HOLD; an immediate stop ends a channel's steps, with POSITION_UNCERTAIN if a step was due within the last 100 ms;
homing, where it is due, clears a feed channel's uncertainty, takes a Z axis's count from its valid SSI source or sends it to
its switch, sends the carriage to its own, backs off the switch, takes HOME_POS at the release edge, and gives up beyond
HOME_RANGE. The start of a move and the carriage's stop after homing, and that a homing stop counts as one with a step due, are
the model's choices, log entries 159 and 35. -/
def Obligations.SteppersStepChopStopAndHome : Prop :=
  ∀ (s : State) (n : Fin 10), s.specified = true →
    (∀ cycle, s.motion.steppers[n].state = .moving → 0 < s.motion.steppers[n].left → s.motion.steppers[n].dueAt ≤ cycle →
      Completes (.stepperStep n cycle) s fun t => Keeps [.position, .motion, .faults] s t ∧ t.motion.servos = s.motion.servos ∧
        t.motion.steppers[n].steps = s.motion.steppers[n].steps + (if s.motion.steppers[n].backward then -1 else 1) ∧
        t.motion.steppers[n].elec = (if s.motion.steppers[n].backward
          then (s.motion.steppers[n].elec + 1024 - 2 ^ (8 - min (s.legStepper n).ms 8)) % 1024
          else (s.motion.steppers[n].elec + 2 ^ (8 - min (s.legStepper n).ms 8)) % 1024) ∧
        (∀ m : Fin 10, m ≠ n → 4 ≤ m.val ∨ 4 ≤ n.val → t.motion.steppers[m] = s.motion.steppers[m]) ∧
        (∀ m : Fin 10, m.val < 4 → n.val < 4 → s.motion.steppers[m].state = .moving → 0 < s.motion.steppers[m].left →
          t.motion.steppers[m].steps = s.motion.steppers[m].steps + (if s.motion.steppers[m].backward then -1 else 1)) ∧
        (4 ≤ n.val ∨ (getN s.legend.position.axes (2 + n.val) {}).source = .ssi →
          t.motion.steppers[n].left = s.motion.steppers[n].left - 1) ∧
        (4 ≤ n.val → t.faults = s.faults ∧ t.position.axes = s.position.axes) ∧
        (n.val < 4 → (getN s.legend.position.axes (2 + n.val) {}).source ≠ .ssi →
          (getN t.position.axes (2 + n.val) {}).position + (getN t.position.axes (2 + n.val) {}).beyond = t.motion.steppers[n].steps)) ∧
    (∀ (b : Bool) (cycle : Nat), (s.motion.steppers[n].chopper b).phase = .on →
      (s.motion.steppers[n].chopper b).since + 100 * (s.legStepper n).tBlank ≤ cycle →
      Completes (.stepperChopTrip n b cycle) s fun t => Keeps [.position, .motion] s t ∧
        (t.motion.steppers[n].chopper b).phase = (if (s.legStepper n).mix ≠ 0 ∧ s.motion.bus.clamp = false then .offFast else .offSlow) ∧
        (t.motion.steppers[n].chopper b).since = cycle ∧ t.motion.steppers[n].chopper (!b) = s.motion.steppers[n].chopper (!b) ∧
        (∀ m : Fin 10, m ≠ n → t.motion.steppers[m] = s.motion.steppers[m])) ∧
    (∀ (b : Bool) (cycle : Nat) (c : ChopperPhase), c = s.motion.steppers[n].chopper b →
      (c.phase = .offFast ∨ c.phase = .offSlow → c.since + 100 * (s.legStepper n).tOff ≤ cycle →
        Completes (.stepperOffTimeEnd n b cycle) s fun t => Keeps [.position, .motion] s t ∧
          (t.motion.steppers[n].chopper b).current = c.nextCurrent ∧
          (t.motion.steppers[n].chopper b).dac = comparatorDac (s.legStepper n) c.nextCurrent ∧
          (t.motion.steppers[n].chopper b).phase = (if c.nextCurrent = 0 then .idle else .on) ∧
          t.motion.steppers[n].chopper (!b) = s.motion.steppers[n].chopper (!b) ∧
          (∀ m : Fin 10, m ≠ n → t.motion.steppers[m] = s.motion.steppers[m])) ∧
      (c.phase = .offFast → cycle < c.since + 100 * (s.legStepper n).tOff →
        16 * c.since + 100 * (s.legStepper n).tOff * (s.legStepper n).mix ≤ 16 * cycle →
        Completes (.stepperOffTimeEnd n b cycle) s fun t => Keeps [.position, .motion] s t ∧
          t.motion.steppers[n].chopper b = { c with phase := .offSlow, in1 := false, in2 := false } ∧
          t.motion.steppers[n].chopper (!b) = s.motion.steppers[n].chopper (!b) ∧
          (∀ m : Fin 10, m ≠ n → t.motion.steppers[m] = s.motion.steppers[m]))) ∧
    (s.motion.steppers[n].state = .moving → s.motion.steppers[n].settling = true →
      s.elapsed s.motion.steppers[n].dueUs (1000 * (s.legStepper n).settle) = true →
      Completes (.stepperMoveComplete n) s fun t =>
        Keeps [.layer, .decoders, .pixels, .position, .loops, .motion, .host, .telemetry, .boot] s t ∧
        t.motion.steppers[n].state = .idle ∧ t.motion.steppers[n].moves = satAdd 16 s.motion.steppers[n].moves 1 ∧
        (s.motion.steppers[n].goal ≠ .layer → Keeps [.motion] s t ∧
          ∀ m : Fin 10, m ≠ n → t.motion.steppers[m] = s.motion.steppers[m])) ∧
    (s.motion.steppers[n].state = .idle → s.elapsed s.motion.steppers[n].restUs (1000 * (s.legStepper n).holdDelay) = true →
      Completes (.holdCurrentDelay n) s fun t => Keeps [.motion] s t ∧ t.motion.steppers[n].state = .holding ∧
        t.motion.steppers[n].holdCurrent = true ∧ ∀ m : Fin 10, m ≠ n → t.motion.steppers[m] = s.motion.steppers[m]) ∧
    (Completes (.stepperImmediateStop n) s fun t => Keeps [.motion, .faults] s t ∧
        (∀ m : Fin 10, m ≠ n → t.motion.steppers[m] = s.motion.steppers[m]) ∧ t.motion.servos = s.motion.servos ∧
        (s.motion.steppers[n].state = .moving → t.motion.steppers[n].state = .idle ∧ t.motion.steppers[n].left = 0) ∧
        (s.motion.steppers[n].stepped = true → s.elapsed s.motion.steppers[n].dueUs 100001 = false →
          t.motion.steppers[n].uncertain = true ∧
          (s.motion.steppers[n].uncertain = false → t.faults = (s.raise .stpUncertain n.val).faults)) ∧
        (s.motion.steppers[n].stepped = false ∨ s.elapsed s.motion.steppers[n].dueUs 100001 = true →
          t.motion.steppers[n].uncertain = s.motion.steppers[n].uncertain ∧ t.faults = s.faults)) ∧
    (∀ ax : Fin 13, ax.val = n.val + 3 →
      (s.motion.homeDue.getLsbD ax = true → s.islandsUp = true → s.faults.grave = false → s.severeStands = false →
        s.motion.steppers[n].state ≠ .moving →
        (4 ≤ n.val → s.motion.steppers[n].uncertain = true →
          Completes (.homing ax .begin) s fun t => Keeps [.motion] s t ∧ t.motion.homeDue.getLsbD ax = false ∧
            t.motion.steppers[n].uncertain = false ∧ t.motion.steppers[n].homed = true ∧
            (∀ m : Fin 10, m ≠ n → t.motion.steppers[m] = s.motion.steppers[m])) ∧
        (n.val < 4 → s.zSsi n.val = (true, true) →
          Completes (.homing ax .begin) s fun t => Keeps [.motion] s t ∧ t.motion.homeDue.getLsbD ax = false ∧
            t.motion.steppers[n].homed = true ∧
            t.motion.steppers[n].steps = (getN s.position.axes (2 + n.val) {}).position ∧
            (∀ m : Fin 10, m ≠ n → t.motion.steppers[m] = s.motion.steppers[m])) ∧
        (n.val < 4 → (s.zSsi n.val).1 = false →
          Completes (.homing ax .begin) s fun t => Keeps [.motion] s t ∧ t.motion.homeDue = s.motion.homeDue ∧
            t.motion.steppers[n].state = .moving ∧ t.motion.steppers[n].homing = true ∧
            (∀ m : Fin 10, m ≠ n → t.motion.steppers[m] = s.motion.steppers[m]))) ∧
      (s.motion.steppers[n].homing = true →
        (s.motion.steppers[n].backOff = false →
          Completes (.homing ax .switch) s fun t => Keeps [.motion] s t ∧
            t.motion.steppers[n] = { s.motion.steppers[n] with backOff := true } ∧
            (∀ m : Fin 10, m ≠ n → t.motion.steppers[m] = s.motion.steppers[m])) ∧
        (s.motion.steppers[n].backOff = true →
          Completes (.homing ax .release) s fun t => Keeps [.position, .motion] s t ∧
            t.motion.steppers[n].steps = (s.legStepper n).homePos ∧ t.motion.steppers[n].homed = true ∧
            t.motion.homeDue.getLsbD ax = false ∧ (∀ m : Fin 10, m ≠ n → t.motion.steppers[m] = s.motion.steppers[m])) ∧
        (s.motion.steppers[n].backOff = false →
          (s.legStepper n).homeRange < (s.motion.steppers[n].steps - s.motion.steppers[n].homeFrom).natAbs →
          Completes (.homing ax .missing) s fun t => Keeps [.motion, .faults] s t ∧ t.motion.steppers[n].state = .idle ∧
            t.motion.steppers[n].homing = false ∧ t.motion.homeDue.getLsbD ax = false ∧
            (∀ m : Fin 10, m ≠ n → t.motion.steppers[m] = s.motion.steppers[m]) ∧ t.faults = (s.raise .stpHomeFail n.val).faults))) ∧
    (s.motion.homeDue.getLsbD 1 = true → s.islandsUp = true → s.faults.grave = false → s.severeStands = false →
      s.motion.servos[1].mode = .hold →
      Completes (.homing 1 .begin) s fun t => Keeps [.motion, .faults] s t ∧ t.motion.servos[1].homePhase = 1 ∧
        t.motion.servos[1].mode = .velocity ∧ t.motion.steppers = s.motion.steppers ∧
        t.faults = (if s.motion.servos[1].homed then s else s.raise .srvCarrNotHomed 1).faults) ∧
    (s.motion.servos[1].homePhase = 1 →
      Completes (.homing 1 .switch) s fun t => Keeps [.motion] s t ∧
        t.motion.servos[1] = { s.motion.servos[1] with homePhase := 2 } ∧ t.motion.steppers = s.motion.steppers) ∧
    (s.motion.servos[1].homePhase = 2 →
      Completes (.homing 1 .release) s fun t => Keeps [.position, .motion] s t ∧ t.motion.servos[1].homed = true ∧
        t.motion.servos[1].sp = (s.legServo 1).homePos * 16777216 ∧ t.motion.homeDue.getLsbD 1 = false ∧
        t.motion.steppers = s.motion.steppers) ∧
    (0 < s.motion.servos[1].homePhase → (s.legServo 1).homeRange * 16777216 < (s.servoPos 1 - s.motion.servos[1].homeFrom).natAbs →
      Completes (.homing 1 .missing) s fun t => Keeps [.motion] s t ∧ t.motion.servos[1].homePhase = 0 ∧
        t.motion.homeDue.getLsbD 1 = false ∧ t.motion.steppers = s.motion.steppers)

/-- (From R262 to R266, R212.) A bus sample switches the chopper at V1 and below V1 − V1_HYST, and above V2 coasts the servos
and engages the Z brakes; the chopper's energy and its failing samples raise their sources and put the clamp on; its self-test
clears FAILED on enough current; V3 ends every polygon in FAULT with its gates off; the clamp's end takes it off; a missed
deadline halts the engine, with its polygons coasting and every HTR output off. What a self-test with too little current does is
the model's choice, log entry 33. -/
def Obligations.MotorBusChopsClampsAndTrips : Prop :=
  ∀ s : State, s.specified = true →
    (∀ volt ma, s.islandsUp = true → 10 * s.legend.motion.vUv ≤ volt →
      Completes (.busSample volt ma) s fun t => Keeps [.polygons, .loops, .motion, .faults] s t ∧
        t.motion.bus.volt = min volt 65535 ∧
        t.motion.bus.chopOn = (decide (10 * s.legend.motion.v1 ≤ volt) ||
          (s.motion.bus.chopOn && decide (10 * (s.legend.motion.v1 - s.legend.motion.v1Hyst) ≤ volt))) ∧
        (volt ≤ 10 * s.legend.motion.v2 → t.faults = s.faults ∧ t.motion.servos = s.motion.servos ∧ t.loops = s.loops) ∧
        (10 * s.legend.motion.v2 < volt → s.motion.bus.coasting = false → t.motion.brakeReleased = false ∧
          t.motion.bus.coasting = true ∧ (∀ a : Fin 3, s.motion.servos[a].mode ≠ .off → t.motion.servos[a].mode = .coast) ∧
          (∀ x : Fin 6, s.polygons[x].driven = true → t.polygons[x].state = .coast ∧ t.polygons[x].gates = false))) ∧
    (s.motion.bus.chopHot = false → s.legend.motion.chopEMax * 10000000000 < s.motion.bus.energy →
      Completes .chopperHot s fun t => Keeps [.polygons, .motion, .faults] s t ∧ t.motion.bus.chopHot = true ∧
        (∀ a : Fin 3, t.motion.servos[a].regen = true) ∧ (∀ x : Fin 6, t.polygons[x].regenClamp = true) ∧
        t.faults = (s.raise .busChopperHot 0).faults) ∧
    (s.motion.bus.chopHot = true → 2 * s.motion.bus.energy < s.legend.motion.chopEMax * 10000000000 →
      Completes .chopperHot s fun t => Keeps [.motion] s t ∧ t.motion.bus = { s.motion.bus with chopHot := false }) ∧
    (s.legend.motion.chopDetect ≤ s.motion.bus.detectRun → s.motion.bus.chopFailed = false →
      Completes .chopperFail s fun t => Keeps [.polygons, .motion, .faults] s t ∧ t.motion.bus.chopFailed = true ∧
        (∀ a : Fin 3, t.motion.servos[a].regen = true) ∧ (∀ x : Fin 6, t.polygons[x].regenClamp = true) ∧
        t.faults = (if s.windowOpen then s.raise .busChopperFailRun 0 else s.raise .busChopperFailIdle 0).faults) ∧
    (∀ ma, s.motion.bus.testDue = true → s.busNormal = true →
      (∀ a : Fin 3, s.motion.servos[a].mode = .coast → s.motion.servos[a].atRest = true) →
      (∀ a : Fin 3, s.motion.servos[a].mode ≠ .coast → s.motion.servos[a].traj.kind = .none ∨ s.motion.servos[a].traj.kind = .line ∨
        s.motion.servos[a].traj.kind = .gear) →
      Completes (.chopperSelfTest ma) s fun t => Keeps [.motion] s t ∧ t.motion.servos = s.motion.servos ∧
        t.motion.steppers = s.motion.steppers ∧
        t.motion.bus.chopFailed = (s.motion.bus.chopFailed && decide (ma < 100 * s.legend.motion.chopIMin))) ∧
    (s.islandsUp = true →
      Completes .busOv3 s fun t => Keeps [.polygons, .loops, .motion, .faults] s t ∧ t.motion.bus.state = .overV3 ∧
        t.motion.brakeReleased = false ∧ (∀ x : Fin 6, t.polygons[x].state = .fault ∧ t.polygons[x].gates = false) ∧
        (∀ a : Fin 3, s.motion.servos[a].mode ≠ .off → t.motion.servos[a].mode = .coast) ∧
        (∀ n : Fin 10, t.motion.steppers[n].state = .off)) ∧
    (s.motion.bus.chopFailed = false → s.motion.bus.chopHot = false → ∀ a : Fin 3, s.motion.servos[a].regen = true →
      Completes .regenClampRelease s fun t => Keeps [.polygons, .motion] s t ∧
        (∀ b : Fin 3, t.motion.servos[b].regen = false ∧ t.motion.servos[b].retimed = false) ∧
        ∀ x : Fin 6, t.polygons[x].regenClamp = false) ∧
    (∀ n : Fin 64, (s.legLoop n).enable = true → s.engineRuns n = true → (s.loop n).running = true →
      Completes (.deadlineMiss n) s fun t => Keeps [.polygons, .loops, .motion, .faults, .survey] s t ∧
        (∀ e : Fin 5, e.val = s.engineOf n → t.loops.engines[e].state = .halted) ∧
        (∀ e : Fin 5, e.val ≠ s.engineOf n → t.loops.engines[e] = s.loops.engines[e]) ∧
        (∀ z : Fin 8, t.loops.heaters[z].on = false) ∧
        (∀ x : Fin 6, n.val = 32 + x.val → s.polygons[x].driven = true → t.polygons[x].state = .coast ∧ t.polygons[x].gates = false))

/-! Temperature. -/

/-- (From R271 to R287.) A result of an input in use moves that input alone, with the drum bands of the stations whose drum
sensor it is and the factors of the zones it measures; a state other than OK is taken at its second result, reads full-scale hot
and is raised, and OK is taken at the tenth; the drum band rises at each threshold and falls below it less DRUM_HYST. T_d is the
largest reading of the valid sensors; a sensor 16 reads off the median of the others becomes invalid; fewer than 6 are raised
once. The die band follows T_d, with the refresh; THERM.HOT and, at Critical, the latched shutdown follow its entries. Above 100
°C a speed factor that differs from the one in use is requested, and below 100 °C less DIE_HYST the full rate. The Critical
decision compares t_rem and CRIT_MARGIN with t_trip, only outside an abort; its abort is final; the shutdown starts with no
window open; Trip latches the Grave shutdown. -/
def Obligations.TemperaturesSetBandsAndShutdown : Prop :=
  ∀ s : State, s.specified = true →
    (∀ (n : Fin 16) (frame : Nat) (raw : TinRaw) (g : LegTin) (p : TempInput) (r : Int × TinState), g = getN s.legend.thermal.inputs n {} →
      p = s.thermal.inputs[n] → r = s.tinConvert g raw →
      s.islandsUp = true → g.type ≠ .unused → frame % 4000 = g.phase →
      Completes (.tinResult n frame raw) s fun t => Keeps [.loops, .thermal, .faults] s t ∧
        (∀ m : Fin 16, m ≠ n → t.thermal.inputs[m] = s.thermal.inputs[m]) ∧
        (r.2 = .ok → p.state = .ok → t.thermal.inputs[n].state = .ok ∧ t.thermal.inputs[n].temp = clampI (-32768) 32767 r.1) ∧
        (r.2 = .ok → p.state ≠ .ok → p.okRun = 9 →
          t.thermal.inputs[n].state = .ok ∧ t.thermal.inputs[n].temp = clampI (-32768) 32767 r.1) ∧
        (r.2 = .ok → p.state ≠ .ok → p.okRun < 9 →
          t.thermal.inputs[n] = { p with badRun := 0, okRun := p.okRun + 1 }) ∧
        (r.2 ≠ .ok → p.state ≠ r.2 → p.badRun = 0 ∨ p.badState ≠ r.2 →
          t.thermal.inputs[n].state = p.state ∧ t.thermal.inputs[n].badRun = 1 ∧ t.thermal.inputs[n].badState = r.2) ∧
        (r.2 ≠ .ok → p.state ≠ r.2 → p.badRun = 1 → p.badState = r.2 →
          t.thermal.inputs[n].state = r.2 ∧ t.thermal.inputs[n].temp = 32767 ∧
          t.thermal.inputs[n].faults = min (p.faults + 1) 255 ∧
          ((∀ z : Fin 8, (s.legLoop (24 + z.val)).enable = false ∨ s.legend.loops.zones[z].sensor ≠ n.val) →
            t.faults = (s.raise (tinSource r.2) n).faults)) ∧
        (∀ x : Fin 6, s.legend.thermal.drumSensor[x] = some n.val →
          t.thermal.drums[x].temp = t.thermal.inputs[n].temp ∧
          t.thermal.drums[x].latched = s.thermal.drums[x].latched ∧
          t.thermal.drums[x].band = drumBand s.legend.thermal s.thermal.drums[x].band t.thermal.inputs[n].temp) ∧
        (∀ x : Fin 6, s.legend.thermal.drumSensor[x] ≠ some n.val → t.thermal.drums[x] = s.thermal.drums[x]) ∧
        (∀ z : Fin 8, (s.legLoop (24 + z.val)).enable = true → s.legend.loops.zones[z].sensor = n.val →
          t.thermal.zones[z].factor = zoneFactor s.legend.thermal.zoneLimit[z] s.legend.thermal.zoneSpan[z] t.thermal.inputs[n].temp) ∧
        (∀ z : Fin 8, (s.legLoop (24 + z.val)).enable = false ∨ s.legend.loops.zones[z].sensor ≠ n.val →
          t.thermal.zones[z] = s.thermal.zones[z])) ∧
    (∀ (g : LegThermal) (band : Nat) (temp : Int), g.drumT1 < g.drumT2 → g.drumT2 < g.drumT3 →
      (g.drumT3 ≤ temp → 3 ≤ drumBand g band temp) ∧ (g.drumT2 ≤ temp → 2 ≤ drumBand g band temp) ∧
      (g.drumT1 ≤ temp → 1 ≤ drumBand g band temp) ∧ (temp < g.drumT1 - g.drumHyst → drumBand g band temp = 0) ∧
      (temp < g.drumT2 - g.drumHyst → drumBand g band temp ≤ 1) ∧ (temp < g.drumT3 - g.drumHyst → drumBand g band temp ≤ 2) ∧
      (temp < g.drumT1 → drumBand g band temp ≤ band)) ∧
    (∀ v, s.aonUp = true →
      Completes (.dieSensorRead v) s fun t => Keeps [.thermal, .faults] s t ∧ t.thermal.inputs = s.thermal.inputs ∧
        t.thermal.band = s.thermal.band ∧ t.thermal.critLatched = s.thermal.critLatched ∧
        t.thermal.history = (t.thermal.td :: s.thermal.history).take 1100 ∧ t.thermal.td ≤ t.thermal.peak ∧
        (∀ i : Fin 12, t.thermal.sensors[i].temp = clampI (-32768) 32767 v[i] ∧
          (t.thermal.sensors[i].valid = true → s.thermal.sensors[i].valid = true ∧ t.thermal.sensors[i].temp ≤ t.thermal.td) ∧
          (s.thermal.sensors[i].valid = true → offMedian s.thermal.sensors (mapV (clampI (-32768) 32767) v) i = true →
            s.thermal.sensors[i].offRun = 15 → t.thermal.sensors[i].valid = false) ∧
          (s.thermal.sensors[i].valid = true → offMedian s.thermal.sensors (mapV (clampI (-32768) 32767) v) i = false →
            t.thermal.sensors[i].valid = true ∧ t.thermal.sensors[i].offRun = 0)) ∧
        (allV (fun d => !d.valid) t.thermal.sensors = false →
          ∃ i : Fin 12, t.thermal.sensors[i].valid = true ∧ t.thermal.td = t.thermal.sensors[i].temp) ∧
        (allV (·.valid) t.thermal.sensors = true → t.faults = s.faults) ∧
        ((∀ i : Fin 12, t.thermal.sensors[i].valid = s.thermal.sensors[i].valid) →
          ((List.range 12).filter fun i => (getN t.thermal.sensors i {}).valid).length < 6 → s.thermal.sensorsLost = false →
          t.thermal.sensorsLost = true ∧ t.faults = (s.raise .thermSensorsLost 0).faults)) ∧
    (s.aonUp = true → s.nextBand ≠ s.thermal.band → s.thermal.history ≠ [] →
      Completes .dieBandChange s fun t => Keeps [.scan, .thermal, .faults, .host] s t ∧
        t.thermal = { s.thermal with
          band := s.nextBand, refresh2x := decide (2 ≤ s.nextBand.code)
          critLatched := s.thermal.critLatched || (decide (4 ≤ s.nextBand.code) && decide (s.thermal.band.code < 4)) } ∧
        (s.nextBand.code < 3 → t.faults = s.faults) ∧
        (s.nextBand = .hot → s.thermal.band.code < 3 → t.faults = (s.raise .thermHot 0).faults) ∧
        (4 ≤ s.nextBand.code → s.thermal.band.code < 4 →
          ((∀ r, s.scan.held = some r → r.source ≠ .thermal) → t.faults = (s.raise .thermCritical 0).faults) ∧
          ∀ r, s.scan.held = some r → r.source = .thermal → t.scan.held = none ∧ t.scan.reqState = .superseded)) ∧
    ((bandOf s.thermal.td).code > s.thermal.band.code → s.nextBand = bandOf s.thermal.td) ∧
    (s.thermal.band.code ≥ 4 → (bandOf s.thermal.td).code ≤ s.thermal.band.code → s.nextBand = s.thermal.band) ∧
    (s.islandsUp = true → 1000 < s.thermal.td → dieFactor s.legend.thermal s.thermal.td ≠ s.thermal.applied →
      exec .thermalThrottle s = .next ((s.modThermal fun h => { h with
        requested := dieFactor s.legend.thermal s.thermal.td }).frequencyRequest .thermal ((s.scan.held.map (·.code)).getD s.scan.code))) ∧
    (s.islandsUp = true → s.thermal.td < 1000 - 10 * (s.legend.thermal.dieHyst : Int) → s.thermal.applied ≠ 64 →
      exec .thermalThrottle s = .next ((s.modThermal fun h => { h with requested := 64 }).frequencyRequest .thermal
        ((s.scan.held.map (·.code)).getD s.scan.code))) ∧
    (∀ (src : ReqSource) (code : Nat), s.boundary = false → Keeps [.scan, .faults, .host] s (s.frequencyRequest src code) ∧
      (s.frequencyRequest src code).scan.reqState = .deferred ∧
      (s.frequencyRequest src code).scan.held.map (fun r => (r.source, r.code, r.sigma)) = some (src, code, s.effectiveSigma code)) ∧
    (∀ j, s.windowJob = some j → 1100 ≤ s.thermal.history.length → s.thermal.critLatched = true → s.layer.abortRunning = false →
      s.thermal.abortDecided = false → s.slope.1 ≤ 0 →
      Completes .criticalDecision s fun t => Keeps [.thermal] s t ∧
        t.thermal = { s.thermal with
          slope := clampI (-32768) 32767 (roundDiv s.slope.1 9), finishing := true, tTripMs := 65535, tRemMs := min 65535 (s.remainMs j) }) ∧
    (∀ j n, s.windowJob = some j → 1100 ≤ s.thermal.history.length → s.thermal.critLatched = true → s.layer.abortRunning = false →
      s.thermal.abortDecided = false → tripTime s.thermal.td s.slope.1 = some n → s.remainMs j + s.legend.thermal.critMargin ≤ n →
      Completes .criticalDecision s fun t => Keeps [.thermal] s t ∧
        t.thermal = { s.thermal with
          slope := clampI (-32768) 32767 (roundDiv s.slope.1 9), finishing := true, tTripMs := min 65535 n, tRemMs := min 65535 (s.remainMs j) }) ∧
    (∀ j n, s.windowJob = some j → s.thermal.critLatched = true → s.layer.abortRunning = false → s.thermal.abortDecided = false →
      tripTime s.thermal.td s.slope.1 = some n → n < s.remainMs j + s.legend.thermal.critMargin →
      Completes .criticalDecision s fun t => t.layer.abortRunning = true ∧ t.layer.abortSeq = j.seq ∧ t.layer.abortCause = .thermalCritical ∧
        t.thermal.abortDecided = true ∧ t.faults = s.faults) ∧
    (∀ j, s.windowJob = some j → s.thermal.critLatched = false ∨ s.layer.abortRunning = true ∨ s.thermal.abortDecided = true →
      exec .criticalDecision s = .next s) ∧
    (s.thermal.critLatched = true → s.thermal.shutdown = false → s.windowOpen = false → s.layer.abortRunning = false →
      Completes .thermalShutdown s fun t => t.thermal.shutdown = true ∧ t.power.shutThermal = true ∧
        (s.power.program = .none → t.power.program = .down) ∧
        (s.power.program ≠ .none → isShutdown s.power.program = false → s.power.preempt = none →
          t.power.preempt = some (.down, .thermal))) ∧
    (∀ i : Fin 12, s.aonUp = true → Completes (.thermalTrip i) s fun t => t.power.shutGrave = true ∧
      t.thermal.trip.getLsbD i = true ∧ (s.power.program = .none → t.power.program = .down) ∧
        (s.power.program ≠ .none → isShutdown s.power.program = false → s.power.preempt = none →
          t.power.preempt = some (.down, .thermal)))

/-! Power sequencing. -/

/-- (From R296 to R300, R302, R305, R306, R530.) Each step of a running program has its step kind's effect and no other (EN,
DIS, WAIT, WAITPG, DEP, CHECK, JMPF, JMP, SYNC, LOG, END); a wait ends at its condition or its timeout, which sets the FAIL
flags of the rails that do not match; at the END of DOWN or BROWNOUT every rail not KEEP_ON is off; the watchdog ends UP and the
user programs after their present step; a program of higher priority ends the running one PREEMPTED; the outputs are taken up
once after UP. That an UP ended by its watchdog counts as ended is the model's choice, log entry 50. -/
def Obligations.SequencerRunsItsSteps : Prop :=
  ∀ s : State, s.specified = true →
    (s.power.program ≠ .none → s.power.wait = .none → s.power.preempt = none → s.power.timeoutDue = false →
      (∀ n : Fin 24, s.presentStep = .en n →
        Completes .pseStep s fun t => Keeps [.power] s t ∧
          t.power = { s.power with step := s.power.step + 1, rails := t.power.rails } ∧ t.power.rails[n].en = true ∧
          (s.power.rails[n].en = true → t.power.rails[n] = s.power.rails[n]) ∧
          (s.power.rails[n].en = false → t.power.rails[n].switchUs = s.timeUs) ∧
          ∀ m : Fin 24, m ≠ n → t.power.rails[m] = s.power.rails[m]) ∧
      (∀ n : Fin 24, s.presentStep = .dis n →
        Completes .pseStep s fun t => Keeps [.power] s t ∧
          t.power = { s.power with step := s.power.step + 1, rails := t.power.rails } ∧ t.power.rails[n].en = false ∧
          (s.power.rails[n].en = false → t.power.rails[n] = s.power.rails[n]) ∧
          (s.power.rails[n].en = true → t.power.rails[n].switchUs = s.timeUs ∧ t.power.rails[n].offDone = false) ∧
          ∀ m : Fin 24, m ≠ n → t.power.rails[m] = s.power.rails[m]) ∧
      (∀ us, s.presentStep = .wait us →
        Completes .pseStep s fun t => Keeps [.power] s t ∧
          (us = 0 → t.power = { s.power with step := s.power.step + 1 }) ∧
          (us ≠ 0 → t.power = { s.power with wait := .time, waitUs := s.timeUs })) ∧
      (∀ (n : Fin 24) us, s.presentStep = .waitPg n us →
        (s.power.rails[n].pg = s.power.rails[n].en →
          Completes .pseStep s fun t => Keeps [.power] s t ∧ t.power = { s.power with step := s.power.step + 1 }) ∧
        (s.power.rails[n].pg ≠ s.power.rails[n].en → us ≠ 0 →
          Completes .pseStep s fun t => Keeps [.power] s t ∧ t.power = { s.power with wait := .pg, waitUs := s.timeUs }) ∧
        (s.power.rails[n].pg ≠ s.power.rails[n].en → us = 0 →
          Completes .pseStep s fun t => Keeps [.power, .faults] s t ∧ t.power.step = s.power.step + 1 ∧ t.power.rails = s.power.rails ∧
            t.power.flags = s.power.flags ||| 1#64 <<< n.val)) ∧
      (∀ mask us, s.presentStep = .dep mask us →
        (s.depFails mask = [] →
          Completes .pseStep s fun t => Keeps [.power] s t ∧ t.power = { s.power with step := s.power.step + 1 }) ∧
        (s.depFails mask ≠ [] → us ≠ 0 →
          Completes .pseStep s fun t => Keeps [.power] s t ∧ t.power = { s.power with wait := .dep, waitUs := s.timeUs })) ∧
      (∀ (n : Fin 24) (k : Fin 16), s.presentStep = .check n k →
        Completes .pseStep s fun t => Keeps [.power] s t ∧
          t.power = { s.power with step := s.power.step + 1, flags := t.power.flags } ∧
          ∀ i : Fin 64, t.power.flags.getLsbD i = if i.val = 32 + k.val then s.power.rails[n].pg else s.power.flags.getLsbD i) ∧
      (∀ k : Fin 16, s.presentStep = .check 0x40 k →
        Completes .pseStep s fun t => Keeps [.power] s t ∧
          t.power = { s.power with step := s.power.step + 1, flags := t.power.flags } ∧
          ∀ i : Fin 64, t.power.flags.getLsbD i = if i.val = 32 + k.val then s.power.inputOk else s.power.flags.getLsbD i) ∧
      (∀ goal flag inv, s.presentStep = .jmpf goal flag inv →
        Completes .pseStep s fun t => Keeps [.power] s t ∧
          t.power = { s.power with step := if s.pseFlag flag = inv then s.power.step + 1 else goal }) ∧
      (∀ goal, s.presentStep = .jmp goal →
        Completes .pseStep s fun t => Keeps [.power] s t ∧ t.power = { s.power with step := goal }) ∧
      (∀ n us (k : Fin 16), s.presentStep = .sync n us k →
        (s.legend.power.ulbEnable = false →
          Completes .pseStep s fun t => Keeps [.power] s t ∧ t.power = { s.power with step := s.power.step + 1, ulbState := n }) ∧
        (s.legend.power.ulbEnable = true → s.power.detached = true ∨ n ≤ s.power.ulbState →
          Completes .pseStep s fun t => Keeps [.power] s t ∧
            t.power = { s.power with step := s.power.step + 1, flags := s.power.flags ||| 1#64 <<< (32 + k.val) }) ∧
        (s.legend.power.ulbEnable = true → s.power.detached = false → s.power.ulbState < n →
          Completes .pseStep s fun t => Keeps [.power] s t ∧
            t.power = { s.power with syncDrive := false, released := true, wait := .sync, waitUs := s.timeUs })) ∧
      (∀ code, s.presentStep = .log code →
        Completes .pseStep s fun t => Keeps [.power] s t ∧
          t.power = { s.power with step := s.power.step + 1, logQueue := (s.pseLog 0x03 0xFF code).power.logQueue }) ∧
      (s.presentStep = .finish → isShutdown s.power.program = false →
        Completes .pseStep s fun t => Keeps [.power] s t ∧ t.power.program = .none ∧ t.power.lastProgram = s.power.program ∧
          t.power.lastCause = s.power.cause ∧ t.power.rails = s.power.rails ∧
          t.power.lastStatus = (if s.power.fails = 0 then .ended else .flagged) ∧
          t.power.upDone = (s.power.upDone || s.power.program == .up)) ∧
      (s.presentStep = .finish → isShutdown s.power.program = true →
        Completes .programEnd s fun t => Keeps [.power] s t ∧ t.power.program = .none ∧ t.power.lastProgram = s.power.program ∧
          t.power.lastStatus = (if s.power.fails = 0 then .ended else .flagged) ∧ t.power.shutOff = true ∧ t.power.inputOk = false ∧
          t.power.inUs = s.timeUs ∧
          (∀ n : Fin 24, (s.legRail n).keepOn = false → t.power.rails[n].en = false) ∧
          (∀ n : Fin 24, (s.legRail n).keepOn = true → t.power.rails[n] = s.power.rails[n]))) ∧
    (s.power.program ≠ .none → s.power.preempt = none → s.power.timeoutDue = false →
      (∀ us, s.power.wait = .time → s.presentStep = .wait us → s.elapsed s.power.waitUs us = true →
        Completes .pseWaitEnd s fun t => Keeps [.power] s t ∧ t.power = { s.power with step := s.power.step + 1, wait := .none }) ∧
      (∀ (n : Fin 24) us, s.power.wait = .pg → s.presentStep = .waitPg n us →
        (s.power.rails[n].pg = s.power.rails[n].en →
          Completes .pseWaitEnd s fun t => Keeps [.power] s t ∧ t.power = { s.power with step := s.power.step + 1, wait := .none }) ∧
        (s.power.rails[n].pg ≠ s.power.rails[n].en → s.elapsed s.power.waitUs us = true →
          Completes .pseWaitEnd s fun t => Keeps [.power, .faults] s t ∧ t.power.step = s.power.step + 1 ∧ t.power.wait = .none ∧
            t.power.rails = s.power.rails ∧ t.power.flags = s.power.flags ||| 1#64 <<< n.val ∧
            (s.power.program = .up ∨ isUser s.power.program = true →
              t.faults = (s.raiseAs .psFailUp n (s.legRail n).failUpClass []).faults) ∧
            (isShutdown s.power.program = true → t.faults = s.faults))) ∧
      (∀ mask us, s.power.wait = .dep → s.presentStep = .dep mask us →
        (s.depFails mask = [] →
          Completes .pseWaitEnd s fun t => Keeps [.power] s t ∧ t.power = { s.power with step := s.power.step + 1, wait := .none }) ∧
        (s.elapsed s.power.waitUs us = true →
          Completes .pseWaitEnd s fun t => Keeps [.power, .faults] s t ∧ t.power.step = s.power.step + 1 ∧ t.power.wait = .none ∧
            t.power.rails = s.power.rails ∧ ∀ n : Fin 24, n.val ∈ s.depFails mask → t.power.flags.getLsbD n = true)) ∧
      (∀ n us k, s.power.wait = .sync → s.presentStep = .sync n us k → n ≤ s.power.ulbState →
        Completes .pseWaitEnd s fun t => Keeps [.power] s t ∧ t.power = { s.power with step := s.power.step + 1, wait := .none })) ∧
    (s.power.program = .up ∨ isUser s.power.program = true → s.power.timeoutDue = false →
      s.elapsed s.power.startUs (s.pseLegend.progTimeout * 1000000) = true →
      Completes .progTimeout s fun t => Keeps [.power, .faults] s t ∧ t.faults = (s.raise .pwrProgTimeout 0).faults ∧
        t.power.rails = s.power.rails ∧ (s.power.wait = .none → t.power.lastStatus = .timeout ∧ t.power.program = .none) ∧
        (s.power.wait ≠ .none → t.power = { s.power with timeoutDue := true })) ∧
    (∀ p cause, s.power.preempt = some (p, cause) →
      Completes .programPreempt s fun t => t.power.program = p ∧ t.power.step = 0 ∧ t.power.cause = cause ∧ t.power.wait = .none ∧
        t.power.preempt = none ∧ t.power.lastStatus = .preempted ∧ t.power.lastProgram = s.power.program ∧
        t.power.rails = s.power.rails) ∧
    (s.power.resumeDue = true → s.boot.ready = true → s.power.program = .none →
      Completes .upEndResume s fun t => Keeps [.polygons, .loops, .motion, .power] s t ∧ t.power = { s.power with resumeDue := false } ∧
        (∀ x : Fin 6, t.loops.hven[x] = true) ∧
        ∀ x : Fin 6, s.enabled x = true → s.faults.grave = false → s.polygons[x].state = .off →
          (s.polygons[x].hostStopped = false → t.polygons[x].state = .listen) ∧
          (s.polygons[x].hostStopped = true → t.polygons[x] = s.polygons[x]))

/-- (From R301, R303, R304, R307.) UP starts the first time after power-on reset once its conditions hold, and with RECOVERY
after a shutdown with the input failed; a failed input is logged, raised and no longer qualified, and starts BROWNOUT where a
program runs or a rail is on, with every bridge, heater and HV channel off, the job in the machine settled and HOLD set; 50 ms
high qualify it; its return during a program is logged. That a fall of the input needs it seen high is the model's choice, log
entry 36. -/
def Obligations.ProgramsStartByTheInput : Prop :=
  ∀ s : State, s.specified = true → s.aonUp = true →
    (∀ (own : Vector Nat 7) (high : Bool), (∀ i : Fin 7, s.ownWithin i own[i] = true) → s.legendApplied = true → s.power.inputOk = true →
      s.faults.grave = false → high = true ∨ s.legend.power.ulbEnable = false → s.power.program = .none →
      (s.power.upEver = false → s.power.shutOff = false →
        Completes (.programStart own high) s fun t => Keeps [.power] s t ∧ t.power.program = .up ∧ t.power.cause = .start ∧
          t.power.step = 0 ∧ t.power.upEver = true ∧ t.power.upDone = false ∧ t.power.flags.getLsbD 48 = false ∧ t.power.rails = s.power.rails) ∧
      (s.power.upEver = true ∨ s.power.shutOff = true →
        Completes (.programStart own high) s fun t => Keeps [.power] s t ∧ t.power.program = .none ∧ t.power.rails = s.power.rails) ∧
      (s.power.shutOff = true → s.power.inFailed = true → s.power.shutGrave = false → s.power.shutThermal = false →
        Completes (.brownoutRecovery own high) s fun t => Keeps [.power] s t ∧ t.power.program = .up ∧ t.power.cause = .recovery ∧
          t.power.step = 0 ∧ t.power.flags.getLsbD 48 = true ∧ t.power.shutOff = false ∧ t.power.rails = s.power.rails) ∧
      (s.power.shutOff = false ∨ s.power.inFailed = false ∨ s.power.shutGrave = true ∨ s.power.shutThermal = true →
        Completes (.brownoutRecovery own high) s fun t => Keeps [.power] s t ∧ t.power.program = .none)) ∧
    (∀ (own : Vector Nat 7) (high : Bool), s.power.program ≠ .none ∨ s.faults.grave = true ∨ s.power.inputOk = false ∨ s.legendApplied = false →
      Completes (.programStart own high) s fun t => Keeps [.power] s t ∧ t.power.program = s.power.program) ∧
    (∀ low, s.power.inLevel = true → s.pseLegend.inFailFilt ≤ low →
      (s.power.program = .none → anyV (·.en) s.power.rails = true →
        Completes (.inputFail low) s fun t => t.power.program = .brownout ∧ t.power.cause = .inputFail ∧ t.power.step = 0 ∧
          t.power.inputOk = false ∧ t.power.inLevel = false ∧ t.power.inFailed = true ∧ t.layer.hold = true ∧ t.faults.len = false ∧
          t.power.rails = s.power.rails ∧
          (∀ x : Fin 6, t.polygons[x].gates = false ∧ t.loops.hven[x] = false) ∧ (∀ z : Fin 8, t.loops.heaters[z].on = false) ∧
          (∀ n : Fin 10, t.motion.steppers[n].state = .off) ∧ t.motion.brakeReleased = false ∧
          (∀ a : Fin 3, s.motion.servos[a].mode ≠ .off → t.motion.servos[a].mode = .coast) ∧
          (s.legend.power.ulbEnable = true → t.power.ulbState = s.legend.power.downBase ∧ t.power.syncDrive = true ∧ t.power.abortDrive = true) ∧
          ∀ j, s.layer.jobs = [j] → s.layer.abortRunning = false →
            (j.inWindow = true → JobIs t j.seq fun k => k.state = .ended ∧ k.status = .interrupted ∧ k.cause = .brownout) ∧
            (j.state = .lower ∨ j.state = .returning → JobIs t j.seq fun k => k.state = j.state ∧ k.flags.postFault = true) ∧
            (j.state = .armed ∨ j.state = .admitted ∧ j.arming = true →
              JobIs t j.seq fun k => k.state = .ended ∧ k.status = .rejected ∧ k.cause = .faultBeforeStart) ∧
            (j.state = .admitted → j.arming = false → JobIs t j.seq fun k => k.state = .queued) ∧
            (j.state = .queued → t.layer.jobs = [j])) ∧
      (s.power.program ≠ .none → s.power.preempt = none → s.power.program ≠ .brownout →
        Completes (.inputFail low) s fun t => Keeps [.power, .faults] s t ∧ t.power.program = s.power.program ∧
          t.power.preempt = some (.brownout, .inputFail) ∧ t.power.inputOk = false ∧ t.power.inFailed = true ∧
          t.power.flags.getLsbD 51 = true ∧ t.faults = (s.raise .pwrInFail 0).faults) ∧
      (s.power.program = .none → anyV (·.en) s.power.rails = false →
        Completes (.inputFail low) s fun t => Keeps [.power, .faults] s t ∧ t.power = { s.power with
            inLevel := false, inputOk := false, inFails := min (s.power.inFails + 1) 255
            inFailed := s.power.inFailed || !s.power.shutOff, logQueue := (s.pseLog 0x04 0xFF 0).power.logQueue } ∧
          t.faults = (s.raise .pwrInFail 0).faults)) ∧
    (∀ low, low < s.pseLegend.inFailFilt → exec (.inputFail low) s = .next s) ∧
    (s.power.inLevel = true → isShutdown s.power.program = false → s.elapsed s.power.inUs 50000 = true →
      Completes .inputQualified s fun t => Keeps [.power] s t ∧ t.power = { s.power with inputOk := true }) ∧
    (s.power.inLevel = false ∨ isShutdown s.power.program = true ∨ s.elapsed s.power.inUs 50000 = false → exec .inputQualified s = .next s) ∧
    (Completes .inputReturn s fun t => Keeps [.power] s t ∧ t.power = { s.power with
        inLevel := true, inUs := if s.power.inputOk then s.power.inUs else s.timeUs, logQueue := t.power.logQueue } ∧
      (s.power.program = .none ∨ s.power.inLevel = true → t.power.logQueue = s.power.logQueue) ∧
      (s.power.program ≠ .none → s.power.inLevel = false → t.power.logQueue = (s.pseLog 0x05 0xFF 0).power.logQueue))

/-- (From R290, R291, R294, R295, R305, R308, R310.) Each sample of a rail counts once each event it shows (UV and OV at the
fourth sample in a row, PG_LATE and OFF_FAIL at their times, PG_LOST), with the FAIL flag of a running program for OFF_FAIL, and
neither stops a program nor switches a rail; PG follows its input after PG_FILT in the legend's polarity; changed counts go to
the other slot with SEQ one higher; a log record takes the ring's next slot; an own supply beyond a limit counts and is raised;
VDD_CORE moves by at most 10 mV in 100 µs; a read-back off by more than 15 mV and the third failure of a transaction raise
PWR.PMBUS. The byte of DETAIL that names the supply is the model's choice, log entry 11. -/
def Obligations.RailsAndSuppliesAreWatched : Prop :=
  ∀ s : State, s.specified = true →
    (∀ (n : Fin 24) (m : Fin 32) (pin mv : Nat) (r : Rail) (c : RailCounts), s.aonUp = true → m.val = n.val → r = s.power.rails[n] →
      c = s.power.counts[m] → mv = (if (s.legRail n).mon.isSome then min 655350 (pin * (s.legRail n).monGain / 1000) else 0) →
      Completes (.railEvent n pin) s fun t => Keeps [.power, .faults] s t ∧ t.power.rails[n].mon = mv ∧ t.power.rails[n].en = r.en ∧
        t.power.rails[n].pg = r.pg ∧ (∀ k : Fin 24, k ≠ n → t.power.rails[k] = s.power.rails[k]) ∧
        (∀ k : Fin 32, k ≠ m → t.power.counts[k] = s.power.counts[k]) ∧
        t.power.step = s.power.step ∧ t.power.program = s.power.program ∧ t.power.wait = s.power.wait ∧
        (t.power.counts[m].uv = if r.en = true ∧ r.switchUs + 100 * (s.legRail n).pgLateTime ≤ s.timeUs ∧ (s.legRail n).mon.isSome = true ∧
          mv < (s.legRail n).uvLimit ∧ 3 ≤ r.uvRun ∧ r.uvRun ≠ 4 then min (c.uv + 1) 4294967295 else c.uv) ∧
        (t.power.counts[m].ov = if (s.legRail n).mon.isSome = true ∧ (s.legRail n).ovLimit < mv ∧ 3 ≤ r.ovRun ∧ r.ovRun ≠ 4
          then min (c.ov + 1) 4294967295 else c.ov) ∧
        (t.power.counts[m].pgLate = if r.en = true ∧ r.lateDone = false ∧ r.switchUs + 100 * (s.legRail n).pgLateTime ≤ s.timeUs ∧
          (r.pg = false ∨ (s.legRail n).mon.isSome = true ∧ mv < (s.legRail n).uvLimit) then min (c.pgLate + 1) 4294967295 else c.pgLate) ∧
        (t.power.counts[m].pgLost = if r.en = true ∧ r.pgSinceEn = true ∧ r.pg = false then min (c.pgLost + 1) 4294967295 else c.pgLost) ∧
        (t.power.counts[m].offFail = if r.en = false ∧ r.offDone = false ∧ r.switchUs + 100 * (s.legRail n).offTime ≤ s.timeUs ∧
          (r.pg = true ∨ (s.legRail n).mon.isSome = true ∧ (s.legRail n).offV < mv) then min (c.offFail + 1) 4294967295 else c.offFail) ∧
        ((s.legRail n).mon = none → r.en = true → r.lateDone = true → r.pgSinceEn = true → r.pg = false →
          t.faults = (s.raiseAs .psPgLost n (s.legRail n).pgLostClass []).faults ∧ t.power.rails[n].pgSinceEn = false) ∧
        ((s.legRail n).mon = none → r.en = false → r.offDone = false → r.switchUs + 100 * (s.legRail n).offTime ≤ s.timeUs → r.pg = true →
          t.faults = (s.raise .psOffFail n).faults ∧ t.power.logQueue = (s.pseLog 0x07 n 0).power.logQueue ∧
          (s.power.program ≠ .none → t.power.flags = s.power.flags ||| 1#64 <<< n.val) ∧
          (s.power.program = .none → t.power.flags = s.power.flags)) ∧
        ((s.legRail n).mon = none → r.pg = true → r.en = true → t.faults = s.faults ∧ t.power.logQueue = s.power.logQueue)) ∧
    (∀ (n : Fin 24) level held, s.aonUp = true → (s.legRail n).pgFilt ≤ held →
      Completes (.pgFilterChange n level held) s fun t => Keeps [.power] s t ∧ t.power = { s.power with rails := t.power.rails } ∧
        t.power.rails[n].pg = decide (level = (s.legRail n).pgHigh) ∧ t.power.rails[n].en = s.power.rails[n].en ∧
        ∀ m : Fin 24, m ≠ n → t.power.rails[m] = s.power.rails[m]) ∧
    (∀ (n : Fin 24) level held, held < (s.legRail n).pgFilt → exec (.pgFilterChange n level held) s = .next s) ∧
    (∀ n : Fin 32, s.power.counts[n].dirty = true → s.power.counts[n].slot ≤ 1 →
      Completes (.counterRecordWrite n) s fun t => Keeps [.power, .logs] s t ∧
        t.power.counts[n] = { s.power.counts[n] with
          seq := (s.power.counts[n].seq + 1) % 4294967296, slot := 1 - s.power.counts[n].slot, dirty := false } ∧
        (∀ m : Fin 32, m ≠ n → t.power.counts[m] = s.power.counts[m] ∧ t.logs.counters[m] = s.logs.counters[m]) ∧
        getN t.logs.counters[n] t.power.counts[n].slot [] = counterRecord n t.power.counts[n].seq s.power.counts[n] ∧
        getN t.logs.counters[n] s.power.counts[n].slot [] = getN s.logs.counters[n] s.power.counts[n].slot []) ∧
    (∀ r rest, s.power.logQueue = r :: rest → s.logs.powerHead < 256 →
      Completes .powerLogWrite s fun t => Keeps [.power, .logs] s t ∧ t.power = { s.power with logQueue := rest } ∧
        getN t.logs.power s.logs.powerHead [] = sealRecord s.logs.powerSeq r ∧ t.logs.powerHead = (s.logs.powerHead + 1) % 256 ∧
        t.logs.powerSeq = (s.logs.powerSeq + 1) % 4294967296 ∧
        ∀ k, k < 256 → k ≠ s.logs.powerHead → getN t.logs.power k [] = getN s.logs.power k []) ∧
    (s.aonUp = true →
      (∀ (i : Fin 7) (m : Fin 32) uv, m.val = 25 + i.val →
        (uv < (s.ownLimits i).1 → uv ≤ (s.ownLimits i).2 →
          Completes (.ownSupplyFault i uv) s fun t => Keeps [.power, .faults] s t ∧
            t.power.counts[m].uv = min (s.power.counts[m].uv + 1) 4294967295 ∧ t.power.counts[m].ov = s.power.counts[m].ov ∧
            (∀ k : Fin 32, k ≠ m → t.power.counts[k] = s.power.counts[k]) ∧
            t.faults = (s.raiseD .pwrOwnUv 0 (le 1 (25 + i.val))).faults) ∧
        ((s.ownLimits i).2 < uv →
          Completes (.ownSupplyFault i uv) s fun t => Keeps [.power, .faults] s t ∧
            t.power.counts[m].ov = min (s.power.counts[m].ov + 1) 4294967295 ∧ t.power.counts[m].uv = s.power.counts[m].uv ∧
            (∀ k : Fin 32, k ≠ m → t.power.counts[k] = s.power.counts[k]) ∧
            t.faults = (s.raiseD .pwrOwnOv 0 (le 1 (25 + i.val))).faults) ∧
        ((s.ownLimits i).1 ≤ uv → uv ≤ (s.ownLimits i).2 → exec (.ownSupplyFault i uv) s = .next s)) ∧
      (s.ownLimits 0 = (950 * s.power.voutReq, 1050 * s.power.voutReq) ∧ s.ownLimits 1 = (1140000, 1260000) ∧
        s.ownLimits 2 = (855000, 945000) ∧ s.ownLimits 3 = (1710000, 1890000) ∧ s.ownLimits 4 = (1710000, 1890000) ∧
        s.ownLimits 5 = (1656000, 1944000) ∧ s.ownLimits 6 = (3036000, 3564000)) ∧
      (s.boundary = true → s.power.frozen = false → s.power.voutReq ≠ s.power.voutTarget → s.elapsed s.power.vcoreUs 100 = true →
        Completes .vcoreStep s fun t => Keeps [.power] s t ∧
          t.power = { s.power with
            vcoreUs := s.timeUs, pmbTries := 0
            voutReq := if s.power.voutReq < s.power.voutTarget then min s.power.voutTarget (s.power.voutReq + 10)
              else max s.power.voutTarget (s.power.voutReq - 10) }) ∧
      (∀ mv : Fin 1024, Completes (.readVoutPoll mv) s fun t => Keeps [.power, .faults] s t ∧
        t.power = { s.power with voutRead := mv, pmbTries := 0 } ∧
        t.faults = (if 15 < ((mv.val : Int) - s.power.voutReq).natAbs then (s.raise .pwrPmbus 0).faults else s.faults)) ∧
      (s.power.pmbTries < 2 →
        Completes .pmbusFailure s fun t => Keeps [.power] s t ∧ t.power = { s.power with
          pmbErrors := min (s.power.pmbErrors + 1) 255, pmbTries := s.power.pmbTries + 1 }) ∧
      (2 ≤ s.power.pmbTries →
        Completes .pmbusFailure s fun t => Keeps [.power, .faults] s t ∧ t.power = { s.power with
          pmbErrors := min (s.power.pmbErrors + 1) 255, pmbTries := 0, frozen := true, voutTarget := s.power.voutReq } ∧
        t.faults = (s.raise .pwrPmbus 0).faults))

/-- (From R311 to R316.) A qualified rise advances the counter, back to ULB_LAYER from the state above it once UP is done, pulls
the line low unless the member is DETACHED or waits for a later state, and fulfils condition 15 for the candidate it was
released for; a SYNC's timeout sets its flag and detaches the member; the line is released when the member's part of a state is
done; a received pulse aborts a layer in its window and rejects a job in ARMED; an abort level of 1 ms is counted once and
starts DOWN where the legend says so. -/
def Obligations.UliberMembersStepTogether : Prop :=
  ∀ s : State, s.specified = true →
    (s.legend.power.ulbEnable = true → s.aonUp = true →
      (Completes .uliberRise s fun t => Keeps [.layer, .power] s t ∧ t.power.rises = min (s.power.rises + 1) 65535 ∧
        t.power.rails = s.power.rails ∧ t.power.program = s.power.program ∧ t.power.step = s.power.step ∧
        (s.power.upDone = true → s.power.ulbState = s.legend.power.ulbLayer + 1 → t.power.ulbState = s.legend.power.ulbLayer) ∧
        (s.power.upDone = false ∨ s.power.ulbState ≠ s.legend.power.ulbLayer + 1 → t.power.ulbState = min 255 (s.power.ulbState + 1)) ∧
        (s.power.wait ≠ .sync → t.power.syncDrive = !s.power.detached) ∧
        (∀ n us k, s.power.wait = .sync → s.presentStep = .sync n us k → t.power.ulbState < n →
          t.power.syncDrive = false ∧ t.power.released = true) ∧
        (∀ j, s.layer.jobs = [j] → j.state = .admitted → s.power.upDone = true → s.power.ulbState = s.legend.power.ulbLayer →
          t.power.pUlb = s.position.travel.fdiv 256 - (s.beltPosition % 64 : Nat) ∧
          (s.power.layerReleased = true → t.layer = { s.layer with jobs := [{ j with syncReady := true }] }) ∧
          (s.power.layerReleased = false → t.layer = s.layer)) ∧
        (s.power.upDone = false ∨ s.power.ulbState ≠ s.legend.power.ulbLayer → t.layer = s.layer)) ∧
      (s.power.abortDrive = false → s.power.abortPulse = none →
        (∀ j, s.layer.jobs.filter (fun k => k.state == .armed) = [j] → s.windowJob = none →
          Completes .uliberAbortPulseReceived s fun t => t.layer = (s.rejectJob j.seq .syncTimeout).layer ∧
            t.power.pulses = min (s.power.pulses + 1) 65535 ∧ t.faults = s.faults) ∧
        (∀ j, s.layer.jobs.filter (fun k => k.state == .armed) = [] → s.windowJob = some j → s.layer.abortRunning = false →
          Completes .uliberAbortPulseReceived s fun t => t.layer.abortRunning = true ∧ t.layer.abortSeq = j.seq ∧
            t.layer.abortCause = .uliberAbort ∧ t.power.pulses = min (s.power.pulses + 1) 65535 ∧ t.power.abortPulse = none ∧
            t.faults = s.faults) ∧
        (s.layer.jobs.filter (fun k => k.state == .armed) = [] → s.windowJob = none →
          Completes .uliberAbortPulseReceived s fun t => Keeps [.power] s t ∧ t.power = { s.power with
            pulses := min (s.power.pulses + 1) 65535, abortLevel := false, abortFall := some s.timeUs, abortLong := false })) ∧
      (∀ us, s.power.abortFall = some us → s.elapsed us 1000 = true → s.power.abortLong = false →
        (s.legend.power.ulbAbortDown = false →
          Completes .uliberAbortLevel s fun t => Keeps [.power] s t ∧
            t.power = { s.power with levels := min (s.power.levels + 1) 65535, abortLong := true }) ∧
        (s.legend.power.ulbAbortDown = true → s.power.program = .none →
          Completes .uliberAbortLevel s fun t => t.power.levels = min (s.power.levels + 1) 65535 ∧ t.power.program = .down ∧
            t.power.cause = .ulbAbort ∧ t.power.flags.getLsbD 52 = true)) ∧
      (s.power.abortFall = none ∨ s.power.abortLong = true → exec .uliberAbortLevel s = .next s)) ∧
    (∀ n us k, s.power.wait = .sync → s.presentStep = .sync n us k → k < 16 → s.power.program ≠ .none → s.power.preempt = none →
      s.power.ulbState < n → s.elapsed s.power.waitUs us = true → s.power.timeoutDue = false →
      Completes .syncTimeout s fun t => Keeps [.power, .faults] s t ∧ t.power.detached = true ∧ t.power.syncDrive = false ∧
        t.power.flags = s.power.flags ||| 1#64 <<< (32 + k) ∧ t.power.step = s.power.step + 1 ∧ t.power.wait = .none ∧
        t.power.rails = s.power.rails ∧ t.power.ulbState = s.power.ulbState ∧
        t.power.logQueue = (s.pseLog 0x0A 0xFF 0).power.logQueue ∧ t.faults = (s.raise .ulbSyncTimeout 0).faults) ∧
    (s.legend.power.ulbEnable = true → s.power.detached = false → s.power.upDone = true → s.power.released = false →
      (s.power.ulbState = s.legend.power.ulbLayer → (s.layer.jobs.any fun j => j.state == .admitted) = true → s.beltPosition % 64 = 0 →
        Completes .uliberLayerRelease s fun t => Keeps [.power] s t ∧
          t.power = { s.power with syncDrive := false, released := true, layerReleased := true }) ∧
      (s.power.ulbState = s.legend.power.ulbLayer → s.beltPosition % 64 ≠ 0 → exec .uliberLayerRelease s = .next s) ∧
      (s.power.ulbState = s.legend.power.ulbLayer + 1 → (s.layer.jobs.any fun j => j.state == .admitted) = false →
        Completes .uliberLayerRelease s fun t => Keeps [.power] s t ∧ t.power = { s.power with syncDrive := false, released := true }))

/-! Faults. -/

/-- (From R326, R327, R329, R330, R332, R335, R337, R338.) An event raised enters the queue, or is counted as dropped when it is
full, and an armed one enters the fast path; the collector gives it the instance's class, an Nth event within W the next class
up to the cap with the count restarted, and no other instance changes; an event below Severe logs at most one record; a quiet
instance falls back one step; suppressed Notice events get one record; a record goes to the ring's head and only there. That the
fast path is a step of its own and that STORM waits for a slot are the model's choices, log entries 9 and 46. -/
def Obligations.FaultEventsAreClassifiedAndLogged : Prop :=
  (∀ (s : State) (c : Source) i k d, ∃ e : FaultEvent, e.src = c.number ∧ e.inst = i ∧ e.base = k ∧ e.timeUs = s.timeUs ∧
    e.detail = padTo 6 d ∧ e.inWindow = s.windowOpen ∧ s.raiseAs c i k d = { s with faults := (s.raiseAs c i k d).faults } ∧
    (s.raiseAs c i k d).faults.insts = s.faults.insts ∧ (s.raiseAs c i k d).faults.records = s.faults.records ∧
    (s.faults.queue.length < 64 → (s.raiseAs c i k d).faults.queue = s.faults.queue ++ [e] ∧
      (s.raiseAs c i k d).faults.dropped = s.faults.dropped ∧ (s.raiseAs c i k d).faults.stormDue = s.faults.stormDue) ∧
    (64 ≤ s.faults.queue.length → (s.raiseAs c i k d).faults.queue = s.faults.queue ∧
      (s.raiseAs c i k d).faults.dropped = min (s.faults.dropped + 1) 65535 ∧ (s.raiseAs c i k d).faults.storm = true ∧
      (s.faults.storm = false → (s.raiseAs c i k d).faults.stormDue = true) ∧
      (s.faults.storm = true → (s.raiseAs c i k d).faults.stormDue = s.faults.stormDue)) ∧
    ((s.armedClass c.number i k).code < 2 → (s.raiseAs c i k d).faults.fast = s.faults.fast) ∧
    (2 ≤ (s.armedClass c.number i k).code →
      (s.raiseAs c i k d).faults.fast = s.faults.fast ++ [{ e with base := s.armedClass c.number i k }])) ∧
  ∀ s : State, s.specified = true →
    (∀ (c : Source) (i : Fin 64), s.faults.queue.length = 64 →
      Completes (.faultQueueOverflow c i) s fun t => t = s.raise c i ∧ t.faults.queue = s.faults.queue ∧
        t.faults.dropped = min (s.faults.dropped + 1) 65535) ∧
    (∀ (c : Source) (i : Fin 64), s.faults.queue.length < 64 → exec (.faultQueueOverflow c i) s = .next s) ∧
    (∀ e rest old cap n, s.faults.queue = e :: rest → s.faultInst e.src e.inst = some old → e.base = old.base →
      old.base.code ≤ old.cls.code → old.cls.code ≤ cap.code → (s.sourceEntry e.src).cap = some cap →
      n = (old.counted.filter fun u => decide (e.timeUs < u + 1000 * (s.sourceEntry e.src).w)).length + 1 → n < 256 →
      -- no promotion: the cap is the base class, the class is at the cap, or the count has not reached N
      ((cap = old.base ∨ old.cls = cap ∨ n < (s.sourceEntry e.src).n) →
        Completes .faultEvent s fun t =>
          (∃ i, t.faultInst e.src e.inst = some i ∧ i.cls = old.cls ∧ i.base = old.base ∧ i.lastUs = e.timeUs ∧
            i.counted = e.timeUs :: (old.counted.filter fun u => decide (e.timeUs < u + 1000 * (s.sourceEntry e.src).w)) ∧
            i.standing = (old.standing || decide (2 ≤ old.cls.code)) ∧ i.setGrave = (old.setGrave || old.cls == .grave) ∧
            i.restricted = (old.restricted || (decide (1 ≤ old.cls.code) && (s.sourceEntry e.src).restrict != .none)) ∧
            i.events = (old.events + 1) % 4294967296) ∧
          (∀ src inst, (src, inst) ≠ (e.src, e.inst) → t.faultInst src inst = s.faultInst src inst) ∧
          (old.cls = .notice → s.faults.stormDue = false → t.faults.queue = rest ∧ t.layer = s.layer ∧ t.host = s.host ∧
            t.scan = s.scan ∧ t.faults.fast = s.faults.fast)) ∧
      -- promotion that stays below Severe
      ((s.sourceEntry e.src).n ≤ n → old.cls = .notice → 1 ≤ cap.code →
        Completes .faultEvent s fun t =>
          (∃ i, t.faultInst e.src e.inst = some i ∧ i.cls = .degraded ∧ i.base = old.base ∧ i.lastUs = e.timeUs ∧ i.counted = [] ∧
            i.standing = old.standing ∧ i.setGrave = old.setGrave ∧
            i.restricted = (old.restricted || (s.sourceEntry e.src).restrict != .none)) ∧
          (∀ src inst, (src, inst) ≠ (e.src, e.inst) → t.faultInst src inst = s.faultInst src inst) ∧
          t.faults.records.length = s.faults.records.length + 1 ∧
          ((s.sourceEntry e.src).restrict = .hold → t.layer = { s.layer with hold := true }) ∧
          ((s.sourceEntry e.src).restrict ≠ .hold → t.layer = s.layer)) ∧
      -- promotion to Severe: the layer in its window is aborted with the cause of this event
      ((s.sourceEntry e.src).n ≤ n → old.cls = .degraded → 2 ≤ cap.code → ∀ j, s.windowJob = some j → s.layer.abortRunning = false →
        Completes .faultEvent s fun t => t.layer.abortRunning = true ∧ t.layer.abortSeq = j.seq ∧
          t.layer.abortCause = faultCause .severe e.src e.inst ∧ t.layer.abortSource = e.src)) ∧
    (s.faults.queue = [] → exec .faultEvent s = .next s) ∧
    (∀ (src : Fin 256) (inst : Fin 64) i, s.faultInst src inst = some i →
      (i.base.code < i.cls.code → i.standing = false → i.cls ≠ .grave →
        s.elapsed i.lastUs (1000 * (s.sourceEntry src).w) = true →
        Completes (.classFallback src inst) s fun t => Keeps [.faults] s t ∧
          t.faultInst src inst = some { i with cls := classOf (i.cls.code - 1), lastUs := s.timeUs } ∧ t.faults.queue = s.faults.queue ∧
          (∀ src' inst', (src', inst') ≠ (src.val, inst.val) → t.faultInst src' inst' = s.faultInst src' inst') ∧
          t.faults.records.length = s.faults.records.length + 1) ∧
      (i.cls.code ≤ i.base.code ∨ i.standing = true ∨ i.cls = .grave ∨
        s.elapsed i.lastUs (1000 * (s.sourceEntry src).w) = false → exec (.classFallback src inst) s = .next s)) ∧
    (∀ (src : Fin 256) (inst : Fin 64) i, s.faultInst src inst = some i →
      (i.suppressed ≠ 0 → (i.logged.filter fun u => decide (s.timeUs < u + 1000 * (s.sourceEntry src).w)).length < (s.sourceEntry src).logLimit →
        Completes (.suppressedRecord src inst) s fun t => Keeps [.faults] s t ∧ t.faultInst src inst = some { i with suppressed := 0 } ∧
          (∀ src' inst', (src', inst') ≠ (src.val, inst.val) → t.faultInst src' inst' = s.faultInst src' inst') ∧
          t.faults.records.length = s.faults.records.length + 1) ∧
      (i.suppressed = 0 → exec (.suppressedRecord src inst) s = .next s)) ∧
    (∀ r rest (ok : Bool), s.faults.records = r :: rest → s.faults.logHead < 1024 →
      Completes (.faultLogWrite ok) s fun t => Keeps [.faults, .logs] s t ∧ t.faults.records = rest ∧
        t.faults.logHead = (s.faults.logHead + 1) % 1024 ∧ t.faults.insts = s.faults.insts ∧
        t.logs = { s.logs with faults := t.logs.faults } ∧
        (∀ k : Fin 1024, k.val ≠ s.faults.logHead → t.logs.faults[k] = s.logs.faults[k]) ∧
        (ok = true → getN t.logs.faults s.faults.logHead [] = r.bytes ∧ t.faults.queue = s.faults.queue) ∧
        (ok = false → getN t.logs.faults s.faults.logHead [] = [] ∧ t.faults.logFails = min (s.faults.logFails + 1) 65535 ∧
          (s.faults.queue.length < 64 → ∃ e : FaultEvent, t.faults.queue = s.faults.queue ++ [e] ∧
            e.src = Source.faultLogWrite.number ∧ e.inst = 0)))

/-- (From R43, R48, R330, R334, R336, R339, R340.) An event on the fast path aborts the layer in its window with its own cause;
outside a window FORCE_OFF is on every lane; a Grave one puts every heater off and every polygon into FAULT and makes the latch
due, which takes LEN low, drives ULB_ABORT_N and shuts down; ALIVE toggles at a period's end only with a heartbeat in it, no
Severe standing and the latch clear; LSAFE_N asserted forces every lane off and takes LEN low; LEN rises only when every
condition holds. -/
def Obligations.SafetyOutputsFollowFaults : Prop :=
  ∀ s : State, s.specified = true →
    (∀ e rest, s.faults.fast = e :: rest →
      (2 ≤ e.base.code → s.layer.abortRunning = false → ∀ j, s.windowJob = some j →
        Completes .faultFastPath s fun t => t.layer.abortRunning = true ∧ t.layer.abortSeq = j.seq ∧
          t.layer.abortCause = faultCause e.base e.src e.inst ∧ t.layer.abortSource = e.src ∧
          ∀ x : Fin 6, t.pixels[x].forced = true) ∧
      (2 ≤ e.base.code → s.windowOpen = false →
        Completes .faultFastPath s fun t => t.layer.abortRunning = s.layer.abortRunning ∧ (∀ x : Fin 6, t.pixels[x].forced = true) ∧
          ∀ j ∈ s.layer.jobs, (∀ k ∈ s.layer.jobs, k.seq = j.seq → k = j) → j.state = .armed → JobIs t j.seq fun k =>
            k.state = .ended ∧ k.status = .rejected ∧ k.cause = .faultBeforeStart) ∧
      (e.base = .grave →
        Completes .faultFastPath s fun t => (s.faults.grave = false → s.faults.gravePending = false →
            t.faults.gravePending = true ∧ t.faults.graveSrc = e.src ∧ t.faults.graveInst = e.inst) ∧
          (s.faults.grave = true ∨ s.faults.gravePending = true →
            t.faults.gravePending = s.faults.gravePending ∧ t.faults.graveSrc = s.faults.graveSrc) ∧
          (∀ x : Fin 6, t.polygons[x].state = .fault ∧ t.loops.hven[x] = false) ∧
          (∀ z : Fin 8, t.loops.heaters[z].mode = .forcedOff ∧ t.loops.heaters[z].on = false) ∧
          ∀ k : Fin 18, t.loops.hv[k].code = 0 ∧ t.loops.hv[k].mode = .grave)) ∧
    (s.faults.fast = [] → exec .faultFastPath s = .next s) ∧
    (s.faults.gravePending = true →
      Completes .graveLatch s fun t => t.faults.grave = true ∧ t.faults.gravePending = false ∧ t.faults.graveValid = true ∧
        t.faults.len = false ∧ t.faults.graveSrc = s.faults.graveSrc ∧ t.faults.graveInst = s.faults.graveInst ∧
        t.power.shutGrave = true ∧ (s.legend.power.ulbEnable = true → t.power.abortDrive = true) ∧
        (s.power.program = .none → t.power.program = .down ∧ t.power.cause = .grave) ∧
        (isShutdown s.power.program = true → t.power.program = s.power.program ∧ t.power.step = s.power.step) ∧
        ∀ x : Fin 6, t.polygons[x].state = .fault) ∧
    (s.faults.gravePending = false → exec .graveLatch s = .next s) ∧
    (s.boot.ready = true → s.elapsed s.faults.periodUs (250 * s.legend.faults.alivePeriod) = true →
      Completes .alivePeriodEnd s fun t => Keeps [.faults] s t ∧ t.faults.beat = false ∧ t.faults.periodUs = s.timeUs ∧
        t.faults.supOk = s.faults.beat ∧ t.faults.insts = s.faults.insts ∧ t.faults.len = s.faults.len ∧
        (s.faults.beat = true → s.severeStands = false → s.faults.grave = false →
          t.faults.alive = (!s.faults.alive) ∧ t.faults.stops = s.faults.stops) ∧
        (s.faults.beat = false ∨ s.severeStands = true ∨ s.faults.grave = true →
          t.faults.alive = s.faults.alive ∧ t.faults.stops = min (s.faults.stops + 1) 65535) ∧
        (s.faults.beat = true → t.faults.missed = 0) ∧ (s.faults.beat = false → t.faults.missed = min 3 (s.faults.missed + 1)) ∧
        (s.faults.beat = true ∨ s.faults.missed ≠ 1 → t.faults.queue = s.faults.queue) ∧
        (s.faults.beat = false → s.faults.missed = 1 → s.faults.queue.length < 64 → ∃ e : FaultEvent,
          t.faults.queue = s.faults.queue ++ [e] ∧ e.src = Source.faultWatchdog.number)) ∧
    (s.boot.ready = false ∨ s.elapsed s.faults.periodUs (250 * s.legend.faults.alivePeriod) = false → exec .alivePeriodEnd s = .next s) ∧
    (s.boot.ready = true → Completes .heartbeatWrite s fun t => Keeps [.faults] s t ∧
      t.faults = { s.faults with beat := true, beatUs := s.timeUs }) ∧
    (s.aonUp = true → s.faults.lsafe = true →
      Completes .lsafeAssert s fun t => t.faults.lsafe = false ∧ t.faults.len = false ∧ t.pins = { s.pins with lsafePin := false } ∧
        (∀ x : Fin 6, t.pixels[x].forced = true) ∧
        (s.layer.abortRunning = false → (s.armedClass Source.faultLsafe.number 0 .severe) ≠ .grave → ∀ j, s.windowJob = some j →
          t.layer.abortRunning = true ∧ t.layer.abortSeq = j.seq ∧ t.layer.abortCause = .lsafe)) ∧
    (s.aonUp = false ∨ s.faults.lsafe = false → Completes .lsafeAssert s fun t => Keeps [.pins] s t ∧
      t.pins = { s.pins with lsafePin := false }) ∧
    (s.aonUp = true → s.faults.lsafe = false → Completes .lsafeNRelease s fun t => Keeps [.faults, .pins] s t ∧
      t.faults = { s.faults with lsafe := true, lsafeUs := s.timeUs } ∧ t.pins = { s.pins with lsafePin := true }) ∧
    (s.boot.ready = true → s.faults.lsafe = true → s.elapsed s.faults.lsafeUs (1000 * s.legend.faults.lsafeQual) = true →
      s.lsafeStands = false → s.faults.grave = false → isShutdown s.power.program = false →
      Completes .lenAssert s fun t => Keeps [.faults] s t ∧ t.faults = { s.faults with len := true }) ∧
    ((s.boot.ready = false ∨ s.faults.lsafe = false ∨ s.lsafeStands = true ∨ s.faults.grave = true ∨ isShutdown s.power.program = true) ∨
      s.elapsed s.faults.lsafeUs (1000 * s.legend.faults.lsafeQual) = false → exec .lenAssert s = .next s)

/-! Host link and jobs. -/

/-- (From R10, R11, R13, R14, R352 to R354, R358, R361, R379.) Setting ENABLE empties a ring or a queue, a queue's with phase 1
and only for a size of 4 to 12, and clearing it keeps its place; HOST_WIN takes its granule; BAR2 writes and reads DRAM at the
window's base, a read past the end gives 0, one of an uncorrectable codeword is poisoned, both raise HOST.WINDOW; a register
write takes a base only while its ring or queue is disabled; a read gives the bytes enabled, and that of a high half the copy
its low half's read made. That a write of ENABLE 1 to an enabled ring changes nothing, and that each 64-bit pair has its own
holding register, are the model's choices, log entries 58 and 68. -/
def Obligations.QueuesAndWindowsFollowTheHost : Prop :=
  ∀ s : State, s.specified = true → s.barOpen = true →
    (∀ v : BitVec 32,
      (bitOf v.toNat 0 = true → s.host.lq.enable = false →
        Completes (.ringEnable false v) s fun t => Keeps [.host] s t ∧
          t.host = { s.host with lq := { s.host.lq with enable := true, error := false, head := 0, tail := 0, rung := false } }) ∧
      (bitOf v.toNat 0 = true → s.host.mq.enable = false →
        Completes (.ringEnable true v) s fun t => Keeps [.host] s t ∧
          t.host = { s.host with mq := { s.host.mq with enable := true, error := false, head := 0, tail := 0, rung := false } }) ∧
      (bitOf v.toNat 0 = false →
        (Completes (.ringEnable false v) s fun t => Keeps [.host] s t ∧
          t.host = { s.host with lq := { s.host.lq with enable := false, rung := false } }) ∧
        (Completes (.ringEnable true v) s fun t => Keeps [.host] s t ∧
          t.host = { s.host with mq := { s.host.mq with enable := false, rung := false } }))) ∧
    (∀ (n : Fin 14) (v : BitVec 32), (n = 0 ∨ bitOf v.toNat 1 = true ∧ (s.host.cqs[n].enable = true → s.host.cqs[n].slot64 = true)) →
      Completes (.cqEnable n v) s fun t => Keeps [.host] s t ∧ t.host = { s.host with cqs := t.host.cqs } ∧
        (∀ m : Fin 14, m ≠ n → t.host.cqs[m] = s.host.cqs[m]) ∧
        t.host.cqs[n].vector = field v.toNat 9 6 ∧ t.host.cqs[n].irqEnable = bitOf v.toNat 10 ∧
        t.host.cqs[n].coalCount = field v.toNat 23 16 ∧ t.host.cqs[n].coalTime = field v.toNat 31 24 ∧
        t.host.cqs[n].base = s.host.cqs[n].base ∧ t.host.cqs[n].waiting = s.host.cqs[n].waiting ∧
        (bitOf v.toNat 0 = false → t.host.cqs[n].enable = false ∧ t.host.cqs[n].head = s.host.cqs[n].head ∧
          t.host.cqs[n].tail = s.host.cqs[n].tail) ∧
        (bitOf v.toNat 0 = true → s.host.cqs[n].enable = false → 4 ≤ field v.toNat 5 2 → field v.toNat 5 2 ≤ 12 →
          t.host.cqs[n].enable = true ∧ t.host.cqs[n].head = 0 ∧ t.host.cqs[n].tail = 0 ∧ t.host.cqs[n].phase = true ∧
          t.host.cqs[n].sizeLog2 = field v.toNat 5 2 ∧ t.host.cqs[n].slot64 = true) ∧
        (bitOf v.toNat 0 = true → s.host.cqs[n].enable = false → field v.toNat 5 2 < 4 ∨ 12 < field v.toNat 5 2 →
          t.host.cqs[n].enable = false) ∧
        (bitOf v.toNat 0 = true → s.host.cqs[n].enable = true → t.host.cqs[n].enable = true ∧
          t.host.cqs[n].sizeLog2 = s.host.cqs[n].sizeLog2 ∧ t.host.cqs[n].slot64 = s.host.cqs[n].slot64 ∧
          t.host.cqs[n].head = s.host.cqs[n].head ∧ t.host.cqs[n].tail = s.host.cqs[n].tail)) ∧
    (∀ (n : Fin 14) (v : BitVec 32), n ≠ 0 → s.host.cqs[n].enable = false → bitOf v.toNat 0 = true → bitOf v.toNat 1 = false →
      4 ≤ field v.toNat 5 2 → field v.toNat 5 2 ≤ 12 →
      Completes (.cqEnable n v) s fun t => Keeps [.host] s t ∧ t.host.cqs[n].enable = true ∧ t.host.cqs[n].slot64 = false ∧
        t.host.cqs[n].waiting = s.host.cqs[n].waiting.filter (·.dma) ∧
        t.host.cqs[(0 : Fin 14)].waiting = s.host.cqs[(0 : Fin 14)].waiting ++ s.host.cqs[n].waiting.filter (fun r => !r.dma) ∧
        ∀ m : Fin 14, m ≠ n → m ≠ 0 → t.host.cqs[m] = s.host.cqs[m]) ∧
    (∀ v : BitVec 32, Completes (.hostWinWrite v) s fun t => Keeps [.host] s t ∧ t.host = { s.host with win := field v.toNat 6 0 }) ∧
    (∀ (off : Fin 268435456) data, s.winAddr off + data.length ≤ s.dramBytes → s.memory.wf = true →
      s.memory.dram.anyBad (s.winAddr off) data.length = false →
      Completes (.bar2Write off data []) s fun t => Keeps [.memory] s t ∧ t.memory.sram = s.memory.sram ∧
        t.memory.dram.bad = s.memory.dram.bad ∧ ∀ a, t.memory.dram.read a =
          if s.winAddr off ≤ a ∧ a < s.winAddr off + data.length then nth data (a - s.winAddr off) 0 else s.memory.dram.read a) ∧
    (∀ (off : Fin 268435456) (data : List Byte), s.dramBytes ≤ s.winAddr off → data ≠ [] →
      Completes (.bar2Write off data []) s fun t => Keeps [.faults, .memory] s t ∧ t.memory = s.memory ∧
        t.faults = (s.raise .hostWindow 0).faults) ∧
    (∀ (off : Fin 268435456) len, s.memory.dram.anyBad (s.winAddr off) (min len (s.dramBytes - s.winAddr off)) = false →
      Completes (.bar2Read off len []) s fun t => Keeps [.faults, .host] s t ∧
        t.faults = (if s.dramBytes < s.winAddr off + len then (s.raise .hostWindow 0).faults else s.faults) ∧
        t.host = { s.host with lastBytes := t.host.lastBytes, poisoned := false, unsupported := false } ∧
        t.host.lastBytes = (List.range len).map fun i =>
          if s.winAddr off + i < s.dramBytes then s.memory.dram.read (s.winAddr off + i) else 0) ∧
    (∀ (off : Fin 268435456) len (c : Nat), s.winAddr off / 32 ≤ c → c * 32 < s.winAddr off + len → c * 32 < s.dramBytes →
      Completes (.bar2Read off len [c]) s fun t => Keeps [.free, .faults, .host, .memory] s t ∧ t.host.poisoned = true ∧
        t.memory.dram.isBad c = true ∧ t.memory.dram.cells = s.memory.dram.cells ∧ t.memory.sram = s.memory.sram ∧
        t.faults = (s.raise .hostWindow 0).faults) ∧
    (∀ v : BitVec 32,
      (Completes (.registerWrite 0x4000 v) s fun t => Keeps [.host] s t ∧
        (s.host.lq.enable = true → t.host = s.host) ∧
        (s.host.lq.enable = false → t.host = { s.host with lq := { s.host.lq with base := setLo 12 v.toNat s.host.lq.base } })) ∧
      (Completes (.registerWrite 0x4008 v) s fun t => Keeps [.host] s t ∧
        (s.host.mq.enable = true → t.host = s.host) ∧
        (s.host.mq.enable = false → t.host = { s.host with mq := { s.host.mq with base := setLo 12 v.toNat s.host.mq.base } })) ∧
      (∀ n : Fin 14, Completes (.registerWrite ⟨0x4400 + 8 * n.val, by omega⟩ v) s fun t => Keeps [.host] s t ∧
        (∀ m : Fin 14, m ≠ n → t.host.cqs[m] = s.host.cqs[m]) ∧ t.host = { s.host with cqs := t.host.cqs } ∧
        (s.host.cqs[n].enable = true → t.host.cqs[n] = s.host.cqs[n]) ∧
        (s.host.cqs[n].enable = false → t.host.cqs[n] = { s.host.cqs[n] with base := setLo 12 v.toNat s.host.cqs[n].base })) ∧
      (∀ k : Fin 16, (bitOf v.toNat 0 = true ∨ s.host.pba.getLsbD k = false) →
        Completes (.registerWrite ⟨0x7C03 + 4 * k.val, by omega⟩ v) s fun t => Keeps [.host] s t ∧
          t.host.msix[k] = { s.host.msix[k] with masked := bitOf v.toNat 0 } ∧ t.host.msixSent = s.host.msixSent ∧
          t.host.pba = s.host.pba) ∧
      (∀ k : Fin 16, bitOf v.toNat 0 = false → s.host.pba.getLsbD k = true →
        Completes (.registerWrite ⟨0x7C03 + 4 * k.val, by omega⟩ v) s fun t => Keeps [.host] s t ∧
          t.host.msixSent = k.val :: s.host.msixSent ∧ t.host.pba.getLsbD k = false) ∧
      -- reserved and read-only registers ignore writes
      ∀ w : Fin 262144, (w.val / 0x4000 = 0 ∨ 3 ≤ w.val / 0x4000 ∧ w.val / 0x4000 ≤ 8 ∨ 0xB ≤ w.val / 0x4000) →
        exec (.registerWrite w v) s = .next s) ∧
    (∀ (w : Fin 262144) (be : BitVec 4), Completes (.lowHalfRead w be) s fun t => Keeps [.host] s t ∧
      t.host = { s.host with lastReply := t.host.lastReply, lastEnables := be, unsupported := false, holding := t.host.holding } ∧
      (be = 0xF#4 → t.host.lastReply = some ((s.host.held (4 * w.val)).getD (BitVec.ofNat 32 (s.reg (4 * w.val))))) ∧
      (∀ i : Fin 4, be.getLsbD i = false → ∀ r, t.host.lastReply = some r → ∀ b : Fin 8, r.getLsbD (8 * i.val + b.val) = false) ∧
      (lowHalf (4 * w.val) = true → t.host.held (4 * w.val + 4) = some (BitVec.ofNat 32 (s.reg (4 * w.val + 4)))) ∧
      (∀ o, o ≠ 4 * w.val → o ≠ 4 * w.val + 4 → t.host.held o = s.host.held o) ∧
      (lowHalf (4 * w.val) = false → t.host.held (4 * w.val) = none))

/-- (From R10, R350, R361, R378, R432.) A partial write changes nothing but is recorded; configuration requests get CRS until it
opens, BAR reads before READY Unsupported Request, writes nothing; a record that waited over 1 s is raised once; the coalescing
timer fires the vector, which pends where its entry is masked; AER errors are raised. -/
def Obligations.LinkEventsAreReported : Prop :=
  ∀ s : State, s.specified = true →
    (s.barOpen = true → Completes .partialWrite s fun t => Keeps [.faults] s t ∧ t.faults = (s.raise .hostPartialWrite 0).faults) ∧
    (Completes .configRequest s fun t => Keeps [.host] s t ∧ t.host = { s.host with crs := !s.host.configOpen }) ∧
    (s.barOpen = false → Completes (.barAccessBeforeReady false) s fun t => Keeps [.host] s t ∧
      t.host = { s.host with unsupported := true, lastReply := none }) ∧
    (s.barOpen = false → exec (.barAccessBeforeReady true) s = .next s) ∧
    (s.barOpen = true → ∀ b, exec (.barAccessBeforeReady b) s = .next s) ∧
    (s.barOpen = false → exec .partialWrite s = .next s ∧ (∀ w be, exec (.lowHalfRead w be) s = .next s) ∧
      (∀ w v, exec (.registerWrite w v) s = .next s) ∧ ∀ off data bad, exec (.bar2Write off data bad) s = .next s) ∧
    (∀ (n : Fin 14) r rest, s.host.cqs[n].waiting = r :: rest →
      (r.waitRaised = false → s.elapsed r.sinceUs 1000001 = true →
        Completes (.cqWaitLong n) s fun t => Keeps [.faults, .host] s t ∧ t.faults = (s.raise .hostCqWait 0).faults ∧
          t.host = { s.host with cqs := t.host.cqs } ∧ (∀ m : Fin 14, m ≠ n → t.host.cqs[m] = s.host.cqs[m]) ∧
          t.host.cqs[n] = { s.host.cqs[n] with waiting := { r with waitRaised := true } :: rest }) ∧
      (r.waitRaised = true ∨ s.elapsed r.sinceUs 1000001 = false → exec (.cqWaitLong n) s = .next s)) ∧
    (∀ n : Fin 14, s.host.cqs[n].irqEnable = true → 0 < s.host.cqs[n].coalTime → 0 < s.host.cqs[n].unsignalled →
      s.elapsed s.host.cqs[n].firstUs (4 * s.host.cqs[n].coalTime) = true → s.host.cqs[n].vector < 16 →
      Completes (.coalTimerExpiry n) s fun t => Keeps [.host] s t ∧ t.host.cqs[n] = { s.host.cqs[n] with unsignalled := 0 } ∧
        (∀ m : Fin 14, m ≠ n → t.host.cqs[m] = s.host.cqs[m]) ∧ t.host.writes = s.host.writes ∧ t.host.msix = s.host.msix ∧
        ((getN s.host.msix s.host.cqs[n].vector {}).masked = true → t.host.msixSent = s.host.msixSent ∧
          ∀ k : Fin 16, t.host.pba.getLsbD k = (s.host.pba.getLsbD k || decide (k.val = s.host.cqs[n].vector))) ∧
        ((getN s.host.msix s.host.cqs[n].vector {}).masked = false → t.host.msixSent = s.host.cqs[n].vector :: s.host.msixSent ∧
          t.host.pba = s.host.pba)) ∧
    (∀ n : Fin 14, (s.host.cqs[n].irqEnable = false ∨ s.host.cqs[n].coalTime = 0 ∨ s.host.cqs[n].unsignalled = 0) →
      exec (.coalTimerExpiry n) s = .next s) ∧
    (s.aonUp = true → ∀ b, Completes (.aerError b) s fun t => Keeps [.faults] s t ∧
      t.faults = (s.raise (if b then .hostAerUncorr else .hostAerCorr) 0).faults)

/-- (From R354 to R356, R359, R363, R370 to R374.) A doorbell past the head offers the ring; an entry taken gets the next
sequence number, QUEUED, the lowest free slot and an ACCEPTED record, and LQ_HEAD advances; at 8 QUEUED jobs, with a full atlas
or without CQ0 none is taken and the reason is recorded; a mark that fails leaves the job as it was; a durable ENDED mark raises
its life counter alone and makes the FINAL record due, which reaches CQ0 when every earlier job has its own; a host past it
reports the job and frees its slot; a head outside the written range is ignored; the RESTART records come first once CQ0 is
enabled. That the slot taken is the lowest free one, and that an ENDED mark that fails stays due, are the model's choices, log
entries 57 and 12. -/
def Obligations.AtlasAccountsForEveryJob : Prop :=
  ∀ s : State, s.specified = true →
    (∀ tail : Fin 64, s.barOpen = true →
      Completes (.lqDoorbell tail) s fun t => Keeps [.host] s t ∧ t.host = { s.host with lq := t.host.lq } ∧
        (s.host.lq.enable = true → tail.val = s.host.lq.head → t = s) ∧
        (s.host.lq.enable = true → tail.val ≠ s.host.lq.head → t.host.lq = { s.host.lq with tail := tail, rung := true }) ∧
        (s.host.lq.enable = false → t.host.lq = { s.host.lq with tail := tail, rung := false })) ∧
    (s.boot.ready = true → s.host.lq.offers = true → s.host.lqOpen = true →
      (∀ entry verdict r, s.lqStop = some r →
        Completes (.lqEntryAccept entry verdict) s fun t => Keeps [.faults, .host] s t ∧ t.host.atlas = s.host.atlas ∧
          t.host.lq = { s.host.lq with rung := false } ∧
          (s.host.eventsWaiting < 64 → t.faults = s.faults ∧ ∃ d : Held, t.host.cqs[(0 : Fin 14)].waiting =
            s.host.cqs[(0 : Fin 14)].waiting ++ [d] ∧ d.kind = .doorbell ∧ byteAt d.body 3 = r.code ∧ byteAt d.body 0 = 0)) ∧
      (∀ entry slot, s.lqStop = none → s.host.atlas.freeSlot = some slot →
        (Completes (.lqEntryAccept entry .durable) s fun t => Keeps [.layer, .faults, .host] s t ∧ t.faults = s.faults ∧
          t.layer = { s.layer with jobs := s.layer.jobs ++ [{ seq := s.host.atlas.header.nextSeq, entry := entry.toList, state := .queued }] } ∧
          t.host.lq.head = (s.host.lq.head + 1) % 64 ∧ t.host.mq = s.host.mq ∧
          t.host.atlas.header = { s.host.atlas.header with nextSeq := s.host.atlas.header.nextSeq + 1 } ∧
          t.host.atlas.slotOf = s.host.atlas.slotOf ++ [(s.host.atlas.header.nextSeq, slot)] ∧
          t.host.atlas.todo = s.host.atlas.todo ∧ t.host.atlas.finals = s.host.atlas.finals ∧
          ∃ d : Held, t.host.cqs[(0 : Fin 14)].waiting = s.host.cqs[(0 : Fin 14)].waiting ++ [d] ∧ d.kind = .accepted ∧
            d.seq = s.host.atlas.header.nextSeq ∧ d.replay = false) ∧
        (∀ verdict, verdict ≠ .durable → Completes (.lqEntryAccept entry verdict) s fun t => Keeps [.faults, .host] s t ∧
          t.host.atlas.slotOf = s.host.atlas.slotOf ∧ t.host.atlas.header = s.host.atlas.header ∧
          t.host.lq = { s.host.lq with rung := false } ∧ (s.faults.queue.length < 64 → s.host.eventsWaiting < 64 →
            ∃ e : FaultEvent, t.faults.queue = s.faults.queue ++ [e] ∧ e.src = Source.atlasWrite.number)))) ∧
    ((s.boot.ready = false ∨ s.host.lq.offers = false ∨ s.host.lqOpen = false) → ∀ entry v, exec (.lqEntryAccept entry v) s = .next s) ∧
    (∀ m rest slot, s.host.atlas.todo = m :: rest → s.host.atlas.slotFor m.seq = some slot →
      (m.kind = 3 → Completes (.atlasMarkWrite .durable) s fun t => Keeps [.host] s t ∧ t.host.atlas.todo = rest ∧
        t.host.cqs = s.host.cqs ∧ t.host.atlas.slotOf = s.host.atlas.slotOf ∧ t.host.atlas.header.nextSeq = s.host.atlas.header.nextSeq ∧
        (∀ code : Fin 5, byteAt m.body 0 = code.val + 1 →
          t.host.atlas.header.life[code] = (s.host.atlas.header.life[code] + 1) % 18446744073709551616) ∧
        (∀ code : Fin 5, byteAt m.body 0 ≠ code.val + 1 → byteAt m.body 0 ≠ 0 → t.host.atlas.header.life[code] = s.host.atlas.header.life[code]) ∧
        ∃ b, t.host.atlas.finals = s.host.atlas.finals ++ [(m.seq, b)]) ∧
      (m.kind = 2 → Completes (.atlasMarkWrite .durable) s fun t => Keeps [.layer, .host] s t ∧ t.host.atlas.todo = rest ∧
        t.host.atlas.finals = s.host.atlas.finals ∧ t.host.atlas.header = s.host.atlas.header ∧
        (∀ k ∈ t.layer.jobs, k.seq = m.seq → k.startedDurable = true) ∧
        ∀ j ∈ s.layer.jobs, j.seq ≠ m.seq → j ∈ t.layer.jobs) ∧
      (m.kind = 3 → ∀ v, v ≠ .durable → Completes (.atlasMarkWrite v) s fun t => Keeps [.faults, .host] s t ∧
        t.host.atlas.todo = s.host.atlas.todo ∧ t.host.atlas.finals = s.host.atlas.finals ∧ t.host.atlas.header = s.host.atlas.header ∧
        t.faults = (s.raise .atlasWrite 0).faults)) ∧
    (∀ seq f, s.host.restartDue = false → s.host.atlas.nextFinal = some seq → s.host.atlas.finals.find? (fun p => p.1 == seq) = some f →
      Completes .finalRecord s fun t => Keeps [.layer, .host] s t ∧ t.host.atlas.written = s.host.atlas.written ++ [seq] ∧
        t.host.atlas.slotOf = s.host.atlas.slotOf ∧
        t.layer = { s.layer with jobs := s.layer.jobs.filter fun j => j.seq != seq } ∧
        (∀ n : Fin 14, n ≠ 0 → t.host.cqs[n] = s.host.cqs[n]) ∧
        ∃ r : Held, t.host.cqs[(0 : Fin 14)].waiting = s.host.cqs[(0 : Fin 14)].waiting ++ [r] ∧ r.kind = .final ∧ r.seq = seq ∧ r.body = f.2) ∧
    ((s.host.restartDue = true ∨ s.host.atlas.nextFinal = none ∨ ∃ seq, s.host.atlas.nextFinal = some seq ∧
      s.host.atlas.finals.find? (fun p => p.1 == seq) = none) → exec .finalRecord s = .next s) ∧
    (∀ (n : Fin 14) head vs, (s.barOpen = false ∨ s.host.cqs[n].headOk head.val = false) → exec (.cqHeadWrite n head vs) s = .next s) ∧
    (∀ (n : Fin 14) head vs, s.barOpen = true → s.host.cqs[n].headOk head.val = true → s.host.cqs[n].finals = [] →
      Completes (.cqHeadWrite n head vs) s fun t => Keeps [.host] s t ∧ t.host = { s.host with cqs := t.host.cqs } ∧
        t.host.cqs[n] = { s.host.cqs[n] with head := head.val } ∧ ∀ m : Fin 14, m ≠ n → t.host.cqs[m] = s.host.cqs[m]) ∧
    (∀ (head : Fin 4096) seq k, s.barOpen = true → s.host.cqs[(0 : Fin 14)].headOk head.val = true →
      s.host.cqs[(0 : Fin 14)].finals = [(k, seq)] →
      (k + 2 ^ s.host.cqs[(0 : Fin 14)].sizeLog2 - s.host.cqs[(0 : Fin 14)].head) % 2 ^ s.host.cqs[(0 : Fin 14)].sizeLog2 <
        (head.val + 2 ^ s.host.cqs[(0 : Fin 14)].sizeLog2 - s.host.cqs[(0 : Fin 14)].head) % 2 ^ s.host.cqs[(0 : Fin 14)].sizeLog2 →
      (s.host.atlas.slotFor seq).isSome = true →
      Completes (.cqHeadWrite 0 head []) s fun t => Keeps [.host] s t ∧ t.host.cqs[(0 : Fin 14)].head = head.val ∧
        t.host.cqs[(0 : Fin 14)].finals = [] ∧ t.host.atlas.slotFor seq = none ∧
        (∀ q, q ≠ seq → t.host.atlas.slotFor q = s.host.atlas.slotFor q) ∧ t.host.atlas.header = s.host.atlas.header) ∧
    (s.host.restartDue = true → s.host.cqs[(0 : Fin 14)].enable = true → s.boot.ready = true →
      Completes .restartRecords s fun t => Keeps [.layer, .host] s t ∧ t.host.restartDue = false ∧ t.host.lqOpen = false ∧
        0 < t.host.replayLeft ∧ t.host.atlas.slotOf = s.host.atlas.slotOf ∧ (∀ n : Fin 14, n ≠ 0 → t.host.cqs[n] = s.host.cqs[n]) ∧
        ∃ (r : Held) (rest : List Held), t.host.cqs[(0 : Fin 14)].waiting = r :: rest ∧ r.kind = .restart) ∧
    ((s.host.restartDue = false ∨ s.host.cqs[(0 : Fin 14)].enable = false ∨ s.boot.ready = false) → exec .restartRecords s = .next s)

/-- (From R354 to R356, R359 to R361, R364, R365, R374.) Every entry that may be taken is taken: an unknown opcode completes
BAD_COMMAND, bytes that should be 0 and arguments out of range RANGE, one that waits for a layer boundary is held while none
stands, and any other does what its command's own row does; none is taken past 16 unanswered or without its queue; a completed
command leaves its COMMAND record with its queue; a read error stops the ring; the oldest record waiting is written into the
next slot with the queue's phase. -/
def Obligations.MaintenanceEntriesAreTakenOrRefused : Prop :=
  (∀ (s : State) (h : MqHeader) op st res, h.cq < 14 → ((getN s.host.cqs h.cq {}).enable = true → (getN s.host.cqs h.cq {}).slot64 = true) →
    ∃ r : Held, (s.complete h op st res) = { s with host := (s.complete h op st res).host } ∧
      (getN (s.complete h op st res).host.cqs h.cq {}).waiting = (getN s.host.cqs h.cq {}).waiting ++ [r] ∧ r.kind = .command ∧
      r.seq = 0 ∧ r.replay = false ∧ r.body = padTo 48 (le 2 op ++ le 2 st.code ++ le 4 h.tag ++ padTo 8 res)) ∧
  ∀ s : State, s.specified = true →
    (∀ h, s.takesMq h → h.seq = 0 →
      exec (.nop h) s = .next (s.tookMq.complete h 0xFF .ok []) ∧
      (∀ nm : BitVec 32, 1000000 < nm.toNat → exec (.setZStep h nm) s = .next (s.tookMq.complete h 0x13 .range [])) ∧
      (∀ nm : BitVec 32, nm.toNat ≤ 1000000 → (s.boundary = false ∨ s.host.mqWaiting ≠ []) →
        exec (.setZStep h nm) s = .next (s.tookMq.modHost fun k => { k with mqWaiting := k.mqWaiting ++ [(h, .setZStep nm.toNat)] })) ∧
      (∀ nm : BitVec 32, nm.toNat ≤ 1000000 → s.atBoundary →
        exec (.setZStep h nm) s = .next ((s.tookMq.modMotion fun m => { m with zStep := nm.toNat }).complete h 0x13 .ok []))) ∧
    (∀ (entry : Vector Byte 64) o, s.takesMq (parseHeader entry.toList) →
      (parseOp entry.toList = none →
        exec (.mqEntryTake entry o) s =
          .next (s.tookMq.complete (parseHeader entry.toList) (leAt entry.toList 0 2) .badCommand [])) ∧
      (∀ op used, parseOp entry.toList = some (op, used) →
        (unusedZero entry.toList op used = false →
          exec (.mqEntryTake entry o) s = .next (s.tookMq.complete (parseHeader entry.toList) (opcodeOf op) .range [])) ∧
        (unusedZero entry.toList op used = true → (∀ q, op ≠ .layerAbort q) →
          (s.tookMq.mqInRange op = false →
            exec (.mqEntryTake entry o) s = .next (s.tookMq.complete { parseHeader entry.toList with seq := 0 } (opcodeOf op) .range [])) ∧
          (s.tookMq.mqInRange op = true → s.tookMq.mqWaits op = true → (s.boundary = false ∨ s.host.mqWaiting ≠ []) →
            Completes (.mqEntryTake entry o) s fun t => Keeps [.host, .survey] s t ∧
              t.host = { s.tookMq.host with mqWaiting := s.host.mqWaiting ++ [({ parseHeader entry.toList with seq := 0 }, op)] } ∧
              (op ≠ .survey → t.survey = s.survey)) ∧
          (s.tookMq.mqInRange op = true → (s.tookMq.mqWaits op = false ∨ s.atBoundary) → op ≠ .survey →
            exec (.mqEntryTake entry o) s = .next (s.tookMq.mqAct { parseHeader entry.toList with seq := 0 } o op))))) ∧
    -- what an entry spells, the command's own row does: SURVEY apart, which measures
    (∀ (entry : Vector Byte 64) o, s.takesMq (parseHeader entry.toList) → ∀ h, h = { parseHeader entry.toList with seq := 0 } →
      (parseOp entry.toList = some (.nop, []) → unusedZero entry.toList .nop [] = true →
        exec (.mqEntryTake entry o) s = exec (.nop h) s) ∧
      (∀ (nm : BitVec 32) used, parseOp entry.toList = some (.setZStep nm.toNat, used) → unusedZero entry.toList (.setZStep nm.toNat) used = true →
        exec (.mqEntryTake entry o) s = exec (.setZStep h nm) s) ∧
      (∀ (m : BitVec 16) used, parseOp entry.toList = some (.motionStop m, used) → unusedZero entry.toList (.motionStop m) used = true →
        exec (.mqEntryTake entry o) s = exec (.motionStop h m) s) ∧
      (∀ (m a : BitVec 8) used, parseOp entry.toList = some (.polyCtrl m a.toNat, used) → unusedZero entry.toList (.polyCtrl m a.toNat) used = true →
        exec (.mqEntryTake entry o) s = exec (.polyCtrl h m a) s) ∧
      (∀ used, parseOp entry.toList = some (.layerResume, used) → unusedZero entry.toList (.layerResume) used = true →
        exec (.mqEntryTake entry o) s = exec (.layerResume h) s) ∧
      (∀ used, parseOp entry.toList = some (.layerFlush, used) → unusedZero entry.toList (.layerFlush) used = true →
        exec (.mqEntryTake entry o) s = exec (.layerFlush h) s) ∧
      (∀ (n : BitVec 8) used, parseOp entry.toList = some (.setExposure n.toNat, used) → unusedZero entry.toList (.setExposure n.toNat) used = true →
        exec (.mqEntryTake entry o) s = exec (.setExposure h n) s) ∧
      (∀ (c : BitVec 8) used, parseOp entry.toList = some (.setSpeed c.toNat, used) → unusedZero entry.toList (.setSpeed c.toNat) used = true →
        exec (.mqEntryTake entry o) s = exec (.setSpeed h c) s) ∧
      (∀ (m : BitVec 8) (v : BitVec 16) used, parseOp entry.toList = some (.setHeater m v.toInt, used) → unusedZero entry.toList (.setHeater m v.toInt) used = true →
        exec (.mqEntryTake entry o) s = exec (.setHeater h m v) s) ∧
      (∀ (m : BitVec 8) (x : BitVec 32) (i : BitVec 16) used, parseOp entry.toList = some (.regSet m x.toInt i.toInt, used) → unusedZero entry.toList (.regSet m x.toInt i.toInt) used = true →
        exec (.mqEntryTake entry o) s = exec (.regSet h m x i) s) ∧
      (∀ (c n : BitVec 8) (w : BitVec 32) used, parseOp entry.toList = some (.faultThresh c.toNat n.toNat w.toNat, used) → unusedZero entry.toList (.faultThresh c.toNat n.toNat w.toNat) used = true →
        exec (.mqEntryTake entry o) s = exec (.faultThresh h c n w) s) ∧
      (∀ (k c i : BitVec 8) used, parseOp entry.toList = some (.faultClear k.toNat c.toNat i.toNat, used) → unusedZero entry.toList (.faultClear k.toNat c.toNat i.toNat) used = true →
        exec (.mqEntryTake entry o) s = exec (.faultClear h k c i o) s) ∧
      (∀ (m a : BitVec 8) used, parseOp entry.toList = some (.hvCtrl m a.toNat, used) → unusedZero entry.toList (.hvCtrl m a.toNat) used = true →
        exec (.mqEntryTake entry o) s = exec (.hvCtrl h m a) s) ∧
      (∀ (m : BitVec 16) used, parseOp entry.toList = some (.motionHome m, used) → unusedZero entry.toList (.motionHome m) used = true →
        exec (.mqEntryTake entry o) s = exec (.motionHome h m) s) ∧
      (∀ used, parseOp entry.toList = some (.powerUp, used) → unusedZero entry.toList (.powerUp) used = true →
        exec (.mqEntryTake entry o) s = exec (.powerUp h) s) ∧
      (∀ (n : BitVec 8) used, parseOp entry.toList = some (.powerProg n.toNat, used) → unusedZero entry.toList (.powerProg n.toNat) used = true →
        exec (.mqEntryTake entry o) s = exec (.powerProg h n) s) ∧
      (∀ (l : BitVec 8) (f : BitVec 32) (n : BitVec 16) (a : BitVec 64) used, parseOp entry.toList = some (.logRead l.toNat f.toNat n.toNat a.toNat, used) → unusedZero entry.toList (.logRead l.toNat f.toNat n.toNat a.toNat) used = true →
        exec (.mqEntryTake entry o) s = exec (.logRead h l f n a) s) ∧
      (∀ (f : Bool) used, parseOp entry.toList = some (.warmReset f, used) → unusedZero entry.toList (.warmReset f) used = true →
        exec (.mqEntryTake entry o) s = exec (.warmReset h f o) s) ∧
      (∀ used, parseOp entry.toList = some (.powerDown, used) → unusedZero entry.toList .powerDown used = true →
        exec (.mqEntryTake entry o) s = exec (.powerDown h) s) ∧
      (∀ used, parseOp entry.toList = some (.layerAbort (parseHeader entry.toList).seq, used) →
        unusedZero entry.toList (.layerAbort (parseHeader entry.toList).seq) used = true →
        exec (.mqEntryTake entry o) s = exec (.layerAbort (parseHeader entry.toList)) s)) ∧
    (∀ h : MqHeader, s.boot.ready = true → s.host.mq.offers = true → 16 ≤ s.host.taken →
      Completes (.nop h) s fun t => Keeps [.faults, .host] s t ∧ t.host.mq = { s.host.mq with rung := false } ∧
        t.host.taken = s.host.taken ∧ (s.host.eventsWaiting < 64 → ∃ d : Held, t.host.cqs[(0 : Fin 14)].waiting =
          s.host.cqs[(0 : Fin 14)].waiting ++ [d] ∧ d.kind = .doorbell ∧ byteAt d.body 3 = DoorReason.mqLimit.code)) ∧
    (∀ h : MqHeader, (s.boot.ready = false ∨ s.host.mq.offers = false) → exec (.nop h) s = .next s) ∧
    (∀ tail : Fin 64, s.barOpen = true → s.host.mq.enable = true →
      Completes (.mqDoorbell tail) s fun t => Keeps [.host] s t ∧ t.host = { s.host with mq := t.host.mq } ∧
        (tail.val ≠ s.host.mq.head → t.host.mq = { s.host.mq with tail := tail, rung := true }) ∧
        (tail.val = s.host.mq.head → t.host.mq = s.host.mq)) ∧
    (s.boot.ready = true → s.host.mq.offers = true → s.host.taken < 16 → s.faults.queue.length < 64 → s.host.eventsWaiting < 64 →
      Completes (.ringReadError true) s fun t => Keeps [.faults, .host] s t ∧
        t.host.mq = { s.host.mq with error := true, rung := false } ∧ t.host.lq = s.host.lq ∧
        ∃ e : FaultEvent, t.faults.queue = s.faults.queue ++ [e] ∧ e.src = Source.hostRingRead.number) ∧
    (s.boot.ready = true → s.host.lq.offers = true → s.host.lqOpen = true → s.lqStop = none → s.faults.queue.length < 64 →
      s.host.eventsWaiting < 64 →
      Completes (.ringReadError false) s fun t => Keeps [.faults, .host] s t ∧
        t.host.lq = { s.host.lq with error := true, rung := false } ∧ t.host.mq = s.host.mq ∧ t.host.atlas = s.host.atlas ∧
        ∃ e : FaultEvent, t.faults.queue = s.faults.queue ++ [e] ∧ e.src = Source.hostRingRead.number) ∧
    (∀ (n : Fin 14) kept r rest, s.host.cqs[n].ready = true → s.host.resetDue = false → s.host.cqs[n].waiting = r :: rest →
      Completes (.cqRecordWrite n kept) s fun t => Keeps [.host] s t ∧ t.host.cqs[n].waiting = rest ∧
        t.host.cqs[n].head = s.host.cqs[n].head ∧
        t.host.cqs[n].tail = (s.host.cqs[n].tail + 1) % 2 ^ s.host.cqs[n].sizeLog2 ∧
        (t.host.cqs[n].tail = 0 → t.host.cqs[n].phase = !s.host.cqs[n].phase) ∧
        (t.host.cqs[n].tail ≠ 0 → t.host.cqs[n].phase = s.host.cqs[n].phase) ∧
        (∀ m : Fin 14, m ≠ n → t.host.cqs[m] = s.host.cqs[m]) ∧ t.host.atlas = s.host.atlas ∧
        t.host.taken = (if r.kind = .command then s.host.taken - 1 else s.host.taken) ∧
        t.host.writes = { addr := (s.host.cqs[n].base + s.host.cqs[n].tail * s.host.cqs[n].slotBytes) % 9223372036854775808
                          bytes := r.bytes s.host.cqs[n].phase } :: s.host.writes) ∧
    (∀ (n : Fin 14) kept, s.host.cqs[n].ready = false → exec (.cqRecordWrite n kept) s = .next s)

/-- (From R46, R365 to R367, R130, R203, R228, R258, R301, R307, R528.) The commands that are taken now act at once: LAYER_ABORT
by the job's state, SET_SPEED held where no boundary stands, POWER_UP after a shutdown, LOG_READ of the life record and of a
ring, POLY_CTRL, HV_CTRL and MOTION_STOP on exactly what they name. BUSY for every condition that keeps UP from starting is the
model's choice, log entry 37. -/
def Obligations.CommandsTakenNowAct : Prop :=
  ∀ (s : State) (h : MqHeader), s.specified = true → s.takesMq h →
    (h.seq ≠ 0 → s.jobOf h.seq = none → exec (.layerAbort h) s = .next (s.tookMq.complete h 1 .noJob [])) ∧
    (h.seq = 0 → s.runningJob = none → exec (.layerAbort h) s = .next (s.tookMq.complete h 1 .noJob [])) ∧
    (∀ j, (h.seq ≠ 0 ∧ s.jobOf h.seq = some j ∨ h.seq = 0 ∧ s.runningJob = some j ∧ s.jobOf j.seq = some j) →
      (j.state = .queued → exec (.layerAbort h) s = .next ((s.tookMq.rejectJob j.seq .hostCancel).complete h 1 .ok [])) ∧
      (j.state = .queued ∨ j.state = .admitted ∨ j.state = .armed →
        Completes (.layerAbort h) s fun t => Keeps [.layer, .decoders, .pixels, .position, .loops, .power, .host, .telemetry, .boot] s t ∧
          (JobIs t j.seq fun k => k.state = .ended ∧ k.status = .rejected ∧ k.cause = .hostCancel) ∧
          (∀ k ∈ s.layer.jobs, k.seq ≠ j.seq → k ∈ t.layer.jobs) ∧ t.layer.abortRunning = s.layer.abortRunning) ∧
      (s.windowJob = some j → s.layer.abortRunning = false →
        Completes (.layerAbort h) s fun t => t.layer.abortRunning = true ∧ t.layer.abortSeq = j.seq ∧ t.layer.abortCause = .hostAbort ∧
          ∀ x : Fin 6, t.pixels[x].forced = true) ∧
      (j.state = .lower ∨ j.state = .returning → exec (.layerAbort h) s = .next (s.tookMq.complete h 1 .notAbortable [])) ∧
      (j.state = .ended → exec (.layerAbort h) s = .next (s.tookMq.complete h 1 .noJob []))) ∧
    (h.seq ≠ 0 → ∀ c, exec (.setSpeed h c) s = .next (s.tookMq.complete h 0x11 .range [])) ∧
    (h.seq = 0 →
      (∀ c : BitVec 8, c.toNat < 16 → (speedEntry s.legend.scan c.toNat).1 ≠ 0 →
        exec (.setSpeed h c) s = .next ((s.tookMq.setSpeed c.toNat).2.complete h 0x11 (s.tookMq.setSpeed c.toNat).1 []) ∧
        (s.boundary = false → Completes (.setSpeed h c) s fun t => Keeps [.scan, .faults, .host] s t ∧ t.scan.reqState = .deferred ∧
          t.scan.sigma = s.scan.sigma ∧ t.scan.stations = s.scan.stations ∧
          ∃ r, t.scan.held = some r ∧ r.code = c.toNat ∧ r.sigma = s.effectiveSigma c.toNat ∧ r.source = .speedCode)) ∧
      (∀ c : BitVec 8, 16 ≤ c.toNat ∨ (speedEntry s.legend.scan c.toNat).1 = 0 →
        exec (.setSpeed h c) s = .next (s.tookMq.complete h 0x11 .range [])) ∧
      (s.upReady = false ∨ s.power.shutOff = false ∨ s.recoveryDue = true ∨ s.power.shutGrave = true ∨ s.coolEnough = false →
        exec (.powerUp h) s = .next (s.tookMq.complete h 0x41 .busy [])) ∧
      (s.upReady = true → s.power.shutOff = true → s.recoveryDue = false → s.power.shutGrave = false → s.coolEnough = true →
        Completes (.powerUp h) s fun t => Keeps [.power, .host] s t ∧ t.power.program = .up ∧ t.power.cause = .host ∧ t.power.step = 0 ∧
          t.power.rails = s.power.rails) ∧
      (∀ addr : BitVec 64, addr.toNat % 64 = 0 → addr.toNat < 9223372036854775808 →
        (Completes (.logRead h 3 0 1 addr) s fun t => Keeps [.host] s t ∧
          t.host.writes = { addr := addr.toNat, bytes := padTo 64 s.host.atlas.lifeRecord } :: s.host.writes) ∧
        (∀ k : Fin 1024, Completes (.logRead h 0 (BitVec.ofNat 32 k.val) 1 addr) s fun t => Keeps [.host] s t ∧
          t.host.writes = { addr := addr.toNat, bytes := padTo 32 s.logs.faults[k] } :: s.host.writes) ∧
        (∀ k : Fin 256, Completes (.logRead h 1 (BitVec.ofNat 32 k.val) 1 addr) s fun t => Keeps [.host] s t ∧
          t.host.writes = { addr := addr.toNat, bytes := padTo 16 s.logs.power[k] } :: s.host.writes)) ∧
      (∀ log first count (addr : BitVec 64), (4 < log.toNat ∨ count.toNat = 0 ∨ 1024 < count.toNat ∨ addr.toNat % 64 ≠ 0) →
        exec (.logRead h log first count addr) s = .next (s.tookMq.complete h 0x51 .range [])) ∧
      (∀ mask : BitVec 8, mask.toNat < 64 →
        (Completes (.polyCtrl h mask 1) s fun t => Keeps [.polygons, .host] s t ∧
          ∀ x : Fin 6, (mask.getLsbD x = false → t.polygons[x] = s.polygons[x]) ∧
            (mask.getLsbD x = true → t.polygons[x].hostStopped = false) ∧
            (mask.getLsbD x = true → s.enabled x = true → s.polygons[x].state = .off → s.faults.grave = false → t.polygons[x].state = .listen) ∧
            (mask.getLsbD x = true → s.enabled x = false → t.polygons[x].state = s.polygons[x].state)) ∧
        (s.imagesPast mask = false → Completes (.polyCtrl h mask 0) s fun t => Keeps [.polygons, .host] s t ∧
          ∀ x : Fin 6, (mask.getLsbD x = false → t.polygons[x] = s.polygons[x]) ∧
            (mask.getLsbD x = true → t.polygons[x].hostStopped = true ∧ (t.polygons[x].state = .off ∨ t.polygons[x].state = .fault ∨
              t.polygons[x].state = .stopping))) ∧
        (s.imagesPast mask = false → Completes (.hvCtrl h mask 0) s fun t => Keeps [.loops, .host] s t ∧ t.loops.heaters = s.loops.heaters ∧
          t.loops.hven = s.loops.hven ∧ ∀ (x : Fin 6) (k : Fin 18), k.val / 3 = x.val →
            (mask.getLsbD x = false → t.loops.hv[k] = s.loops.hv[k]) ∧
            (mask.getLsbD x = true → t.loops.hv[k].commanded = true ∧ t.loops.hv[k].mode ≠ .layer ∧ t.loops.ac[x].running = false)) ∧
        (s.imagesPast mask = false → Completes (.hvCtrl h mask 1) s fun t => Keeps [.loops, .host] s t ∧ t.loops.heaters = s.loops.heaters ∧
          t.loops.ac = s.loops.ac ∧ ∀ (x : Fin 6) (k : Fin 18), k.val / 3 = x.val →
            (mask.getLsbD x = false → t.loops.hv[k] = s.loops.hv[k]) ∧
            (mask.getLsbD x = true → t.loops.hv[k] = { s.loops.hv[k] with commanded := false }))) ∧
      (∀ m : BitVec 16, m.toNat < 8192 → s.axesPast m = false →
        Completes (.motionStop h m) s fun t => Keeps [.layer, .motion, .faults, .host] s t ∧
          t.layer = { s.layer with hold := s.layer.hold || decide (m.toNat / 1024 ≠ 0) } ∧
          t.motion.servos[(2 : Fin 3)] = s.motion.servos[(2 : Fin 3)] ∧
          (m.getLsbD 10 = false → t.motion.servos[(0 : Fin 3)] = s.motion.servos[(0 : Fin 3)]) ∧
          (m.getLsbD 11 = false → t.motion.servos[(1 : Fin 3)] = s.motion.servos[(1 : Fin 3)]) ∧
          (m.getLsbD 10 = true → s.motion.servos[(0 : Fin 3)].mode = .velocity → t.motion.servos[(0 : Fin 3)].stopDue = .controlled) ∧
          ∀ n : Fin 10, (m.getLsbD n = false → t.motion.steppers[n] = s.motion.steppers[n]) ∧
            (m.getLsbD n = true → t.motion.steppers[n].state ≠ .moving ∧ t.motion.steppers[n].steps = s.motion.steppers[n].steps)))

/-- (From R28, R98, R175, R228, R236, R257, R259, R343, R371.) At a layer boundary LAYER_RESUME clears HOLD where nothing is
left to home and the carriage stands at its start, otherwise it makes the uncertain axes due; LAYER_FLUSH ends every job not
ARMED and no other and clears HOLD; the exposure index, the zones' set-points, the registration offsets and a source's
thresholds take their values, those of others stay. -/
def Obligations.BoundaryCommandsSetValues : Prop :=
  ∀ (s : State) (h : MqHeader), s.specified = true → s.takesMq h → h.seq = 0 → s.atBoundary →
    (s.homingMask = 0 → s.motion.homeDue = 0 → s.carrAtStart = true →
      Completes (.layerResume h) s fun t => Keeps [.layer, .motion, .host] s t ∧
        t.layer = { s.layer with hold := false, resumes := [] } ∧ t.motion = { s.motion with resumeReturn := false }) ∧
    ((s.homingMask ≠ 0 ∨ s.motion.homeDue ≠ 0 ∨ s.carrAtStart = false) →
      Completes (.layerResume h) s fun t => Keeps [.layer, .motion, .host] s t ∧
        t.layer = { s.layer with resumes := s.layer.resumes ++ [h] } ∧
        t.motion = { s.motion with homeDue := s.motion.homeDue ||| s.homingMask, resumeReturn := true }) ∧
    (Completes (.layerFlush h) s fun t => t.layer.hold = false ∧ (∀ k ∈ t.layer.jobs, k.state ≠ .queued ∧ k.state ≠ .admitted) ∧
      ((∀ a ∈ s.layer.jobs, ∀ b ∈ s.layer.jobs, a.seq = b.seq → a = b) → ∀ k ∈ s.layer.jobs,
        (k.state ≠ .queued → k.state ≠ .admitted → k ∈ t.layer.jobs) ∧
        (k.state = .queued ∨ k.state = .admitted → JobIs t k.seq fun j => j.state = .ended ∧ j.status = .rejected ∧ j.cause = .hostCancel))) ∧
    (∀ n : BitVec 8,
      (n.toNat < 8 → Completes (.setExposure h n) s fun t => Keeps [.pixels, .loops, .host] s t ∧
        t.loops.expoSet = n.toNat ∧ t.loops.heaters = s.loops.heaters ∧ t.loops.hv = s.loops.hv ∧
        (s.loops.expoSet = n.toNat → t.loops = s.loops ∧ t.pixels = s.pixels) ∧
        (s.loops.expoSet ≠ n.toNat → ∀ (x : Fin 6) (l : Fin 4), t.pixels[x].offsets[l] = 0)) ∧
      (8 ≤ n.toNat → exec (.setExposure h n) s = .next (s.tookMq.complete h 0x10 .range []))) ∧
    (∀ (m : BitVec 8) (v : BitVec 16),
      (-400 ≤ v.toInt → v.toInt ≤ 4500 →
        Completes (.setHeater h m v) s fun t => Keeps [.loops, .host] s t ∧ t.loops.hv = s.loops.hv ∧
          ∀ z : Fin 8, (m.getLsbD z = true → t.loops.heaters[z] = { s.loops.heaters[z] with target := v.toInt }) ∧
            (m.getLsbD z = false → t.loops.heaters[z] = s.loops.heaters[z])) ∧
      (v.toInt < -400 ∨ 4500 < v.toInt → exec (.setHeater h m v) s = .next (s.tookMq.complete h 0x12 .range []))) ∧
    (∀ (m : BitVec 8) (xs : BitVec 32) (is : BitVec 16),
      (s.mqInRange (.regSet m xs.toInt is.toInt) = true →
        exec (.regSet h m xs is) s = .next ((s.tookMq.regSet m xs.toInt is.toInt).complete h 0x14 .ok []) ∧
        Completes (.regSet h m xs is) s fun t => Keeps [.scan, .position, .faults, .host] s t ∧
          (m ≠ 0 → t.position.regDirty = false) ∧ ∀ x : Fin 6,
            (m.getLsbD x = true → t.position.reg[x].xscan = xs.toInt ∧ t.position.reg[x].inscan = is.toInt ∧ t.position.reg[x].held = false) ∧
            (m.getLsbD x = false → t.position.reg[x] = s.position.reg[x])) ∧
      (s.mqInRange (.regSet m xs.toInt is.toInt) = false →
        exec (.regSet h m xs is) s = .next (s.tookMq.complete h 0x14 .range []))) ∧
    (∀ (c : Source) (n : BitVec 8) (w : BitVec 32), 0 < n.toNat → 0 < w.toNat → w.toNat ≤ 3600000 →
      (highestBase s.legend.power c ≠ .notice →
        exec (.faultThresh h (BitVec.ofNat 8 c.number) n w) s = .next (s.tookMq.complete h 0x15 .notLive [])) ∧
      (highestBase s.legend.power c = .notice →
        Completes (.faultThresh h (BitVec.ofNat 8 c.number) n w) s fun t => Keeps [.faults, .host] s t ∧
          (t.sourceEntry c.number).n = n.toNat ∧ (t.sourceEntry c.number).w = w.toNat ∧
          (t.sourceEntry c.number).cap = (s.sourceEntry c.number).cap ∧
          (∀ o, o ≠ c.number → t.sourceEntry o = s.sourceEntry o) ∧ t.faults.queue = s.faults.queue ∧
          t.faults.insts = s.faults.insts.map fun i => if i.src = c.number then { i with counted := [] } else i))

/-- (From R18, R301, R317, R341, R342, R365, R369, R483, R487.) At a layer boundary FAULT_CLEAR removes a standing Severe whose
cause is gone, leaves one whose cause stands (STILL_ACTIVE) or that set the Grave latch (GRAVE_LATCHED) and touches no instance
it does not name; MOTION_HOME makes the named axes due, POWER_DOWN starts DOWN, POWER_PROG a user program once UP has ended and
is BUSY before, SURVEY measures, WARM_RESET resets after its record; without a boundary none acts; what waits acts at the next
pass that is not held up by a VDD_CORE step or a relock. When MOTION_HOME completes and that a VDD_CORE step ends a pass are the
model's choices, log entries 108 and 111. -/
def Obligations.BoundaryCommandsAct : Prop :=
  ∀ (s : State), s.specified = true →
    (∀ h, s.takesMq h → h.seq = 0 → s.atBoundary →
      (∀ (c : Source) (inst : Fin 64) (i : FaultInst), s.faultInst c.number inst = some i →
        s.faults.insts.filter (fun k => k.src == c.number && k.inst == inst.val) = [i] →
        (i.cls ≠ .grave → i.setGrave = false → i.standing = true → s.causePresent c.number inst [] = false →
          Completes (.faultClear h 0 (BitVec.ofNat 8 c.number) (BitVec.ofNat 8 inst.val) {}) s fun t =>
            Keeps [.scan, .polygons, .motion, .thermal, .faults, .host] s t ∧
            (∃ k, t.faultInst c.number inst = some k ∧ k.standing = false ∧ k.restricted = false ∧ k.cls = i.base ∧ k.counted = []) ∧
            (∀ src' inst', (src', inst') ≠ (c.number, inst.val) → t.faultInst src' inst' = s.faultInst src' inst') ∧
            t.layer = s.layer ∧ t.faults.grave = s.faults.grave) ∧
        (i.cls ≠ .grave → i.setGrave = false → i.standing = false → i.restricted = true ∨ i.base.code < i.cls.code →
          Completes (.faultClear h 0 (BitVec.ofNat 8 c.number) (BitVec.ofNat 8 inst.val) {}) s fun t =>
            (∃ k, t.faultInst c.number inst = some k ∧ k.standing = false ∧ k.restricted = false ∧ k.cls = i.base ∧ k.counted = []) ∧
            (∀ src' inst', (src', inst') ≠ (c.number, inst.val) → t.faultInst src' inst' = s.faultInst src' inst')) ∧
        (i.cls ≠ .grave → i.setGrave = false → i.standing = true → s.causePresent c.number inst [] = true →
          Completes (.faultClear h 0 (BitVec.ofNat 8 c.number) (BitVec.ofNat 8 inst.val) {}) s fun t => Keeps [.faults, .host] s t ∧
            t.faults.insts = s.faults.insts ∧ t.host.cqs = (s.tookMq.complete h 0x20 .stillActive []).host.cqs) ∧
        (i.cls = .grave ∨ i.setGrave = true →
          Completes (.faultClear h 0 (BitVec.ofNat 8 c.number) (BitVec.ofNat 8 inst.val) {}) s fun t => Keeps [.faults, .host] s t ∧
            t.faults.insts = s.faults.insts ∧ t.host.cqs = (s.tookMq.complete h 0x20 .graveLatched []).host.cqs)) ∧
      (∀ (scope src inst : BitVec 8) o, (2 < scope.toNat ∨ scope.toNat ≤ 1 ∧ Source.ofNumber src.toNat = none ∨
          scope.toNat = 0 ∧ 64 ≤ inst.toNat) →
        exec (.faultClear h scope src inst o) s = .next (s.tookMq.complete h 0x20 .range [])) ∧
      (∀ m : BitVec 16,
        (m.toNat < 8192 → Completes (.motionHome h m) s fun t => Keeps [.motion, .host] s t ∧
          t.motion = { s.motion with homeDue := t.motion.homeDue } ∧
          (∀ a : Fin 13, s.motion.homeDue.getLsbD a = true → t.motion.homeDue.getLsbD a = true) ∧
          t.motion.homeDue.getLsbD 1 = (s.motion.homeDue.getLsbD 1 || m.getLsbD 11) ∧
          t.motion.homeDue.getLsbD 0 = s.motion.homeDue.getLsbD 0 ∧ t.motion.homeDue.getLsbD 2 = s.motion.homeDue.getLsbD 2 ∧
          (∀ z : Fin 4, t.motion.homeDue.getLsbD (3 + z.val) = (s.motion.homeDue.getLsbD (3 + z.val) || m.getLsbD z.val)) ∧
          ∀ f : Fin 6, t.motion.homeDue.getLsbD (7 + f.val) =
            (s.motion.homeDue.getLsbD (7 + f.val) || (m.getLsbD (4 + f.val) && (getN s.motion.steppers (4 + f.val) {}).uncertain))) ∧
        (8192 ≤ m.toNat → exec (.motionHome h m) s = .next (s.tookMq.complete h 0x33 .range []))) ∧
      (s.power.program = .none → Completes (.powerDown h) s fun t => t.power.program = .down ∧ t.power.cause = .host ∧ t.power.step = 0 ∧
        t.layer.hold = true ∧ t.faults.len = false ∧ ∀ x : Fin 6, t.loops.hven[x] = false) ∧
      (isUser s.power.program = true ∨ s.power.program = .up → s.power.preempt = none →
        Completes (.powerDown h) s fun t => Keeps [.power, .host] s t ∧ t.power = { s.power with preempt := some (.down, .host) }) ∧
      (∀ n : BitVec 8,
        (n.toNat < 4 → s.power.program = .none → s.power.upDone = true →
          Completes (.powerProg h n) s fun t => Keeps [.power, .host] s t ∧ t.power.program = userProgram n.toNat ∧ t.power.cause = .host ∧
            t.power.step = 0 ∧ t.power.rails = s.power.rails) ∧
        (n.toNat < 4 → s.power.program ≠ .none ∨ s.power.upDone = false →
          exec (.powerProg h n) s = .next (s.tookMq.complete h 0x42 .busy [])) ∧
        (4 ≤ n.toNat → exec (.powerProg h n) s = .next (s.tookMq.complete h 0x42 .range []))) ∧
      (∀ r, exec (.survey h r) s = .next ((s.tookMq.runSurvey r).complete h 0x50 .ok [])) ∧
      (∀ o, exec (.warmReset h false o) s = .next (s.tookMq.commandReset h o.kept))) ∧
    (∀ h o, s.takesMq h → h.seq = 0 → exec (.warmReset h true o) s = .next (s.tookMq.commandReset h o.kept)) ∧
    (∀ h, s.takesMq h → h.seq = 0 → (s.boundary = false ∨ s.host.mqWaiting ≠ []) →
      exec (.powerDown h) s = .next (s.tookMq.mqHold h .powerDown) ∧ exec (.layerResume h) s = .next (s.tookMq.mqHold h .layerResume) ∧
      exec (.layerFlush h) s = .next (s.tookMq.mqHold h .layerFlush) ∧
      ∀ r, Completes (.survey h r) s fun t => t.survey.state ≠ .idle ∧ t.host.mqWaiting = s.host.mqWaiting ++ [(h, .survey)]) ∧
    (∀ b, s.boundary = false → exec (.layerBoundaryActions b) s = .next s) ∧
    (∀ b, s.boundary = true → Completes (.layerBoundaryActions b) s fun t => t.pending = s.pending ∧ t.legend = s.legend ∧
      ((s.boundaryDetach.boundarySurvey b.reading).vcoreDue = true ∨ s.scan.relocking = true →
        t = s.boundaryDetach.boundarySurvey b.reading)) ∧
    (∀ b, s.boundary = true → s.scan.relocking = false → s.scan.held = none → s.survey.state ≠ .due → s.survey.capDue = false →
      s.vcoreDue = false → Completes (.layerBoundaryActions b) s fun t => t.host.mqWaiting = [] ∧
        ∀ h nm, s.host.mqWaiting = [(h, .setZStep nm)] → t.motion.zStep = nm)

/-! The DMA engine. -/

/-- (From R380, R381, R382, R385, R386, R391, R393, R402, R403.) RUN, RESUME, RESET and DISABLE move a host channel through its
states, act on no other channel and on no feed or telemetry channel; RUN clears the error registers; RESUME follows NEXT read
again, in HALTED the failed descriptor's; DISABLE drops the work, keeps the held records, latches an error of its cycle and
drains the reads; a good descriptor joins the work, at most two ahead; a bad one, or one that names a queue with 64-byte slots,
halts its channel with DESC_ERROR at its address, a fetch that fails with FETCH_ERROR. That DISABLE acts in every state is the
model's choice, log entry 71. -/
def Obligations.DmaChannelsFollowTheirStates : Prop :=
  ∀ s : State, s.specified = true → ∀ n : Fin 32,
    (n.val < 8 ∨ s.barOpen = false → exec (.dmaRun n) s = .next s ∧ (∀ h, exec (.dmaResume n h) s = .next s) ∧ exec (.dmaReset n) s = .next s ∧
      (∀ r k w e, exec (.dmaDisable n r k w e) s = .next s) ∧ exec (.dmaDisableClear n) s = .next s) ∧
    (s.barOpen = true → 8 ≤ n.val →
      (s.dma.channels[n].state = .idle → s.dma.channels[n].disable = false →
        Completes (.dmaRun n) s fun t => Keeps [.dma] s t ∧ (∀ m : Fin 32, m ≠ n → t.dma.channels[m] = s.dma.channels[m]) ∧
          t.dma.channels[n] = { s.dma.channels[n] with
            state := .active, next := some s.dma.channels[n].head, desc := none, ahead := [], errAddr := 0, errDir := false
            errReadback := false, errFetch := false, errStatus := .ok }) ∧
      (s.dma.channels[n].state ≠ .idle ∨ s.dma.channels[n].disable = true → exec (.dmaRun n) s = .next s) ∧
      (s.dma.channels[n].state ≠ .ended → s.dma.channels[n].state ≠ .halted →
        exec (.dmaReset n) s = .next s ∧ ∀ h, exec (.dmaResume n h) s = .next s) ∧
      (∀ d : Descriptor, s.dma.channels[n].desc = some d → s.dma.channels[n].state = .ended →
        (s.accessFail false (d.addr + 24) 8 = none → inHostMem (d.addr + 24) = false → ∀ v, v = leNat (s.readMem (d.addr + 24) 8 []) →
          Completes (.dmaResume n none) s fun t => (v = 0 → t = s) ∧
            (v ≠ 0 → v % 32 = 0 → Keeps [.dma] s t ∧ (∀ m : Fin 32, m ≠ n → t.dma.channels[m] = s.dma.channels[m]) ∧
              t.dma.channels[n] = { s.dma.channels[n] with state := .active, next := some v, desc := none, ahead := [] }) ∧
            (v % 32 ≠ 0 → t.dma.channels[n].state = .halted ∧ t.dma.channels[n].errStatus = .descError ∧
              t.dma.channels[n].errAddr = d.addr ∧ t.dma.channels[n].errFetch = true)) ∧
        (∀ b : Vector Byte 8, inHostMem (d.addr + 24) = true → d.addr + 32 ≤ 0x10000000000000000 → leNat b.toList ≠ 0 → leNat b.toList % 32 = 0 →
          Completes (.dmaResume n (some b)) s fun t => Keeps [.dma] s t ∧
            t.dma.channels[n] = { s.dma.channels[n] with state := .active, next := some (leNat b.toList), desc := none, ahead := [] }) ∧
        (inHostMem (d.addr + 24) = true →
          Completes (.dmaResume n none) s fun t => Keeps [.dma, .faults] s t ∧ t.dma.channels[n].state = .halted ∧
            t.dma.channels[n].errStatus = .fetchError ∧ t.dma.channels[n].errFetch = true ∧ t.dma.channels[n].errAddr = d.addr)) ∧
      (∀ (d : Descriptor) h, s.dma.channels[n].desc = some d → s.dma.channels[n].state = .halted →
        Completes (.dmaResume n h) s fun t => Keeps [.dma] s t ∧ (∀ m : Fin 32, m ≠ n → t.dma.channels[m] = s.dma.channels[m]) ∧
          t.dma.channels[n].held = s.dma.channels[n].held ∧ t.dma.channels[n].errStatus = s.dma.channels[n].errStatus ∧
          t.dma.channels[n].errAddr = s.dma.channels[n].errAddr ∧ t.dma.channels[n].done = (s.dma.channels[n].done + 1) % 4294967296 ∧
          t.dma.channels[n].state = (if d.last then .idle else if d.next = 0 then .ended else .active) ∧
          (d.last = false → d.next ≠ 0 → t.dma.channels[n].next = some d.next)) ∧
      (s.dma.channels[n].state = .ended ∨ s.dma.channels[n].state = .halted →
        Completes (.dmaReset n) s fun t => Keeps [.dma] s t ∧ (∀ m : Fin 32, m ≠ n → t.dma.channels[m] = s.dma.channels[m]) ∧
          t.dma.channels[n] = { s.dma.channels[n] with state := .idle, desc := none, next := none }) ∧
      (∀ (r k : Fin 17) w, s.dma.channels[n].state ≠ .draining → s.dma.channels[n].state ≠ .disabled → s.dma.channels[n].state ≠ .active →
        Completes (.dmaDisable n r k w none) s fun t => Keeps [.dma] s t ∧ (∀ m : Fin 32, m ≠ n → t.dma.channels[m] = s.dma.channels[m]) ∧
          t.dma.channels[n].held = s.dma.channels[n].held ∧ t.dma.channels[n].desc = none ∧ t.dma.channels[n].disable = true ∧
          t.dma.channels[n].state = .disabled ∧ t.dma.channels[n].done = s.dma.channels[n].done) ∧
      (∀ (r k : Fin 17) w e, s.dma.channels[n].state = .active →
        Completes (.dmaDisable n r k w e) s fun t => Keeps [.free, .dma, .memory] s t ∧
          (∀ m : Fin 32, m ≠ n → t.dma.channels[m] = s.dma.channels[m]) ∧
          t.dma.channels[n].held = s.dma.channels[n].held ∧ t.dma.channels[n].desc = none ∧ t.dma.channels[n].ahead = [] ∧
          t.dma.channels[n].next = none ∧ t.dma.channels[n].disable = true ∧ t.dma.channels[n].outReads = r.val ∧
          (0 < r.val → t.dma.channels[n].state = .draining) ∧ (r.val = 0 → t.dma.channels[n].state = .disabled) ∧
          (e = none → t.dma.channels[n].errStatus = s.dma.channels[n].errStatus ∧ t.dma.channels[n].errAddr = s.dma.channels[n].errAddr) ∧
          (∀ (d : Descriptor) off data, s.dma.channels[n].desc = some d → d.op = .copy → off < d.length → e = some (off, false, data, false) →
            t.dma.channels[n].errAddr = d.source + off ∧ t.dma.channels[n].errDir = false ∧
            t.dma.channels[n].errStatus = if data then .dataError else .busError)) ∧
      Completes (.dmaDisableClear n) s fun t => Keeps [.dma] s t ∧ (∀ m : Fin 32, m ≠ n → t.dma.channels[m] = s.dma.channels[m]) ∧
        t.dma.channels[n] = { s.dma.channels[n] with disable := false, state := t.dma.channels[n].state } ∧
        (s.dma.channels[n].state = .disabled → t.dma.channels[n].state = .idle) ∧
        (s.dma.channels[n].state ≠ .disabled → t.dma.channels[n].state = s.dma.channels[n].state)) ∧
    (s.dma.channels[n].state = .draining →
      Completes (.dmaDrainDone n) s fun t => Keeps [.dma] s t ∧ (∀ m : Fin 32, m ≠ n → t.dma.channels[m] = s.dma.channels[m]) ∧
        t.dma.channels[n] = { s.dma.channels[n] with
          state := if s.dma.channels[n].disable then .disabled else .idle, outReads := 0, outHost := 0, outWrites := 0 }) ∧
    (s.dma.channels[n].state ≠ .draining → exec (.dmaDrainDone n) s = .next s) ∧
    (∀ a, 8 ≤ n.val → s.dma.channels[n].state = .active → s.dma.channels[n].next = some a → inHostMem a = true → a + 32 ≤ 0x10000000000000000 →
      (∀ b : Vector Byte 32, ∀ d, d = parseDescriptor a b.toList →
        ((badDescriptor b.toList = true ∨ d.record = true ∧ s.takesDma d.cq = false) → s.dma.channels[n].desc = none →
          s.dma.channels[n].held.length < 4 →
          Completes (.descriptorFetch n (some b) [] 0) s fun t => Keeps [.dma, .faults] s t ∧
            (∀ m : Fin 32, m ≠ n → t.dma.channels[m] = s.dma.channels[m]) ∧
            t.dma.channels[n].state = .halted ∧ t.dma.channels[n].errAddr = a ∧ t.dma.channels[n].errFetch = true ∧
            t.dma.channels[n].errStatus = .descError ∧
            (s.dma.channels[n].errCqEn = true → s.takesDma s.dma.channels[n].errCq = true →
              t.faults = (s.raise .dmaDescError n).faults ∧ ∃ r : Held, t.dma.channels[n].held = s.dma.channels[n].held ++ [(r, s.dma.channels[n].errCq)] ∧
                leAt r.body 0 8 = a % 18446744073709551616 ∧ byteAt r.body 12 = DmaStatus.descError.code ∧ byteAt r.body 13 = n.val) ∧
            (s.dma.channels[n].errCqEn = false → t.dma.channels[n].held = s.dma.channels[n].held ∧
              t.faults = ((s.raise .dmaDescError n).raise .dmaNoRecord n).faults)) ∧
        (badDescriptor b.toList = false → (d.record = true → s.takesDma d.cq = true) → s.dma.channels[n].ahead.length < 2 →
          Completes (.descriptorFetch n (some b) [] 0) s fun t => Keeps [.dma] s t ∧
            (∀ m : Fin 32, m ≠ n → t.dma.channels[m] = s.dma.channels[m]) ∧
            t.dma.channels[n].state = .active ∧ t.dma.channels[n].next = (if d.last = true ∨ d.next = 0 then none else some d.next) ∧
            (s.dma.channels[n].desc = none → t.dma.channels[n].desc = some d ∧ t.dma.channels[n].cur = a ∧
              t.dma.channels[n].ahead = s.dma.channels[n].ahead) ∧
            (∀ e, s.dma.channels[n].desc = some e → t.dma.channels[n].desc = some e ∧
              t.dma.channels[n].ahead = s.dma.channels[n].ahead ++ [d]))) ∧
      (s.dma.channels[n].desc = none → s.dma.channels[n].held.length < 4 →
        Completes (.descriptorFetch n none [] 0) s fun t => Keeps [.dma, .faults] s t ∧ t.dma.channels[n].state = .halted ∧
          t.dma.channels[n].errAddr = a ∧ t.dma.channels[n].errFetch = true ∧ t.dma.channels[n].errStatus = .fetchError) ∧
      (∀ e, s.dma.channels[n].desc = some e → exec (.descriptorFetch n none [] 0) s = .next s)) ∧
    (s.dma.channels[n].next = none → ∀ b f c, exec (.descriptorFetch n b f c) s = .next s)

/-- (From R383, R384, R387, R389 to R392, R394, R395.) A FILL in image SRAM writes its pattern and no other byte; a COPY from
host memory writes what the host returns; a COMPARE ends MISMATCH at the first difference; LENGTH 0 is EMPTY with no access;
with RECORD set a record is held and the next descriptor is taken; an access to a region's end, an error of host memory and a
failed read-back halt the channel at their address, with nothing written at or past the failing byte; the oldest held record
goes to its queue; a feed channel's error raises DMA.FEED_ERROR, and rejects the job of its stream before the window. The
failing address is the first byte that fails, the model's choice, log entry 70. -/
def Obligations.DescriptorsRunAndFail : Prop :=
  ∀ s : State, s.specified = true → s.memory.wf = true →
    (∀ (n : Fin 32) (d : Descriptor), 8 ≤ n.val → s.dma.channels[n].state = .active → s.dma.channels[n].desc = some d →
      s.dma.channels[n].held.length < 4 →
      (d.length = 0 ∨ d.op = .link →
        Completes (.descriptorComplete n [] [] 0) s fun t => Keeps [.dma] s t ∧
          (∀ m : Fin 32, m ≠ n → t.dma.channels[m] = s.dma.channels[m]) ∧
          t.dma.channels[n].lastStatus = (if d.op = .link then .ok else .empty) ∧
          t.dma.channels[n].done = (s.dma.channels[n].done + 1) % 4294967296 ∧
          (d.record = false → t.dma.channels[n].held = s.dma.channels[n].held) ∧
          (d.record = true → ∃ r : Held, t.dma.channels[n].held = s.dma.channels[n].held ++ [(r, d.cq)] ∧ r.irq = d.irq ∧
            leAt r.body 0 8 = d.addr % 18446744073709551616 ∧ leAt r.body 8 4 = 0 ∧ byteAt r.body 13 = n.val) ∧
          (d.last = true → t.dma.channels[n].state = .idle ∧ t.dma.channels[n].desc = none) ∧
          (d.last = false → ∀ e rest, s.dma.channels[n].ahead = e :: rest → t.dma.channels[n].state = .active ∧
            t.dma.channels[n].desc = some e ∧ t.dma.channels[n].ahead = rest) ∧
          (d.last = false → s.dma.channels[n].ahead = [] → s.dma.channels[n].next = none → t.dma.channels[n].state = .ended ∧
            t.dma.channels[n].desc = some d)) ∧
      (d.op = .fill → 0 < d.length → d.dest + d.length ≤ 0x800000 → s.memory.sram.bad = [] →
        Completes (.descriptorComplete n [] [] 0) s fun t => Keeps [.dma, .memory] s t ∧ t.dma.channels[n].lastStatus = .ok ∧
          t.memory.dram = s.memory.dram ∧ t.memory.sram.bad = [] ∧
          ∀ a, t.memory.sram.read a = if d.dest ≤ a ∧ a < d.dest + d.length then BitVec.ofNat 8 (d.source / 256 ^ ((a - d.dest) % 8))
            else s.memory.sram.read a) ∧
      (∀ host : List Byte, d.op = .copy → 0 < d.length → host.length = d.length → inHostMem d.source = true →
        d.source + d.length ≤ 0x10000000000000000 → d.dest + d.length ≤ 0x800000 → s.memory.sram.bad = [] →
        Completes (.descriptorComplete n host [] 0) s fun t => Keeps [.dma, .memory] s t ∧ t.dma.channels[n].lastStatus = .ok ∧
          t.memory.dram = s.memory.dram ∧
          ∀ a, t.memory.sram.read a = if d.dest ≤ a ∧ a < d.dest + d.length then nth host (a - d.dest) 0 else s.memory.sram.read a) ∧
      (d.op = .compare → d.cmpSrc = false → 0 < d.length → d.dest + d.length ≤ 0x800000 → s.memory.sram.bad = [] →
        Completes (.descriptorComplete n [] [] 0) s fun t => Keeps [.dma] s t ∧
          ((∀ k, k < d.length → s.memory.sram.read (d.dest + k) = BitVec.ofNat 8 (d.source / 256 ^ (k % 8))) → t.dma.channels[n].lastStatus = .ok) ∧
          ∀ k, k < d.length → s.memory.sram.read (d.dest + k) ≠ BitVec.ofNat 8 (d.source / 256 ^ (k % 8)) →
            (∀ j, j < k → s.memory.sram.read (d.dest + j) = BitVec.ofNat 8 (d.source / 256 ^ (j % 8))) →
            t.dma.channels[n].lastStatus = .mismatch ∧ (d.record = true → t.dma.channels[n].residue = k)) ∧
      (d.op = .fill → s.memory.sram.bad = [] → d.dest < 0x800000 → 0x800000 < d.dest + d.length →
        exec (.descriptorComplete n [] [] 0) s = .next s ∧
        Completes (.dmaAccessError n none [] [] [] 0) s fun t => Keeps [.free, .dma, .faults, .memory] s t ∧
          (∀ m : Fin 32, m ≠ n → t.dma.channels[m] = s.dma.channels[m]) ∧
          t.dma.channels[n].state = .halted ∧ t.dma.channels[n].errAddr = 0x800000 ∧
          t.dma.channels[n].errDir = true ∧ t.dma.channels[n].errStatus = .busError ∧ t.dma.channels[n].errFetch = false ∧
          t.dma.channels[n].residue < d.dest + d.length - 0x800000 ∧ t.memory.dram = s.memory.dram ∧
          ∀ a, a < d.dest ∨ 0x800000 ≤ a → t.memory.sram.read a = s.memory.sram.read a) ∧
      (∀ off data host, d.op = .copy → off < d.length → inHostMem d.source = true → d.source + d.length ≤ 0x10000000000000000 →
        d.dest + d.length ≤ 0x800000 → s.memory.sram.bad = [] →
        Completes (.dmaAccessError n (some (off, false, data, false)) host [] [] 0) s fun t => Keeps [.free, .dma, .faults, .memory] s t ∧
          t.dma.channels[n].state = .halted ∧ t.dma.channels[n].errAddr = d.source + off ∧ t.dma.channels[n].errDir = false ∧
          t.dma.channels[n].errReadback = false ∧ t.dma.channels[n].errStatus = (if data then .dataError else .busError) ∧
          t.dma.channels[n].residue < d.length - off ∧ t.memory.dram = s.memory.dram ∧
          (s.takesDma d.cq = true → ∃ r : Held, t.dma.channels[n].held = s.dma.channels[n].held ++ [(r, d.cq)] ∧ r.irq = true) ∧
          ∀ a, a < d.dest ∨ d.dest + off ≤ a → t.memory.sram.read a = s.memory.sram.read a)) ∧
    (∀ (n : Fin 32) r cq rest, s.barOpen = true → s.dma.channels[n].held = (r, cq) :: rest → cq < 14 →
      ((getN s.host.cqs cq {}).enable = true → (getN s.host.cqs cq {}).full = false → (getN s.host.cqs cq {}).slot64 = false →
        Completes (.dmaRecordWrite n) s fun t => Keeps [.host, .dma] s t ∧
          (∀ m : Fin 32, m ≠ n → t.dma.channels[m] = s.dma.channels[m]) ∧
          t.dma.channels[n] = { s.dma.channels[n] with held := rest } ∧
          (getN t.host.cqs cq {}).tail = ((getN s.host.cqs cq {}).tail + 1) % 2 ^ (getN s.host.cqs cq {}).sizeLog2 ∧
          t.host.writes = { addr := ((getN s.host.cqs cq {}).base + 16 * (getN s.host.cqs cq {}).tail) % 9223372036854775808
                            bytes := r.bytes (getN s.host.cqs cq {}).phase } :: s.host.writes) ∧
      ((getN s.host.cqs cq {}).enable = false ∨ (getN s.host.cqs cq {}).full = true → exec (.dmaRecordWrite n) s = .next s)) ∧
    (∀ x : Fin 6, s.islandsUp = true → (∀ q, s.decoders[x].jobSeq = some q → s.jobOf q = none) →
      Completes (.feedChannelError x) s fun t => Keeps [.faults] s t ∧ t.faults = (s.raise .dmaFeedError x).faults) ∧
    (∀ (x : Fin 6) q j, s.islandsUp = true → s.decoders[x].jobSeq = some q → s.jobOf q = some j →
      (j.inWindow = true → Completes (.feedChannelError x) s fun t => Keeps [.faults] s t ∧ t.faults = (s.raise .dmaFeedError x).faults) ∧
      (j.inWindow = false → j.state ≠ .lower → j.state ≠ .returning → j.state ≠ .ended →
        Completes (.feedChannelError x) s fun t => (JobIs t j.seq fun k => k.state = .ended ∧ k.status = .rejected ∧ k.cause = .streamRange) ∧
          (∀ k ∈ s.layer.jobs, k.seq ≠ j.seq → k ∈ t.layer.jobs) ∧ t.faults = (s.raise .dmaFeedError x).faults))

/-! Telemetry. -/

/-- (From R406, R409, R414, R415, R417, R419 to R421.) START reads the first buffer descriptor of an IDLE or STOPPED host stream
and writes the stream header at its BASE, or stops it with DESC_ERROR and its record; STOP, FLUSH and REARM act on the streams
that take them and change no other; an access error stops a stream, its staged input lost and counted, raises its source, and
the record of a host stream goes to its queue. -/
def Obligations.TelemetryStreamsStartAndStop : Prop :=
  ∀ s : State, s.specified = true →
    (∀ n : Fin 16, (12 ≤ n.val ∨ s.barOpen = false) → (∀ h, exec (.tlmStart n h) s = .next s) ∧ exec (.tlmStop n) s = .next s) ∧
    (∀ n : Fin 16, s.telemetry.streams[n].state ≠ .idle → s.telemetry.streams[n].state ≠ .stopped → ∀ h, exec (.tlmStart n h) s = .next s) ∧
    (∀ n : Fin 16, s.telemetry.streams[n].state ≠ .running → exec (.tlmStop n) s = .next s) ∧
    (∀ (n : Fin 16) (b : Vector Byte 32), s.barOpen = true → n.val < 12 →
      s.telemetry.streams[n].state = .idle ∨ s.telemetry.streams[n].state = .stopped → inHostMem s.telemetry.streams[n].head = true →
      s.telemetry.streams[n].head + 32 ≤ 0x10000000000000000 →
      (s.badBuffer n b.toList = true →
        Completes (.tlmStart n (some b)) s fun t => Keeps [.faults, .host, .telemetry] s t ∧
          (∀ m : Fin 16, m ≠ n → t.telemetry.streams[m] = s.telemetry.streams[m]) ∧
          t.telemetry.streams[n].state = .stopped ∧ t.telemetry.streams[n].lastStatus = .descError ∧
          t.telemetry.streams[n].cur = s.telemetry.streams[n].head ∧
          (s.takesDma (parseBuffer 0 b.toList).cq = true → t.faults = (s.raise .tlmDescError n).faults ∧
            ∃ r : Held, (getN t.host.cqs (parseBuffer 0 b.toList).cq {}).waiting =
              (getN s.host.cqs (parseBuffer 0 b.toList).cq {}).waiting ++ [r] ∧ r.dma = true ∧ leAt r.body 8 4 = 0 ∧
              byteAt r.body 12 = TlmStatus.descError.code ∧ byteAt r.body 14 = n.val)) ∧
      (s.badBuffer n b.toList = false → inHostMem (parseBuffer 0 b.toList).base = true → (parseBuffer 0 b.toList).base + 16 ≤ 0x10000000000000000 →
        Completes (.tlmStart n (some b)) s fun t => Keeps [.host, .telemetry] s t ∧
          (∀ m : Fin 16, m ≠ n → t.telemetry.streams[m] = s.telemetry.streams[m]) ∧
          t.telemetry.streams[n].state = .running ∧ t.telemetry.streams[n].complete = 16 ∧ t.telemetry.streams[n].cur = s.telemetry.streams[n].head ∧
          t.telemetry.streams[n].staged = [] ∧ t.telemetry.streams[n].seq = 0 ∧ t.telemetry.streams[n].history = [] ∧
          t.host = { s.host with
            writes := { addr := (parseBuffer 0 b.toList).base % 9223372036854775808, bytes := streamHeader n s.timeUs } :: s.host.writes }) ∧
      (s.badBuffer n b.toList = false → dramBase ≤ (parseBuffer 0 b.toList).base → s.memory.wf = true → s.memory.dram.bad = [] →
        (parseBuffer 0 b.toList).base + 16 ≤ dramBase + s.dramBytes → s.dramBytes ≤ 0x7FFFFFF000000000 →
        Completes (.tlmStart n (some b)) s fun t => Keeps [.telemetry, .memory] s t ∧ t.telemetry.streams[n].state = .running ∧
          t.telemetry.streams[n].complete = 16 ∧ t.memory.sram = s.memory.sram ∧ ∀ a, t.memory.dram.read a =
            if (parseBuffer 0 b.toList).base - dramBase ≤ a ∧ a < (parseBuffer 0 b.toList).base - dramBase + 16 then
              nth (streamHeader n s.timeUs) (a - ((parseBuffer 0 b.toList).base - dramBase)) 0 else s.memory.dram.read a)) ∧
    (∀ n : Fin 16, s.barOpen = true → n.val < 12 → s.telemetry.streams[n].state = .idle ∨ s.telemetry.streams[n].state = .stopped →
      inHostMem s.telemetry.streams[n].head = true →
      Completes (.tlmStart n none) s fun t => t.telemetry.streams[n].state = .stopped ∧ t.telemetry.streams[n].lastStatus = .descError ∧
        ∀ m : Fin 16, m ≠ n → t.telemetry.streams[m] = s.telemetry.streams[m]) ∧
    (∀ n : Fin 16, s.barOpen = true → n.val < 12 → s.telemetry.streams[n].state = .running →
      Completes (.tlmStop n) s fun t => Keeps [.telemetry] s t ∧ t.telemetry = { s.telemetry with streams := t.telemetry.streams } ∧
        t.telemetry.streams[n] = { s.telemetry.streams[n] with state := .stopping } ∧
        ∀ m : Fin 16, m ≠ n → t.telemetry.streams[m] = s.telemetry.streams[m]) ∧
    (∀ v : BitVec 32, s.barOpen = true → Completes (.tlmFlush v) s fun t => Keeps [.telemetry] s t ∧
      t.telemetry = { s.telemetry with streams := t.telemetry.streams } ∧ ∀ n : Fin 16,
      (n.val < 12 ∨ v.getLsbD n = false ∨ s.telemetry.streams[n].state ≠ .running ∨ s.telemetry.streams[n].staged = [] →
        t.telemetry.streams[n] = s.telemetry.streams[n]) ∧
      (12 ≤ n.val → v.getLsbD n = true → s.telemetry.streams[n].state = .running → s.telemetry.streams[n].staged ≠ [] →
        t.telemetry.streams[n] = { s.telemetry.streams[n] with flushDue := true })) ∧
    (∀ v : BitVec 32, s.barOpen = true → s.legend.telemetry.present = true → Completes (.tlmRearm v) s fun t => ∀ n : Fin 16,
      (n.val < 12 ∨ v.getLsbD n = false ∨ s.telemetry.streams[n].state = .running → t.telemetry.streams[n] = s.telemetry.streams[n]) ∧
      (12 ≤ n.val → v.getLsbD n = true → s.telemetry.streams[n].state = .preserved →
        t.telemetry.streams[n].state = .running ∨ t.telemetry.streams[n].state = .stopped)) ∧
    (∀ n : Fin 16, 12 ≤ n.val → s.barOpen = true → s.legend.telemetry.present = true →
      s.telemetry.streams[n].state = .preserved ∨ s.telemetry.streams[n].state = .stopped →
      ∀ c, c = (s.snapOf n).chain → s.inDram c 32 = true → s.accessFail false c 32 = none → ∀ b, b = s.readMem c 32 [] →
      (s.badBuffer n b = true → Completes (.tlmRearm (BitVec.ofNat 32 (2 ^ n.val))) s fun t => Keeps [.faults, .telemetry] s t ∧
        t.telemetry.streams[n].state = .stopped ∧ t.telemetry.streams[n].lastStatus = .descError ∧
        t.faults = (s.raise .tlmDescError n).faults) ∧
      (s.badBuffer n b = false → s.memory.dram.bad = [] → (parseBuffer 0 b).base + 16 ≤ dramBase + s.dramBytes → s.dramBytes ≤ 0x7FFFFFF000000000 →
        Completes (.tlmRearm (BitVec.ofNat 32 (2 ^ n.val))) s fun t => Keeps [.telemetry, .memory] s t ∧
          t.telemetry.streams[n].state = .running ∧ t.telemetry.streams[n].complete = 16 ∧ t.telemetry.streams[n].seq = 0 ∧
          t.telemetry.streams[n].staged = [] ∧ t.telemetry.streams[n].cur = c ∧ t.memory.sram = s.memory.sram)) ∧
    (∀ (n : Fin 16) fetch, (s.telemetry.streams[n].state = .running ∨ s.telemetry.streams[n].state = .stopping) →
      Completes (.tlmWriteError n fetch) s fun t => Keeps [.faults, .host, .telemetry] s t ∧
        (∀ m : Fin 16, m ≠ n → t.telemetry.streams[m] = s.telemetry.streams[m]) ∧
        t.telemetry.streams[n].state = .stopped ∧ t.telemetry.streams[n].staged = [] ∧
        t.telemetry.streams[n].lastStatus = (if fetch then .descError else .busError) ∧
        t.telemetry.streams[n].lost = min (s.telemetry.streams[n].lost + s.telemetry.streams[n].lens.length) 65535 ∧
        t.telemetry.streams[n].complete = s.telemetry.streams[n].complete ∧
        (12 ≤ n.val → t.host = s.host ∧ t.faults = (s.raise (if fetch then .tlmDescError else .tlmBusError) n).faults) ∧
        (∀ b, n.val < 12 → s.telemetry.streams[n].buffer = some b → s.takesDma b.cq = true →
          t.faults = (s.raise (if fetch then .tlmDescError else .tlmBusError) n).faults ∧
          ∃ r : Held, (getN t.host.cqs b.cq {}).waiting = (getN s.host.cqs b.cq {}).waiting ++ [r] ∧ r.dma = true ∧
            byteAt r.body 12 = (if fetch then TlmStatus.descError.code else TlmStatus.busError.code) ∧ byteAt r.body 14 = n.val)) ∧
    (∀ (n : Fin 16) fetch, s.telemetry.streams[n].state ≠ .running → s.telemetry.streams[n].state ≠ .stopping →
      exec (.tlmWriteError n fetch) s = .next s)

/-- (From R407, R408, R410, R411, R414, R416, R418.) The oldest sample taken goes with its header to the stream its loop is
assigned to, every DECIM-th one, and is lost where it finds no room, the episode's first raising TLM_n.INPUT_LOST and its end
staging a GAP record; a trigger stages its fault record, one during a snapshot is missed and raises TLM_n.SNAP_MISSED; a block
takes up to 4,096 staged bytes, STORED when the payload would not be shorter, and counts with its header; a payload of LITERAL
items decodes to its bytes. That a block is coded in one step is the model's choice, log entry 21. -/
def Obligations.RecordsAreStagedAndCoded : Prop :=
  (∀ (t : Stream) payload, t.blockInput.isEmpty = false →
    ((if t.blockStored payload then t.blockInput else payload).length ≤ t.blockInput.length ∧ t.blockInput.length ≤ 4096 ∧
      (t.blockStored payload = true ↔ t.blockInput.length ≤ payload.length))) ∧
  (∀ (b : Byte) (data history : List Byte), data.length < 64 →
    payloadOk history (b :: data) (BitVec.ofNat 8 data.length :: b :: data) = true) ∧
  (∀ (b : Byte) (off n : Nat) (data history : List Byte), off + 1 < 32768 → n < 64 → data.length = n + 3 →
    (∀ i, i < n + 3 → ((b :: data)[i + 1]? = (((b :: data).take (i + 1)).reverse ++ history)[off]?)) → off < history.length + 1 →
    payloadOk history (b :: data) ([0, b, BitVec.ofNat 8 (128 + n), BitVec.ofNat 8 (off % 256), BitVec.ofNat 8 (off / 256)]) = true) ∧
  ∀ s : State, s.specified = true →
    (∀ (k : Fin 59) d rest, k.val < 53 → s.telemetry.due = d :: rest → d.loop = k.val →
      (∀ m : Fin 4, s.legend.telemetry.snaps[m].loops.contains k.val = false) → ∀ g : LegLoopSource,
      s.legend.telemetry.sources.filter (fun p => p.loop == k.val) = [g] → g.stream < 16 → g.loop = k.val →
      ((s.stream g.stream).state ≠ .running → Completes (.captureRecord k) s fun t => Keeps [.telemetry] s t ∧
        t.telemetry = { s.telemetry with due := rest }) ∧
      ((s.stream g.stream).state = .running →
        (((s.stream g.stream).decimCount.find? fun p => p.1 == g.loop).map (·.2)).getD 0 + 1 < g.decim →
        Completes (.captureRecord k) s fun t => Keeps [.telemetry] s t ∧ t.telemetry.due = rest ∧
          (t.stream g.stream).staged = (s.stream g.stream).staged ∧ (t.stream g.stream).lost = (s.stream g.stream).lost ∧
          ((t.stream g.stream).decimCount.find? fun p => p.1 == g.loop) =
            some (g.loop, (((s.stream g.stream).decimCount.find? fun p => p.1 == g.loop).map (·.2)).getD 0 + 1)) ∧
      ((s.stream g.stream).state = .running →
        g.decim ≤ (((s.stream g.stream).decimCount.find? fun p => p.1 == g.loop).map (·.2)).getD 0 + 1 →
        Completes (.captureRecord k) s fun t => Keeps [.faults, .telemetry] s t ∧ t.telemetry.due = rest ∧
          (∀ m, m ≠ g.stream → t.stream m = s.stream m) ∧
          ((s.stream g.stream).episode = 0 → (s.stream g.stream).staged.length + 12 + d.body.length ≤ 8192 → t.faults = s.faults ∧
            (t.stream g.stream).seq = ((s.stream g.stream).seq + 1) % 65536 ∧
            (t.stream g.stream).staged = (s.stream g.stream).staged ++ captureRecord 1 k d.timeUs (s.stream g.stream).seq d.body) ∧
          ((s.stream g.stream).episode = 0 → 8192 < (s.stream g.stream).staged.length + 12 + d.body.length →
            (t.stream g.stream).staged = (s.stream g.stream).staged ∧ (t.stream g.stream).episode = 1 ∧
            (t.stream g.stream).lost = min ((s.stream g.stream).lost + 1) 65535 ∧ t.faults = (s.raise .tlmInputLost g.stream).faults) ∧
          ((s.stream g.stream).episode ≠ 0 → (s.stream g.stream).staged.length + 28 + d.body.length ≤ 8192 → t.faults = s.faults ∧
            (t.stream g.stream).episode = 0 ∧ (t.stream g.stream).staged = (s.stream g.stream).staged ++
              captureRecord 4 0 d.timeUs (s.stream g.stream).seq (le 4 (s.stream g.stream).episode) ++
              captureRecord 1 k d.timeUs (((s.stream g.stream).seq + 1) % 65536) d.body) ∧
          ((s.stream g.stream).episode ≠ 0 → 8192 < (s.stream g.stream).staged.length + 28 + d.body.length → t.faults = s.faults ∧
            (t.stream g.stream).staged = (s.stream g.stream).staged ∧
            (t.stream g.stream).episode = ((s.stream g.stream).episode + 1) % 4294967296))) ∧
    (∀ k : Fin 59, k.val < 53 → (s.telemetry.due = [] ∨ ∃ d rest, s.telemetry.due = d :: rest ∧ d.loop ≠ k.val) →
      exec (.captureRecord k) s = .next s) ∧
    (∀ (x : Fin 6), s.boot.ready = true → s.legend.telemetry.present = true → s.laneRecordDue x = true →
      (s.legend.telemetry.laneStream[x] = none →
        Completes (.captureRecord (Fin.ofNat 59 (53 + x.val))) s fun t => Keeps [.telemetry] s t ∧ t.telemetry.laneDue[x] = false ∧
          t.telemetry.streams = s.telemetry.streams) ∧
      (∀ n, s.legend.telemetry.laneStream[x] = some n → n < 16 → (s.stream n).state = .running → (s.stream n).episode = 0 →
        (s.stream n).staged.length + 44 ≤ 8192 →
        Completes (.captureRecord (Fin.ofNat 59 (53 + x.val))) s fun t => Keeps [.telemetry] s t ∧ t.telemetry.laneDue[x] = false ∧
          (∀ m, m ≠ n → t.stream m = s.stream m) ∧
          (t.stream n).staged = (s.stream n).staged ++ captureRecord 2 x s.timeUs (s.stream n).seq (s.laneStats x))) ∧
    (∀ x : Fin 6, s.laneRecordDue x = false → exec (.captureRecord (Fin.ofNat 59 (53 + x.val))) s = .next s) ∧
    (∀ (n : Fin 4) r rest, (s.stream (12 + n.val)).triggers = r :: rest →
      ((s.stream (12 + n.val)).state ≠ .running →
        Completes (.snapshotTrigger n) s fun t => Keeps [.telemetry] s t ∧ t.stream (12 + n.val) = { s.stream (12 + n.val) with triggers := rest }) ∧
      ((s.stream (12 + n.val)).state = .running → (s.stream (12 + n.val)).snapshot = true →
        Completes (.snapshotTrigger n) s fun t => Keeps [.faults, .telemetry] s t ∧
          t.stream (12 + n.val) = { s.stream (12 + n.val) with triggers := rest, missed := min ((s.stream (12 + n.val)).missed + 1) 65535 } ∧
          t.faults = (s.raise .tlmSnapMissed (12 + n.val)).faults) ∧
      ((s.stream (12 + n.val)).state = .running → (s.stream (12 + n.val)).snapshot = false → (s.stream (12 + n.val)).episode = 0 →
        (s.stream (12 + n.val)).staged.length + 12 + r.length ≤ 8192 →
        Completes (.snapshotTrigger n) s fun t => Keeps [.telemetry] s t ∧ (t.stream (12 + n.val)).triggers = rest ∧
          (∀ m, m ≠ 12 + n.val → t.stream m = s.stream m) ∧
          (t.stream (12 + n.val)).missed = (s.stream (12 + n.val)).missed ∧
          (0 < (s.snapOf (12 + n.val)).post → (s.snapOf (12 + n.val)).loops ≠ [] → (t.stream (12 + n.val)).snapshot = true) ∧
          (s.stream (12 + n.val)).staged ++ captureRecord 3 0 s.timeUs (s.stream (12 + n.val)).seq r <+: (t.stream (12 + n.val)).staged)) ∧
    (∀ n : Fin 4, (s.stream (12 + n.val)).triggers = [] → exec (.snapshotTrigger n) s = .next s) ∧
    (∀ payload answers found, s.codecTurn = none → exec (.blockCode payload answers found) s = .next s) ∧
    (∀ n payload (b : TlmBuffer), s.codecTurn = some n → 12 ≤ n → n < 16 → (s.stream n).state = .running → (s.stream n).buffer = some b →
      (s.stream n).payloadFits n payload = true → (s.stream n).drain = [] → s.memory.dram.bad = [] → s.memory.wf = true → dramBase ≤ b.base →
      b.used + (s.stream n).blockInput.length + 8 < b.size → b.base + b.size ≤ dramBase + s.dramBytes → s.dramBytes ≤ 0x7FFFFFF000000000 →
      ∀ body, body = (if (s.stream n).blockStored payload then (s.stream n).blockInput else payload) →
      Completes (.blockCode payload [] []) s fun t => Keeps [.telemetry, .memory] s t ∧ (t.stream n).state = .running ∧
        (t.stream n).staged = (s.stream n).staged.drop 4096 ∧ (∀ m, m ≠ n → t.stream m = s.stream m) ∧
        (t.stream n).inTotal = ((s.stream n).inTotal + (s.stream n).blockInput.length) % 4294967296 ∧
        (t.stream n).outTotal = ((s.stream n).outTotal + 8 + body.length) % 4294967296 ∧
        (t.stream n).complete = b.used + 8 + body.length ∧ t.memory.sram = s.memory.sram ∧
        (∀ i, i < body.length → t.memory.dram.read (b.base - dramBase + b.used + 8 + i) = nth body i 0) ∧
        leNat ((List.range 2).map fun i => t.memory.dram.read (b.base - dramBase + b.used + 2 + i)) % 8192 = body.length ∧
        ∀ a, a < b.base - dramBase + b.used ∨ b.base - dramBase + b.used + 8 + body.length ≤ a →
          t.memory.dram.read a = s.memory.dram.read a)

/-! Boot, partners and resets. -/

/-- (From R371, R373, R374, R429, R430, R433, R436 to R442, R451, R453.) Copy A is used when it passes every check, otherwise
copy B with BOOT.LEGEND_COPY_A_BAD raised, otherwise the boot halts; training of DRAM ends the step or, failing twice, halts;
the spare maps are applied; discovery identifies what it finds on the enabled ports; configuration opens; the recovery fills
DRAM unless its content was kept, a slot of the atlas takes the outcome of R373's table by its marks and the kind of restart,
and the registration offsets return from the record of the same BUILD_ID, else they start at 0; READY opens BAR access, with
homing, the survey, HV and the first period of ALIVE due; a step whose stage is not reached changes nothing. The content of a
legend copy is an operand beside its bytes, log entry 25. -/
def Obligations.BootRunsToReady : Prop :=
  (∀ s : State, s.specified = true →
    (∀ q d f a b, s.boot.stage ≠ .legend ∨ s.marginalDurable = false → exec (.bootLegend q d f a b) s = .next s) ∧
    (∀ q d f a b, s.boot.stage = .legend → s.marginalDurable = true →
      Completes (.bootLegend q d f a b) s fun t => t.boot.resultA = (checkCopy s.otp a).result ∧
        t.boot.flashMode = (if q.isSome then 2 else if d.isSome then 1 else 0) ∧
        t.boot.flashDummy = (match q, d with | some n, _ => n.val | none, some n => n.val | none, none => f.val) ∧
        (s.otp.unsignedAllowed = false → t.boot.unsigned = false) ∧
        ((checkCopy s.otp a).result = .ok → t.legend = copyLegend a ∧ t.legendApplied = true ∧ t.boot.copy = 1 ∧ t.boot.resultB = .notRead ∧
          t.boot.header = copyHeader a) ∧
        ((checkCopy s.otp a).result ≠ .ok → t.boot.resultB = (checkCopy s.otp b).result) ∧
        ((checkCopy s.otp a).result ≠ .ok → (checkCopy s.otp b).result = .ok → t.legend = copyLegend b ∧ t.legendApplied = true ∧
          t.boot.copy = 2 ∧ t.boot.header = copyHeader b ∧
          (s.faults.queue.length < 63 → ∃ e ∈ t.faults.queue, e.src = Source.legendCopyABad.number)) ∧
        ((checkCopy s.otp a).result = .ok ∨ (checkCopy s.otp b).result = .ok → t.boot.stage = .ddr ∧ t.scan.pllLocked = true ∧
          (∀ x : Fin 6, t.scan.stations[x].state = .free ∧ t.scan.stations[x].calDue = true) ∧
          (∀ p : Fin 8, t.boot.ports[p].link = if getN t.legend.boot.portEnable p.val false then .idle else .disabled) ∧
          ∀ i : Fin 5, t.loops.engines[i].state = (if i.val < 4 then .run else .spareIdle) ∧
            (i.val < 4 → t.loops.engines[i].serves = i.val)) ∧
        ((checkCopy s.otp a).result ≠ .ok → (checkCopy s.otp b).result ≠ .ok →
          t.legend = s.legend ∧ t.legendApplied = s.legendApplied ∧ t.boot.stage = .haltLegend ∧ t.boot.qspiReleased = true ∧
          t.scan = s.scan ∧ (s.otp.unsignedAllowed = false → t.faults = (s.raise .legendNone 0).faults))) ∧
    (∀ ok ms mib soft, s.boot.stage ≠ .ddr → exec (.bootDdrTrain ok ms mib soft) s = .next s) ∧
    (∀ ms mib soft, s.boot.stage = .ddr →
      Completes (.bootDdrTrain true ms mib soft) s (fun t => Keeps [.pixels, .scan, .loops, .faults, .boot, .survey] s t ∧
        t.boot = { s.boot with train := if s.boot.dramKept then 2 else 1, trainMs := min ms 65535, dramMib := mib - 1, stage := .discovery } ∧
        t.survey.hardMap = s.otp.repairs ∧ t.survey.softMap = s.survey.softMap ∧ t.survey.ses = s.survey.record.ses ∧
        t.faults = (if soft then s.raise .bootSpareMap 0 else s).faults ∧
        (∀ x : Fin 6, s.survey.record.lanes[x] = none → t.pixels[x] = s.pixels[x]) ∧
        (∀ (x : Fin 6) (l : Nat), s.survey.record.lanes[x] = some l → l < 4 →
          getN t.pixels[x].map l 0 = 4 ∧ t.pixels[x].spareFree = false) ∧
        (∀ x : Fin 6, t.scan.stations[x] = if s.survey.record.chains.getLsbD x.val then { s.scan.stations[x] with chain := 1, spareFree := false }
          else s.scan.stations[x]) ∧
        (s.survey.record.le4 = none → t.loops = s.loops) ∧
        (∀ e, s.survey.record.le4 = some e → e < 4 → (getN t.loops.engines e {}).state = .off ∧ (getN t.loops.engines 4 {}).state = .run ∧
          (getN t.loops.engines 4 {}).serves = e)) ∧
      Completes (.bootDdrTrain false ms mib soft) s (fun t => Keeps [.faults, .boot] s t ∧
        (s.boot.trainFails = 0 → t.faults = s.faults ∧ t.boot = { s.boot with
          train := if s.boot.dramKept then 2 else 1, trainMs := min ms 65535, trainFails := 1 }) ∧
        (s.boot.trainFails ≠ 0 → t.boot.stage = .haltDdr ∧ t.boot.trainFails = 2 ∧ t.faults = (s.raise .bootDdrTrain 0).faults))) ∧
    (∀ found, s.boot.stage ≠ .discovery → exec (.bootDiscovery found) s = .next s) ∧
    (∀ found, s.boot.stage = .discovery →
      Completes (.bootDiscovery found) s fun t => Keeps [.pixels, .faults, .boot, .survey] s t ∧ t.boot.stage = .hostOpen ∧
        ((∀ f ∈ found, getN s.legend.boot.portEnable f.port.val false = false) →
          Keeps [.boot] s t ∧ t.boot = { s.boot with stage := .hostOpen })) ∧
    (∀ f : JzFound, s.boot.stage = .discovery → getN s.legend.boot.portEnable f.port.val false = true → s.portInWindow f.port.val = false →
      s.boot.ports[f.port].link ≠ .bound → (∀ u : Fin 4, (s.unit f.port u).state = .absent) →
      leAt f.block.toList 62 2 = crc16 (f.block.toList.take 62) →
      Completes (.bootDiscovery [f]) s fun t => t.boot.stage = .hostOpen ∧ t.boot.ports[f.port].link = .bound ∧
        (∀ q : Fin 8, q ≠ f.port → t.boot.ports[q] = s.boot.ports[q] ∧ ∀ u : Fin 4, t.unit q u = s.unit q u) ∧
        ((getN s.legend.boot.permit (4 * f.port.val + f.unit.val) []).contains (leAt f.block.toList 0 2) = true →
          (t.unit f.port f.unit).state = .present ∧ (t.unit f.port f.unit).type = leAt f.block.toList 0 2 ∧
          (t.unit f.port f.unit).serial = leAt f.block.toList 4 8 ∧ t.faults = s.faults) ∧
        ((getN s.legend.boot.permit (4 * f.port.val + f.unit.val) []).contains (leAt f.block.toList 0 2) = false →
          (t.unit f.port f.unit).state = .failed ∧ t.faults = (s.raise .jzLink f.port).faults)) ∧
    (∀ v w, (s.boot.stage ≠ .hostOpen → exec (.configOpen v w) s = .next s) ∧ (s.boot.stage = .hostOpen →
      Completes (.configOpen v w) s fun t => Keeps [.host, .boot] s t ∧ t.boot = { s.boot with perstN := true, stage := .recovery } ∧
        t.host = { s.host with configOpen := true, linkUp := true, linkSpeed := v, linkWidth := w, crs := false })) ∧
    (∀ v w, (bootHalted s.boot.stage = false ∨ s.host.configOpen = true → exec (.bootHalt v w) s = .next s) ∧
      (bootHalted s.boot.stage = true → s.host.configOpen = false →
      Completes (.bootHalt v w) s fun t => Keeps [.host, .boot] s t ∧ t.boot = { s.boot with perstN := true } ∧
        t.host = { s.host with configOpen := true, linkUp := true, linkSpeed := v, linkWidth := w, crs := false })) ∧
    (s.boot.stage ≠ .recovery ∨ s.host.restartDue = false ∨ s.boot.ready = true → exec .ready s = .next s) ∧
    (s.boot.stage = .recovery → s.host.restartDue = true → s.boot.ready = false →
      Completes .ready s fun t => t.boot = { s.boot with stage := .ready, ready := true, bootMs := (s.timeUs - s.boot.startUs) / 1000 } ∧
        t.survey = { s.survey with state := .due } ∧ t.motion.homeDue = s.homingMask ∧ t.motion.bus.testDue = true ∧ t.layer = s.layer ∧
        t.faults.periodUs = s.timeUs ∧ t.faults.beatUs = s.timeUs ∧ t.faults.beat = false ∧ t.faults.missed = 0 ∧
        (s.drivesOn = true → t.motion.brakeReleased = true ∧ ∀ n : Fin 10, s.motion.steppers[n].state = .off →
          t.motion.steppers[n].state = .holding) ∧
        (s.drivesOn = false → t.motion.servos = s.motion.servos ∧ t.motion.steppers = s.motion.steppers) ∧
        (s.faults.grave = false → isShutdown s.power.program = false → ∀ x : Fin 6, t.loops.hven[x] = true) ∧
        (s.faults.grave = true ∨ isShutdown s.power.program = true → t.loops.hven = s.loops.hven ∧ t.loops.heaters = s.loops.heaters))) ∧
  (∀ s : State, s.specified = true →
    (∀ bad, s.boot.stage ≠ .recovery ∨ s.host.restartDue = true → exec (.bootRecovery bad) s = .next s) ∧
    (s.boot.stage = .recovery → s.host.restartDue = false →
      (∀ bad, Completes (.bootRecovery bad) s fun t => Keeps [.layer, .position, .faults, .host, .boot, .memory] s t ∧
        t.host.restartDue = true ∧ t.host.lqOpen = false ∧ t.memory.sram = s.memory.sram ∧
        (s.boot.dramKept = false → t.boot = { s.boot with filled := true } ∧ ∀ a, t.memory.dram.read a = 0) ∧
        (s.boot.dramKept = true → t.boot = s.boot ∧ t.memory.dram.cells = s.memory.dram.cells ∧
          ∀ c, c ∈ t.memory.dram.bad ↔ c ∈ s.memory.dram.bad ∨ c ∈ bad) ∧
        (t.layer.hold = (s.layer.hold || decide (0 < t.host.interrupted))) ∧
        (s.host.atlas.slotsBySeq = [] → t.faults = s.faults ∧ t.layer = { s.layer with hold := s.layer.hold || decide (0 < s.host.interrupted) }) ∧
        (s.host.atlas.header.regValid = true → s.host.atlas.header.buildId = s.boot.header.buildId →
          ∀ x : Fin 6, t.position.reg[x] = { s.position.reg[x] with xscan := s.host.atlas.header.xscan[x], inscan := s.host.atlas.header.inscan[x] }) ∧
        (s.host.atlas.header.regValid = false ∨ s.host.atlas.header.buildId ≠ s.boot.header.buildId →
          (∀ x : Fin 6, t.position.reg[x] = { s.position.reg[x] with xscan := 0, inscan := 0 }) ∧ t.host.atlas.header.regValid = true ∧
          t.host.atlas.header.buildId = s.boot.header.buildId)) ∧
      (∀ (k : Fin 64) (m : List Byte), s.host.atlas.slotsBySeq = [k.val] → s.host.atlas.accepted k = some m →
        (s.host.atlas.present k 4 (leAt m 0 8) ≠ none → Completes (.bootRecovery []) s fun t => t.layer.jobs = s.layer.jobs ∧
          t.host.atlas.finals = [] ∧ t.host.requeued = s.host.requeued ∧ t.host.interrupted = s.host.interrupted ∧ t.host.dataLost = s.host.dataLost) ∧
        (s.host.atlas.present k 4 (leAt m 0 8) = none → ∀ e, s.host.atlas.present k 3 (leAt m 0 8) = some e →
          Completes (.bootRecovery []) s fun t => t.layer.jobs = s.layer.jobs ∧ t.host.atlas.again = [leAt m 0 8] ∧
            t.host.requeued = s.host.requeued ∧ t.host.interrupted = s.host.interrupted ∧ t.host.dataLost = s.host.dataLost ∧
            ∃ b, t.host.atlas.finals = [(leAt m 0 8, b)] ∧ b.take 32 = ((e.drop 16).take 32 ++ List.replicate 48 0).take 32) ∧
        (s.host.atlas.present k 4 (leAt m 0 8) = none → s.host.atlas.present k 3 (leAt m 0 8) = none →
          s.host.atlas.present k 2 (leAt m 0 8) ≠ none →
          Completes (.bootRecovery []) s fun t => t.layer.jobs = s.layer.jobs ∧ t.layer.hold = true ∧
            t.host.interrupted = min 255 (s.host.interrupted + 1) ∧ t.host.requeued = s.host.requeued ∧ t.host.dataLost = s.host.dataLost ∧
            ∃ b, t.host.atlas.finals = [(leAt m 0 8, b)] ∧ byteAt b 0 = EndStatus.interrupted.code ∧
              byteAt b 1 = (if s.boot.lastReset = .powerOn then Cause.powerLoss else Cause.restart).code) ∧
        (s.host.atlas.present k 4 (leAt m 0 8) = none → s.host.atlas.present k 3 (leAt m 0 8) = none →
          s.host.atlas.present k 2 (leAt m 0 8) = none →
          (s.boot.lastReset ≠ .powerOn → s.boot.dramKept = true → crc32 (s.host.atlas.trueEntry k (leAt m 12 4)) = leAt m 12 4 →
            s.streamsIntact (s.host.atlas.trueEntry k (leAt m 12 4)) = true →
            Completes (.bootRecovery []) s fun t => t.host.requeued = min 255 (s.host.requeued + 1) ∧ t.host.atlas.finals = [] ∧
              t.host.interrupted = s.host.interrupted ∧ t.host.dataLost = s.host.dataLost ∧
              t.layer.jobs = s.layer.jobs ++ [{ seq := leAt m 0 8, entry := s.host.atlas.trueEntry k (leAt m 12 4), state := .queued }]) ∧
          (s.boot.lastReset = .powerOn ∨ s.boot.dramKept = false →
            Completes (.bootRecovery []) s fun t => t.layer.jobs = s.layer.jobs ∧ t.host.dataLost = min 255 (s.host.dataLost + 1) ∧
              t.host.interrupted = s.host.interrupted ∧ t.host.requeued = s.host.requeued ∧
              ∃ b, t.host.atlas.finals = [(leAt m 0 8, b)] ∧ byteAt b 0 = EndStatus.dataLost.code ∧
                byteAt b 1 = (if s.boot.lastReset = .powerOn then Cause.powerLoss else Cause.restart).code)))))

/-- (From R444 to R450, R452, R454.) The third ANNOUNCE binds a port and unit 0 appears, HELD while a window concerns the port;
on a bound port it makes the identities due again; a valid identity of a permitted TYPE makes the entry PRESENT; a poll clears
the misses, shows the units behind unit 0, and an ALARM byte raises JZ_n.LINK; a reply missing twice is a missed poll, and the
third detaches the unit, unit 0 with all behind it; a wear write that is acknowledged writes what it held, one that is not keeps
it; the other ports are left as they are. -/
def Obligations.PartnersAttachAndDetach : Prop :=
  ∀ (s : State) (p : Fin 8), s.specified = true →
    (s.jzUp p = false → exec (.announceReceived p) s = .next s ∧ ∀ u : Fin 3, exec (.unitDetach p u) s = .next s ∧
      (∀ b, exec (.unitIdentify p u b) s = .next s ∧ ∀ c, exec (.jenzanPoll p u c) s = .next s) ∧
      (∀ r b, exec (.jenzanReplyMissing p u r b) s = .next s) ∧ ∀ r a, exec (.wearWrite p u r a) s = .next s) ∧
    (s.jzUp p = true →
    (s.boot.ports[p].link ≠ .bound → s.boot.ports[p].announces < 2 →
      Completes (.announceReceived p) s fun t => Keeps [.boot] s t ∧ t.boot = { s.boot with ports := t.boot.ports } ∧
        t.boot.ports[p] = { s.boot.ports[p] with link := .announced, announces := s.boot.ports[p].announces + 1 } ∧
        ∀ q : Fin 8, q ≠ p → t.boot.ports[q] = s.boot.ports[q]) ∧
    (s.boot.ports[p].link ≠ .bound → s.boot.ports[p].announces = 2 →
      Completes (.announceReceived p) s fun t => Keeps [.boot] s t ∧ t.boot.ports[p].link = .bound ∧ t.boot.ports[p].announces = 0 ∧
        ((s.unit p 0).state = .absent → (t.unit p 0).state = (if s.portInWindow p then .held else .identifying)) ∧
        ((s.unit p 0).state ≠ .absent → t.unit p 0 = s.unit p 0) ∧ (∀ u : Fin 4, u.val ≠ 0 → t.unit p u = s.unit p u) ∧
        ∀ q : Fin 8, q ≠ p → t.boot.ports[q] = s.boot.ports[q] ∧ ∀ u : Fin 4, t.unit q u = s.unit q u) ∧
    (s.boot.ports[p].link = .bound →
      Completes (.announceReceived p) s fun t => Keeps [.boot] s t ∧ t.boot.ports = s.boot.ports ∧
        (∀ u : Fin 3, t.unit p u = { s.unit p u with reread := decide ((s.unit p u).state = .present) }) ∧
        ∀ q : Fin 8, q ≠ p → ∀ u : Fin 4, t.unit q u = s.unit q u) ∧
    (∀ (u : Fin 3) (b : Vector Byte 64), (s.unit p u).state = .absent ∨ (s.unit p u).state = .failed →
      exec (.unitIdentify p u b) s = .next s) ∧
    (∀ (u : Fin 3) (b : Vector Byte 64), (s.unit p u).state = .held → s.portInWindow p = true → exec (.unitIdentify p u b) s = .next s) ∧
    (∀ (u : Fin 3) (b : Vector Byte 64), (s.unit p u).state = .present → (s.unit p u).reread = false →
      exec (.unitIdentify p u b) s = .next s) ∧
    (∀ (u : Fin 3) (b : Vector Byte 64), (s.unit p u).state = .identifying ∨ ((s.unit p u).state = .held ∧ s.portInWindow p = false) →
      (leAt b.toList 62 2 = crc16 (b.toList.take 62) → (getN s.legend.boot.permit (4 * p.val + u.val) []).contains (leAt b.toList 0 2) = true →
        Completes (.unitIdentify p u b) s fun t => t.faults = s.faults ∧ t.unit p u = { s.unit p u with
            state := .present, type := leAt b.toList 0 2, variant := leAt b.toList 2 2, serial := leAt b.toList 4 8
            fwRev := leAt b.toList 12 4, emitters := byteAt b.toList 16, lanes := byteAt b.toList 17
            wear := Vector.ofFn fun i => leAt b.toList (48 + 4 * i.val) 4, crcRun := 0, reread := false } ∧
          (leAt b.toList 0 2 ≠ 1 ∨ u.val ≠ 0 ∨ 6 ≤ p.val → t.pixels = s.pixels ∧ t.survey = s.survey) ∧
          (leAt b.toList 0 2 = 1 → u.val = 0 → ∀ h : p.val < 6, ∀ l : Fin 5, t.pixels[p.val].lanes[l].pending = true ∧
            t.pixels[p.val].lanes[l].state = .down ∧ t.pixels[p.val].moduleSerial = leAt b.toList 4 8)) ∧
      (leAt b.toList 62 2 = crc16 (b.toList.take 62) → (getN s.legend.boot.permit (4 * p.val + u.val) []).contains (leAt b.toList 0 2) = false →
        Completes (.unitIdentify p u b) s fun t => Keeps [.boot, .faults] s t ∧ t.unit p u = { s.unit p u with state := .failed } ∧
          t.faults = (s.raise .jzLink p).faults) ∧
      (leAt b.toList 62 2 ≠ crc16 (b.toList.take 62) → (s.unit p u).crcRun < 2 →
        Completes (.unitIdentify p u b) s fun t => Keeps [.boot] s t ∧ (t.unit p u).state = .identifying ∧
          (t.unit p u).crcRun = (s.unit p u).crcRun + 1 ∧ (t.unit p u).crcErrors = min 255 ((s.unit p u).crcErrors + 1)) ∧
      (leAt b.toList 62 2 ≠ crc16 (b.toList.take 62) → (s.unit p u).crcRun = 2 →
        Completes (.unitIdentify p u b) s fun t => Keeps [.boot, .faults] s t ∧ (t.unit p u).state = .failed ∧
          t.faults = (s.raise .jzLink p).faults)) ∧
    (∀ (u : Fin 3) (b : Vector Byte 64), (s.unit p u).state = .present → (s.unit p u).reread = true →
      leAt b.toList 62 2 = crc16 (b.toList.take 62) →
      (leAt b.toList 4 8 = (s.unit p u).serial → Completes (.unitIdentify p u b) s fun t => t.faults = s.faults ∧
        t.unit p u = { s.unit p u with reread := false } ∧
        ((s.unit p u).type = 1 → u.val = 0 → ∀ h : p.val < 6, ∀ l : Fin 5, t.pixels[p.val].lanes[l].pending = true)) ∧
      (leAt b.toList 4 8 ≠ (s.unit p u).serial → Completes (.unitIdentify p u b) s fun t =>
        (t.unit p u).attaches = min 255 ((s.unit p u).attaches + 1) ∧ (t.unit p u).reread = false ∧
        (s.portInWindow p = true → (t.unit p u).state = .held ∧ t.faults = (s.raise .jzDetachRun p).faults) ∧
        (s.portInWindow p = false → (getN s.legend.boot.permit (4 * p.val + u.val) []).contains (leAt b.toList 0 2) = true →
          (t.unit p u).state = .present ∧ (t.unit p u).serial = leAt b.toList 4 8 ∧ t.faults = (s.raise .jzDetachIdle p).faults))) ∧
    (∀ (u : Fin 3) (b : Vector Byte 16), s.polls p u = false → exec (.jenzanPoll p u b) s = .next s) ∧
    (∀ (u : Fin 3) (b : Vector Byte 16), s.polls p u = true → 0 < u.val →
      Completes (.jenzanPoll p u b) s fun t => (t.unit p u).misses = 0 ∧ (t.unit p u).state = (s.unit p u).state ∧
        (t.unit p u).serial = (s.unit p u).serial ∧ t.boot.ports[p] = { s.boot.ports[p] with repeated := false } ∧
        t.pixels = s.pixels ∧ (∀ v : Fin 4, v.val ≠ u.val → t.unit p v = s.unit p v) ∧
        (∀ q : Fin 8, q ≠ p → t.boot.ports[q] = s.boot.ports[q] ∧ ∀ v : Fin 4, t.unit q v = s.unit q v) ∧
        (byteAt b.toList 1 = 0 → t.faults = s.faults) ∧
        (byteAt b.toList 1 ≠ 0 → t.faults = (s.raiseD .jzLink p (le 1 (byteAt b.toList 1))).faults)) ∧
    (∀ b : Vector Byte 16, s.polls p 0 = true → (s.unit p 0).state ≠ .present ∨ (s.unit p 0).type ≠ 1 →
      Completes (.jenzanPoll p 0 b) s fun t => (t.unit p 0).misses = 0 ∧ t.boot.ports[p].misses = 0 ∧ t.boot.ports[p].repeated = false ∧
        t.pixels = s.pixels ∧ ∀ k : Fin 3, 0 < k.val →
        ((byteAt b.toList 0).testBit k.val = false → t.unit p k = { s.unit p k with gone := decide ((s.unit p k).state ≠ .absent) }) ∧
        ((byteAt b.toList 0).testBit k.val = true → (s.unit p k).state ≠ .absent → t.unit p k = { s.unit p k with gone := false }) ∧
        ((byteAt b.toList 0).testBit k.val = true → (s.unit p k).state = .absent →
          (t.unit p k).state = if s.portInWindow p then .held else .identifying)) ∧
    (∀ (x : Fin 6) (b : Vector Byte 16), x.val = p.val → s.polls p 0 = true → (s.unit p 0).state = .present → (s.unit p 0).type = 1 →
      (s.pixels[x].refresh = false → leAt b.toList 4 2 = (s.unit p 0).dropped →
        Completes (.jenzanPoll p 0 b) s fun t => ∀ l : Fin 5,
          (s.pixels[x].lanes[l].state = .trained → (byteAt b.toList 2).testBit l.val = false →
            t.pixels[x].lanes[l].state = .down ∧ t.pixels[x].lanes[l].marked = true) ∧
          (s.pixels[x].lanes[l].state ≠ .trained ∨ (byteAt b.toList 2).testBit l.val = true → t.pixels[x].lanes[l] = s.pixels[x].lanes[l]))) ∧
    (∀ (u : Fin 3) r bad, s.polls p u = true →
      (s.boot.ports[p].repeated = false →
        Completes (.jenzanReplyMissing p u r bad) s fun t => Keeps [.boot] s t ∧ t.boot = { s.boot with ports := t.boot.ports } ∧
          t.boot.ports[p] = { s.boot.ports[p] with
            repeated := true, badFrames := if bad then min 65535 (s.boot.ports[p].badFrames + 1) else s.boot.ports[p].badFrames } ∧
          ∀ q : Fin 8, q ≠ p → t.boot.ports[q] = s.boot.ports[q]) ∧
      (s.boot.ports[p].repeated = true →
        Completes (.jenzanReplyMissing p u r bad) s fun t => Keeps [.boot] s t ∧ t.boot.ports[p].repeated = false ∧
          (r = .poll → t.unit p u = { s.unit p u with
            misses := min 3 ((s.unit p u).misses + 1), noReply := min 255 ((s.unit p u).noReply + 1) }) ∧
          (r ≠ .poll → t.boot.units = s.boot.units) ∧
          (∀ v : Fin 4, v.val ≠ u.val → t.unit p v = s.unit p v) ∧
          ∀ q : Fin 8, q ≠ p → t.boot.ports[q] = s.boot.ports[q] ∧ ∀ v : Fin 4, t.unit q v = s.unit q v)) ∧
    (∀ u : Fin 3, (s.unit p u).state = .absent ∨ ((s.unit p u).misses ≠ 3 ∧ (s.unit p u).gone = false) →
      exec (.unitDetach p u) s = .next s) ∧
    (∀ u : Fin 3, 0 < u.val → (s.unit p u).misses = 3 ∨ (s.unit p u).gone = true →
      ((s.unit p u).state = .present ∨ (s.unit p u).state = .failed →
        Completes (.unitDetach p u) s fun t => Keeps [.boot, .faults] s t ∧ t.boot.ports = s.boot.ports ∧ (t.unit p u).state = .absent ∧
          (t.unit p u).wearLost = (if (s.unit p u).wearDue = true ∨ (∃ n ∈ (s.unit p u).kept.toList, n ≠ 0)
            then min 255 ((s.unit p u).wearLost + 1) else (s.unit p u).wearLost) ∧
          t.faults = (if s.portInWindow p then s.raise .jzDetachRun p else s.raise .jzDetachIdle p).faults) ∧
      ((s.unit p u).state = .held ∨ (s.unit p u).state = .identifying →
        Completes (.unitDetach p u) s fun t => Keeps [.boot] s t ∧ (t.unit p u).state = .absent)) ∧
    ((s.unit p 0).state ≠ .absent → (s.unit p 0).misses = 3 → Completes (.unitDetach p 0) s fun t =>
      (∀ u : Fin 3, (t.unit p u).state = .absent) ∧ t.boot.ports[p] = { s.boot.ports[p] with link := .idle, announces := 0, repeated := false } ∧
      (∀ q : Fin 8, q ≠ p → t.boot.ports[q] = s.boot.ports[q] ∧ ∀ v : Fin 4, t.unit q v = s.unit q v) ∧
      ∀ x : Fin 6, (x.val = p.val → ∀ l : Fin 5, t.pixels[x].lanes[l].state = .down ∧ t.pixels[x].lanes[l].pending = false) ∧
        (x.val ≠ p.val → t.pixels[x] = s.pixels[x])) ∧
    (∀ (u : Fin 3) r acked, s.windowOpen = true ∨ (s.unit p u).state ≠ .present ∨ (s.unit p u).wearDue = false →
      exec (.wearWrite p u r acked) s = .next s) ∧
    (∀ (u : Fin 3) r acked, s.windowOpen = false → (s.unit p u).state = .present → (s.unit p u).wearDue = true →
      Completes (.wearWrite p u r acked) s fun t => Keeps [.boot] s t ∧ t.boot = { s.boot with units := t.boot.units } ∧
        (∀ v : Fin 4, v.val ≠ u.val → t.unit p v = s.unit p v) ∧ (∀ q : Fin 8, q ≠ p → ∀ v : Fin 4, t.unit q v = s.unit q v) ∧
        (acked = false → t.unit p u = { s.unit p u with
          wearDue := false, frames := 0, periods := 0, kept := (t.unit p u).kept }) ∧
        (acked = true → t.unit p u = { s.unit p u with
          wearDue := false, frames := 0, periods := 0, kept := Vector.replicate 3 0, wear := (t.unit p u).wear }) ∧
        ((s.unit p u).increment r = 0 → ∀ i : Fin 3, (acked = false → (t.unit p u).kept[i] = (s.unit p u).kept[i]) ∧
          (acked = true → (t.unit p u).wear[i] = ((s.unit p u).wear[i] + (s.unit p u).kept[i]) % 4294967296))))

/-- (From R344, R349, R398, R426 to R428, R505, R525.) A warm reset of any kind keeps the Grave latch, the standing instances,
the rails, MRAM and the antifuses and resumes the boot at step 3, held there while RESET_N is low; PERST# before configuration
has opened holds only the HOST island; a power-on reset keeps MRAM and the antifuses only; a host-link reset disables every ring
and queue, keeps their records, reinitialises channels 8 to 31 and leaves the layer alone; TEST_EN driven high takes LEN low and
empties the layer engine, and nothing is specified after it but a power-on reset. That a host-link reset acts once configuration
has opened is the model's choice, log entry 67. -/
def Obligations.ResetsKeepWhatTheyKeep : Prop :=
  (∀ (c : Instr) (s : State), s.specified = false → (∀ r p t, c ≠ .powerOnReset r p t) → c ≠ .powerOnResetAssert →
    exec c s = .fault .unspecifiedAfterTestEn) ∧
  (∀ s : State, Completes .powerOnResetAssert s fun t => t.legend = State.reset.legend ∧ t.legendApplied = false ∧ t.layer = State.reset.layer ∧
    t.faults = State.reset.faults ∧ t.power = State.reset.power ∧ t.dma = State.reset.dma ∧ t.boot.aonUp = false ∧
    t.boot.ready = false ∧ t.logs = s.logs ∧ t.otp.array = s.otp.array ∧ t.survey.softMap = s.survey.softMap ∧
    t.survey.record = s.survey.record ∧ t.host.atlas.copies = s.host.atlas.copies ∧ t.boot.savedTrims = s.boot.savedTrims ∧
    t.host.linkResets = 0) ∧
  (∀ (s : State) r p e, s.aonUp = false → Completes (.powerOnReset r p e) s fun t => Keeps [.timeUs, .power, .faults, .boot, .pins] s t ∧
    t.timeUs = 0 ∧ t.pins.testEn = e ∧ t.specified = (s.specified || !e) ∧
    t.boot = { s.boot with aonUp := true, resetN := r, perstN := p, stage := if r then .otp else .aonUp, startUs := 0 } ∧
    ∀ n : Fin 32, ∀ i, currentSlot s.logs.counters[n] n = some i → t.power.counts[n] = countsOf (getN s.logs.counters[n] i []) i) ∧
  (∀ (s : State) r p e, s.specified = true → s.aonUp = true → exec (.powerOnReset r p e) s = .next s) ∧
  ∀ s : State, s.specified = true →
    (∀ p kept, s.aonUp = false → exec (.externalWarmReset p kept) s = .next s) ∧
    (∀ kept, s.boot.resetN = false → exec (.externalWarmReset false kept) s = .next s) ∧
    (∀ kept, s.aonUp = true → s.boot.resetN = true →
      Completes (.externalWarmReset false kept) s fun t => t.boot.stage = .otp ∧ t.boot.ready = false ∧ t.boot.lastReset = .resetN ∧
        t.boot.resetN = false ∧ t.boot.warmResets = min 65535 (s.boot.warmResets + 1) ∧ t.boot.startUs = s.timeUs ∧
        t.boot.dramKept = (kept && (s.boot.filled || s.boot.ready || s.boot.dramKept)) ∧
        t.host.restartKind = .perst ∧ t.host.linkResets = s.host.linkResets ∧ t.host.lq = {} ∧ t.host.mq = {} ∧ t.host.mqWaiting = [] ∧
        t.faults.grave = s.faults.grave ∧ t.faults.len = false ∧ t.faults.alive = false ∧
        t.faults.insts.map (fun i => (i.src, i.inst, i.cls, i.standing)) = s.faults.insts.map (fun i => (i.src, i.inst, i.cls, i.standing)) ∧
        t.power.rails = s.power.rails ∧ t.power.program = s.power.program ∧ t.legend = s.legend ∧ t.legendApplied = false ∧ t.layer = {} ∧
        t.dma = {} ∧ t.polygons = State.reset.polygons ∧
        ((∀ n : Fin 32, s.dma.channels[n].state ≠ .active) → t.memory = s.memory) ∧ (∀ x : Fin 6, s.pixels[x].forced = true → t.pixels[x].forced = true) ∧
        t.host.atlas.copies = s.host.atlas.copies ∧ t.survey.softMap = s.survey.softMap ∧ t.survey.record = s.survey.record ∧
        t.otp.array = s.otp.array ∧ t.logs = s.logs) ∧
    (∀ kept, s.aonUp = true → s.host.configOpen = false →
      Completes (.externalWarmReset true kept) s fun t => Keeps [.boot] s t ∧ t.boot = { s.boot with perstN := false }) ∧
    (∀ kept, s.aonUp = true → s.host.configOpen = true →
      Completes (.externalWarmReset true kept) s fun t => t.boot.lastReset = .perst ∧ t.boot.perstN = false ∧ t.boot.stage = .otp ∧
        t.host.restartKind = .perst ∧ t.faults.grave = s.faults.grave ∧ t.power.rails = s.power.rails ∧ t.layer = {} ∧ t.logs = s.logs) ∧
    (s.aonUp = false ∨ s.boot.resetN = true → exec .resetNRelease s = .next s) ∧
    (s.aonUp = true → s.boot.resetN = false →
      Completes .resetNRelease s fun t => Keeps [.boot] s t ∧
        t.boot = { s.boot with resetN := true, stage := .otp, startUs := s.timeUs }) ∧
    (∀ kept, s.boot.ready = false ∨ s.elapsed s.faults.beatUs (1000 * s.legend.faults.wdogTimeout) = false →
      exec (.watchdogReset kept) s = .next s) ∧
    (∀ kept, s.boot.ready = true → s.elapsed s.faults.beatUs (1000 * s.legend.faults.wdogTimeout) = true →
      Completes (.watchdogReset kept) s fun t => t.boot.lastReset = .watchdog ∧ t.host.restartKind = .watchdog ∧ t.boot.stage = .otp ∧
        t.boot.ready = false ∧ t.faults.grave = s.faults.grave ∧ t.power.rails = s.power.rails ∧ t.layer = {} ∧ t.dma = {} ∧
        t.host.atlas.copies = s.host.atlas.copies ∧ t.logs = s.logs) ∧
    (Completes .testEnAssert s fun t => t.specified = false ∧ t.pins.testEn = true ∧ t.faults.len = false ∧ t.faults.grave = s.faults.grave ∧
      t.layer = {} ∧ t.dma = {} ∧ t.power.rails = s.power.rails ∧ t.memory = s.memory ∧ t.logs = s.logs) ∧
    (∀ v w, s.host.configOpen = false → exec (.hostLinkReset v w) s = .next s) ∧
    (∀ v w, s.host.configOpen = true →
      Completes (.hostLinkReset v w) s fun t => Keeps [.free, .faults, .host, .dma, .telemetry, .memory] s t ∧ t.host.lq = {} ∧ t.host.mq = {} ∧
        t.host.mqWaiting = s.host.mqWaiting ∧ t.host.linkResets = min 65535 (s.host.linkResets + 1) ∧ t.host.linkSpeed = v ∧ t.host.linkWidth = w ∧
        t.host.eventsLost = 0 ∧ t.host.win = 0 ∧ t.host.holding = [] ∧
        (s.faults.queue.length < 64 → ∃ e ∈ t.faults.queue, e.src = Source.hostLinkReset.number) ∧
        (∀ n : Fin 14, t.host.cqs[n].enable = false ∧ t.host.cqs[n].irqEnable = false ∧
          s.host.cqs[n].waiting <+: t.host.cqs[n].waiting) ∧
        (∀ n : Fin 32, n.val < 8 → t.dma.channels[n] = s.dma.channels[n]) ∧
        ∀ n : Fin 32, 8 ≤ n.val → t.dma.channels[n] = {})

/-! One-time-programmable memory. -/

/-- (From R458, R463 to R466, R470 to R477.) Sensing fills the shadows from the nominal pass, marks the words that differ
between the margins and those that are uncorrectable; the alarm stands for its causes; the boot goes on, or halts at HALT_OTP
under the policy HALT. A command runs when its checks hold, and otherwise reports the first that fails and changes nothing else;
PROGRAM sets the bits asked for in the one word; a failed operation raises OTP.PROGRAM_FAIL; LOCK locks whatever its check
finds; ADVANCE writes the next word where its prerequisites hold; VERIFY_REGION changes no shadow and no mark. The code of the
check bits is an opaque function, log entry 23. -/
def Obligations.OtpIsSensedAndProgrammed : Prop :=
  (∀ (s : State) temp flips, s.specified = true →
    (s.aonUp = false ∨ s.boot.stage ≠ .otp ∨ s.boot.resetN = false ∨ s.pins.testEn = true → exec (.bootOtpSense temp flips) s = .next s) ∧
    (s.aonUp = true → s.boot.stage = .otp → s.boot.resetN = true → s.pins.testEn = false →
      Completes (.bootOtpSense temp flips) s fun t => Keeps [.scan, .faults, .boot, .otp] s t ∧ t.otp.array = s.otp.array ∧
        t.otp.senseTemp = temp ∧
        (∀ a : Fin 1024, t.otp.shadows[a] = (secDed (s.otp.nominal flips a)).value ∧ t.otp.marginal[a] = wordMarginal flips a ∧
          (t.otp.uncorr[a] = true ↔ secDed (s.otp.nominal flips a) = .uncorrectable)) ∧
        (t.otp.countMarginal = 0 ↔ ∀ a : Fin 1024, t.otp.marginal[a] = false) ∧
        (t.otp.countUncorr = 0 ↔ ∀ a : Fin 1024, t.otp.uncorr[a] = false) ∧
        (t.otp.alarm = true ↔ (∃ a : Fin 1024, t.otp.marginal[a] = true) ∨ (∃ a : Fin 1024, t.otp.uncorr[a] = true) ∨
          (∃ r : Fin 6, t.otp.lockCode r ≠ 0 ∧ t.otp.regionOk[r] = false) ∨ t.otp.lifeCycle = .invalid ∨ ∃ r : Fin 6, t.otp.lockCode r = 2) ∧
        (∀ r : Fin 6, t.otp.regionOk[r] = true ↔
          (getN t.otp.shadows (rchkWord r) 0).toNat = regionCrc r fun a => getN t.otp.shadows a 0) ∧
        t.boot.otpAlarm = t.otp.alarm ∧ t.otp.policy = t.otp.policyNow ∧
        (t.otp.customerIgnored = true ↔ t.otp.alarm = true ∧ t.otp.policyNow = 1) ∧
        t.boot.stage = (if t.otp.alarm = true ∧ t.otp.policyNow = 2 then .haltOtp else .legend) ∧
        t.scan.sysLocked = true ∧ t.scan.ctlLocked = true ∧ t.boot.vendorId = t.otp.shadows[0].toNat % 65536 ∧
        t.boot.deviceId = t.otp.shadows[0].toNat / 65536 ∧
        t.boot.serial = t.otp.shadows[1].toNat + 4294967296 * t.otp.shadows[2].toNat ∧
        ((∀ a : Fin 1024, secDed (s.otp.nominal flips a) = .clean (rawWord (s.otp.nominal flips a)).data) → t.otp.alarm = false →
          t.faults = s.faults))) ∧
  (∀ s : State, s.specified = true →
    (s.barOpen = false → ∀ key, (∀ p, exec (.otpProgram key p) s = .next s ∧ exec (.otpAdvance key p) s = .next s ∧
      ∀ r f, exec (.otpLock key r f p) s = .next s) ∧ ∀ r f, exec (.verifyRegion key r f) s = .next s) ∧
    (s.barOpen = true → ∀ (key : BitVec 16),
      (∀ st, s.regionRefusal key.toNat (otpRegionOf s.otp.addr) = some st → ∀ p, Completes (.otpProgram key p) s fun t =>
        Keeps [.faults, .otp] s t ∧ t.faults = s.faults ∧ t.otp = if st = .busy then { s.otp with busySeen := true } else
          { s.otp with status := st, busySeen := false, checkOk := false, foundMarginal := false, word := 0 }) ∧
      (∀ (r : Fin 8) st, s.regionRefusal key.toNat r = some st → ∀ f p, Completes (.otpLock key r f p) s fun t =>
        Keeps [.faults, .otp] s t ∧ t.faults = s.faults ∧ t.otp = if st = .busy then { s.otp with busySeen := true } else
          { s.otp with status := st, busySeen := false, checkOk := false, foundMarginal := false, word := 0 }) ∧
      (∀ (r : Fin 8) st, s.otpRefusal key.toNat (decide (r.val < 6)) = some st → ∀ f, Completes (.verifyRegion key r f) s fun t =>
        Keeps [.otp] s t ∧ t.otp = if st = .busy then { s.otp with busySeen := true } else
          { s.otp with status := st, busySeen := false, checkOk := false, foundMarginal := false, word := 0 }) ∧
      (∀ b, s.otpRefusal key.toNat b = if key.toNat ≠ 0x4F54 then some .key else if s.timeUs < s.otp.busyUntil then some .busy
        else if (∃ j ∈ s.layer.jobs, j.past = true) ∨ s.thermal.band ≠ .normal ∨ s.power.ownOk[4] = false then some .condition
        else if b = false then some .range else none) ∧
      (∀ r, s.otpRefusal key.toNat (decide (r < 6)) = none → s.regionRefusal key.toNat r =
        if lifePermits s.otp.lifeCycle r = false then some .state else if s.otp.lockCode r ≠ 0 then some .locked else none) ∧
      (s.regionRefusal key.toNat (otpRegionOf s.otp.addr) = none →
        (getN s.otp.array s.otp.addr {}).raw ≠ 0 → (getN s.otp.array s.otp.addr {}).raw ≠ patternRaw s.otp.data →
        ∀ p, Completes (.otpProgram key p) s fun t => Keeps [.otp] s t ∧ t.otp.array = s.otp.array ∧ t.otp.shadows = s.otp.shadows ∧
          t.otp.status = .notBlank) ∧
      (s.regionRefusal key.toNat (otpRegionOf s.otp.addr) = none →
        (getN s.otp.array s.otp.addr {}).raw = 0 ∨ (getN s.otp.array s.otp.addr {}).raw = patternRaw s.otp.data →
        (∀ n, Completes (.otpProgram key (.formed n)) s fun t => Keeps [.otp] s t ∧ t.otp.status = .ok ∧ t.otp.pulses = n.val + 1 ∧
          t.otp.busyUntil = s.timeUs + 10 * (n.val + 1) ∧ ∀ a : Fin 1024,
            (t.otp.array[a] = if a.val = s.otp.addr then { data := s.otp.data, check := otpCheck s.otp.data } else s.otp.array[a]) ∧
            t.otp.shadows[a] = if a.val = s.otp.addr then s.otp.data else s.otp.shadows[a]) ∧
        (∀ b m, Completes (.otpProgram key (.failed b m)) s fun t => Keeps [.faults, .otp] s t ∧ t.otp.status = .verifyFail ∧
          t.otp.pulses = 8 ∧ t.faults = (s.raise .otpProgramFail (otpRegionOf s.otp.addr)).faults ∧
          ∀ a : Fin 1024, (a.val ≠ s.otp.addr → t.otp.array[a] = s.otp.array[a] ∧ t.otp.shadows[a] = s.otp.shadows[a]) ∧
            (a.val = s.otp.addr → t.otp.array[a].raw = (s.otp.array[a].raw ||| (patternRaw s.otp.data &&& b)))) ∧
        (∀ b, Completes (.otpProgram key (.cut b)) s fun t => Keeps [.otp] s t ∧ t.otp.shadows = s.otp.shadows ∧
          ∀ a : Fin 1024, (a.val ≠ s.otp.addr → t.otp.array[a] = s.otp.array[a]) ∧
            (a.val = s.otp.addr → t.otp.array[a].raw = (s.otp.array[a].raw ||| (patternRaw s.otp.data &&& b))))) ∧
      (∀ (r : Fin 8) f n, s.regionRefusal key.toNat r = none → (getN s.otp.array (0x254 + r.val) {}).raw = 0 →
        Completes (.otpLock key r f (.formed n)) s fun t => Keeps [.otp] s t ∧ t.otp.lockCode r = 1 ∧ t.otp.status = .ok ∧
          (t.otp.checkOk = true ↔ (∀ a ∈ regionWords r.val, wordMarginal f a = false) ∧
            ((secDed (s.otp.nominal f (rchkWord r.val))).value).toNat = regionCrc r.val fun a => (secDed (s.otp.nominal f a)).value) ∧
          ∀ a, (getN t.otp.array a {}).data = (if a = 0x254 + r.val then lockPattern r.val else (getN s.otp.array a {}).data) ∧
            (a ≠ 0x254 + r.val → getN t.otp.shadows a 0 = getN s.otp.shadows a 0)) ∧
      (∀ (r : Fin 8) f, s.otpRefusal key.toNat (decide (r.val < 6)) = none → Completes (.verifyRegion key r f) s fun t => Keeps [.otp] s t ∧
        t.otp = { s.otp with
          status := .ok, busySeen := false, checkOk := t.otp.checkOk, foundMarginal := t.otp.foundMarginal, word := t.otp.word } ∧
        (t.otp.foundMarginal = true ↔ ∃ a ∈ regionWords r.val, wordMarginal f a = true) ∧
        (t.otp.checkOk = false → t.otp.word = ((regionWords r.val).find? fun a => wordMarginal f a).getD (rchkWord r.val)) ∧
        (t.otp.checkOk = true ↔ (∀ a ∈ regionWords r.val, wordMarginal f a = false) ∧
          ((secDed (s.otp.nominal f (rchkWord r.val))).value).toNat = regionCrc r.val fun a => (secDed (s.otp.nominal f a)).value)) ∧
      (∀ st, s.otpRefusal key.toNat true = some st → ∀ p, Completes (.otpAdvance key p) s fun t =>
        Keeps [.otp] s t ∧ t.otp = if st = .busy then { s.otp with busySeen := true } else
          { s.otp with status := st, busySeen := false, checkOk := false, foundMarginal := false, word := 0 }) ∧
      (s.otpRefusal key.toNat true = none →
        (∀ p, s.otp.lifeCycle = .retired ∨ s.otp.lifeCycle = .invalid → Completes (.otpAdvance key p) s fun t =>
          Keeps [.otp] s t ∧ t.otp.array = s.otp.array ∧ t.otp.shadows = s.otp.shadows ∧ t.otp.status = .state) ∧
        (∀ p, (s.otp.lifeCycle = .vendorTest ∧ ∃ r : Fin 4, s.otp.lockCode r = 0) ∨ (s.otp.lifeCycle = .provision ∧ s.otp.lockCode 4 = 0) →
          Completes (.otpAdvance key p) s fun t => Keeps [.otp] s t ∧ t.otp.array = s.otp.array ∧ t.otp.shadows = s.otp.shadows ∧
            t.otp.status = .prereq) ∧
        (∀ (k : Fin 4) n, (k.val = 0 ∧ s.otp.lifeCycle = .blank) ∨
          (k.val = 1 ∧ s.otp.lifeCycle = .vendorTest ∧ ∀ r : Fin 4, s.otp.lockCode r ≠ 0) ∨
          (k.val = 2 ∧ s.otp.lifeCycle = .provision ∧ s.otp.lockCode 4 ≠ 0) ∨ (k.val = 3 ∧ s.otp.lifeCycle = .deployed) →
          (getN s.otp.array (0x250 + k.val) {}).raw = 0 →
          Completes (.otpAdvance key (.formed n)) s fun t => Keeps [.otp] s t ∧ t.otp.status = .ok ∧
            (∀ a, (getN t.otp.array a {}).data = if a = 0x250 + k.val then lifePattern k.val else (getN s.otp.array a {}).data) ∧
            t.otp.lifeCycle = if k.val = 0 then .vendorTest else if k.val = 1 then .provision else if k.val = 2 then .deployed else .retired))))

/-! Ageing and spares. -/

/-- (From R481 to R486, R489 to R492.) A survey takes its readings and re-plans; the request rises by VSTEP for want of slack,
goes to VCORE_MAX when a canary fails with SURVEY.SLACK_FAIL raised, falls by 10 mV after three surveys with margin, uncapped
and cool, and never leaves its range; a pixel island's cap moves by one step; a rise of read assist is at once; SURVEY_INTERVAL
after the last one's end another is due; a row is marked at CORR_LIMIT corrections or for an uncorrectable read, the column at
three rows; a marked one takes the lowest free spare with a soft-map record, or stays with SPARE.SRAM_EXHAUSTED raised; LE4
takes over a halted engine; a parity error of a station engine raises SE_x.PARITY and marks it for SE-S while that is free, else
the station never locks again. -/
def Obligations.AgeingIsMeasuredAndSpared : Prop :=
  ((∀ (g : LegSurvey) (v : Survey) cool req, g.vcoreMin ≤ req → req ≤ g.vcoreMax → g.vcoreMin ≤ replan g v cool req ∧ replan g v cool req ≤ g.vcoreMax ∧
    ((∃ k : Fin 24, v.canaries[k].fail = true) → replan g v cool req = g.vcoreMax) ∧
    ((∀ k : Fin 24, v.canaries[k].fail = false) →
      (v.worst.1 < g.slackMin → replan g v cool req = min (req + g.vstep) g.vcoreMax) ∧
      (g.slackMin ≤ v.worst.1 → v.highRuns = 3 → cool = true → (∀ i : Fin 14, v.islands[i].cap = 375000000) →
        replan g v cool req = max (req - 10) g.vcoreMin) ∧
      (g.slackMin ≤ v.worst.1 → v.highRuns ≠ 3 ∨ cool = false ∨ (∃ i : Fin 14, v.islands[i].cap ≠ 375000000) →
        replan g v cool req = req))) ∧
  (∀ (g : LegSurvey) (m : IslandMargin),
    (m.slackPs < g.slackMin → (m.recap g false).cap = m.cap ∧ (m.recap g true).cap = max 150000000 (m.cap - 5859375)) ∧
    (∀ b, g.slackMin + g.slackBand ≤ m.slackPs → 2 ≤ m.highRuns → (m.recap g b).cap = min 375000000 (m.cap + 5859375)) ∧
    (∀ b, g.slackMin ≤ m.slackPs → m.highRuns < 2 ∨ m.slackPs < g.slackMin + g.slackBand → (m.recap g b).cap = m.cap)) ∧
  (∀ (a : SramArray) (t1 t2 t3 d : Int), t1 < t2 → t2 < t3 →
    (t1 ≤ d → 1 ≤ (a.assistAt [t1, t2, t3] d).assist) ∧ (t2 ≤ d → 2 ≤ (a.assistAt [t1, t2, t3] d).assist) ∧
    (t3 ≤ d → (a.assistAt [t1, t2, t3] d).assist = 3) ∧
    ((∀ i : Fin 3, a.assistRuns[i] < 2) → a.assist ≤ 3 → a.assist ≤ (a.assistAt [t1, t2, t3] d).assist) ∧
    ((∀ i : Fin 3, 2 ≤ a.assistRuns[i]) → d < t1 - 10 → (a.assistAt [t1, t2, t3] d).assist = 0)) ∧
  (∀ (s : State) (r : SurveyReading), ∃ t, t = s.runSurvey r ∧ t.survey.state = .idle ∧ t.survey.firstDone = true ∧ t.survey.lastUs = s.timeUs ∧
    t.survey.surveys = min 65535 (s.survey.surveys + 1) ∧ t.survey.planned = t.power.voutTarget ∧
    (s.power.frozen = true → t.power.voutTarget = s.power.voutTarget) ∧
    (s.power.frozen = false → (∃ k : Fin 24, r.slack[k] = none) → t.power.voutTarget = s.legend.survey.vcoreMax) ∧
    (s.faults.queue.length < 16 → (∃ k : Fin 24, r.slack[k] = none) → ∃ e ∈ t.faults.queue, e.src = Source.surveySlackFail.number) ∧
    (∀ k : Fin 24, (r.slack[k] = none → t.survey.canaries[k] = { slack := 0, fail := true }) ∧
      ∀ n, r.slack[k] = some n → t.survey.canaries[k] = { slack := min n 63, fail := false }) ∧
    (∀ k : Fin 48, (s.survey.ros[k].excluded = true → t.survey.ros[k] = s.survey.ros[k]) ∧
      (s.survey.ros[k].excluded = false → t.survey.ros[k].degrade = r.degrade[k] ∧ t.survey.ros[k].excluded = !r.inRange[k])) ∧
    (∀ i : Fin 14, i.val < 7 ∨ i.val = 13 → t.survey.islands[i].cap = s.survey.islands[i].cap) ∧
    (∀ x : Fin 6, t.power.voutTarget ≠ s.power.voutTarget ∨
      (getN t.survey.islands (7 + x.val) {}).cap ≠ (getN s.survey.islands (7 + x.val) {}).cap → t.scan.stations[x].calDue = true) ∧
    (t.survey.ks ≠ s.survey.ks → t.survey.capDue = true)) ∧
  ∀ s : State, s.specified = true →
    (s.boot.ready = false ∨ s.survey.state ≠ .idle ∨ s.elapsed s.survey.lastUs (60000000 * s.legend.survey.interval) = false →
      exec .surveyIntervalExpiry s = .next s) ∧
    (s.boot.ready = true → s.survey.state = .idle → s.elapsed s.survey.lastUs (60000000 * s.legend.survey.interval) = true →
      Completes .surveyIntervalExpiry s fun t => Keeps [.survey] s t ∧ t.survey = { s.survey with state := .due })) ∧
  ((∀ (s : State) (col : Bool) (a : Fin 128) (n : Nat),
    (∀ k, s.survey.arrays[a].freeSpare col = some k → s.survey.softMap.length < 1024 →
      (s.repair col (a.val, n)).survey.softMap = s.survey.softMap ++ [{ seq := s.survey.nextSoft, entry := repairEntry col a n k }] ∧
      (∀ b : Fin 128, (s.repair col (a.val, n)).survey.arrays[b] = if b = a then s.survey.arrays[b].useSpare col k else s.survey.arrays[b]) ∧
      (s.repair col (a.val, n)).faults = (s.raise .spareSramUsed 0).faults) ∧
    (s.survey.arrays[a].freeSpare col = none ∨ 1024 ≤ s.survey.softMap.length →
      (s.repair col (a.val, n)).survey.softMap = s.survey.softMap ∧ (s.repair col (a.val, n)).survey.arrays = s.survey.arrays ∧
      (s.repair col (a.val, n)).faults = (s.raise .spareSramExhausted 0).faults)) ∧
  (∀ s : State, (s.survey.lePending = none → s.takeOverEngine = s) ∧ ∀ e : Fin 4, s.survey.lePending = some e.val →
    s.takeOverEngine.loops.engines[4].state = .run ∧ s.takeOverEngine.loops.engines[4].serves = e.val ∧
    s.takeOverEngine.survey.lePending = none ∧ s.takeOverEngine.survey.record = { s.survey.record with le4 := some e.val } ∧
    s.takeOverEngine.faults = (s.raise .spareLeUsed 0).faults) ∧
  (∀ s : State, (s.survey.sePending = none → s.takeOverStation = s) ∧ ∀ x : Fin 6, s.survey.sePending = some x.val →
    s.takeOverStation.survey.ses = some x.val ∧ s.takeOverStation.survey.sePending = none ∧
    s.takeOverStation.survey.record = { s.survey.record with ses := some x.val } ∧
    s.takeOverStation.faults = (s.raise .spareSeUsed 0).faults ∧
    (s.scan.stations[x].state ≠ .stopped → s.takeOverStation.scan.stations[x].state = .free) ∧
    ∀ y : Fin 6, y ≠ x → s.takeOverStation.scan.stations[y] = s.scan.stations[y]) ∧
  ∀ s : State, s.specified = true →
    (s.islandsUp = false → (∀ a r c u, exec (.rsCorrectionMark a r c u) s = .next s) ∧ ∀ x, exec (.seParity x) s = .next s) ∧
    (s.islandsUp = true → ∀ (a : Fin 128) (r : Fin 2048) (c : Fin 256),
      (Completes (.rsCorrectionMark a r c true) s fun t => Keeps [.survey] s t ∧
        t.survey = { s.survey with rowMarks := addMark (a.val, r.val) s.survey.rowMarks }) ∧
      (∀ cs, cs = ({ array := a.val, row := r.val, col := c.val, timeUs := s.timeUs } : Correction) ::
          s.survey.corrections.filter (fun k => decide (s.timeUs < k.timeUs + 3600000000 * s.legend.survey.corrWindow)) →
        Completes (.rsCorrectionMark a r c false) s fun t => Keeps [.survey] s t ∧ t.survey.corrections = cs ∧
          (∀ b : Fin 128, t.survey.arrays[b] = if b = a then
            { s.survey.arrays[b] with corrected := min 65535 (s.survey.arrays[b].corrected + 1) } else s.survey.arrays[b]) ∧
          (3 ≤ (columnRows cs a c).length → t.survey.rowMarks = s.survey.rowMarks ∧
            t.survey.colMarks = addMark (a.val, c.val) s.survey.colMarks) ∧
          ((columnRows cs a c).length < 3 → t.survey.colMarks = s.survey.colMarks ∧
            t.survey.rowMarks = if s.legend.survey.corrLimit ≤ (cs.filter fun k => k.array == a.val && k.row == r.val).length
              then addMark (a.val, r.val) s.survey.rowMarks else s.survey.rowMarks))) ∧
    (s.islandsUp = true → ∀ x : Fin 6,
      (s.legend.survey.seSpare = false → Completes (.seParity x) s fun t => Keeps [.faults] s t ∧ t.faults = (s.raise .seParity x).faults) ∧
      (s.legend.survey.seSpare = true → (s.survey.ses = none ∧ s.survey.sePending = none) ∨ s.survey.sePending = some x.val →
        Completes (.seParity x) s fun t => Keeps [.faults, .survey] s t ∧ t.survey = { s.survey with sePending := some x.val } ∧
          t.faults = (s.raise .seParity x).faults) ∧
      (s.legend.survey.seSpare = true → (s.survey.ses ≠ none ∨ s.survey.sePending ≠ none) → s.survey.sePending ≠ some x.val →
        Completes (.seParity x) s fun t => Keeps [.scan, .faults, .survey] s t ∧ t.survey.sePending = s.survey.sePending ∧
          t.faults = ((s.raise .seParity x).raise .spareExhausted 0).faults ∧
          t.scan.stations[x] = { s.scan.stations[x] with
            failed := true, state := if s.scan.stations[x].state = .locked then .acquire else s.scan.stations[x].state } ∧
          ∀ y : Fin 6, y ≠ x → t.scan.stations[y] = s.scan.stations[y])))

/-! The block as a whole. -/

/-- The block's step (log entry 1): with a command at the front of the queue, the step is that command's effect on the state
with the queue's rest. -/
def Obligations.StepRunsTheFrontCommand : Prop :=
  ∀ (s : State) (c : Instr) (rest : List Instr), s.pending = c :: rest → step s = exec c { s with pending := rest }

/-- The model's own choices (log entries 1 and 2): on an empty queue one microsecond passes and nothing else changes; the table
gives no row any bits, so no word spells a command and withFetchWord changes nothing. -/
def Obligations.EmptyQueueIdlesAndNoWordSpells : Prop :=
  (∀ s : State, s.pending = [] → step s = .next { s with timeUs := s.timeUs + 1 }) ∧
  ∀ (s : State) (nbits w : Nat), decodeTableWord nbits w = none ∧ s.withFetchWord nbits w = s

/-- Reset values that the register tables give (R51, R81, R117, R150, R182, R208, R240, R270, R286, R319, R347, R379, R405,
R425, R457, R479, R498): after reset the queue is empty and every register whose table gives a value other than 0 reads it: the
lane map, the gated pixel clocks, the free spares, the belt forward, the loop engines serving none, the steppers off and
uncertain, the thermal block, the input's qualification, the Uliber lines, the fault block, the completion queues, the codec
stream, the survey caps; the other registers of those groups read 0. That the queue is empty is the model's, log entry 4. -/
def Obligations.ResetLeavesTheTablesValues : Prop :=
  State.reset.pending = [] ∧ State.reset.boot.ready = false ∧ State.reset.faults.grave = false ∧ State.reset.faults.len = false ∧
  State.reset.layer.jobs = [] ∧ State.reset.reg 0x00000 = 0 ∧ State.reset.reg 0x00004 = 1 ∧
  (∀ n : Fin 14, State.reset.reg (0x11000 + 0x20 * n.val) = 0 ∧ State.reset.reg (0x11008 + 0x20 * n.val) = (if n.val = 0 then 2 else 0) ∧
    State.reset.reg (0x1100C + 0x20 * n.val) = 0 ∧ State.reset.reg (0x11010 + 0x20 * n.val) = 0x1000) ∧
  State.reset.reg 0x20004 = 0 ∧ State.reset.reg 0x20008 = 0 ∧
  (∀ n : Fin 32, State.reset.reg (0x20100 + 0x40 * n.val) = 0 ∧ State.reset.reg (0x20104 + 0x40 * n.val) = 0) ∧
  (∀ x : Fin 6, State.reset.reg (0x40000 + 0x1000 * x.val) = 0 ∧ State.reset.reg (0x40004 + 0x1000 * x.val) = 0 ∧
    State.reset.reg (0x4000C + 0x1000 * x.val) = 0x1688 ∧ State.reset.reg (0x50100 + 0x100 * x.val) = 0x40) ∧
  State.reset.reg 0x50000 = 0x200 ∧ State.reset.reg 0x60000 = 0 ∧ State.reset.reg 0x6000C = 1 ∧
  (∀ n : Fin 5, State.reset.reg (0x61000 + 4 * n.val) = 0x1C) ∧
  (∀ k : Fin 18, State.reset.reg (0x61100 + 0x10 * k.val) = 0) ∧
  (∀ n : Fin 10, State.reset.reg (0x62900 + 0x10 * n.val) = 7) ∧
  State.reset.reg 0x70010 = 0x00320000 ∧ State.reset.reg 0x70600 = 0x600 ∧ State.reset.reg 0x70800 = 0x000FFF01 ∧
  State.reset.reg 0x7080C = 0xFFFF ∧ State.reset.reg 0x70810 = 0x4040 ∧
  (∀ n : Fin 12, State.reset.reg (0x70840 + 4 * n.val) = 0x10000) ∧ (∀ n : Fin 8, State.reset.reg (0x708C0 + 4 * n.val) = 0xFFFF) ∧
  State.reset.reg 0x80000 = 0x20 ∧ State.reset.reg 0x8000C = 0x200 ∧ State.reset.reg 0x80010 = 4 ∧
  State.reset.reg 0x90000 = 0x1F ∧ (∀ n : Fin 16, State.reset.reg (0x90104 + 0x40 * n.val) = if n.val < 12 then 0 else 8) ∧
  (∀ i : Fin 14, State.reset.reg (0xB0040 + 4 * i.val) = 0x177) ∧ State.reset.reg 0xB0400 = 0x000FFFFF ∧ State.reset.reg 0xB0404 = 0x01002000

/-- (From R10, R11, R14.) The read of a low half keeps a copy of the high half, whatever its byte enables; no read or write of
another register disturbs it, and the next read of that high half returns the enabled bytes of the copy and uses it up; a read
with no copy kept returns the enabled bytes of the register; the range 0xC_0000 to 0xF_FFFF reads 0 and ignores writes. That
each pair has its own holding register is the model's choice, log entry 68. -/
def Obligations.HalvesReadConsistently : Prop :=
  (∀ (s t : State) (lo hi : Fin 262144) (be : BitVec 4), lowHalf (4 * lo.val) = true → hi.val = lo.val + 1 → s.specified = true →
    s.barOpen = true → exec (.lowHalfRead lo be) s = .next t →
    t.host.held (4 * hi.val) = some (BitVec.ofNat 32 (s.reg (4 * lo.val + 4))) ∧
    ∀ w : Fin 262144, w ≠ lo → w ≠ hi → t.host.held (4 * w.val) = s.host.held (4 * w.val)) ∧
  (∀ (s : State) (hi : Fin 262144) (be : BitVec 4) (v : BitVec 32), s.specified = true → s.barOpen = true → lowHalf (4 * hi.val) = false →
    s.host.held (4 * hi.val) = some v → Completes (.lowHalfRead hi be) s fun t => Keeps [.host] s t ∧
      t.host.held (4 * hi.val) = none ∧ (∀ w : Fin 262144, w ≠ hi → t.host.held (4 * w.val) = s.host.held (4 * w.val)) ∧
      ∃ r, t.host.lastReply = some r ∧ ∀ i : Fin 32, r.getLsbD i.val = (v.getLsbD i.val && be.getLsbD (i.val / 8))) ∧
  (∀ (s : State) (w : Fin 262144) (be : BitVec 4), s.specified = true → s.barOpen = true → s.host.held (4 * w.val) = none →
    Completes (.lowHalfRead w be) s fun t => Keeps [.host] s t ∧ ∃ r, t.host.lastReply = some r ∧
      ∀ i : Fin 32, r.getLsbD i.val = ((s.reg (4 * w.val)).testBit i.val && be.getLsbD (i.val / 8))) ∧
  (∀ (s : State) (w : Fin 262144) (be : BitVec 4), s.specified = true → s.barOpen = false → exec (.lowHalfRead w be) s = .next s) ∧
  ∀ (s : State) (w : Fin 262144), s.specified = true → s.barOpen = true → 0xC0000 ≤ 4 * w.val →
    (∀ v : BitVec 32, exec (.registerWrite w v) s = .next s) ∧ s.reg (4 * w.val) = 0

/-- The queue belongs to the sender: no command changes what waits behind it; time is set back only by a power-on reset; and
every command keeps its frame: the parts of the state that it may change are listed for it, and no other part differs. -/
def Obligations.CommandsLeaveTheQueueAlone : Prop :=
  ∀ (c : Instr) (s t : State), exec c s = .next t → t.pending = s.pending ∧ Keeps (changes c) s t ∧
    (t.timeUs = s.timeUs ∨ (t.timeUs = 0 ∧ (c = .powerOnResetAssert ∨ ∃ r p e, c = .powerOnReset r p e)))

/-- (From R6, R439.) The legend changes only where a boot applies a copy that passes, or where a power-on reset drops it; no
other command, the host's among them, changes a value of it. -/
def Obligations.LegendIsFixedBetweenStarts : Prop :=
  ∀ (c : Instr) (s t : State), exec c s = .next t → t.legend ≠ s.legend →
    (c = .powerOnResetAssert ∧ t.legend = State.reset.legend) ∨
    ∃ q d f a b, c = .bootLegend q d f a b ∧ ((checkCopy s.otp a).result = .ok ∧ t.legend = copyLegend a ∨
      (checkCopy s.otp b).result = .ok ∧ t.legend = copyLegend b)

/-- Every step keeps the canonical form of DRAM and image SRAM: addresses strictly rising, no entry equal to what an unlisted
address reads as. The canonical form is the model's, log entry 6. -/
def Obligations.StepsKeepMemoryCanonical : Prop :=
  ∀ s t : State, s.memory.wf = true → step s = .next t → t.memory.wf = true

/-- The invariants of the model hold after reset: memory lists nothing, and the device is specified. What memory and the
antifuses hold at first use is the model's choice, log entries 6 and 16. -/
def Obligations.InvariantsHoldAtReset : Prop :=
  State.reset.memory.wf = true ∧ State.reset.memory.dram.cells = [] ∧ State.reset.memory.sram.cells = [] ∧ State.reset.specified = true ∧
  ∀ a : Fin 1024, State.reset.otp.array[a].raw = 0

/-- (From R458, R465, R477.) No step clears a bit of the antifuse array; but for sensing and a reset, nothing changes a shadow
or a mark, except that PROGRAM, LOCK and ADVANCE change the shadow of the one word that they program. -/
def Obligations.FusesOnlySetAndShadowsStand : Prop :=
  (∀ s t : State, step s = .next t → ∀ a : Fin 1024, s.otp.array[a].raw &&& t.otp.array[a].raw = s.otp.array[a].raw) ∧
  ∀ (c : Instr) (s t : State), exec c s = .next t → mayReset c = false → (∀ x f, c ≠ .bootOtpSense x f) →
    t.otp.marginal = s.otp.marginal ∧ t.otp.uncorr = s.otp.uncorr ∧
    ((∀ k p, c ≠ .otpProgram k p) → (∀ k r f p, c ≠ .otpLock k r f p) → (∀ k p, c ≠ .otpAdvance k p) → t.otp.shadows = s.otp.shadows) ∧
    (∀ k p, c = .otpProgram k p → ∀ a : Fin 1024, a.val ≠ s.otp.addr → t.otp.shadows[a] = s.otp.shadows[a]) ∧
    (∀ k r f p, c = .otpLock k r f p → ∀ a : Fin 1024, a.val ≠ 0x254 + r.val → t.otp.shadows[a] = s.otp.shadows[a]) ∧
    (∀ k p, c = .otpAdvance k p → ∀ a : Fin 1024, a.val < 0x250 ∨ 0x253 < a.val → t.otp.shadows[a] = s.otp.shadows[a])
end

