-- ==== Sys2Proof/Laws/Memory.lean ====
section
/-! SUPPORT. DRAM and image SRAM: every operation keeps the canonical form; a read after a write. -/

namespace Sys2Proof.Machine

open Sys2Proof

/-- The canonical form of one memory. -/
abbrev Ram.wf (r : Ram) : Bool := cellsWf 0 r.cells

theorem cellsWf_mono {lo hi : Nat} {m : List Host.Cell} (h : cellsWf hi m = true) (hl : lo ≤ hi) : cellsWf lo m = true := by
  cases m with
  | nil => rfl
  | cons c rest =>
    obtain ⟨k, v⟩ := c
    simp only [cellsWf, Bool.and_eq_true, decide_eq_true_eq] at h ⊢
    exact ⟨⟨Nat.le_trans hl h.1.1, h.1.2⟩, h.2⟩

theorem cellsWrite_wf {lo : Nat} {m : List Host.Cell} (a : Nat) (b : Byte) (h : cellsWf lo m = true) (ha : lo ≤ a) :
    cellsWf lo (cellsWrite m a b) = true := by
  induction m generalizing lo with
  | nil =>
    unfold cellsWrite
    split
    · rfl
    · simp_all [cellsWf]
  | cons c rest ih =>
    obtain ⟨k, v⟩ := c
    simp only [cellsWf, Bool.and_eq_true, decide_eq_true_eq] at h
    obtain ⟨⟨h1, h2⟩, h3⟩ := h
    unfold cellsWrite
    split
    · split
      · simp_all [cellsWf]
      · simp_all [cellsWf] <;> omega
    · split
      · rename_i e
        subst e
        split
        · exact cellsWf_mono h3 (by omega)
        · simp_all [cellsWf]
      · simp only [cellsWf, Bool.and_eq_true, decide_eq_true_eq]
        exact ⟨⟨h1, h2⟩, ih h3 (by omega)⟩

theorem cellsStore_wf {m : List Host.Cell} (a : Nat) (bs : List Byte) (h : cellsWf 0 m = true) : cellsWf 0 (cellsStore m a bs) = true := by
  induction bs generalizing m a with
  | nil => exact h
  | cons b bs ih => exact ih _ (cellsWrite_wf _ _ h (Nat.zero_le _))

theorem writeCw_wf {r : Ram} (a : Nat) (bs : List Byte) (h : r.wf = true) : (r.writeCw a bs).1.wf = true := by
  unfold Ram.writeCw
  split
  · exact cellsStore_wf _ _ h
  · split
    · exact h
    · exact cellsStore_wf _ _ h

theorem writeGo_wf (k a : Nat) (bs : List Byte) (e : Option Nat) {r : Ram} (h : r.wf = true) : (Ram.writeGo k a bs e r).1.wf = true := by
  induction k generalizing a bs e r with
  | zero => exact h
  | succ k ih =>
    unfold Ram.writeGo
    split
    · exact h
    · exact ih _ _ _ (writeCw_wf _ _ h)

/-- A write of any length keeps the canonical form. -/
theorem write_wf {r : Ram} (a : Nat) (bs : List Byte) (h : r.wf = true) : (r.write a bs).1.wf = true := writeGo_wf _ _ _ _ h

/-- Below the first entry of a canonical list nothing is listed. -/
theorem cellsRead_below {lo a : Nat} {m : List Host.Cell} (h : cellsWf lo m = true) (ha : a < lo) : cellsRead m a = 0 := by
  induction m generalizing lo with
  | nil => rfl
  | cons c rest ih =>
    obtain ⟨k, v⟩ := c
    simp only [cellsWf, Bool.and_eq_true, decide_eq_true_eq] at h
    obtain ⟨⟨h1, _⟩, h3⟩ := h
    have : k ≠ a := by omega
    simp only [cellsRead, this, if_false]
    exact ih h3 (by omega)

/-- A read after a write of one byte. -/
theorem cellsRead_write {lo : Nat} {m : List Host.Cell} (a x : Nat) (b : Byte) (h : cellsWf lo m = true) :
    cellsRead (cellsWrite m a b) x = if x = a then b else cellsRead m x := by
  induction m generalizing lo with
  | nil =>
    unfold cellsWrite
    by_cases f : x = a
    · subst f
      split <;> simp_all [cellsRead]
    · have : a ≠ x := fun e => f e.symm
      split <;> simp [cellsRead, this]
  | cons c rest ih =>
    obtain ⟨k, v⟩ := c
    simp only [cellsWf, Bool.and_eq_true, decide_eq_true_eq] at h
    obtain ⟨⟨h1, h2⟩, h3⟩ := h
    unfold cellsWrite
    split
    · rename_i hk
      have below : cellsRead ((k, v) :: rest) a = 0 := cellsRead_below (lo := k) (by simpa [cellsWf, h3] using h2) hk
      split
      · rename_i hb
        split
        · rename_i hx; rw [hx, below, hb]
        · rfl
      · by_cases f : a = x
        · subst f; simp [cellsRead]
        · have : x ≠ a := fun e => f e.symm
          simp [cellsRead, f, this]
    · split
      · rename_i hk
        subst hk
        split
        · rename_i hb
          by_cases f : x = a
          · subst f
            rw [if_pos rfl, hb]
            exact cellsRead_below h3 (by omega)
          · have : a ≠ x := fun e => f e.symm
            simp [cellsRead, f, this]
        · by_cases f : x = a
          · subst f; simp [cellsRead]
          · have : a ≠ x := fun e => f e.symm
            simp [cellsRead, f, this]
      · rename_i hk
        by_cases f : k = x
        · subst f
          have : k ≠ a := fun e => hk e.symm
          simp [cellsRead, this]
        · simp only [cellsRead, f, if_false]
          exact ih h3

end Sys2Proof.Machine
end

