-- ==== Sys2Proof/Laws/State.lean ====
section
/-! SUPPORT. What each update of the state changes and what it leaves: one lemma per field per update. -/

namespace Sys2Proof.Machine

open Sys2Proof

@[simp] theorem modFree_pending (f : Nat → Nat) (s : State) : (s.modFree f).pending = s.pending := rfl
@[simp] theorem modFree_free (f : Nat → Nat) (s : State) : (s.modFree f).free = f s.free := rfl
@[simp] theorem modFree_timeUs (f : Nat → Nat) (s : State) : (s.modFree f).timeUs = s.timeUs := rfl
@[simp] theorem modFree_legend (f : Nat → Nat) (s : State) : (s.modFree f).legend = s.legend := rfl
@[simp] theorem modFree_legendApplied (f : Nat → Nat) (s : State) : (s.modFree f).legendApplied = s.legendApplied := rfl
@[simp] theorem modFree_layer (f : Nat → Nat) (s : State) : (s.modFree f).layer = s.layer := rfl
@[simp] theorem modFree_decoders (f : Nat → Nat) (s : State) : (s.modFree f).decoders = s.decoders := rfl
@[simp] theorem modFree_pixels (f : Nat → Nat) (s : State) : (s.modFree f).pixels = s.pixels := rfl
@[simp] theorem modFree_scan (f : Nat → Nat) (s : State) : (s.modFree f).scan = s.scan := rfl
@[simp] theorem modFree_position (f : Nat → Nat) (s : State) : (s.modFree f).position = s.position := rfl
@[simp] theorem modFree_polygons (f : Nat → Nat) (s : State) : (s.modFree f).polygons = s.polygons := rfl
@[simp] theorem modFree_loops (f : Nat → Nat) (s : State) : (s.modFree f).loops = s.loops := rfl
@[simp] theorem modFree_motion (f : Nat → Nat) (s : State) : (s.modFree f).motion = s.motion := rfl
@[simp] theorem modFree_thermal (f : Nat → Nat) (s : State) : (s.modFree f).thermal = s.thermal := rfl
@[simp] theorem modFree_power (f : Nat → Nat) (s : State) : (s.modFree f).power = s.power := rfl
@[simp] theorem modFree_faults (f : Nat → Nat) (s : State) : (s.modFree f).faults = s.faults := rfl
@[simp] theorem modFree_host (f : Nat → Nat) (s : State) : (s.modFree f).host = s.host := rfl
@[simp] theorem modFree_dma (f : Nat → Nat) (s : State) : (s.modFree f).dma = s.dma := rfl
@[simp] theorem modFree_telemetry (f : Nat → Nat) (s : State) : (s.modFree f).telemetry = s.telemetry := rfl
@[simp] theorem modFree_boot (f : Nat → Nat) (s : State) : (s.modFree f).boot = s.boot := rfl
@[simp] theorem modFree_otp (f : Nat → Nat) (s : State) : (s.modFree f).otp = s.otp := rfl
@[simp] theorem modFree_survey (f : Nat → Nat) (s : State) : (s.modFree f).survey = s.survey := rfl
@[simp] theorem modFree_pins (f : Nat → Nat) (s : State) : (s.modFree f).pins = s.pins := rfl
@[simp] theorem modFree_memory (f : Nat → Nat) (s : State) : (s.modFree f).memory = s.memory := rfl
@[simp] theorem modFree_logs (f : Nat → Nat) (s : State) : (s.modFree f).logs = s.logs := rfl
@[simp] theorem modTimeUs_pending (f : Nat → Nat) (s : State) : (s.modTimeUs f).pending = s.pending := rfl
@[simp] theorem modTimeUs_free (f : Nat → Nat) (s : State) : (s.modTimeUs f).free = s.free := rfl
@[simp] theorem modTimeUs_timeUs (f : Nat → Nat) (s : State) : (s.modTimeUs f).timeUs = f s.timeUs := rfl
@[simp] theorem modTimeUs_legend (f : Nat → Nat) (s : State) : (s.modTimeUs f).legend = s.legend := rfl
@[simp] theorem modTimeUs_legendApplied (f : Nat → Nat) (s : State) : (s.modTimeUs f).legendApplied = s.legendApplied := rfl
@[simp] theorem modTimeUs_layer (f : Nat → Nat) (s : State) : (s.modTimeUs f).layer = s.layer := rfl
@[simp] theorem modTimeUs_decoders (f : Nat → Nat) (s : State) : (s.modTimeUs f).decoders = s.decoders := rfl
@[simp] theorem modTimeUs_pixels (f : Nat → Nat) (s : State) : (s.modTimeUs f).pixels = s.pixels := rfl
@[simp] theorem modTimeUs_scan (f : Nat → Nat) (s : State) : (s.modTimeUs f).scan = s.scan := rfl
@[simp] theorem modTimeUs_position (f : Nat → Nat) (s : State) : (s.modTimeUs f).position = s.position := rfl
@[simp] theorem modTimeUs_polygons (f : Nat → Nat) (s : State) : (s.modTimeUs f).polygons = s.polygons := rfl
@[simp] theorem modTimeUs_loops (f : Nat → Nat) (s : State) : (s.modTimeUs f).loops = s.loops := rfl
@[simp] theorem modTimeUs_motion (f : Nat → Nat) (s : State) : (s.modTimeUs f).motion = s.motion := rfl
@[simp] theorem modTimeUs_thermal (f : Nat → Nat) (s : State) : (s.modTimeUs f).thermal = s.thermal := rfl
@[simp] theorem modTimeUs_power (f : Nat → Nat) (s : State) : (s.modTimeUs f).power = s.power := rfl
@[simp] theorem modTimeUs_faults (f : Nat → Nat) (s : State) : (s.modTimeUs f).faults = s.faults := rfl
@[simp] theorem modTimeUs_host (f : Nat → Nat) (s : State) : (s.modTimeUs f).host = s.host := rfl
@[simp] theorem modTimeUs_dma (f : Nat → Nat) (s : State) : (s.modTimeUs f).dma = s.dma := rfl
@[simp] theorem modTimeUs_telemetry (f : Nat → Nat) (s : State) : (s.modTimeUs f).telemetry = s.telemetry := rfl
@[simp] theorem modTimeUs_boot (f : Nat → Nat) (s : State) : (s.modTimeUs f).boot = s.boot := rfl
@[simp] theorem modTimeUs_otp (f : Nat → Nat) (s : State) : (s.modTimeUs f).otp = s.otp := rfl
@[simp] theorem modTimeUs_survey (f : Nat → Nat) (s : State) : (s.modTimeUs f).survey = s.survey := rfl
@[simp] theorem modTimeUs_pins (f : Nat → Nat) (s : State) : (s.modTimeUs f).pins = s.pins := rfl
@[simp] theorem modTimeUs_memory (f : Nat → Nat) (s : State) : (s.modTimeUs f).memory = s.memory := rfl
@[simp] theorem modTimeUs_logs (f : Nat → Nat) (s : State) : (s.modTimeUs f).logs = s.logs := rfl
@[simp] theorem modLegend_pending (f : Legend → Legend) (s : State) : (s.modLegend f).pending = s.pending := rfl
@[simp] theorem modLegend_free (f : Legend → Legend) (s : State) : (s.modLegend f).free = s.free := rfl
@[simp] theorem modLegend_timeUs (f : Legend → Legend) (s : State) : (s.modLegend f).timeUs = s.timeUs := rfl
@[simp] theorem modLegend_legend (f : Legend → Legend) (s : State) : (s.modLegend f).legend = f s.legend := rfl
@[simp] theorem modLegend_legendApplied (f : Legend → Legend) (s : State) : (s.modLegend f).legendApplied = s.legendApplied := rfl
@[simp] theorem modLegend_layer (f : Legend → Legend) (s : State) : (s.modLegend f).layer = s.layer := rfl
@[simp] theorem modLegend_decoders (f : Legend → Legend) (s : State) : (s.modLegend f).decoders = s.decoders := rfl
@[simp] theorem modLegend_pixels (f : Legend → Legend) (s : State) : (s.modLegend f).pixels = s.pixels := rfl
@[simp] theorem modLegend_scan (f : Legend → Legend) (s : State) : (s.modLegend f).scan = s.scan := rfl
@[simp] theorem modLegend_position (f : Legend → Legend) (s : State) : (s.modLegend f).position = s.position := rfl
@[simp] theorem modLegend_polygons (f : Legend → Legend) (s : State) : (s.modLegend f).polygons = s.polygons := rfl
@[simp] theorem modLegend_loops (f : Legend → Legend) (s : State) : (s.modLegend f).loops = s.loops := rfl
@[simp] theorem modLegend_motion (f : Legend → Legend) (s : State) : (s.modLegend f).motion = s.motion := rfl
@[simp] theorem modLegend_thermal (f : Legend → Legend) (s : State) : (s.modLegend f).thermal = s.thermal := rfl
@[simp] theorem modLegend_power (f : Legend → Legend) (s : State) : (s.modLegend f).power = s.power := rfl
@[simp] theorem modLegend_faults (f : Legend → Legend) (s : State) : (s.modLegend f).faults = s.faults := rfl
@[simp] theorem modLegend_host (f : Legend → Legend) (s : State) : (s.modLegend f).host = s.host := rfl
@[simp] theorem modLegend_dma (f : Legend → Legend) (s : State) : (s.modLegend f).dma = s.dma := rfl
@[simp] theorem modLegend_telemetry (f : Legend → Legend) (s : State) : (s.modLegend f).telemetry = s.telemetry := rfl
@[simp] theorem modLegend_boot (f : Legend → Legend) (s : State) : (s.modLegend f).boot = s.boot := rfl
@[simp] theorem modLegend_otp (f : Legend → Legend) (s : State) : (s.modLegend f).otp = s.otp := rfl
@[simp] theorem modLegend_survey (f : Legend → Legend) (s : State) : (s.modLegend f).survey = s.survey := rfl
@[simp] theorem modLegend_pins (f : Legend → Legend) (s : State) : (s.modLegend f).pins = s.pins := rfl
@[simp] theorem modLegend_memory (f : Legend → Legend) (s : State) : (s.modLegend f).memory = s.memory := rfl
@[simp] theorem modLegend_logs (f : Legend → Legend) (s : State) : (s.modLegend f).logs = s.logs := rfl
@[simp] theorem modLegendApplied_pending (f : Bool → Bool) (s : State) : (s.modLegendApplied f).pending = s.pending := rfl
@[simp] theorem modLegendApplied_free (f : Bool → Bool) (s : State) : (s.modLegendApplied f).free = s.free := rfl
@[simp] theorem modLegendApplied_timeUs (f : Bool → Bool) (s : State) : (s.modLegendApplied f).timeUs = s.timeUs := rfl
@[simp] theorem modLegendApplied_legend (f : Bool → Bool) (s : State) : (s.modLegendApplied f).legend = s.legend := rfl
@[simp] theorem modLegendApplied_legendApplied (f : Bool → Bool) (s : State) : (s.modLegendApplied f).legendApplied = f s.legendApplied := rfl
@[simp] theorem modLegendApplied_layer (f : Bool → Bool) (s : State) : (s.modLegendApplied f).layer = s.layer := rfl
@[simp] theorem modLegendApplied_decoders (f : Bool → Bool) (s : State) : (s.modLegendApplied f).decoders = s.decoders := rfl
@[simp] theorem modLegendApplied_pixels (f : Bool → Bool) (s : State) : (s.modLegendApplied f).pixels = s.pixels := rfl
@[simp] theorem modLegendApplied_scan (f : Bool → Bool) (s : State) : (s.modLegendApplied f).scan = s.scan := rfl
@[simp] theorem modLegendApplied_position (f : Bool → Bool) (s : State) : (s.modLegendApplied f).position = s.position := rfl
@[simp] theorem modLegendApplied_polygons (f : Bool → Bool) (s : State) : (s.modLegendApplied f).polygons = s.polygons := rfl
@[simp] theorem modLegendApplied_loops (f : Bool → Bool) (s : State) : (s.modLegendApplied f).loops = s.loops := rfl
@[simp] theorem modLegendApplied_motion (f : Bool → Bool) (s : State) : (s.modLegendApplied f).motion = s.motion := rfl
@[simp] theorem modLegendApplied_thermal (f : Bool → Bool) (s : State) : (s.modLegendApplied f).thermal = s.thermal := rfl
@[simp] theorem modLegendApplied_power (f : Bool → Bool) (s : State) : (s.modLegendApplied f).power = s.power := rfl
@[simp] theorem modLegendApplied_faults (f : Bool → Bool) (s : State) : (s.modLegendApplied f).faults = s.faults := rfl
@[simp] theorem modLegendApplied_host (f : Bool → Bool) (s : State) : (s.modLegendApplied f).host = s.host := rfl
@[simp] theorem modLegendApplied_dma (f : Bool → Bool) (s : State) : (s.modLegendApplied f).dma = s.dma := rfl
@[simp] theorem modLegendApplied_telemetry (f : Bool → Bool) (s : State) : (s.modLegendApplied f).telemetry = s.telemetry := rfl
@[simp] theorem modLegendApplied_boot (f : Bool → Bool) (s : State) : (s.modLegendApplied f).boot = s.boot := rfl
@[simp] theorem modLegendApplied_otp (f : Bool → Bool) (s : State) : (s.modLegendApplied f).otp = s.otp := rfl
@[simp] theorem modLegendApplied_survey (f : Bool → Bool) (s : State) : (s.modLegendApplied f).survey = s.survey := rfl
@[simp] theorem modLegendApplied_pins (f : Bool → Bool) (s : State) : (s.modLegendApplied f).pins = s.pins := rfl
@[simp] theorem modLegendApplied_memory (f : Bool → Bool) (s : State) : (s.modLegendApplied f).memory = s.memory := rfl
@[simp] theorem modLegendApplied_logs (f : Bool → Bool) (s : State) : (s.modLegendApplied f).logs = s.logs := rfl
@[simp] theorem modLayer_pending (f : Layer → Layer) (s : State) : (s.modLayer f).pending = s.pending := rfl
@[simp] theorem modLayer_free (f : Layer → Layer) (s : State) : (s.modLayer f).free = s.free := rfl
@[simp] theorem modLayer_timeUs (f : Layer → Layer) (s : State) : (s.modLayer f).timeUs = s.timeUs := rfl
@[simp] theorem modLayer_legend (f : Layer → Layer) (s : State) : (s.modLayer f).legend = s.legend := rfl
@[simp] theorem modLayer_legendApplied (f : Layer → Layer) (s : State) : (s.modLayer f).legendApplied = s.legendApplied := rfl
@[simp] theorem modLayer_layer (f : Layer → Layer) (s : State) : (s.modLayer f).layer = f s.layer := rfl
@[simp] theorem modLayer_decoders (f : Layer → Layer) (s : State) : (s.modLayer f).decoders = s.decoders := rfl
@[simp] theorem modLayer_pixels (f : Layer → Layer) (s : State) : (s.modLayer f).pixels = s.pixels := rfl
@[simp] theorem modLayer_scan (f : Layer → Layer) (s : State) : (s.modLayer f).scan = s.scan := rfl
@[simp] theorem modLayer_position (f : Layer → Layer) (s : State) : (s.modLayer f).position = s.position := rfl
@[simp] theorem modLayer_polygons (f : Layer → Layer) (s : State) : (s.modLayer f).polygons = s.polygons := rfl
@[simp] theorem modLayer_loops (f : Layer → Layer) (s : State) : (s.modLayer f).loops = s.loops := rfl
@[simp] theorem modLayer_motion (f : Layer → Layer) (s : State) : (s.modLayer f).motion = s.motion := rfl
@[simp] theorem modLayer_thermal (f : Layer → Layer) (s : State) : (s.modLayer f).thermal = s.thermal := rfl
@[simp] theorem modLayer_power (f : Layer → Layer) (s : State) : (s.modLayer f).power = s.power := rfl
@[simp] theorem modLayer_faults (f : Layer → Layer) (s : State) : (s.modLayer f).faults = s.faults := rfl
@[simp] theorem modLayer_host (f : Layer → Layer) (s : State) : (s.modLayer f).host = s.host := rfl
@[simp] theorem modLayer_dma (f : Layer → Layer) (s : State) : (s.modLayer f).dma = s.dma := rfl
@[simp] theorem modLayer_telemetry (f : Layer → Layer) (s : State) : (s.modLayer f).telemetry = s.telemetry := rfl
@[simp] theorem modLayer_boot (f : Layer → Layer) (s : State) : (s.modLayer f).boot = s.boot := rfl
@[simp] theorem modLayer_otp (f : Layer → Layer) (s : State) : (s.modLayer f).otp = s.otp := rfl
@[simp] theorem modLayer_survey (f : Layer → Layer) (s : State) : (s.modLayer f).survey = s.survey := rfl
@[simp] theorem modLayer_pins (f : Layer → Layer) (s : State) : (s.modLayer f).pins = s.pins := rfl
@[simp] theorem modLayer_memory (f : Layer → Layer) (s : State) : (s.modLayer f).memory = s.memory := rfl
@[simp] theorem modLayer_logs (f : Layer → Layer) (s : State) : (s.modLayer f).logs = s.logs := rfl
@[simp] theorem modDecoder_pending (x : Fin 6) (f : Decoder → Decoder) (s : State) : (s.modDecoder x f).pending = s.pending := rfl
@[simp] theorem modDecoder_free (x : Fin 6) (f : Decoder → Decoder) (s : State) : (s.modDecoder x f).free = s.free := rfl
@[simp] theorem modDecoder_timeUs (x : Fin 6) (f : Decoder → Decoder) (s : State) : (s.modDecoder x f).timeUs = s.timeUs := rfl
@[simp] theorem modDecoder_legend (x : Fin 6) (f : Decoder → Decoder) (s : State) : (s.modDecoder x f).legend = s.legend := rfl
@[simp] theorem modDecoder_legendApplied (x : Fin 6) (f : Decoder → Decoder) (s : State) : (s.modDecoder x f).legendApplied = s.legendApplied := rfl
@[simp] theorem modDecoder_layer (x : Fin 6) (f : Decoder → Decoder) (s : State) : (s.modDecoder x f).layer = s.layer := rfl
@[simp] theorem modDecoder_decoders (x : Fin 6) (f : Decoder → Decoder) (s : State) : (s.modDecoder x f).decoders = s.decoders.set x.val (f s.decoders[x]) := rfl
@[simp] theorem modDecoder_pixels (x : Fin 6) (f : Decoder → Decoder) (s : State) : (s.modDecoder x f).pixels = s.pixels := rfl
@[simp] theorem modDecoder_scan (x : Fin 6) (f : Decoder → Decoder) (s : State) : (s.modDecoder x f).scan = s.scan := rfl
@[simp] theorem modDecoder_position (x : Fin 6) (f : Decoder → Decoder) (s : State) : (s.modDecoder x f).position = s.position := rfl
@[simp] theorem modDecoder_polygons (x : Fin 6) (f : Decoder → Decoder) (s : State) : (s.modDecoder x f).polygons = s.polygons := rfl
@[simp] theorem modDecoder_loops (x : Fin 6) (f : Decoder → Decoder) (s : State) : (s.modDecoder x f).loops = s.loops := rfl
@[simp] theorem modDecoder_motion (x : Fin 6) (f : Decoder → Decoder) (s : State) : (s.modDecoder x f).motion = s.motion := rfl
@[simp] theorem modDecoder_thermal (x : Fin 6) (f : Decoder → Decoder) (s : State) : (s.modDecoder x f).thermal = s.thermal := rfl
@[simp] theorem modDecoder_power (x : Fin 6) (f : Decoder → Decoder) (s : State) : (s.modDecoder x f).power = s.power := rfl
@[simp] theorem modDecoder_faults (x : Fin 6) (f : Decoder → Decoder) (s : State) : (s.modDecoder x f).faults = s.faults := rfl
@[simp] theorem modDecoder_host (x : Fin 6) (f : Decoder → Decoder) (s : State) : (s.modDecoder x f).host = s.host := rfl
@[simp] theorem modDecoder_dma (x : Fin 6) (f : Decoder → Decoder) (s : State) : (s.modDecoder x f).dma = s.dma := rfl
@[simp] theorem modDecoder_telemetry (x : Fin 6) (f : Decoder → Decoder) (s : State) : (s.modDecoder x f).telemetry = s.telemetry := rfl
@[simp] theorem modDecoder_boot (x : Fin 6) (f : Decoder → Decoder) (s : State) : (s.modDecoder x f).boot = s.boot := rfl
@[simp] theorem modDecoder_otp (x : Fin 6) (f : Decoder → Decoder) (s : State) : (s.modDecoder x f).otp = s.otp := rfl
@[simp] theorem modDecoder_survey (x : Fin 6) (f : Decoder → Decoder) (s : State) : (s.modDecoder x f).survey = s.survey := rfl
@[simp] theorem modDecoder_pins (x : Fin 6) (f : Decoder → Decoder) (s : State) : (s.modDecoder x f).pins = s.pins := rfl
@[simp] theorem modDecoder_memory (x : Fin 6) (f : Decoder → Decoder) (s : State) : (s.modDecoder x f).memory = s.memory := rfl
@[simp] theorem modDecoder_logs (x : Fin 6) (f : Decoder → Decoder) (s : State) : (s.modDecoder x f).logs = s.logs := rfl
@[simp] theorem allDecoders_pending (f : Decoder → Decoder) (s : State) : (s.allDecoders f).pending = s.pending := rfl
@[simp] theorem allDecoders_free (f : Decoder → Decoder) (s : State) : (s.allDecoders f).free = s.free := rfl
@[simp] theorem allDecoders_timeUs (f : Decoder → Decoder) (s : State) : (s.allDecoders f).timeUs = s.timeUs := rfl
@[simp] theorem allDecoders_legend (f : Decoder → Decoder) (s : State) : (s.allDecoders f).legend = s.legend := rfl
@[simp] theorem allDecoders_legendApplied (f : Decoder → Decoder) (s : State) : (s.allDecoders f).legendApplied = s.legendApplied := rfl
@[simp] theorem allDecoders_layer (f : Decoder → Decoder) (s : State) : (s.allDecoders f).layer = s.layer := rfl
@[simp] theorem allDecoders_decoders (f : Decoder → Decoder) (s : State) : (s.allDecoders f).decoders = mapV f s.decoders := rfl
@[simp] theorem allDecoders_pixels (f : Decoder → Decoder) (s : State) : (s.allDecoders f).pixels = s.pixels := rfl
@[simp] theorem allDecoders_scan (f : Decoder → Decoder) (s : State) : (s.allDecoders f).scan = s.scan := rfl
@[simp] theorem allDecoders_position (f : Decoder → Decoder) (s : State) : (s.allDecoders f).position = s.position := rfl
@[simp] theorem allDecoders_polygons (f : Decoder → Decoder) (s : State) : (s.allDecoders f).polygons = s.polygons := rfl
@[simp] theorem allDecoders_loops (f : Decoder → Decoder) (s : State) : (s.allDecoders f).loops = s.loops := rfl
@[simp] theorem allDecoders_motion (f : Decoder → Decoder) (s : State) : (s.allDecoders f).motion = s.motion := rfl
@[simp] theorem allDecoders_thermal (f : Decoder → Decoder) (s : State) : (s.allDecoders f).thermal = s.thermal := rfl
@[simp] theorem allDecoders_power (f : Decoder → Decoder) (s : State) : (s.allDecoders f).power = s.power := rfl
@[simp] theorem allDecoders_faults (f : Decoder → Decoder) (s : State) : (s.allDecoders f).faults = s.faults := rfl
@[simp] theorem allDecoders_host (f : Decoder → Decoder) (s : State) : (s.allDecoders f).host = s.host := rfl
@[simp] theorem allDecoders_dma (f : Decoder → Decoder) (s : State) : (s.allDecoders f).dma = s.dma := rfl
@[simp] theorem allDecoders_telemetry (f : Decoder → Decoder) (s : State) : (s.allDecoders f).telemetry = s.telemetry := rfl
@[simp] theorem allDecoders_boot (f : Decoder → Decoder) (s : State) : (s.allDecoders f).boot = s.boot := rfl
@[simp] theorem allDecoders_otp (f : Decoder → Decoder) (s : State) : (s.allDecoders f).otp = s.otp := rfl
@[simp] theorem allDecoders_survey (f : Decoder → Decoder) (s : State) : (s.allDecoders f).survey = s.survey := rfl
@[simp] theorem allDecoders_pins (f : Decoder → Decoder) (s : State) : (s.allDecoders f).pins = s.pins := rfl
@[simp] theorem allDecoders_memory (f : Decoder → Decoder) (s : State) : (s.allDecoders f).memory = s.memory := rfl
@[simp] theorem allDecoders_logs (f : Decoder → Decoder) (s : State) : (s.allDecoders f).logs = s.logs := rfl
@[simp] theorem modPixel_pending (x : Fin 6) (f : Pixel → Pixel) (s : State) : (s.modPixel x f).pending = s.pending := rfl
@[simp] theorem modPixel_free (x : Fin 6) (f : Pixel → Pixel) (s : State) : (s.modPixel x f).free = s.free := rfl
@[simp] theorem modPixel_timeUs (x : Fin 6) (f : Pixel → Pixel) (s : State) : (s.modPixel x f).timeUs = s.timeUs := rfl
@[simp] theorem modPixel_legend (x : Fin 6) (f : Pixel → Pixel) (s : State) : (s.modPixel x f).legend = s.legend := rfl
@[simp] theorem modPixel_legendApplied (x : Fin 6) (f : Pixel → Pixel) (s : State) : (s.modPixel x f).legendApplied = s.legendApplied := rfl
@[simp] theorem modPixel_layer (x : Fin 6) (f : Pixel → Pixel) (s : State) : (s.modPixel x f).layer = s.layer := rfl
@[simp] theorem modPixel_decoders (x : Fin 6) (f : Pixel → Pixel) (s : State) : (s.modPixel x f).decoders = s.decoders := rfl
@[simp] theorem modPixel_pixels (x : Fin 6) (f : Pixel → Pixel) (s : State) : (s.modPixel x f).pixels = s.pixels.set x.val (f s.pixels[x]) := rfl
@[simp] theorem modPixel_scan (x : Fin 6) (f : Pixel → Pixel) (s : State) : (s.modPixel x f).scan = s.scan := rfl
@[simp] theorem modPixel_position (x : Fin 6) (f : Pixel → Pixel) (s : State) : (s.modPixel x f).position = s.position := rfl
@[simp] theorem modPixel_polygons (x : Fin 6) (f : Pixel → Pixel) (s : State) : (s.modPixel x f).polygons = s.polygons := rfl
@[simp] theorem modPixel_loops (x : Fin 6) (f : Pixel → Pixel) (s : State) : (s.modPixel x f).loops = s.loops := rfl
@[simp] theorem modPixel_motion (x : Fin 6) (f : Pixel → Pixel) (s : State) : (s.modPixel x f).motion = s.motion := rfl
@[simp] theorem modPixel_thermal (x : Fin 6) (f : Pixel → Pixel) (s : State) : (s.modPixel x f).thermal = s.thermal := rfl
@[simp] theorem modPixel_power (x : Fin 6) (f : Pixel → Pixel) (s : State) : (s.modPixel x f).power = s.power := rfl
@[simp] theorem modPixel_faults (x : Fin 6) (f : Pixel → Pixel) (s : State) : (s.modPixel x f).faults = s.faults := rfl
@[simp] theorem modPixel_host (x : Fin 6) (f : Pixel → Pixel) (s : State) : (s.modPixel x f).host = s.host := rfl
@[simp] theorem modPixel_dma (x : Fin 6) (f : Pixel → Pixel) (s : State) : (s.modPixel x f).dma = s.dma := rfl
@[simp] theorem modPixel_telemetry (x : Fin 6) (f : Pixel → Pixel) (s : State) : (s.modPixel x f).telemetry = s.telemetry := rfl
@[simp] theorem modPixel_boot (x : Fin 6) (f : Pixel → Pixel) (s : State) : (s.modPixel x f).boot = s.boot := rfl
@[simp] theorem modPixel_otp (x : Fin 6) (f : Pixel → Pixel) (s : State) : (s.modPixel x f).otp = s.otp := rfl
@[simp] theorem modPixel_survey (x : Fin 6) (f : Pixel → Pixel) (s : State) : (s.modPixel x f).survey = s.survey := rfl
@[simp] theorem modPixel_pins (x : Fin 6) (f : Pixel → Pixel) (s : State) : (s.modPixel x f).pins = s.pins := rfl
@[simp] theorem modPixel_memory (x : Fin 6) (f : Pixel → Pixel) (s : State) : (s.modPixel x f).memory = s.memory := rfl
@[simp] theorem modPixel_logs (x : Fin 6) (f : Pixel → Pixel) (s : State) : (s.modPixel x f).logs = s.logs := rfl
@[simp] theorem allPixels_pending (f : Pixel → Pixel) (s : State) : (s.allPixels f).pending = s.pending := rfl
@[simp] theorem allPixels_free (f : Pixel → Pixel) (s : State) : (s.allPixels f).free = s.free := rfl
@[simp] theorem allPixels_timeUs (f : Pixel → Pixel) (s : State) : (s.allPixels f).timeUs = s.timeUs := rfl
@[simp] theorem allPixels_legend (f : Pixel → Pixel) (s : State) : (s.allPixels f).legend = s.legend := rfl
@[simp] theorem allPixels_legendApplied (f : Pixel → Pixel) (s : State) : (s.allPixels f).legendApplied = s.legendApplied := rfl
@[simp] theorem allPixels_layer (f : Pixel → Pixel) (s : State) : (s.allPixels f).layer = s.layer := rfl
@[simp] theorem allPixels_decoders (f : Pixel → Pixel) (s : State) : (s.allPixels f).decoders = s.decoders := rfl
@[simp] theorem allPixels_pixels (f : Pixel → Pixel) (s : State) : (s.allPixels f).pixels = mapV f s.pixels := rfl
@[simp] theorem allPixels_scan (f : Pixel → Pixel) (s : State) : (s.allPixels f).scan = s.scan := rfl
@[simp] theorem allPixels_position (f : Pixel → Pixel) (s : State) : (s.allPixels f).position = s.position := rfl
@[simp] theorem allPixels_polygons (f : Pixel → Pixel) (s : State) : (s.allPixels f).polygons = s.polygons := rfl
@[simp] theorem allPixels_loops (f : Pixel → Pixel) (s : State) : (s.allPixels f).loops = s.loops := rfl
@[simp] theorem allPixels_motion (f : Pixel → Pixel) (s : State) : (s.allPixels f).motion = s.motion := rfl
@[simp] theorem allPixels_thermal (f : Pixel → Pixel) (s : State) : (s.allPixels f).thermal = s.thermal := rfl
@[simp] theorem allPixels_power (f : Pixel → Pixel) (s : State) : (s.allPixels f).power = s.power := rfl
@[simp] theorem allPixels_faults (f : Pixel → Pixel) (s : State) : (s.allPixels f).faults = s.faults := rfl
@[simp] theorem allPixels_host (f : Pixel → Pixel) (s : State) : (s.allPixels f).host = s.host := rfl
@[simp] theorem allPixels_dma (f : Pixel → Pixel) (s : State) : (s.allPixels f).dma = s.dma := rfl
@[simp] theorem allPixels_telemetry (f : Pixel → Pixel) (s : State) : (s.allPixels f).telemetry = s.telemetry := rfl
@[simp] theorem allPixels_boot (f : Pixel → Pixel) (s : State) : (s.allPixels f).boot = s.boot := rfl
@[simp] theorem allPixels_otp (f : Pixel → Pixel) (s : State) : (s.allPixels f).otp = s.otp := rfl
@[simp] theorem allPixels_survey (f : Pixel → Pixel) (s : State) : (s.allPixels f).survey = s.survey := rfl
@[simp] theorem allPixels_pins (f : Pixel → Pixel) (s : State) : (s.allPixels f).pins = s.pins := rfl
@[simp] theorem allPixels_memory (f : Pixel → Pixel) (s : State) : (s.allPixels f).memory = s.memory := rfl
@[simp] theorem allPixels_logs (f : Pixel → Pixel) (s : State) : (s.allPixels f).logs = s.logs := rfl
@[simp] theorem modScan_pending (f : Scan → Scan) (s : State) : (s.modScan f).pending = s.pending := rfl
@[simp] theorem modScan_free (f : Scan → Scan) (s : State) : (s.modScan f).free = s.free := rfl
@[simp] theorem modScan_timeUs (f : Scan → Scan) (s : State) : (s.modScan f).timeUs = s.timeUs := rfl
@[simp] theorem modScan_legend (f : Scan → Scan) (s : State) : (s.modScan f).legend = s.legend := rfl
@[simp] theorem modScan_legendApplied (f : Scan → Scan) (s : State) : (s.modScan f).legendApplied = s.legendApplied := rfl
@[simp] theorem modScan_layer (f : Scan → Scan) (s : State) : (s.modScan f).layer = s.layer := rfl
@[simp] theorem modScan_decoders (f : Scan → Scan) (s : State) : (s.modScan f).decoders = s.decoders := rfl
@[simp] theorem modScan_pixels (f : Scan → Scan) (s : State) : (s.modScan f).pixels = s.pixels := rfl
@[simp] theorem modScan_scan (f : Scan → Scan) (s : State) : (s.modScan f).scan = f s.scan := rfl
@[simp] theorem modScan_position (f : Scan → Scan) (s : State) : (s.modScan f).position = s.position := rfl
@[simp] theorem modScan_polygons (f : Scan → Scan) (s : State) : (s.modScan f).polygons = s.polygons := rfl
@[simp] theorem modScan_loops (f : Scan → Scan) (s : State) : (s.modScan f).loops = s.loops := rfl
@[simp] theorem modScan_motion (f : Scan → Scan) (s : State) : (s.modScan f).motion = s.motion := rfl
@[simp] theorem modScan_thermal (f : Scan → Scan) (s : State) : (s.modScan f).thermal = s.thermal := rfl
@[simp] theorem modScan_power (f : Scan → Scan) (s : State) : (s.modScan f).power = s.power := rfl
@[simp] theorem modScan_faults (f : Scan → Scan) (s : State) : (s.modScan f).faults = s.faults := rfl
@[simp] theorem modScan_host (f : Scan → Scan) (s : State) : (s.modScan f).host = s.host := rfl
@[simp] theorem modScan_dma (f : Scan → Scan) (s : State) : (s.modScan f).dma = s.dma := rfl
@[simp] theorem modScan_telemetry (f : Scan → Scan) (s : State) : (s.modScan f).telemetry = s.telemetry := rfl
@[simp] theorem modScan_boot (f : Scan → Scan) (s : State) : (s.modScan f).boot = s.boot := rfl
@[simp] theorem modScan_otp (f : Scan → Scan) (s : State) : (s.modScan f).otp = s.otp := rfl
@[simp] theorem modScan_survey (f : Scan → Scan) (s : State) : (s.modScan f).survey = s.survey := rfl
@[simp] theorem modScan_pins (f : Scan → Scan) (s : State) : (s.modScan f).pins = s.pins := rfl
@[simp] theorem modScan_memory (f : Scan → Scan) (s : State) : (s.modScan f).memory = s.memory := rfl
@[simp] theorem modScan_logs (f : Scan → Scan) (s : State) : (s.modScan f).logs = s.logs := rfl
@[simp] theorem modPosition_pending (f : Position → Position) (s : State) : (s.modPosition f).pending = s.pending := rfl
@[simp] theorem modPosition_free (f : Position → Position) (s : State) : (s.modPosition f).free = s.free := rfl
@[simp] theorem modPosition_timeUs (f : Position → Position) (s : State) : (s.modPosition f).timeUs = s.timeUs := rfl
@[simp] theorem modPosition_legend (f : Position → Position) (s : State) : (s.modPosition f).legend = s.legend := rfl
@[simp] theorem modPosition_legendApplied (f : Position → Position) (s : State) : (s.modPosition f).legendApplied = s.legendApplied := rfl
@[simp] theorem modPosition_layer (f : Position → Position) (s : State) : (s.modPosition f).layer = s.layer := rfl
@[simp] theorem modPosition_decoders (f : Position → Position) (s : State) : (s.modPosition f).decoders = s.decoders := rfl
@[simp] theorem modPosition_pixels (f : Position → Position) (s : State) : (s.modPosition f).pixels = s.pixels := rfl
@[simp] theorem modPosition_scan (f : Position → Position) (s : State) : (s.modPosition f).scan = s.scan := rfl
@[simp] theorem modPosition_position (f : Position → Position) (s : State) : (s.modPosition f).position = f s.position := rfl
@[simp] theorem modPosition_polygons (f : Position → Position) (s : State) : (s.modPosition f).polygons = s.polygons := rfl
@[simp] theorem modPosition_loops (f : Position → Position) (s : State) : (s.modPosition f).loops = s.loops := rfl
@[simp] theorem modPosition_motion (f : Position → Position) (s : State) : (s.modPosition f).motion = s.motion := rfl
@[simp] theorem modPosition_thermal (f : Position → Position) (s : State) : (s.modPosition f).thermal = s.thermal := rfl
@[simp] theorem modPosition_power (f : Position → Position) (s : State) : (s.modPosition f).power = s.power := rfl
@[simp] theorem modPosition_faults (f : Position → Position) (s : State) : (s.modPosition f).faults = s.faults := rfl
@[simp] theorem modPosition_host (f : Position → Position) (s : State) : (s.modPosition f).host = s.host := rfl
@[simp] theorem modPosition_dma (f : Position → Position) (s : State) : (s.modPosition f).dma = s.dma := rfl
@[simp] theorem modPosition_telemetry (f : Position → Position) (s : State) : (s.modPosition f).telemetry = s.telemetry := rfl
@[simp] theorem modPosition_boot (f : Position → Position) (s : State) : (s.modPosition f).boot = s.boot := rfl
@[simp] theorem modPosition_otp (f : Position → Position) (s : State) : (s.modPosition f).otp = s.otp := rfl
@[simp] theorem modPosition_survey (f : Position → Position) (s : State) : (s.modPosition f).survey = s.survey := rfl
@[simp] theorem modPosition_pins (f : Position → Position) (s : State) : (s.modPosition f).pins = s.pins := rfl
@[simp] theorem modPosition_memory (f : Position → Position) (s : State) : (s.modPosition f).memory = s.memory := rfl
@[simp] theorem modPosition_logs (f : Position → Position) (s : State) : (s.modPosition f).logs = s.logs := rfl
@[simp] theorem modPolygon_pending (x : Fin 6) (f : Polygon → Polygon) (s : State) : (s.modPolygon x f).pending = s.pending := rfl
@[simp] theorem modPolygon_free (x : Fin 6) (f : Polygon → Polygon) (s : State) : (s.modPolygon x f).free = s.free := rfl
@[simp] theorem modPolygon_timeUs (x : Fin 6) (f : Polygon → Polygon) (s : State) : (s.modPolygon x f).timeUs = s.timeUs := rfl
@[simp] theorem modPolygon_legend (x : Fin 6) (f : Polygon → Polygon) (s : State) : (s.modPolygon x f).legend = s.legend := rfl
@[simp] theorem modPolygon_legendApplied (x : Fin 6) (f : Polygon → Polygon) (s : State) : (s.modPolygon x f).legendApplied = s.legendApplied := rfl
@[simp] theorem modPolygon_layer (x : Fin 6) (f : Polygon → Polygon) (s : State) : (s.modPolygon x f).layer = s.layer := rfl
@[simp] theorem modPolygon_decoders (x : Fin 6) (f : Polygon → Polygon) (s : State) : (s.modPolygon x f).decoders = s.decoders := rfl
@[simp] theorem modPolygon_pixels (x : Fin 6) (f : Polygon → Polygon) (s : State) : (s.modPolygon x f).pixels = s.pixels := rfl
@[simp] theorem modPolygon_scan (x : Fin 6) (f : Polygon → Polygon) (s : State) : (s.modPolygon x f).scan = s.scan := rfl
@[simp] theorem modPolygon_position (x : Fin 6) (f : Polygon → Polygon) (s : State) : (s.modPolygon x f).position = s.position := rfl
@[simp] theorem modPolygon_polygons (x : Fin 6) (f : Polygon → Polygon) (s : State) : (s.modPolygon x f).polygons = s.polygons.set x.val (f s.polygons[x]) := rfl
@[simp] theorem modPolygon_loops (x : Fin 6) (f : Polygon → Polygon) (s : State) : (s.modPolygon x f).loops = s.loops := rfl
@[simp] theorem modPolygon_motion (x : Fin 6) (f : Polygon → Polygon) (s : State) : (s.modPolygon x f).motion = s.motion := rfl
@[simp] theorem modPolygon_thermal (x : Fin 6) (f : Polygon → Polygon) (s : State) : (s.modPolygon x f).thermal = s.thermal := rfl
@[simp] theorem modPolygon_power (x : Fin 6) (f : Polygon → Polygon) (s : State) : (s.modPolygon x f).power = s.power := rfl
@[simp] theorem modPolygon_faults (x : Fin 6) (f : Polygon → Polygon) (s : State) : (s.modPolygon x f).faults = s.faults := rfl
@[simp] theorem modPolygon_host (x : Fin 6) (f : Polygon → Polygon) (s : State) : (s.modPolygon x f).host = s.host := rfl
@[simp] theorem modPolygon_dma (x : Fin 6) (f : Polygon → Polygon) (s : State) : (s.modPolygon x f).dma = s.dma := rfl
@[simp] theorem modPolygon_telemetry (x : Fin 6) (f : Polygon → Polygon) (s : State) : (s.modPolygon x f).telemetry = s.telemetry := rfl
@[simp] theorem modPolygon_boot (x : Fin 6) (f : Polygon → Polygon) (s : State) : (s.modPolygon x f).boot = s.boot := rfl
@[simp] theorem modPolygon_otp (x : Fin 6) (f : Polygon → Polygon) (s : State) : (s.modPolygon x f).otp = s.otp := rfl
@[simp] theorem modPolygon_survey (x : Fin 6) (f : Polygon → Polygon) (s : State) : (s.modPolygon x f).survey = s.survey := rfl
@[simp] theorem modPolygon_pins (x : Fin 6) (f : Polygon → Polygon) (s : State) : (s.modPolygon x f).pins = s.pins := rfl
@[simp] theorem modPolygon_memory (x : Fin 6) (f : Polygon → Polygon) (s : State) : (s.modPolygon x f).memory = s.memory := rfl
@[simp] theorem modPolygon_logs (x : Fin 6) (f : Polygon → Polygon) (s : State) : (s.modPolygon x f).logs = s.logs := rfl
@[simp] theorem allPolygons_pending (f : Polygon → Polygon) (s : State) : (s.allPolygons f).pending = s.pending := rfl
@[simp] theorem allPolygons_free (f : Polygon → Polygon) (s : State) : (s.allPolygons f).free = s.free := rfl
@[simp] theorem allPolygons_timeUs (f : Polygon → Polygon) (s : State) : (s.allPolygons f).timeUs = s.timeUs := rfl
@[simp] theorem allPolygons_legend (f : Polygon → Polygon) (s : State) : (s.allPolygons f).legend = s.legend := rfl
@[simp] theorem allPolygons_legendApplied (f : Polygon → Polygon) (s : State) : (s.allPolygons f).legendApplied = s.legendApplied := rfl
@[simp] theorem allPolygons_layer (f : Polygon → Polygon) (s : State) : (s.allPolygons f).layer = s.layer := rfl
@[simp] theorem allPolygons_decoders (f : Polygon → Polygon) (s : State) : (s.allPolygons f).decoders = s.decoders := rfl
@[simp] theorem allPolygons_pixels (f : Polygon → Polygon) (s : State) : (s.allPolygons f).pixels = s.pixels := rfl
@[simp] theorem allPolygons_scan (f : Polygon → Polygon) (s : State) : (s.allPolygons f).scan = s.scan := rfl
@[simp] theorem allPolygons_position (f : Polygon → Polygon) (s : State) : (s.allPolygons f).position = s.position := rfl
@[simp] theorem allPolygons_polygons (f : Polygon → Polygon) (s : State) : (s.allPolygons f).polygons = mapV f s.polygons := rfl
@[simp] theorem allPolygons_loops (f : Polygon → Polygon) (s : State) : (s.allPolygons f).loops = s.loops := rfl
@[simp] theorem allPolygons_motion (f : Polygon → Polygon) (s : State) : (s.allPolygons f).motion = s.motion := rfl
@[simp] theorem allPolygons_thermal (f : Polygon → Polygon) (s : State) : (s.allPolygons f).thermal = s.thermal := rfl
@[simp] theorem allPolygons_power (f : Polygon → Polygon) (s : State) : (s.allPolygons f).power = s.power := rfl
@[simp] theorem allPolygons_faults (f : Polygon → Polygon) (s : State) : (s.allPolygons f).faults = s.faults := rfl
@[simp] theorem allPolygons_host (f : Polygon → Polygon) (s : State) : (s.allPolygons f).host = s.host := rfl
@[simp] theorem allPolygons_dma (f : Polygon → Polygon) (s : State) : (s.allPolygons f).dma = s.dma := rfl
@[simp] theorem allPolygons_telemetry (f : Polygon → Polygon) (s : State) : (s.allPolygons f).telemetry = s.telemetry := rfl
@[simp] theorem allPolygons_boot (f : Polygon → Polygon) (s : State) : (s.allPolygons f).boot = s.boot := rfl
@[simp] theorem allPolygons_otp (f : Polygon → Polygon) (s : State) : (s.allPolygons f).otp = s.otp := rfl
@[simp] theorem allPolygons_survey (f : Polygon → Polygon) (s : State) : (s.allPolygons f).survey = s.survey := rfl
@[simp] theorem allPolygons_pins (f : Polygon → Polygon) (s : State) : (s.allPolygons f).pins = s.pins := rfl
@[simp] theorem allPolygons_memory (f : Polygon → Polygon) (s : State) : (s.allPolygons f).memory = s.memory := rfl
@[simp] theorem allPolygons_logs (f : Polygon → Polygon) (s : State) : (s.allPolygons f).logs = s.logs := rfl
@[simp] theorem modLoops_pending (f : Loops → Loops) (s : State) : (s.modLoops f).pending = s.pending := rfl
@[simp] theorem modLoops_free (f : Loops → Loops) (s : State) : (s.modLoops f).free = s.free := rfl
@[simp] theorem modLoops_timeUs (f : Loops → Loops) (s : State) : (s.modLoops f).timeUs = s.timeUs := rfl
@[simp] theorem modLoops_legend (f : Loops → Loops) (s : State) : (s.modLoops f).legend = s.legend := rfl
@[simp] theorem modLoops_legendApplied (f : Loops → Loops) (s : State) : (s.modLoops f).legendApplied = s.legendApplied := rfl
@[simp] theorem modLoops_layer (f : Loops → Loops) (s : State) : (s.modLoops f).layer = s.layer := rfl
@[simp] theorem modLoops_decoders (f : Loops → Loops) (s : State) : (s.modLoops f).decoders = s.decoders := rfl
@[simp] theorem modLoops_pixels (f : Loops → Loops) (s : State) : (s.modLoops f).pixels = s.pixels := rfl
@[simp] theorem modLoops_scan (f : Loops → Loops) (s : State) : (s.modLoops f).scan = s.scan := rfl
@[simp] theorem modLoops_position (f : Loops → Loops) (s : State) : (s.modLoops f).position = s.position := rfl
@[simp] theorem modLoops_polygons (f : Loops → Loops) (s : State) : (s.modLoops f).polygons = s.polygons := rfl
@[simp] theorem modLoops_loops (f : Loops → Loops) (s : State) : (s.modLoops f).loops = f s.loops := rfl
@[simp] theorem modLoops_motion (f : Loops → Loops) (s : State) : (s.modLoops f).motion = s.motion := rfl
@[simp] theorem modLoops_thermal (f : Loops → Loops) (s : State) : (s.modLoops f).thermal = s.thermal := rfl
@[simp] theorem modLoops_power (f : Loops → Loops) (s : State) : (s.modLoops f).power = s.power := rfl
@[simp] theorem modLoops_faults (f : Loops → Loops) (s : State) : (s.modLoops f).faults = s.faults := rfl
@[simp] theorem modLoops_host (f : Loops → Loops) (s : State) : (s.modLoops f).host = s.host := rfl
@[simp] theorem modLoops_dma (f : Loops → Loops) (s : State) : (s.modLoops f).dma = s.dma := rfl
@[simp] theorem modLoops_telemetry (f : Loops → Loops) (s : State) : (s.modLoops f).telemetry = s.telemetry := rfl
@[simp] theorem modLoops_boot (f : Loops → Loops) (s : State) : (s.modLoops f).boot = s.boot := rfl
@[simp] theorem modLoops_otp (f : Loops → Loops) (s : State) : (s.modLoops f).otp = s.otp := rfl
@[simp] theorem modLoops_survey (f : Loops → Loops) (s : State) : (s.modLoops f).survey = s.survey := rfl
@[simp] theorem modLoops_pins (f : Loops → Loops) (s : State) : (s.modLoops f).pins = s.pins := rfl
@[simp] theorem modLoops_memory (f : Loops → Loops) (s : State) : (s.modLoops f).memory = s.memory := rfl
@[simp] theorem modLoops_logs (f : Loops → Loops) (s : State) : (s.modLoops f).logs = s.logs := rfl
@[simp] theorem modMotion_pending (f : Motion → Motion) (s : State) : (s.modMotion f).pending = s.pending := rfl
@[simp] theorem modMotion_free (f : Motion → Motion) (s : State) : (s.modMotion f).free = s.free := rfl
@[simp] theorem modMotion_timeUs (f : Motion → Motion) (s : State) : (s.modMotion f).timeUs = s.timeUs := rfl
@[simp] theorem modMotion_legend (f : Motion → Motion) (s : State) : (s.modMotion f).legend = s.legend := rfl
@[simp] theorem modMotion_legendApplied (f : Motion → Motion) (s : State) : (s.modMotion f).legendApplied = s.legendApplied := rfl
@[simp] theorem modMotion_layer (f : Motion → Motion) (s : State) : (s.modMotion f).layer = s.layer := rfl
@[simp] theorem modMotion_decoders (f : Motion → Motion) (s : State) : (s.modMotion f).decoders = s.decoders := rfl
@[simp] theorem modMotion_pixels (f : Motion → Motion) (s : State) : (s.modMotion f).pixels = s.pixels := rfl
@[simp] theorem modMotion_scan (f : Motion → Motion) (s : State) : (s.modMotion f).scan = s.scan := rfl
@[simp] theorem modMotion_position (f : Motion → Motion) (s : State) : (s.modMotion f).position = s.position := rfl
@[simp] theorem modMotion_polygons (f : Motion → Motion) (s : State) : (s.modMotion f).polygons = s.polygons := rfl
@[simp] theorem modMotion_loops (f : Motion → Motion) (s : State) : (s.modMotion f).loops = s.loops := rfl
@[simp] theorem modMotion_motion (f : Motion → Motion) (s : State) : (s.modMotion f).motion = f s.motion := rfl
@[simp] theorem modMotion_thermal (f : Motion → Motion) (s : State) : (s.modMotion f).thermal = s.thermal := rfl
@[simp] theorem modMotion_power (f : Motion → Motion) (s : State) : (s.modMotion f).power = s.power := rfl
@[simp] theorem modMotion_faults (f : Motion → Motion) (s : State) : (s.modMotion f).faults = s.faults := rfl
@[simp] theorem modMotion_host (f : Motion → Motion) (s : State) : (s.modMotion f).host = s.host := rfl
@[simp] theorem modMotion_dma (f : Motion → Motion) (s : State) : (s.modMotion f).dma = s.dma := rfl
@[simp] theorem modMotion_telemetry (f : Motion → Motion) (s : State) : (s.modMotion f).telemetry = s.telemetry := rfl
@[simp] theorem modMotion_boot (f : Motion → Motion) (s : State) : (s.modMotion f).boot = s.boot := rfl
@[simp] theorem modMotion_otp (f : Motion → Motion) (s : State) : (s.modMotion f).otp = s.otp := rfl
@[simp] theorem modMotion_survey (f : Motion → Motion) (s : State) : (s.modMotion f).survey = s.survey := rfl
@[simp] theorem modMotion_pins (f : Motion → Motion) (s : State) : (s.modMotion f).pins = s.pins := rfl
@[simp] theorem modMotion_memory (f : Motion → Motion) (s : State) : (s.modMotion f).memory = s.memory := rfl
@[simp] theorem modMotion_logs (f : Motion → Motion) (s : State) : (s.modMotion f).logs = s.logs := rfl
@[simp] theorem modThermal_pending (f : Thermal → Thermal) (s : State) : (s.modThermal f).pending = s.pending := rfl
@[simp] theorem modThermal_free (f : Thermal → Thermal) (s : State) : (s.modThermal f).free = s.free := rfl
@[simp] theorem modThermal_timeUs (f : Thermal → Thermal) (s : State) : (s.modThermal f).timeUs = s.timeUs := rfl
@[simp] theorem modThermal_legend (f : Thermal → Thermal) (s : State) : (s.modThermal f).legend = s.legend := rfl
@[simp] theorem modThermal_legendApplied (f : Thermal → Thermal) (s : State) : (s.modThermal f).legendApplied = s.legendApplied := rfl
@[simp] theorem modThermal_layer (f : Thermal → Thermal) (s : State) : (s.modThermal f).layer = s.layer := rfl
@[simp] theorem modThermal_decoders (f : Thermal → Thermal) (s : State) : (s.modThermal f).decoders = s.decoders := rfl
@[simp] theorem modThermal_pixels (f : Thermal → Thermal) (s : State) : (s.modThermal f).pixels = s.pixels := rfl
@[simp] theorem modThermal_scan (f : Thermal → Thermal) (s : State) : (s.modThermal f).scan = s.scan := rfl
@[simp] theorem modThermal_position (f : Thermal → Thermal) (s : State) : (s.modThermal f).position = s.position := rfl
@[simp] theorem modThermal_polygons (f : Thermal → Thermal) (s : State) : (s.modThermal f).polygons = s.polygons := rfl
@[simp] theorem modThermal_loops (f : Thermal → Thermal) (s : State) : (s.modThermal f).loops = s.loops := rfl
@[simp] theorem modThermal_motion (f : Thermal → Thermal) (s : State) : (s.modThermal f).motion = s.motion := rfl
@[simp] theorem modThermal_thermal (f : Thermal → Thermal) (s : State) : (s.modThermal f).thermal = f s.thermal := rfl
@[simp] theorem modThermal_power (f : Thermal → Thermal) (s : State) : (s.modThermal f).power = s.power := rfl
@[simp] theorem modThermal_faults (f : Thermal → Thermal) (s : State) : (s.modThermal f).faults = s.faults := rfl
@[simp] theorem modThermal_host (f : Thermal → Thermal) (s : State) : (s.modThermal f).host = s.host := rfl
@[simp] theorem modThermal_dma (f : Thermal → Thermal) (s : State) : (s.modThermal f).dma = s.dma := rfl
@[simp] theorem modThermal_telemetry (f : Thermal → Thermal) (s : State) : (s.modThermal f).telemetry = s.telemetry := rfl
@[simp] theorem modThermal_boot (f : Thermal → Thermal) (s : State) : (s.modThermal f).boot = s.boot := rfl
@[simp] theorem modThermal_otp (f : Thermal → Thermal) (s : State) : (s.modThermal f).otp = s.otp := rfl
@[simp] theorem modThermal_survey (f : Thermal → Thermal) (s : State) : (s.modThermal f).survey = s.survey := rfl
@[simp] theorem modThermal_pins (f : Thermal → Thermal) (s : State) : (s.modThermal f).pins = s.pins := rfl
@[simp] theorem modThermal_memory (f : Thermal → Thermal) (s : State) : (s.modThermal f).memory = s.memory := rfl
@[simp] theorem modThermal_logs (f : Thermal → Thermal) (s : State) : (s.modThermal f).logs = s.logs := rfl
@[simp] theorem modPower_pending (f : Power → Power) (s : State) : (s.modPower f).pending = s.pending := rfl
@[simp] theorem modPower_free (f : Power → Power) (s : State) : (s.modPower f).free = s.free := rfl
@[simp] theorem modPower_timeUs (f : Power → Power) (s : State) : (s.modPower f).timeUs = s.timeUs := rfl
@[simp] theorem modPower_legend (f : Power → Power) (s : State) : (s.modPower f).legend = s.legend := rfl
@[simp] theorem modPower_legendApplied (f : Power → Power) (s : State) : (s.modPower f).legendApplied = s.legendApplied := rfl
@[simp] theorem modPower_layer (f : Power → Power) (s : State) : (s.modPower f).layer = s.layer := rfl
@[simp] theorem modPower_decoders (f : Power → Power) (s : State) : (s.modPower f).decoders = s.decoders := rfl
@[simp] theorem modPower_pixels (f : Power → Power) (s : State) : (s.modPower f).pixels = s.pixels := rfl
@[simp] theorem modPower_scan (f : Power → Power) (s : State) : (s.modPower f).scan = s.scan := rfl
@[simp] theorem modPower_position (f : Power → Power) (s : State) : (s.modPower f).position = s.position := rfl
@[simp] theorem modPower_polygons (f : Power → Power) (s : State) : (s.modPower f).polygons = s.polygons := rfl
@[simp] theorem modPower_loops (f : Power → Power) (s : State) : (s.modPower f).loops = s.loops := rfl
@[simp] theorem modPower_motion (f : Power → Power) (s : State) : (s.modPower f).motion = s.motion := rfl
@[simp] theorem modPower_thermal (f : Power → Power) (s : State) : (s.modPower f).thermal = s.thermal := rfl
@[simp] theorem modPower_power (f : Power → Power) (s : State) : (s.modPower f).power = f s.power := rfl
@[simp] theorem modPower_faults (f : Power → Power) (s : State) : (s.modPower f).faults = s.faults := rfl
@[simp] theorem modPower_host (f : Power → Power) (s : State) : (s.modPower f).host = s.host := rfl
@[simp] theorem modPower_dma (f : Power → Power) (s : State) : (s.modPower f).dma = s.dma := rfl
@[simp] theorem modPower_telemetry (f : Power → Power) (s : State) : (s.modPower f).telemetry = s.telemetry := rfl
@[simp] theorem modPower_boot (f : Power → Power) (s : State) : (s.modPower f).boot = s.boot := rfl
@[simp] theorem modPower_otp (f : Power → Power) (s : State) : (s.modPower f).otp = s.otp := rfl
@[simp] theorem modPower_survey (f : Power → Power) (s : State) : (s.modPower f).survey = s.survey := rfl
@[simp] theorem modPower_pins (f : Power → Power) (s : State) : (s.modPower f).pins = s.pins := rfl
@[simp] theorem modPower_memory (f : Power → Power) (s : State) : (s.modPower f).memory = s.memory := rfl
@[simp] theorem modPower_logs (f : Power → Power) (s : State) : (s.modPower f).logs = s.logs := rfl
@[simp] theorem modFaults_pending (f : Faults → Faults) (s : State) : (s.modFaults f).pending = s.pending := rfl
@[simp] theorem modFaults_free (f : Faults → Faults) (s : State) : (s.modFaults f).free = s.free := rfl
@[simp] theorem modFaults_timeUs (f : Faults → Faults) (s : State) : (s.modFaults f).timeUs = s.timeUs := rfl
@[simp] theorem modFaults_legend (f : Faults → Faults) (s : State) : (s.modFaults f).legend = s.legend := rfl
@[simp] theorem modFaults_legendApplied (f : Faults → Faults) (s : State) : (s.modFaults f).legendApplied = s.legendApplied := rfl
@[simp] theorem modFaults_layer (f : Faults → Faults) (s : State) : (s.modFaults f).layer = s.layer := rfl
@[simp] theorem modFaults_decoders (f : Faults → Faults) (s : State) : (s.modFaults f).decoders = s.decoders := rfl
@[simp] theorem modFaults_pixels (f : Faults → Faults) (s : State) : (s.modFaults f).pixels = s.pixels := rfl
@[simp] theorem modFaults_scan (f : Faults → Faults) (s : State) : (s.modFaults f).scan = s.scan := rfl
@[simp] theorem modFaults_position (f : Faults → Faults) (s : State) : (s.modFaults f).position = s.position := rfl
@[simp] theorem modFaults_polygons (f : Faults → Faults) (s : State) : (s.modFaults f).polygons = s.polygons := rfl
@[simp] theorem modFaults_loops (f : Faults → Faults) (s : State) : (s.modFaults f).loops = s.loops := rfl
@[simp] theorem modFaults_motion (f : Faults → Faults) (s : State) : (s.modFaults f).motion = s.motion := rfl
@[simp] theorem modFaults_thermal (f : Faults → Faults) (s : State) : (s.modFaults f).thermal = s.thermal := rfl
@[simp] theorem modFaults_power (f : Faults → Faults) (s : State) : (s.modFaults f).power = s.power := rfl
@[simp] theorem modFaults_faults (f : Faults → Faults) (s : State) : (s.modFaults f).faults = f s.faults := rfl
@[simp] theorem modFaults_host (f : Faults → Faults) (s : State) : (s.modFaults f).host = s.host := rfl
@[simp] theorem modFaults_dma (f : Faults → Faults) (s : State) : (s.modFaults f).dma = s.dma := rfl
@[simp] theorem modFaults_telemetry (f : Faults → Faults) (s : State) : (s.modFaults f).telemetry = s.telemetry := rfl
@[simp] theorem modFaults_boot (f : Faults → Faults) (s : State) : (s.modFaults f).boot = s.boot := rfl
@[simp] theorem modFaults_otp (f : Faults → Faults) (s : State) : (s.modFaults f).otp = s.otp := rfl
@[simp] theorem modFaults_survey (f : Faults → Faults) (s : State) : (s.modFaults f).survey = s.survey := rfl
@[simp] theorem modFaults_pins (f : Faults → Faults) (s : State) : (s.modFaults f).pins = s.pins := rfl
@[simp] theorem modFaults_memory (f : Faults → Faults) (s : State) : (s.modFaults f).memory = s.memory := rfl
@[simp] theorem modFaults_logs (f : Faults → Faults) (s : State) : (s.modFaults f).logs = s.logs := rfl
@[simp] theorem modHost_pending (f : HostPort → HostPort) (s : State) : (s.modHost f).pending = s.pending := rfl
@[simp] theorem modHost_free (f : HostPort → HostPort) (s : State) : (s.modHost f).free = s.free := rfl
@[simp] theorem modHost_timeUs (f : HostPort → HostPort) (s : State) : (s.modHost f).timeUs = s.timeUs := rfl
@[simp] theorem modHost_legend (f : HostPort → HostPort) (s : State) : (s.modHost f).legend = s.legend := rfl
@[simp] theorem modHost_legendApplied (f : HostPort → HostPort) (s : State) : (s.modHost f).legendApplied = s.legendApplied := rfl
@[simp] theorem modHost_layer (f : HostPort → HostPort) (s : State) : (s.modHost f).layer = s.layer := rfl
@[simp] theorem modHost_decoders (f : HostPort → HostPort) (s : State) : (s.modHost f).decoders = s.decoders := rfl
@[simp] theorem modHost_pixels (f : HostPort → HostPort) (s : State) : (s.modHost f).pixels = s.pixels := rfl
@[simp] theorem modHost_scan (f : HostPort → HostPort) (s : State) : (s.modHost f).scan = s.scan := rfl
@[simp] theorem modHost_position (f : HostPort → HostPort) (s : State) : (s.modHost f).position = s.position := rfl
@[simp] theorem modHost_polygons (f : HostPort → HostPort) (s : State) : (s.modHost f).polygons = s.polygons := rfl
@[simp] theorem modHost_loops (f : HostPort → HostPort) (s : State) : (s.modHost f).loops = s.loops := rfl
@[simp] theorem modHost_motion (f : HostPort → HostPort) (s : State) : (s.modHost f).motion = s.motion := rfl
@[simp] theorem modHost_thermal (f : HostPort → HostPort) (s : State) : (s.modHost f).thermal = s.thermal := rfl
@[simp] theorem modHost_power (f : HostPort → HostPort) (s : State) : (s.modHost f).power = s.power := rfl
@[simp] theorem modHost_faults (f : HostPort → HostPort) (s : State) : (s.modHost f).faults = s.faults := rfl
@[simp] theorem modHost_host (f : HostPort → HostPort) (s : State) : (s.modHost f).host = f s.host := rfl
@[simp] theorem modHost_dma (f : HostPort → HostPort) (s : State) : (s.modHost f).dma = s.dma := rfl
@[simp] theorem modHost_telemetry (f : HostPort → HostPort) (s : State) : (s.modHost f).telemetry = s.telemetry := rfl
@[simp] theorem modHost_boot (f : HostPort → HostPort) (s : State) : (s.modHost f).boot = s.boot := rfl
@[simp] theorem modHost_otp (f : HostPort → HostPort) (s : State) : (s.modHost f).otp = s.otp := rfl
@[simp] theorem modHost_survey (f : HostPort → HostPort) (s : State) : (s.modHost f).survey = s.survey := rfl
@[simp] theorem modHost_pins (f : HostPort → HostPort) (s : State) : (s.modHost f).pins = s.pins := rfl
@[simp] theorem modHost_memory (f : HostPort → HostPort) (s : State) : (s.modHost f).memory = s.memory := rfl
@[simp] theorem modHost_logs (f : HostPort → HostPort) (s : State) : (s.modHost f).logs = s.logs := rfl
@[simp] theorem modDma_pending (f : Dma → Dma) (s : State) : (s.modDma f).pending = s.pending := rfl
@[simp] theorem modDma_free (f : Dma → Dma) (s : State) : (s.modDma f).free = s.free := rfl
@[simp] theorem modDma_timeUs (f : Dma → Dma) (s : State) : (s.modDma f).timeUs = s.timeUs := rfl
@[simp] theorem modDma_legend (f : Dma → Dma) (s : State) : (s.modDma f).legend = s.legend := rfl
@[simp] theorem modDma_legendApplied (f : Dma → Dma) (s : State) : (s.modDma f).legendApplied = s.legendApplied := rfl
@[simp] theorem modDma_layer (f : Dma → Dma) (s : State) : (s.modDma f).layer = s.layer := rfl
@[simp] theorem modDma_decoders (f : Dma → Dma) (s : State) : (s.modDma f).decoders = s.decoders := rfl
@[simp] theorem modDma_pixels (f : Dma → Dma) (s : State) : (s.modDma f).pixels = s.pixels := rfl
@[simp] theorem modDma_scan (f : Dma → Dma) (s : State) : (s.modDma f).scan = s.scan := rfl
@[simp] theorem modDma_position (f : Dma → Dma) (s : State) : (s.modDma f).position = s.position := rfl
@[simp] theorem modDma_polygons (f : Dma → Dma) (s : State) : (s.modDma f).polygons = s.polygons := rfl
@[simp] theorem modDma_loops (f : Dma → Dma) (s : State) : (s.modDma f).loops = s.loops := rfl
@[simp] theorem modDma_motion (f : Dma → Dma) (s : State) : (s.modDma f).motion = s.motion := rfl
@[simp] theorem modDma_thermal (f : Dma → Dma) (s : State) : (s.modDma f).thermal = s.thermal := rfl
@[simp] theorem modDma_power (f : Dma → Dma) (s : State) : (s.modDma f).power = s.power := rfl
@[simp] theorem modDma_faults (f : Dma → Dma) (s : State) : (s.modDma f).faults = s.faults := rfl
@[simp] theorem modDma_host (f : Dma → Dma) (s : State) : (s.modDma f).host = s.host := rfl
@[simp] theorem modDma_dma (f : Dma → Dma) (s : State) : (s.modDma f).dma = f s.dma := rfl
@[simp] theorem modDma_telemetry (f : Dma → Dma) (s : State) : (s.modDma f).telemetry = s.telemetry := rfl
@[simp] theorem modDma_boot (f : Dma → Dma) (s : State) : (s.modDma f).boot = s.boot := rfl
@[simp] theorem modDma_otp (f : Dma → Dma) (s : State) : (s.modDma f).otp = s.otp := rfl
@[simp] theorem modDma_survey (f : Dma → Dma) (s : State) : (s.modDma f).survey = s.survey := rfl
@[simp] theorem modDma_pins (f : Dma → Dma) (s : State) : (s.modDma f).pins = s.pins := rfl
@[simp] theorem modDma_memory (f : Dma → Dma) (s : State) : (s.modDma f).memory = s.memory := rfl
@[simp] theorem modDma_logs (f : Dma → Dma) (s : State) : (s.modDma f).logs = s.logs := rfl
@[simp] theorem modTelemetry_pending (f : Telemetry → Telemetry) (s : State) : (s.modTelemetry f).pending = s.pending := rfl
@[simp] theorem modTelemetry_free (f : Telemetry → Telemetry) (s : State) : (s.modTelemetry f).free = s.free := rfl
@[simp] theorem modTelemetry_timeUs (f : Telemetry → Telemetry) (s : State) : (s.modTelemetry f).timeUs = s.timeUs := rfl
@[simp] theorem modTelemetry_legend (f : Telemetry → Telemetry) (s : State) : (s.modTelemetry f).legend = s.legend := rfl
@[simp] theorem modTelemetry_legendApplied (f : Telemetry → Telemetry) (s : State) : (s.modTelemetry f).legendApplied = s.legendApplied := rfl
@[simp] theorem modTelemetry_layer (f : Telemetry → Telemetry) (s : State) : (s.modTelemetry f).layer = s.layer := rfl
@[simp] theorem modTelemetry_decoders (f : Telemetry → Telemetry) (s : State) : (s.modTelemetry f).decoders = s.decoders := rfl
@[simp] theorem modTelemetry_pixels (f : Telemetry → Telemetry) (s : State) : (s.modTelemetry f).pixels = s.pixels := rfl
@[simp] theorem modTelemetry_scan (f : Telemetry → Telemetry) (s : State) : (s.modTelemetry f).scan = s.scan := rfl
@[simp] theorem modTelemetry_position (f : Telemetry → Telemetry) (s : State) : (s.modTelemetry f).position = s.position := rfl
@[simp] theorem modTelemetry_polygons (f : Telemetry → Telemetry) (s : State) : (s.modTelemetry f).polygons = s.polygons := rfl
@[simp] theorem modTelemetry_loops (f : Telemetry → Telemetry) (s : State) : (s.modTelemetry f).loops = s.loops := rfl
@[simp] theorem modTelemetry_motion (f : Telemetry → Telemetry) (s : State) : (s.modTelemetry f).motion = s.motion := rfl
@[simp] theorem modTelemetry_thermal (f : Telemetry → Telemetry) (s : State) : (s.modTelemetry f).thermal = s.thermal := rfl
@[simp] theorem modTelemetry_power (f : Telemetry → Telemetry) (s : State) : (s.modTelemetry f).power = s.power := rfl
@[simp] theorem modTelemetry_faults (f : Telemetry → Telemetry) (s : State) : (s.modTelemetry f).faults = s.faults := rfl
@[simp] theorem modTelemetry_host (f : Telemetry → Telemetry) (s : State) : (s.modTelemetry f).host = s.host := rfl
@[simp] theorem modTelemetry_dma (f : Telemetry → Telemetry) (s : State) : (s.modTelemetry f).dma = s.dma := rfl
@[simp] theorem modTelemetry_telemetry (f : Telemetry → Telemetry) (s : State) : (s.modTelemetry f).telemetry = f s.telemetry := rfl
@[simp] theorem modTelemetry_boot (f : Telemetry → Telemetry) (s : State) : (s.modTelemetry f).boot = s.boot := rfl
@[simp] theorem modTelemetry_otp (f : Telemetry → Telemetry) (s : State) : (s.modTelemetry f).otp = s.otp := rfl
@[simp] theorem modTelemetry_survey (f : Telemetry → Telemetry) (s : State) : (s.modTelemetry f).survey = s.survey := rfl
@[simp] theorem modTelemetry_pins (f : Telemetry → Telemetry) (s : State) : (s.modTelemetry f).pins = s.pins := rfl
@[simp] theorem modTelemetry_memory (f : Telemetry → Telemetry) (s : State) : (s.modTelemetry f).memory = s.memory := rfl
@[simp] theorem modTelemetry_logs (f : Telemetry → Telemetry) (s : State) : (s.modTelemetry f).logs = s.logs := rfl
@[simp] theorem modBoot_pending (f : Boot → Boot) (s : State) : (s.modBoot f).pending = s.pending := rfl
@[simp] theorem modBoot_free (f : Boot → Boot) (s : State) : (s.modBoot f).free = s.free := rfl
@[simp] theorem modBoot_timeUs (f : Boot → Boot) (s : State) : (s.modBoot f).timeUs = s.timeUs := rfl
@[simp] theorem modBoot_legend (f : Boot → Boot) (s : State) : (s.modBoot f).legend = s.legend := rfl
@[simp] theorem modBoot_legendApplied (f : Boot → Boot) (s : State) : (s.modBoot f).legendApplied = s.legendApplied := rfl
@[simp] theorem modBoot_layer (f : Boot → Boot) (s : State) : (s.modBoot f).layer = s.layer := rfl
@[simp] theorem modBoot_decoders (f : Boot → Boot) (s : State) : (s.modBoot f).decoders = s.decoders := rfl
@[simp] theorem modBoot_pixels (f : Boot → Boot) (s : State) : (s.modBoot f).pixels = s.pixels := rfl
@[simp] theorem modBoot_scan (f : Boot → Boot) (s : State) : (s.modBoot f).scan = s.scan := rfl
@[simp] theorem modBoot_position (f : Boot → Boot) (s : State) : (s.modBoot f).position = s.position := rfl
@[simp] theorem modBoot_polygons (f : Boot → Boot) (s : State) : (s.modBoot f).polygons = s.polygons := rfl
@[simp] theorem modBoot_loops (f : Boot → Boot) (s : State) : (s.modBoot f).loops = s.loops := rfl
@[simp] theorem modBoot_motion (f : Boot → Boot) (s : State) : (s.modBoot f).motion = s.motion := rfl
@[simp] theorem modBoot_thermal (f : Boot → Boot) (s : State) : (s.modBoot f).thermal = s.thermal := rfl
@[simp] theorem modBoot_power (f : Boot → Boot) (s : State) : (s.modBoot f).power = s.power := rfl
@[simp] theorem modBoot_faults (f : Boot → Boot) (s : State) : (s.modBoot f).faults = s.faults := rfl
@[simp] theorem modBoot_host (f : Boot → Boot) (s : State) : (s.modBoot f).host = s.host := rfl
@[simp] theorem modBoot_dma (f : Boot → Boot) (s : State) : (s.modBoot f).dma = s.dma := rfl
@[simp] theorem modBoot_telemetry (f : Boot → Boot) (s : State) : (s.modBoot f).telemetry = s.telemetry := rfl
@[simp] theorem modBoot_boot (f : Boot → Boot) (s : State) : (s.modBoot f).boot = f s.boot := rfl
@[simp] theorem modBoot_otp (f : Boot → Boot) (s : State) : (s.modBoot f).otp = s.otp := rfl
@[simp] theorem modBoot_survey (f : Boot → Boot) (s : State) : (s.modBoot f).survey = s.survey := rfl
@[simp] theorem modBoot_pins (f : Boot → Boot) (s : State) : (s.modBoot f).pins = s.pins := rfl
@[simp] theorem modBoot_memory (f : Boot → Boot) (s : State) : (s.modBoot f).memory = s.memory := rfl
@[simp] theorem modBoot_logs (f : Boot → Boot) (s : State) : (s.modBoot f).logs = s.logs := rfl
@[simp] theorem modOtp_pending (f : Otp → Otp) (s : State) : (s.modOtp f).pending = s.pending := rfl
@[simp] theorem modOtp_free (f : Otp → Otp) (s : State) : (s.modOtp f).free = s.free := rfl
@[simp] theorem modOtp_timeUs (f : Otp → Otp) (s : State) : (s.modOtp f).timeUs = s.timeUs := rfl
@[simp] theorem modOtp_legend (f : Otp → Otp) (s : State) : (s.modOtp f).legend = s.legend := rfl
@[simp] theorem modOtp_legendApplied (f : Otp → Otp) (s : State) : (s.modOtp f).legendApplied = s.legendApplied := rfl
@[simp] theorem modOtp_layer (f : Otp → Otp) (s : State) : (s.modOtp f).layer = s.layer := rfl
@[simp] theorem modOtp_decoders (f : Otp → Otp) (s : State) : (s.modOtp f).decoders = s.decoders := rfl
@[simp] theorem modOtp_pixels (f : Otp → Otp) (s : State) : (s.modOtp f).pixels = s.pixels := rfl
@[simp] theorem modOtp_scan (f : Otp → Otp) (s : State) : (s.modOtp f).scan = s.scan := rfl
@[simp] theorem modOtp_position (f : Otp → Otp) (s : State) : (s.modOtp f).position = s.position := rfl
@[simp] theorem modOtp_polygons (f : Otp → Otp) (s : State) : (s.modOtp f).polygons = s.polygons := rfl
@[simp] theorem modOtp_loops (f : Otp → Otp) (s : State) : (s.modOtp f).loops = s.loops := rfl
@[simp] theorem modOtp_motion (f : Otp → Otp) (s : State) : (s.modOtp f).motion = s.motion := rfl
@[simp] theorem modOtp_thermal (f : Otp → Otp) (s : State) : (s.modOtp f).thermal = s.thermal := rfl
@[simp] theorem modOtp_power (f : Otp → Otp) (s : State) : (s.modOtp f).power = s.power := rfl
@[simp] theorem modOtp_faults (f : Otp → Otp) (s : State) : (s.modOtp f).faults = s.faults := rfl
@[simp] theorem modOtp_host (f : Otp → Otp) (s : State) : (s.modOtp f).host = s.host := rfl
@[simp] theorem modOtp_dma (f : Otp → Otp) (s : State) : (s.modOtp f).dma = s.dma := rfl
@[simp] theorem modOtp_telemetry (f : Otp → Otp) (s : State) : (s.modOtp f).telemetry = s.telemetry := rfl
@[simp] theorem modOtp_boot (f : Otp → Otp) (s : State) : (s.modOtp f).boot = s.boot := rfl
@[simp] theorem modOtp_otp (f : Otp → Otp) (s : State) : (s.modOtp f).otp = f s.otp := rfl
@[simp] theorem modOtp_survey (f : Otp → Otp) (s : State) : (s.modOtp f).survey = s.survey := rfl
@[simp] theorem modOtp_pins (f : Otp → Otp) (s : State) : (s.modOtp f).pins = s.pins := rfl
@[simp] theorem modOtp_memory (f : Otp → Otp) (s : State) : (s.modOtp f).memory = s.memory := rfl
@[simp] theorem modOtp_logs (f : Otp → Otp) (s : State) : (s.modOtp f).logs = s.logs := rfl
@[simp] theorem modSurvey_pending (f : Survey → Survey) (s : State) : (s.modSurvey f).pending = s.pending := rfl
@[simp] theorem modSurvey_free (f : Survey → Survey) (s : State) : (s.modSurvey f).free = s.free := rfl
@[simp] theorem modSurvey_timeUs (f : Survey → Survey) (s : State) : (s.modSurvey f).timeUs = s.timeUs := rfl
@[simp] theorem modSurvey_legend (f : Survey → Survey) (s : State) : (s.modSurvey f).legend = s.legend := rfl
@[simp] theorem modSurvey_legendApplied (f : Survey → Survey) (s : State) : (s.modSurvey f).legendApplied = s.legendApplied := rfl
@[simp] theorem modSurvey_layer (f : Survey → Survey) (s : State) : (s.modSurvey f).layer = s.layer := rfl
@[simp] theorem modSurvey_decoders (f : Survey → Survey) (s : State) : (s.modSurvey f).decoders = s.decoders := rfl
@[simp] theorem modSurvey_pixels (f : Survey → Survey) (s : State) : (s.modSurvey f).pixels = s.pixels := rfl
@[simp] theorem modSurvey_scan (f : Survey → Survey) (s : State) : (s.modSurvey f).scan = s.scan := rfl
@[simp] theorem modSurvey_position (f : Survey → Survey) (s : State) : (s.modSurvey f).position = s.position := rfl
@[simp] theorem modSurvey_polygons (f : Survey → Survey) (s : State) : (s.modSurvey f).polygons = s.polygons := rfl
@[simp] theorem modSurvey_loops (f : Survey → Survey) (s : State) : (s.modSurvey f).loops = s.loops := rfl
@[simp] theorem modSurvey_motion (f : Survey → Survey) (s : State) : (s.modSurvey f).motion = s.motion := rfl
@[simp] theorem modSurvey_thermal (f : Survey → Survey) (s : State) : (s.modSurvey f).thermal = s.thermal := rfl
@[simp] theorem modSurvey_power (f : Survey → Survey) (s : State) : (s.modSurvey f).power = s.power := rfl
@[simp] theorem modSurvey_faults (f : Survey → Survey) (s : State) : (s.modSurvey f).faults = s.faults := rfl
@[simp] theorem modSurvey_host (f : Survey → Survey) (s : State) : (s.modSurvey f).host = s.host := rfl
@[simp] theorem modSurvey_dma (f : Survey → Survey) (s : State) : (s.modSurvey f).dma = s.dma := rfl
@[simp] theorem modSurvey_telemetry (f : Survey → Survey) (s : State) : (s.modSurvey f).telemetry = s.telemetry := rfl
@[simp] theorem modSurvey_boot (f : Survey → Survey) (s : State) : (s.modSurvey f).boot = s.boot := rfl
@[simp] theorem modSurvey_otp (f : Survey → Survey) (s : State) : (s.modSurvey f).otp = s.otp := rfl
@[simp] theorem modSurvey_survey (f : Survey → Survey) (s : State) : (s.modSurvey f).survey = f s.survey := rfl
@[simp] theorem modSurvey_pins (f : Survey → Survey) (s : State) : (s.modSurvey f).pins = s.pins := rfl
@[simp] theorem modSurvey_memory (f : Survey → Survey) (s : State) : (s.modSurvey f).memory = s.memory := rfl
@[simp] theorem modSurvey_logs (f : Survey → Survey) (s : State) : (s.modSurvey f).logs = s.logs := rfl
@[simp] theorem modPins_pending (f : Pins → Pins) (s : State) : (s.modPins f).pending = s.pending := rfl
@[simp] theorem modPins_free (f : Pins → Pins) (s : State) : (s.modPins f).free = s.free := rfl
@[simp] theorem modPins_timeUs (f : Pins → Pins) (s : State) : (s.modPins f).timeUs = s.timeUs := rfl
@[simp] theorem modPins_legend (f : Pins → Pins) (s : State) : (s.modPins f).legend = s.legend := rfl
@[simp] theorem modPins_legendApplied (f : Pins → Pins) (s : State) : (s.modPins f).legendApplied = s.legendApplied := rfl
@[simp] theorem modPins_layer (f : Pins → Pins) (s : State) : (s.modPins f).layer = s.layer := rfl
@[simp] theorem modPins_decoders (f : Pins → Pins) (s : State) : (s.modPins f).decoders = s.decoders := rfl
@[simp] theorem modPins_pixels (f : Pins → Pins) (s : State) : (s.modPins f).pixels = s.pixels := rfl
@[simp] theorem modPins_scan (f : Pins → Pins) (s : State) : (s.modPins f).scan = s.scan := rfl
@[simp] theorem modPins_position (f : Pins → Pins) (s : State) : (s.modPins f).position = s.position := rfl
@[simp] theorem modPins_polygons (f : Pins → Pins) (s : State) : (s.modPins f).polygons = s.polygons := rfl
@[simp] theorem modPins_loops (f : Pins → Pins) (s : State) : (s.modPins f).loops = s.loops := rfl
@[simp] theorem modPins_motion (f : Pins → Pins) (s : State) : (s.modPins f).motion = s.motion := rfl
@[simp] theorem modPins_thermal (f : Pins → Pins) (s : State) : (s.modPins f).thermal = s.thermal := rfl
@[simp] theorem modPins_power (f : Pins → Pins) (s : State) : (s.modPins f).power = s.power := rfl
@[simp] theorem modPins_faults (f : Pins → Pins) (s : State) : (s.modPins f).faults = s.faults := rfl
@[simp] theorem modPins_host (f : Pins → Pins) (s : State) : (s.modPins f).host = s.host := rfl
@[simp] theorem modPins_dma (f : Pins → Pins) (s : State) : (s.modPins f).dma = s.dma := rfl
@[simp] theorem modPins_telemetry (f : Pins → Pins) (s : State) : (s.modPins f).telemetry = s.telemetry := rfl
@[simp] theorem modPins_boot (f : Pins → Pins) (s : State) : (s.modPins f).boot = s.boot := rfl
@[simp] theorem modPins_otp (f : Pins → Pins) (s : State) : (s.modPins f).otp = s.otp := rfl
@[simp] theorem modPins_survey (f : Pins → Pins) (s : State) : (s.modPins f).survey = s.survey := rfl
@[simp] theorem modPins_pins (f : Pins → Pins) (s : State) : (s.modPins f).pins = f s.pins := rfl
@[simp] theorem modPins_memory (f : Pins → Pins) (s : State) : (s.modPins f).memory = s.memory := rfl
@[simp] theorem modPins_logs (f : Pins → Pins) (s : State) : (s.modPins f).logs = s.logs := rfl
@[simp] theorem modMemory_pending (f : Memory → Memory) (s : State) : (s.modMemory f).pending = s.pending := rfl
@[simp] theorem modMemory_free (f : Memory → Memory) (s : State) : (s.modMemory f).free = s.free := rfl
@[simp] theorem modMemory_timeUs (f : Memory → Memory) (s : State) : (s.modMemory f).timeUs = s.timeUs := rfl
@[simp] theorem modMemory_legend (f : Memory → Memory) (s : State) : (s.modMemory f).legend = s.legend := rfl
@[simp] theorem modMemory_legendApplied (f : Memory → Memory) (s : State) : (s.modMemory f).legendApplied = s.legendApplied := rfl
@[simp] theorem modMemory_layer (f : Memory → Memory) (s : State) : (s.modMemory f).layer = s.layer := rfl
@[simp] theorem modMemory_decoders (f : Memory → Memory) (s : State) : (s.modMemory f).decoders = s.decoders := rfl
@[simp] theorem modMemory_pixels (f : Memory → Memory) (s : State) : (s.modMemory f).pixels = s.pixels := rfl
@[simp] theorem modMemory_scan (f : Memory → Memory) (s : State) : (s.modMemory f).scan = s.scan := rfl
@[simp] theorem modMemory_position (f : Memory → Memory) (s : State) : (s.modMemory f).position = s.position := rfl
@[simp] theorem modMemory_polygons (f : Memory → Memory) (s : State) : (s.modMemory f).polygons = s.polygons := rfl
@[simp] theorem modMemory_loops (f : Memory → Memory) (s : State) : (s.modMemory f).loops = s.loops := rfl
@[simp] theorem modMemory_motion (f : Memory → Memory) (s : State) : (s.modMemory f).motion = s.motion := rfl
@[simp] theorem modMemory_thermal (f : Memory → Memory) (s : State) : (s.modMemory f).thermal = s.thermal := rfl
@[simp] theorem modMemory_power (f : Memory → Memory) (s : State) : (s.modMemory f).power = s.power := rfl
@[simp] theorem modMemory_faults (f : Memory → Memory) (s : State) : (s.modMemory f).faults = s.faults := rfl
@[simp] theorem modMemory_host (f : Memory → Memory) (s : State) : (s.modMemory f).host = s.host := rfl
@[simp] theorem modMemory_dma (f : Memory → Memory) (s : State) : (s.modMemory f).dma = s.dma := rfl
@[simp] theorem modMemory_telemetry (f : Memory → Memory) (s : State) : (s.modMemory f).telemetry = s.telemetry := rfl
@[simp] theorem modMemory_boot (f : Memory → Memory) (s : State) : (s.modMemory f).boot = s.boot := rfl
@[simp] theorem modMemory_otp (f : Memory → Memory) (s : State) : (s.modMemory f).otp = s.otp := rfl
@[simp] theorem modMemory_survey (f : Memory → Memory) (s : State) : (s.modMemory f).survey = s.survey := rfl
@[simp] theorem modMemory_pins (f : Memory → Memory) (s : State) : (s.modMemory f).pins = s.pins := rfl
@[simp] theorem modMemory_memory (f : Memory → Memory) (s : State) : (s.modMemory f).memory = f s.memory := rfl
@[simp] theorem modMemory_logs (f : Memory → Memory) (s : State) : (s.modMemory f).logs = s.logs := rfl
@[simp] theorem modLogs_pending (f : Logs → Logs) (s : State) : (s.modLogs f).pending = s.pending := rfl
@[simp] theorem modLogs_free (f : Logs → Logs) (s : State) : (s.modLogs f).free = s.free := rfl
@[simp] theorem modLogs_timeUs (f : Logs → Logs) (s : State) : (s.modLogs f).timeUs = s.timeUs := rfl
@[simp] theorem modLogs_legend (f : Logs → Logs) (s : State) : (s.modLogs f).legend = s.legend := rfl
@[simp] theorem modLogs_legendApplied (f : Logs → Logs) (s : State) : (s.modLogs f).legendApplied = s.legendApplied := rfl
@[simp] theorem modLogs_layer (f : Logs → Logs) (s : State) : (s.modLogs f).layer = s.layer := rfl
@[simp] theorem modLogs_decoders (f : Logs → Logs) (s : State) : (s.modLogs f).decoders = s.decoders := rfl
@[simp] theorem modLogs_pixels (f : Logs → Logs) (s : State) : (s.modLogs f).pixels = s.pixels := rfl
@[simp] theorem modLogs_scan (f : Logs → Logs) (s : State) : (s.modLogs f).scan = s.scan := rfl
@[simp] theorem modLogs_position (f : Logs → Logs) (s : State) : (s.modLogs f).position = s.position := rfl
@[simp] theorem modLogs_polygons (f : Logs → Logs) (s : State) : (s.modLogs f).polygons = s.polygons := rfl
@[simp] theorem modLogs_loops (f : Logs → Logs) (s : State) : (s.modLogs f).loops = s.loops := rfl
@[simp] theorem modLogs_motion (f : Logs → Logs) (s : State) : (s.modLogs f).motion = s.motion := rfl
@[simp] theorem modLogs_thermal (f : Logs → Logs) (s : State) : (s.modLogs f).thermal = s.thermal := rfl
@[simp] theorem modLogs_power (f : Logs → Logs) (s : State) : (s.modLogs f).power = s.power := rfl
@[simp] theorem modLogs_faults (f : Logs → Logs) (s : State) : (s.modLogs f).faults = s.faults := rfl
@[simp] theorem modLogs_host (f : Logs → Logs) (s : State) : (s.modLogs f).host = s.host := rfl
@[simp] theorem modLogs_dma (f : Logs → Logs) (s : State) : (s.modLogs f).dma = s.dma := rfl
@[simp] theorem modLogs_telemetry (f : Logs → Logs) (s : State) : (s.modLogs f).telemetry = s.telemetry := rfl
@[simp] theorem modLogs_boot (f : Logs → Logs) (s : State) : (s.modLogs f).boot = s.boot := rfl
@[simp] theorem modLogs_otp (f : Logs → Logs) (s : State) : (s.modLogs f).otp = s.otp := rfl
@[simp] theorem modLogs_survey (f : Logs → Logs) (s : State) : (s.modLogs f).survey = s.survey := rfl
@[simp] theorem modLogs_pins (f : Logs → Logs) (s : State) : (s.modLogs f).pins = s.pins := rfl
@[simp] theorem modLogs_memory (f : Logs → Logs) (s : State) : (s.modLogs f).memory = s.memory := rfl
@[simp] theorem modLogs_logs (f : Logs → Logs) (s : State) : (s.modLogs f).logs = f s.logs := rfl

end Sys2Proof.Machine
end

