-- ==== Sys2Proof/Laws/Access.lean ====
section
/-! SUPPORT. The operations of the state over memory keep its canonical form. -/

namespace Sys2Proof.Machine

open Sys2Proof

theorem wf_iff (m : Memory) : m.wf = true ↔ m.dram.wf = true ∧ m.sram.wf = true := by
  simp [Memory.wf, Ram.wf]

theorem spoilDram_wf {s : State} (cws : List Nat) (h : s.memory.wf = true) : (s.spoilDram cws).memory.wf = true := h

theorem spoil_wf {s : State} (found : List (Bool × Nat)) (h : s.memory.wf = true) : (s.spoil found).memory.wf = true := h

theorem setRamAt_wf {s : State} {r : Ram} (a : Nat) (h : s.memory.wf = true) (hr : r.wf = true) : (s.setRamAt a r).memory.wf = true := by
  obtain ⟨h1, h2⟩ := (wf_iff _).mp h
  refine (wf_iff _).mpr ?_
  simp only [State.setRamAt, modMemory_memory]
  split
  · exact ⟨h1, hr⟩
  · exact ⟨hr, h2⟩

theorem ramAt_wf {s : State} (a : Nat) (h : s.memory.wf = true) : (s.ramAt a).1.wf = true := by
  obtain ⟨h1, h2⟩ := (wf_iff _).mp h
  unfold State.ramAt
  split <;> assumption

/-- A write of DMA, of a codec stream or of the host's window keeps the canonical form. -/
theorem writeMem_wf {s : State} (a : Nat) (bs : List Byte) (h : s.memory.wf = true) : (s.writeMem a bs).memory.wf = true := by
  unfold State.writeMem
  split
  · exact h
  · exact setRamAt_wf _ h (write_wf _ _ (ramAt_wf a h))

/-- A channel that is stopped keeps the canonical form. -/
theorem openDest_wf {s : State} (d : Descriptor) (h : s.memory.wf = true) : (s.openDest d).memory.wf = true := by
  unfold State.openDest
  split
  · split
    · exact h
    · exact writeMem_wf _ _ h
  · split
    · exact h
    · exact writeMem_wf _ _ h
  · exact h

end Sys2Proof.Machine
end

