-- ==== Sys2Proof/Laws/Parts.lean ====
section
/-! SUPPORT. Which parts of the state an update changes: the updates of one part, the operations over them, how a command
ends. -/

namespace Sys2Proof.Machine

open Sys2Proof

theorem modFree_part {p : Part} (f : Nat → Nat) (s : State) (h : p ≠ .free) : (s.modFree f).part p = s.part p := by
  cases p <;> first | rfl | exact absurd rfl h

theorem modTimeUs_part {p : Part} (f : Nat → Nat) (s : State) (h : p ≠ .timeUs) : (s.modTimeUs f).part p = s.part p := by
  cases p <;> first | rfl | exact absurd rfl h

theorem modLegend_part {p : Part} (f : Legend → Legend) (s : State) (h : p ≠ .legend) : (s.modLegend f).part p = s.part p := by
  cases p <;> first | rfl | exact absurd rfl h

theorem modLegendApplied_part {p : Part} (f : Bool → Bool) (s : State) (h : p ≠ .legendApplied) : (s.modLegendApplied f).part p = s.part p := by
  cases p <;> first | rfl | exact absurd rfl h

theorem modLayer_part {p : Part} (f : Layer → Layer) (s : State) (h : p ≠ .layer) : (s.modLayer f).part p = s.part p := by
  cases p <;> first | rfl | exact absurd rfl h

theorem modDecoder_part {p : Part} (x : Fin 6) (f : Decoder → Decoder) (s : State) (h : p ≠ .decoders) : (s.modDecoder x f).part p = s.part p := by
  cases p <;> first | rfl | exact absurd rfl h

theorem allDecoders_part {p : Part} (f : Decoder → Decoder) (s : State) (h : p ≠ .decoders) : (s.allDecoders f).part p = s.part p := by
  cases p <;> first | rfl | exact absurd rfl h

theorem modPixel_part {p : Part} (x : Fin 6) (f : Pixel → Pixel) (s : State) (h : p ≠ .pixels) : (s.modPixel x f).part p = s.part p := by
  cases p <;> first | rfl | exact absurd rfl h

theorem allPixels_part {p : Part} (f : Pixel → Pixel) (s : State) (h : p ≠ .pixels) : (s.allPixels f).part p = s.part p := by
  cases p <;> first | rfl | exact absurd rfl h

theorem modScan_part {p : Part} (f : Scan → Scan) (s : State) (h : p ≠ .scan) : (s.modScan f).part p = s.part p := by
  cases p <;> first | rfl | exact absurd rfl h

theorem modPosition_part {p : Part} (f : Position → Position) (s : State) (h : p ≠ .position) : (s.modPosition f).part p = s.part p := by
  cases p <;> first | rfl | exact absurd rfl h

theorem modPolygon_part {p : Part} (x : Fin 6) (f : Polygon → Polygon) (s : State) (h : p ≠ .polygons) : (s.modPolygon x f).part p = s.part p := by
  cases p <;> first | rfl | exact absurd rfl h

theorem allPolygons_part {p : Part} (f : Polygon → Polygon) (s : State) (h : p ≠ .polygons) : (s.allPolygons f).part p = s.part p := by
  cases p <;> first | rfl | exact absurd rfl h

theorem modLoops_part {p : Part} (f : Loops → Loops) (s : State) (h : p ≠ .loops) : (s.modLoops f).part p = s.part p := by
  cases p <;> first | rfl | exact absurd rfl h

theorem modMotion_part {p : Part} (f : Motion → Motion) (s : State) (h : p ≠ .motion) : (s.modMotion f).part p = s.part p := by
  cases p <;> first | rfl | exact absurd rfl h

theorem modThermal_part {p : Part} (f : Thermal → Thermal) (s : State) (h : p ≠ .thermal) : (s.modThermal f).part p = s.part p := by
  cases p <;> first | rfl | exact absurd rfl h

theorem modPower_part {p : Part} (f : Power → Power) (s : State) (h : p ≠ .power) : (s.modPower f).part p = s.part p := by
  cases p <;> first | rfl | exact absurd rfl h

theorem modFaults_part {p : Part} (f : Faults → Faults) (s : State) (h : p ≠ .faults) : (s.modFaults f).part p = s.part p := by
  cases p <;> first | rfl | exact absurd rfl h

theorem modHost_part {p : Part} (f : HostPort → HostPort) (s : State) (h : p ≠ .host) : (s.modHost f).part p = s.part p := by
  cases p <;> first | rfl | exact absurd rfl h

theorem modDma_part {p : Part} (f : Dma → Dma) (s : State) (h : p ≠ .dma) : (s.modDma f).part p = s.part p := by
  cases p <;> first | rfl | exact absurd rfl h

theorem modTelemetry_part {p : Part} (f : Telemetry → Telemetry) (s : State) (h : p ≠ .telemetry) : (s.modTelemetry f).part p = s.part p := by
  cases p <;> first | rfl | exact absurd rfl h

theorem modBoot_part {p : Part} (f : Boot → Boot) (s : State) (h : p ≠ .boot) : (s.modBoot f).part p = s.part p := by
  cases p <;> first | rfl | exact absurd rfl h

theorem modOtp_part {p : Part} (f : Otp → Otp) (s : State) (h : p ≠ .otp) : (s.modOtp f).part p = s.part p := by
  cases p <;> first | rfl | exact absurd rfl h

theorem modSurvey_part {p : Part} (f : Survey → Survey) (s : State) (h : p ≠ .survey) : (s.modSurvey f).part p = s.part p := by
  cases p <;> first | rfl | exact absurd rfl h

theorem modPins_part {p : Part} (f : Pins → Pins) (s : State) (h : p ≠ .pins) : (s.modPins f).part p = s.part p := by
  cases p <;> first | rfl | exact absurd rfl h

theorem modMemory_part {p : Part} (f : Memory → Memory) (s : State) (h : p ≠ .memory) : (s.modMemory f).part p = s.part p := by
  cases p <;> first | rfl | exact absurd rfl h

theorem modLogs_part {p : Part} (f : Logs → Logs) (s : State) (h : p ≠ .logs) : (s.modLogs f).part p = s.part p := by
  cases p <;> first | rfl | exact absurd rfl h

theorem set_pending_part {p : Part} (v : List Instr) (s : State) (h : p ≠ .pending) : State.part { s with pending := v } p = s.part p := by
  cases p <;> first | rfl | exact absurd rfl h

theorem set_free_part {p : Part} (v : Nat) (s : State) (h : p ≠ .free) : State.part { s with free := v } p = s.part p := by
  cases p <;> first | rfl | exact absurd rfl h

theorem set_timeUs_part {p : Part} (v : Nat) (s : State) (h : p ≠ .timeUs) : State.part { s with timeUs := v } p = s.part p := by
  cases p <;> first | rfl | exact absurd rfl h

theorem set_legend_part {p : Part} (v : Legend) (s : State) (h : p ≠ .legend) : State.part { s with legend := v } p = s.part p := by
  cases p <;> first | rfl | exact absurd rfl h

theorem set_legendApplied_part {p : Part} (v : Bool) (s : State) (h : p ≠ .legendApplied) : State.part { s with legendApplied := v } p = s.part p := by
  cases p <;> first | rfl | exact absurd rfl h

theorem set_layer_part {p : Part} (v : Layer) (s : State) (h : p ≠ .layer) : State.part { s with layer := v } p = s.part p := by
  cases p <;> first | rfl | exact absurd rfl h

theorem set_decoders_part {p : Part} (v : Vector Decoder 6) (s : State) (h : p ≠ .decoders) : State.part { s with decoders := v } p = s.part p := by
  cases p <;> first | rfl | exact absurd rfl h

theorem set_pixels_part {p : Part} (v : Vector Pixel 6) (s : State) (h : p ≠ .pixels) : State.part { s with pixels := v } p = s.part p := by
  cases p <;> first | rfl | exact absurd rfl h

theorem set_scan_part {p : Part} (v : Scan) (s : State) (h : p ≠ .scan) : State.part { s with scan := v } p = s.part p := by
  cases p <;> first | rfl | exact absurd rfl h

theorem set_position_part {p : Part} (v : Position) (s : State) (h : p ≠ .position) : State.part { s with position := v } p = s.part p := by
  cases p <;> first | rfl | exact absurd rfl h

theorem set_polygons_part {p : Part} (v : Vector Polygon 6) (s : State) (h : p ≠ .polygons) : State.part { s with polygons := v } p = s.part p := by
  cases p <;> first | rfl | exact absurd rfl h

theorem set_loops_part {p : Part} (v : Loops) (s : State) (h : p ≠ .loops) : State.part { s with loops := v } p = s.part p := by
  cases p <;> first | rfl | exact absurd rfl h

theorem set_motion_part {p : Part} (v : Motion) (s : State) (h : p ≠ .motion) : State.part { s with motion := v } p = s.part p := by
  cases p <;> first | rfl | exact absurd rfl h

theorem set_thermal_part {p : Part} (v : Thermal) (s : State) (h : p ≠ .thermal) : State.part { s with thermal := v } p = s.part p := by
  cases p <;> first | rfl | exact absurd rfl h

theorem set_power_part {p : Part} (v : Power) (s : State) (h : p ≠ .power) : State.part { s with power := v } p = s.part p := by
  cases p <;> first | rfl | exact absurd rfl h

theorem set_faults_part {p : Part} (v : Faults) (s : State) (h : p ≠ .faults) : State.part { s with faults := v } p = s.part p := by
  cases p <;> first | rfl | exact absurd rfl h

theorem set_host_part {p : Part} (v : HostPort) (s : State) (h : p ≠ .host) : State.part { s with host := v } p = s.part p := by
  cases p <;> first | rfl | exact absurd rfl h

theorem set_dma_part {p : Part} (v : Dma) (s : State) (h : p ≠ .dma) : State.part { s with dma := v } p = s.part p := by
  cases p <;> first | rfl | exact absurd rfl h

theorem set_telemetry_part {p : Part} (v : Telemetry) (s : State) (h : p ≠ .telemetry) : State.part { s with telemetry := v } p = s.part p := by
  cases p <;> first | rfl | exact absurd rfl h

theorem set_boot_part {p : Part} (v : Boot) (s : State) (h : p ≠ .boot) : State.part { s with boot := v } p = s.part p := by
  cases p <;> first | rfl | exact absurd rfl h

theorem set_otp_part {p : Part} (v : Otp) (s : State) (h : p ≠ .otp) : State.part { s with otp := v } p = s.part p := by
  cases p <;> first | rfl | exact absurd rfl h

theorem set_survey_part {p : Part} (v : Survey) (s : State) (h : p ≠ .survey) : State.part { s with survey := v } p = s.part p := by
  cases p <;> first | rfl | exact absurd rfl h

theorem set_pins_part {p : Part} (v : Pins) (s : State) (h : p ≠ .pins) : State.part { s with pins := v } p = s.part p := by
  cases p <;> first | rfl | exact absurd rfl h

theorem set_memory_part {p : Part} (v : Memory) (s : State) (h : p ≠ .memory) : State.part { s with memory := v } p = s.part p := by
  cases p <;> first | rfl | exact absurd rfl h

theorem set_logs_part {p : Part} (v : Logs) (s : State) (h : p ≠ .logs) : State.part { s with logs := v } p = s.part p := by
  cases p <;> first | rfl | exact absurd rfl h

theorem part_ite {p : Part} (c : Prop) [Decidable c] (s t : State) :
    (if c then s else t).part p = if c then s.part p else t.part p := by split <;> rfl

theorem when_part {p : Part} (c : Bool) (f : State → State) (s : State) (h : ∀ t, (f t).part p = t.part p) :
    (s.when c f).part p = s.part p := by
  unfold State.when; split <;> simp [h]

theorem each_part {p : Part} {α : Type} (l : List α) (f : α → State → State) (s : State)
    (h : ∀ a t, (f a t).part p = t.part p) : (s.each l f).part p = s.part p := by
  unfold State.each
  induction l generalizing s with
  | nil => rfl
  | cons a l ih => simp [ih, h]

theorem foldl_snd_part {p : Part} {α β : Type} (l : List α) (f : β × State → α → β × State) (a : β × State)
    (h : ∀ a x, (f a x).2.part p = a.2.part p) : (l.foldl f a).2.part p = a.2.part p := by
  induction l generalizing a with
  | nil => rfl
  | cons x l ih => simp [ih, h]

/-- A command that ends in a next state leaves a part as it is. -/
def KeepsPart (p : Part) (s : State) (o : Host.Outcome State Fault Refusal) : Prop := ∀ t, o = .next t → t.part p = s.part p

theorem keepsPart_live {p : Part} (s r u : State) (h : u.part p = s.part p) : KeepsPart p s (live r u) := by
  intro t e; unfold live at e; split at e <;> simp at e; rw [← e, h]

theorem keepsPart_liveIf {p : Part} (c : Bool) (s r u : State) (hr : r.part p = s.part p) (h : u.part p = s.part p) :
    KeepsPart p s (liveIf c r u) := by
  unfold liveIf; apply keepsPart_live; split <;> simp [h, hr]

theorem keepsPart_next {p : Part} (s u : State) (h : u.part p = s.part p) : KeepsPart p s (.next u) := by
  intro t e; cases e; exact h

end Sys2Proof.Machine
end

