-- ==== Sys2Proof/Laws/KeptOps.lean ====
section
/-! SUPPORT. Which parts of the state each operation of Machine/Ops.lean leaves as they are. -/

set_option linter.unusedSimpArgs false

namespace Sys2Proof.Machine

open Sys2Proof

theorem takeByte_part {pt : Part} (s : State) (hp : pt ∉ ([.free] : List Part)) :
    (State.takeByte s).2.part pt = s.part pt := by
  unfold State.takeByte
  simp only [List.mem_cons, List.not_mem_nil, or_false, not_or] at hp
  simp (maxDischargeDepth := 12) only [set_free_part, hp, part_ite, ite_self, List.mem_cons, List.not_mem_nil, or_false, not_or, not_false_eq_true, and_self, implies_true, ne_eq]

theorem takeNat_part {pt : Part} (s : State) (hp : pt ∉ ([.free] : List Part)) :
    (State.takeNat s).2.part pt = s.part pt := by
  unfold State.takeNat
  simp only [List.mem_cons, List.not_mem_nil, or_false, not_or] at hp
  simp (maxDischargeDepth := 12) only [set_free_part, hp, part_ite, ite_self, List.mem_cons, List.not_mem_nil, or_false, not_or, not_false_eq_true, and_self, implies_true, ne_eq]

theorem takeBool_part {pt : Part} (s : State) (hp : pt ∉ ([.free] : List Part)) :
    (State.takeBool s).2.part pt = s.part pt := by
  unfold State.takeBool
  simp only [List.mem_cons, List.not_mem_nil, or_false, not_or] at hp
  simp (maxDischargeDepth := 12) only [set_free_part, hp, part_ite, ite_self, List.mem_cons, List.not_mem_nil, or_false, not_or, not_false_eq_true, and_self, implies_true, ne_eq]

theorem takeBytes_part {pt : Part} (n : Nat) (s : State) (hp : pt ∉ ([.free] : List Part)) :
    (State.takeBytes n s).2.part pt = s.part pt := by
  unfold State.takeBytes
  simp only [List.mem_cons, List.not_mem_nil, or_false, not_or] at hp
  simp (maxDischargeDepth := 12) only [set_free_part, hp, part_ite, ite_self, List.mem_cons, List.not_mem_nil, or_false, not_or, not_false_eq_true, and_self, implies_true, ne_eq]

theorem raiseAs_part {pt : Part} (src : Source) (inst : Nat) (base : FaultClass) (detail : List Byte) (s : State) (hp : pt ∉ ([.faults] : List Part)) :
    (State.raiseAs src inst base detail s).part pt = s.part pt := by
  unfold State.raiseAs
  simp only [List.mem_cons, List.not_mem_nil, or_false, not_or] at hp
  simp (maxDischargeDepth := 12) only [modFaults_part, hp, part_ite, ite_self, List.mem_cons, List.not_mem_nil, or_false, not_or, not_false_eq_true, and_self, implies_true, ne_eq]

theorem raise_part {pt : Part} (src : Source) (inst : Nat) (s : State) (hp : pt ∉ ([.faults] : List Part)) :
    (State.raise src inst s).part pt = s.part pt := by
  unfold State.raise
  simp only [List.mem_cons, List.not_mem_nil, or_false, not_or] at hp
  simp (maxDischargeDepth := 12) only [raiseAs_part, hp, part_ite, ite_self, List.mem_cons, List.not_mem_nil, or_false, not_or, not_false_eq_true, and_self, implies_true, ne_eq]

theorem raiseD_part {pt : Part} (src : Source) (inst : Nat) (detail : List Byte) (s : State) (hp : pt ∉ ([.faults] : List Part)) :
    (State.raiseD src inst detail s).part pt = s.part pt := by
  unfold State.raiseD
  simp only [List.mem_cons, List.not_mem_nil, or_false, not_or] at hp
  simp (maxDischargeDepth := 12) only [raiseAs_part, hp, part_ite, ite_self, List.mem_cons, List.not_mem_nil, or_false, not_or, not_false_eq_true, and_self, implies_true, ne_eq]

theorem raiseIf_part {pt : Part} (c : Bool) (src : Source) (inst : Nat) (s : State) (hp : pt ∉ ([.faults] : List Part)) :
    (State.raiseIf c src inst s).part pt = s.part pt := by
  unfold State.raiseIf
  simp only [List.mem_cons, List.not_mem_nil, or_false, not_or] at hp
  simp (maxDischargeDepth := 12) only [raise_part, hp, part_ite, ite_self, List.mem_cons, List.not_mem_nil, or_false, not_or, not_false_eq_true, and_self, implies_true, ne_eq]

theorem raiseRun_part {pt : Part} (run : Bool) (srcRun srcIdle : Source) (inst : Nat) (s : State) (hp : pt ∉ ([.faults] : List Part)) :
    (State.raiseRun run srcRun srcIdle inst s).part pt = s.part pt := by
  unfold State.raiseRun
  simp only [List.mem_cons, List.not_mem_nil, or_false, not_or] at hp
  simp (maxDischargeDepth := 12) only [raise_part, hp, part_ite, ite_self, List.mem_cons, List.not_mem_nil, or_false, not_or, not_false_eq_true, and_self, implies_true, ne_eq]

theorem modJob_part {pt : Part} (seq : Nat) (f : Job → Job) (s : State) (hp : pt ∉ ([.layer] : List Part)) :
    (State.modJob seq f s).part pt = s.part pt := by
  unfold State.modJob
  simp only [List.mem_cons, List.not_mem_nil, or_false, not_or] at hp
  simp (maxDischargeDepth := 12) only [modLayer_part, hp, part_ite, ite_self, List.mem_cons, List.not_mem_nil, or_false, not_or, not_false_eq_true, and_self, implies_true, ne_eq]

end Sys2Proof.Machine
end

