-- ==== Sys2Proof/Laws/KeptAxes.lean ====
section
/-! SUPPORT. Which parts of the state each operation of Machine/Axes.lean leaves as they are. -/

set_option linter.unusedSimpArgs false

namespace Sys2Proof.Machine

open Sys2Proof

theorem atCycle_part {pt : Part} (t : Nat) (s : State) (hp : pt ∉ ([.position] : List Part)) :
    (State.atCycle t s).part pt = s.part pt := by
  unfold State.atCycle
  simp only [List.mem_cons, List.not_mem_nil, or_false, not_or] at hp
  simp (maxDischargeDepth := 12) only [modPosition_part, hp, part_ite, ite_self, List.mem_cons, List.not_mem_nil, or_false, not_or, not_false_eq_true, and_self, implies_true, ne_eq]

theorem eachCompare_part {pt : Part} (f : LegCmp → Compare → Compare) (s : State) (hp : pt ∉ ([.position] : List Part)) :
    (State.eachCompare f s).part pt = s.part pt := by
  unfold State.eachCompare
  simp only [List.mem_cons, List.not_mem_nil, or_false, not_or] at hp
  simp (maxDischargeDepth := 12) only [modPosition_part, hp, part_ite, ite_self, List.mem_cons, List.not_mem_nil, or_false, not_or, not_false_eq_true, and_self, implies_true, ne_eq]

theorem compareIdle_part {pt : Part} (s : State) (hp : pt ∉ ([.position] : List Part)) :
    (State.compareIdle s).part pt = s.part pt := by
  unfold State.compareIdle
  simp only [List.mem_cons, List.not_mem_nil, or_false, not_or] at hp
  simp (maxDischargeDepth := 12) only [eachCompare_part, hp, part_ite, ite_self, List.mem_cons, List.not_mem_nil, or_false, not_or, not_false_eq_true, and_self, implies_true, ne_eq]

end Sys2Proof.Machine
end

