-- ==== Sys2Proof/Laws/KeptDecoder.lean ====
section
/-! SUPPORT. Which parts of the state each operation of Machine/Decoder.lean leaves as they are. -/

set_option linter.unusedSimpArgs false

namespace Sys2Proof.Machine

open Sys2Proof

theorem decoderError_part {pt : Part} (x : Fin 6) (c : KrcCheck) (line : Nat) (s : State) (hp : pt ∉ ([.layer, .decoders, .faults] : List Part)) :
    (State.decoderError x c line s).part pt = s.part pt := by
  unfold State.decoderError
  simp only [List.mem_cons, List.not_mem_nil, or_false, not_or] at hp
  simp (maxDischargeDepth := 12) only [modJob_part, raise_part, modDecoder_part, hp, part_ite, ite_self, List.mem_cons, List.not_mem_nil, or_false, not_or, not_false_eq_true, and_self, implies_true, ne_eq]

theorem headerError_part {pt : Part} (x : Fin 6) (c : KrcCheck) (line start : Nat) (s : State) (hp : pt ∉ ([.layer, .decoders, .faults] : List Part)) :
    (State.headerError x c line start s).part pt = s.part pt := by
  unfold State.headerError
  simp only [List.mem_cons, List.not_mem_nil, or_false, not_or] at hp
  simp (maxDischargeDepth := 12) only [decoderError_part, modDecoder_part, hp, part_ite, ite_self, List.mem_cons, List.not_mem_nil, or_false, not_or, not_false_eq_true, and_self, implies_true, ne_eq]

theorem execPrimingStart_part {pt : Part} (x : Fin 6) (s : State) (hp : pt ∉ ([.decoders] : List Part)) :
    KeepsPart pt s (execPrimingStart x s) := by
  unfold execPrimingStart
  simp only [List.mem_cons, List.not_mem_nil, or_false, not_or] at hp
  first
  | (simp (maxDischargeDepth := 12) only [modDecoder_part, keepsPart_live, keepsPart_liveIf, keepsPart_next, hp, part_ite, ite_self, List.mem_cons, List.not_mem_nil, or_false, not_or, not_false_eq_true, and_self, implies_true, ne_eq]; done)
  | (try dsimp only
     (repeat' split) <;> simp (maxDischargeDepth := 12) only [modDecoder_part, keepsPart_live, keepsPart_liveIf, keepsPart_next, hp, part_ite, ite_self, List.mem_cons, List.not_mem_nil, or_false, not_or, not_false_eq_true, and_self, implies_true, ne_eq])

theorem execStreamHeaderRead_part {pt : Part} (x : Fin 6) (corrected : Nat) (uncorrectable : Bool) (s : State) (hp : pt ∉ ([.layer, .decoders, .faults] : List Part)) :
    KeepsPart pt s (execStreamHeaderRead x corrected uncorrectable s) := by
  unfold execStreamHeaderRead
  simp only [List.mem_cons, List.not_mem_nil, or_false, not_or] at hp
  first
  | (simp (maxDischargeDepth := 12) only [decoderError_part, raiseIf_part, modDecoder_part, keepsPart_live, keepsPart_liveIf, keepsPart_next, hp, part_ite, ite_self, List.mem_cons, List.not_mem_nil, or_false, not_or, not_false_eq_true, and_self, implies_true, ne_eq]; done)
  | (try dsimp only
     (repeat' split) <;> simp (maxDischargeDepth := 12) only [decoderError_part, raiseIf_part, modDecoder_part, keepsPart_live, keepsPart_liveIf, keepsPart_next, hp, part_ite, ite_self, List.mem_cons, List.not_mem_nil, or_false, not_or, not_false_eq_true, and_self, implies_true, ne_eq])

theorem feedUncorrectable_part {pt : Part} (x : Fin 6) (s : State) (hp : pt ∉ ([.layer, .decoders, .faults] : List Part)) :
    (State.feedUncorrectable x s).part pt = s.part pt := by
  unfold State.feedUncorrectable
  simp only [List.mem_cons, List.not_mem_nil, or_false, not_or] at hp
  first
  | (simp (maxDischargeDepth := 12) only [decoderError_part, modJob_part, raise_part, modDecoder_part, hp, part_ite, ite_self, List.mem_cons, List.not_mem_nil, or_false, not_or, not_false_eq_true, and_self, implies_true, ne_eq]; done)
  | (try dsimp only
     (repeat' split) <;> simp (maxDischargeDepth := 12) only [decoderError_part, modJob_part, raise_part, modDecoder_part, hp, part_ite, ite_self, List.mem_cons, List.not_mem_nil, or_false, not_or, not_false_eq_true, and_self, implies_true, ne_eq])

theorem execFeedRead_part {pt : Part} (x : Fin 6) (len corrected : Nat) (bad : Option Nat) (s : State) (hp : pt ∉ ([.layer, .decoders, .faults] : List Part)) :
    KeepsPart pt s (execFeedRead x len corrected bad s) := by
  unfold execFeedRead
  simp only [List.mem_cons, List.not_mem_nil, or_false, not_or] at hp
  first
  | (simp (maxDischargeDepth := 12) only [feedUncorrectable_part, raiseIf_part, modDecoder_part, keepsPart_live, keepsPart_liveIf, keepsPart_next, hp, part_ite, ite_self, List.mem_cons, List.not_mem_nil, or_false, not_or, not_false_eq_true, and_self, implies_true, ne_eq]; done)
  | (try dsimp only
     (repeat' split) <;> simp (maxDischargeDepth := 12) only [feedUncorrectable_part, raiseIf_part, modDecoder_part, keepsPart_live, keepsPart_liveIf, keepsPart_next, hp, part_ite, ite_self, List.mem_cons, List.not_mem_nil, or_false, not_or, not_false_eq_true, and_self, implies_true, ne_eq])

theorem readLineHeader_part {pt : Part} (x : Fin 6) (s : State) (hp : pt ∉ ([.layer, .decoders, .faults] : List Part)) :
    (State.readLineHeader x s).part pt = s.part pt := by
  unfold State.readLineHeader
  simp only [List.mem_cons, List.not_mem_nil, or_false, not_or] at hp
  first
  | (simp (maxDischargeDepth := 12) only [headerError_part, modDecoder_part, hp, part_ite, ite_self, List.mem_cons, List.not_mem_nil, or_false, not_or, not_false_eq_true, and_self, implies_true, ne_eq]; done)
  | (try dsimp only
     (repeat' split) <;> simp (maxDischargeDepth := 12) only [headerError_part, modDecoder_part, hp, part_ite, ite_self, List.mem_cons, List.not_mem_nil, or_false, not_or, not_false_eq_true, and_self, implies_true, ne_eq])

theorem placeLine_part {pt : Part} (x : Fin 6) (h : LineHeader) (slot : Nat) (r : RingSlot) (wasReplaced chain : Bool) (s : State) (hp : pt ∉ ([.layer, .decoders, .faults] : List Part)) :
    (State.placeLine x h slot r wasReplaced chain s).part pt = s.part pt := by
  unfold State.placeLine
  simp only [List.mem_cons, List.not_mem_nil, or_false, not_or] at hp
  simp (maxDischargeDepth := 12) only [raiseIf_part, readLineHeader_part, modDecoder_part, set_pixels_part, hp, part_ite, ite_self, List.mem_cons, List.not_mem_nil, or_false, not_or, not_false_eq_true, and_self, implies_true, ne_eq]

theorem replaceLine_part {pt : Part} (x : Fin 6) (c : KrcCheck) (h : LineHeader) (slot : Nat) (s : State) (hp : pt ∉ ([.layer, .decoders, .faults] : List Part)) :
    (State.replaceLine x c h slot s).part pt = s.part pt := by
  unfold State.replaceLine
  simp only [List.mem_cons, List.not_mem_nil, or_false, not_or] at hp
  simp (maxDischargeDepth := 12) only [placeLine_part, raise_part, modDecoder_part, hp, part_ite, ite_self, List.mem_cons, List.not_mem_nil, or_false, not_or, not_false_eq_true, and_self, implies_true, ne_eq]

theorem lineFormatError_part {pt : Part} (x : Fin 6) (h : LineHeader) (slot sym : Nat) (next : Option KrcCheck) (s : State) (hp : pt ∉ ([.layer, .decoders, .faults] : List Part)) :
    (State.lineFormatError x h slot sym next s).part pt = s.part pt := by
  unfold State.lineFormatError
  simp only [List.mem_cons, List.not_mem_nil, or_false, not_or] at hp
  first
  | (simp (maxDischargeDepth := 12) only [decoderError_part, headerError_part, replaceLine_part, modDecoder_part, hp, part_ite, ite_self, List.mem_cons, List.not_mem_nil, or_false, not_or, not_false_eq_true, and_self, implies_true, ne_eq]; done)
  | (try dsimp only
     (repeat' split) <;> simp (maxDischargeDepth := 12) only [decoderError_part, headerError_part, replaceLine_part, modDecoder_part, hp, part_ite, ite_self, List.mem_cons, List.not_mem_nil, or_false, not_or, not_false_eq_true, and_self, implies_true, ne_eq])

theorem takeLine_part {pt : Part} (x : Fin 6) (h : LineHeader) (slot ringCorr : Nat) (ringBad : Bool) (s : State) (hp : pt ∉ ([.layer, .decoders, .faults] : List Part)) :
    (State.takeLine x h slot ringCorr ringBad s).part pt = s.part pt := by
  unfold State.takeLine
  simp only [List.mem_cons, List.not_mem_nil, or_false, not_or] at hp
  first
  | (simp (maxDischargeDepth := 12) only [decoderError_part, headerError_part, lineFormatError_part, placeLine_part, raiseIf_part, replaceLine_part, modDecoder_part, hp, part_ite, ite_self, List.mem_cons, List.not_mem_nil, or_false, not_or, not_false_eq_true, and_self, implies_true, ne_eq]; done)
  | (try dsimp only
     (repeat' split) <;> simp (maxDischargeDepth := 12) only [decoderError_part, headerError_part, lineFormatError_part, placeLine_part, raiseIf_part, replaceLine_part, modDecoder_part, hp, part_ite, ite_self, List.mem_cons, List.not_mem_nil, or_false, not_or, not_false_eq_true, and_self, implies_true, ne_eq])

theorem execLineDecode_part {pt : Part} (x : Fin 6) (ringCorr : Nat) (ringBad : Bool) (s : State) (hp : pt ∉ ([.layer, .decoders, .faults] : List Part)) :
    KeepsPart pt s (execLineDecode x ringCorr ringBad s) := by
  unfold execLineDecode
  simp only [List.mem_cons, List.not_mem_nil, or_false, not_or] at hp
  first
  | (simp (maxDischargeDepth := 12) only [readLineHeader_part, takeLine_part, modDecoder_part, keepsPart_live, keepsPart_liveIf, keepsPart_next, hp, part_ite, ite_self, List.mem_cons, List.not_mem_nil, or_false, not_or, not_false_eq_true, and_self, implies_true, ne_eq]; done)
  | (try dsimp only
     (repeat' split) <;> simp (maxDischargeDepth := 12) only [readLineHeader_part, takeLine_part, modDecoder_part, keepsPart_live, keepsPart_liveIf, keepsPart_next, hp, part_ite, ite_self, List.mem_cons, List.not_mem_nil, or_false, not_or, not_false_eq_true, and_self, implies_true, ne_eq])

end Sys2Proof.Machine
end

