-- ==== Sys2Proof/Laws/KeptLayerOps.lean ====
section
/-! SUPPORT. Which parts of the state each operation of Machine/LayerOps.lean leaves as they are. -/

set_option linter.unusedSimpArgs false

namespace Sys2Proof.Machine

open Sys2Proof

theorem setJobState_part {pt : Part} (seq : Nat) (st : JobState) (s : State) (hp : pt ∉ ([.layer] : List Part)) :
    (State.setJobState seq st s).part pt = s.part pt := by
  unfold State.setJobState
  simp only [List.mem_cons, List.not_mem_nil, or_false, not_or] at hp
  simp (maxDischargeDepth := 12) only [modJob_part, hp, part_ite, ite_self, List.mem_cons, List.not_mem_nil, or_false, not_or, not_false_eq_true, and_self, implies_true, ne_eq]

theorem releaseFeed_part {pt : Part} (seq : Nat) (s : State) (hp : pt ∉ ([.layer] : List Part)) :
    (State.releaseFeed seq s).part pt = s.part pt := by
  unfold State.releaseFeed
  simp only [List.mem_cons, List.not_mem_nil, or_false, not_or] at hp
  simp (maxDischargeDepth := 12) only [modLayer_part, hp, part_ite, ite_self, List.mem_cons, List.not_mem_nil, or_false, not_or, not_false_eq_true, and_self, implies_true, ne_eq]

theorem markDue_part {pt : Part} (seq kind : Nat) (body : List Byte) (s : State) (hp : pt ∉ ([.host] : List Part)) :
    (State.markDue seq kind body s).part pt = s.part pt := by
  unfold State.markDue
  simp only [List.mem_cons, List.not_mem_nil, or_false, not_or] at hp
  simp (maxDischargeDepth := 12) only [modHost_part, hp, part_ite, ite_self, List.mem_cons, List.not_mem_nil, or_false, not_or, not_false_eq_true, and_self, implies_true, ne_eq]

theorem freeStations_part {pt : Part} (seq : Nat) (st : EndStatus) (s : State) (hp : pt ∉ ([.decoders, .pixels, .position] : List Part)) :
    (State.freeStations seq st s).part pt = s.part pt := by
  unfold State.freeStations
  simp only [List.mem_cons, List.not_mem_nil, or_false, not_or] at hp
  simp (maxDischargeDepth := 12) only [eachCompare_part, allDecoders_part, allPixels_part, modPosition_part, hp, part_ite, ite_self, List.mem_cons, List.not_mem_nil, or_false, not_or, not_false_eq_true, and_self, implies_true, ne_eq]

theorem wearFalls_part {pt : Part} (j : Job) (s : State) (hp : pt ∉ ([.boot] : List Part)) :
    (State.wearFalls j s).part pt = s.part pt := by
  unfold State.wearFalls
  simp only [List.mem_cons, List.not_mem_nil, or_false, not_or] at hp
  simp (maxDischargeDepth := 12) only [modBoot_part, hp, part_ite, ite_self, List.mem_cons, List.not_mem_nil, or_false, not_or, not_false_eq_true, and_self, implies_true, ne_eq]

theorem endJob_part {pt : Part} (seq : Nat) (st : EndStatus) (cause : Cause) (src inst : Nat) (s : State) (hp : pt ∉ ([.layer, .decoders, .pixels, .position, .loops, .host, .telemetry, .boot] : List Part)) :
    (State.endJob seq st cause src inst s).part pt = s.part pt := by
  unfold State.endJob
  simp only [List.mem_cons, List.not_mem_nil, or_false, not_or] at hp
  first
  | (simp (maxDischargeDepth := 12) only [freeStations_part, markDue_part, releaseFeed_part, wearFalls_part, modLayer_part, modLoops_part, modTelemetry_part, when_part, hp, part_ite, ite_self, List.mem_cons, List.not_mem_nil, or_false, not_or, not_false_eq_true, and_self, implies_true, ne_eq]; done)
  | (try dsimp only
     (repeat' split) <;> simp (maxDischargeDepth := 12) only [freeStations_part, markDue_part, releaseFeed_part, wearFalls_part, modLayer_part, modLoops_part, modTelemetry_part, when_part, hp, part_ite, ite_self, List.mem_cons, List.not_mem_nil, or_false, not_or, not_false_eq_true, and_self, implies_true, ne_eq])

theorem rejectJob_part {pt : Part} (seq : Nat) (cause : Cause) (s : State) (hp : pt ∉ ([.layer, .decoders, .pixels, .position, .loops, .host, .telemetry, .boot] : List Part)) :
    (State.rejectJob seq cause s).part pt = s.part pt := by
  unfold State.rejectJob
  simp only [List.mem_cons, List.not_mem_nil, or_false, not_or] at hp
  simp (maxDischargeDepth := 12) only [endJob_part, hp, part_ite, ite_self, List.mem_cons, List.not_mem_nil, or_false, not_or, not_false_eq_true, and_self, implies_true, ne_eq]

theorem requeueJob_part {pt : Part} (seq : Nat) (s : State) (hp : pt ∉ ([.layer] : List Part)) :
    (State.requeueJob seq s).part pt = s.part pt := by
  unfold State.requeueJob
  simp only [List.mem_cons, List.not_mem_nil, or_false, not_or] at hp
  simp (maxDischargeDepth := 12) only [releaseFeed_part, setJobState_part, hp, part_ite, ite_self, List.mem_cons, List.not_mem_nil, or_false, not_or, not_false_eq_true, and_self, implies_true, ne_eq]

theorem enterTransfuse_part {pt : Part} (seq : Nat) (s : State) (hp : pt ∉ ([.layer] : List Part)) :
    (State.enterTransfuse seq s).part pt = s.part pt := by
  unfold State.enterTransfuse
  simp only [List.mem_cons, List.not_mem_nil, or_false, not_or] at hp
  simp (maxDischargeDepth := 12) only [setJobState_part, when_part, hp, part_ite, ite_self, List.mem_cons, List.not_mem_nil, or_false, not_or, not_false_eq_true, and_self, implies_true, ne_eq]

theorem imagingDone_part {pt : Part} (seq : Nat) (s : State) (hp : pt ∉ ([.layer] : List Part)) :
    (State.imagingDone seq s).part pt = s.part pt := by
  unfold State.imagingDone
  simp only [List.mem_cons, List.not_mem_nil, or_false, not_or] at hp
  try dsimp only
  (repeat' split) <;> simp (maxDischargeDepth := 12) only [enterTransfuse_part, releaseFeed_part, setJobState_part, when_part, hp, part_ite, ite_self, List.mem_cons, List.not_mem_nil, or_false, not_or, not_false_eq_true, and_self, implies_true, ne_eq]

end Sys2Proof.Machine
end

