-- ==== Sys2Proof/Laws/KeptLoops.lean ====
section
/-! SUPPORT. Which parts of the state each operation of Machine/Loops.lean leaves as they are. -/

set_option linter.unusedSimpArgs false

namespace Sys2Proof.Machine

open Sys2Proof

theorem modLoop_part {pt : Part} (n : Nat) (f : Loop → Loop) (s : State) (hp : pt ∉ ([.loops] : List Part)) :
    (State.modLoop n f s).part pt = s.part pt := by
  unfold State.modLoop
  simp only [List.mem_cons, List.not_mem_nil, or_false, not_or] at hp
  simp (maxDischargeDepth := 12) only [modLoops_part, set_loops_part, hp, part_ite, ite_self, List.mem_cons, List.not_mem_nil, or_false, not_or, not_false_eq_true, and_self, implies_true, ne_eq]

theorem modHv_part {pt : Part} (k : Nat) (f : HvChannel → HvChannel) (s : State) (hp : pt ∉ ([.loops] : List Part)) :
    (State.modHv k f s).part pt = s.part pt := by
  unfold State.modHv
  simp only [List.mem_cons, List.not_mem_nil, or_false, not_or] at hp
  simp (maxDischargeDepth := 12) only [modLoops_part, hp, part_ite, ite_self, List.mem_cons, List.not_mem_nil, or_false, not_or, not_false_eq_true, and_self, implies_true, ne_eq]

theorem modAc_part {pt : Part} (x : Nat) (f : DevAc → DevAc) (s : State) (hp : pt ∉ ([.loops] : List Part)) :
    (State.modAc x f s).part pt = s.part pt := by
  unfold State.modAc
  simp only [List.mem_cons, List.not_mem_nil, or_false, not_or] at hp
  simp (maxDischargeDepth := 12) only [modLoops_part, hp, part_ite, ite_self, List.mem_cons, List.not_mem_nil, or_false, not_or, not_false_eq_true, and_self, implies_true, ne_eq]

theorem modHeater_part {pt : Part} (z : Nat) (f : Heater → Heater) (s : State) (hp : pt ∉ ([.loops] : List Part)) :
    (State.modHeater z f s).part pt = s.part pt := by
  unfold State.modHeater
  simp only [List.mem_cons, List.not_mem_nil, or_false, not_or] at hp
  simp (maxDischargeDepth := 12) only [modLoops_part, hp, part_ite, ite_self, List.mem_cons, List.not_mem_nil, or_false, not_or, not_false_eq_true, and_self, implies_true, ne_eq]

theorem traceOutput_part {pt : Part} (k : Nat) (s : State) (hp : pt ∉ ([.telemetry] : List Part)) :
    (State.traceOutput k s).part pt = s.part pt := by
  unfold State.traceOutput
  simp only [List.mem_cons, List.not_mem_nil, or_false, not_or] at hp
  simp (maxDischargeDepth := 12) only [modTelemetry_part, when_part, hp, part_ite, ite_self, List.mem_cons, List.not_mem_nil, or_false, not_or, not_false_eq_true, and_self, implies_true, ne_eq]

theorem hvMux_part {pt : Part} (k : Nat) (s : State) (hp : pt ∉ ([.loops] : List Part)) :
    (State.hvMux k s).part pt = s.part pt := by
  unfold State.hvMux
  simp only [List.mem_cons, List.not_mem_nil, or_false, not_or] at hp
  simp (maxDischargeDepth := 12) only [modHv_part, modLoop_part, hp, part_ite, ite_self, List.mem_cons, List.not_mem_nil, or_false, not_or, not_false_eq_true, and_self, implies_true, ne_eq]

theorem acStop_part {pt : Part} (x : Nat) (s : State) (hp : pt ∉ ([.loops] : List Part)) :
    (State.acStop x s).part pt = s.part pt := by
  unfold State.acStop
  simp only [List.mem_cons, List.not_mem_nil, or_false, not_or] at hp
  simp (maxDischargeDepth := 12) only [modAc_part, modLoop_part, hp, part_ite, ite_self, List.mem_cons, List.not_mem_nil, or_false, not_or, not_false_eq_true, and_self, implies_true, ne_eq]

theorem hvHardware_part {pt : Part} (s : State) (hp : pt ∉ ([.loops] : List Part)) :
    (State.hvHardware s).part pt = s.part pt := by
  unfold State.hvHardware
  simp only [List.mem_cons, List.not_mem_nil, or_false, not_or] at hp
  simp (maxDischargeDepth := 12) only [acStop_part, hvMux_part, each_part, hp, part_ite, ite_self, List.mem_cons, List.not_mem_nil, or_false, not_or, not_false_eq_true, and_self, implies_true, ne_eq]

theorem hvRegulate_part {pt : Part} (k : Nat) (s : State) (hp : pt ∉ ([.loops] : List Part)) :
    (State.hvRegulate k s).part pt = s.part pt := by
  unfold State.hvRegulate
  simp only [List.mem_cons, List.not_mem_nil, or_false, not_or] at hp
  first
  | (simp (maxDischargeDepth := 12) only [modHv_part, modLoop_part, hp, part_ite, ite_self, List.mem_cons, List.not_mem_nil, or_false, not_or, not_false_eq_true, and_self, implies_true, ne_eq]; done)
  | (try dsimp only
     (repeat' split) <;> simp (maxDischargeDepth := 12) only [modHv_part, modLoop_part, hp, part_ite, ite_self, List.mem_cons, List.not_mem_nil, or_false, not_or, not_false_eq_true, and_self, implies_true, ne_eq])

theorem hvToSafe_part {pt : Part} (k : Nat) (s : State) (hp : pt ∉ ([.loops] : List Part)) :
    (State.hvToSafe k s).part pt = s.part pt := by
  unfold State.hvToSafe
  simp only [List.mem_cons, List.not_mem_nil, or_false, not_or] at hp
  simp (maxDischargeDepth := 12) only [modHv_part, modLoop_part, when_part, hp, part_ite, ite_self, List.mem_cons, List.not_mem_nil, or_false, not_or, not_false_eq_true, and_self, implies_true, ne_eq]

theorem hvGrave_part {pt : Part} (s : State) (hp : pt ∉ ([.loops] : List Part)) :
    (State.hvGrave s).part pt = s.part pt := by
  unfold State.hvGrave
  simp only [List.mem_cons, List.not_mem_nil, or_false, not_or] at hp
  simp (maxDischargeDepth := 12) only [modLoops_part, hp, part_ite, ite_self, List.mem_cons, List.not_mem_nil, or_false, not_or, not_false_eq_true, and_self, implies_true, ne_eq]

theorem hvOff_part {pt : Part} (s : State) (hp : pt ∉ ([.loops] : List Part)) :
    (State.hvOff s).part pt = s.part pt := by
  unfold State.hvOff
  simp only [List.mem_cons, List.not_mem_nil, or_false, not_or] at hp
  simp (maxDischargeDepth := 12) only [modLoops_part, hp, part_ite, ite_self, List.mem_cons, List.not_mem_nil, or_false, not_or, not_false_eq_true, and_self, implies_true, ne_eq]

theorem heatersOff_part {pt : Part} (s : State) (hp : pt ∉ ([.loops] : List Part)) :
    (State.heatersOff s).part pt = s.part pt := by
  unfold State.heatersOff
  simp only [List.mem_cons, List.not_mem_nil, or_false, not_or] at hp
  simp (maxDischargeDepth := 12) only [modLoops_part, hp, part_ite, ite_self, List.mem_cons, List.not_mem_nil, or_false, not_or, not_false_eq_true, and_self, implies_true, ne_eq]

theorem heatersStart_part {pt : Part} (s : State) (hp : pt ∉ ([.loops] : List Part)) :
    (State.heatersStart s).part pt = s.part pt := by
  unfold State.heatersStart
  simp only [List.mem_cons, List.not_mem_nil, or_false, not_or] at hp
  simp (maxDischargeDepth := 12) only [modHeater_part, modLoop_part, when_part, each_part, hp, part_ite, ite_self, List.mem_cons, List.not_mem_nil, or_false, not_or, not_false_eq_true, and_self, implies_true, ne_eq]

theorem hvLayer_part {pt : Part} (x : Nat) (s : State) (hp : pt ∉ ([.loops] : List Part)) :
    (State.hvLayer x s).part pt = s.part pt := by
  unfold State.hvLayer
  simp only [List.mem_cons, List.not_mem_nil, or_false, not_or] at hp
  simp (maxDischargeDepth := 12) only [modAc_part, modHv_part, modLoop_part, when_part, each_part, hp, part_ite, ite_self, List.mem_cons, List.not_mem_nil, or_false, not_or, not_false_eq_true, and_self, implies_true, ne_eq]

theorem hvReturns_part {pt : Part} (s : State) (hp : pt ∉ ([.loops] : List Part)) :
    (State.hvReturns s).part pt = s.part pt := by
  unfold State.hvReturns
  simp only [List.mem_cons, List.not_mem_nil, or_false, not_or] at hp
  simp (maxDischargeDepth := 12) only [hvLayer_part, when_part, each_part, hp, part_ite, ite_self, List.mem_cons, List.not_mem_nil, or_false, not_or, not_false_eq_true, and_self, implies_true, ne_eq]

theorem hvStart_part {pt : Part} (s : State) (hp : pt ∉ ([.loops] : List Part)) :
    (State.hvStart s).part pt = s.part pt := by
  unfold State.hvStart
  simp only [List.mem_cons, List.not_mem_nil, or_false, not_or] at hp
  simp (maxDischargeDepth := 12) only [hvReturns_part, modLoop_part, modLoops_part, when_part, each_part, hp, part_ite, ite_self, List.mem_cons, List.not_mem_nil, or_false, not_or, not_false_eq_true, and_self, implies_true, ne_eq]

theorem chargeLoad_part {pt : Part} (n frame : Nat) (s : State) (hp : pt ∉ ([.loops] : List Part)) :
    (State.chargeLoad n frame s).part pt = s.part pt := by
  unfold State.chargeLoad
  simp only [List.mem_cons, List.not_mem_nil, or_false, not_or] at hp
  simp (maxDischargeDepth := 12) only [modLoops_part, hp, part_ite, ite_self, List.mem_cons, List.not_mem_nil, or_false, not_or, not_false_eq_true, and_self, implies_true, ne_eq]

theorem loopPeriodAs_part {pt : Part} (g : LegLoop) (n : Nat) (r y x : Int) (s : State) (hp : pt ∉ ([.loops, .faults] : List Part)) :
    (State.loopPeriodAs g n r y x s).part pt = s.part pt := by
  unfold State.loopPeriodAs
  simp only [List.mem_cons, List.not_mem_nil, or_false, not_or] at hp
  simp (maxDischargeDepth := 12) only [modLoop_part, raiseIf_part, hp, part_ite, ite_self, List.mem_cons, List.not_mem_nil, or_false, not_or, not_false_eq_true, and_self, implies_true, ne_eq]

theorem loopPeriod_part {pt : Part} (n : Nat) (r y x : Int) (s : State) (hp : pt ∉ ([.loops, .faults] : List Part)) :
    (State.loopPeriod n r y x s).part pt = s.part pt := by
  unfold State.loopPeriod
  simp only [List.mem_cons, List.not_mem_nil, or_false, not_or] at hp
  simp (maxDischargeDepth := 12) only [loopPeriodAs_part, hp, part_ite, ite_self, List.mem_cons, List.not_mem_nil, or_false, not_or, not_false_eq_true, and_self, implies_true, ne_eq]

theorem hvSample_part {pt : Part} (k mon cur : Nat) (s : State) (hp : pt ∉ ([.loops, .faults] : List Part)) :
    (State.hvSample k mon cur s).part pt = s.part pt := by
  unfold State.hvSample
  simp only [List.mem_cons, List.not_mem_nil, or_false, not_or] at hp
  simp (maxDischargeDepth := 12) only [hvMux_part, modHv_part, raise_part, when_part, hp, part_ite, ite_self, List.mem_cons, List.not_mem_nil, or_false, not_or, not_false_eq_true, and_self, implies_true, ne_eq]

theorem execProfileTarget_part {pt : Part} (n : Fin 64) (s : State) (hp : pt ∉ ([.loops] : List Part)) :
    KeepsPart pt s (execProfileTarget n s) := by
  unfold execProfileTarget
  simp only [List.mem_cons, List.not_mem_nil, or_false, not_or] at hp
  first
  | (simp (maxDischargeDepth := 12) only [modLoop_part, keepsPart_live, keepsPart_liveIf, keepsPart_next, hp, part_ite, ite_self, List.mem_cons, List.not_mem_nil, or_false, not_or, not_false_eq_true, and_self, implies_true, ne_eq]; done)
  | (try dsimp only
     (repeat' split) <;> simp (maxDischargeDepth := 12) only [modLoop_part, keepsPart_live, keepsPart_liveIf, keepsPart_next, hp, part_ite, ite_self, List.mem_cons, List.not_mem_nil, or_false, not_or, not_false_eq_true, and_self, implies_true, ne_eq])

theorem execFollowingError_part {pt : Part} (n : Fin 32) (s : State) (hp : pt ∉ ([.loops, .faults] : List Part)) :
    KeepsPart pt s (execFollowingError n s) := by
  unfold execFollowingError
  simp only [List.mem_cons, List.not_mem_nil, or_false, not_or] at hp
  simp (maxDischargeDepth := 12) only [modLoop_part, raise_part, raiseRun_part, keepsPart_live, keepsPart_liveIf, keepsPart_next, hp, part_ite, ite_self, List.mem_cons, List.not_mem_nil, or_false, not_or, not_false_eq_true, and_self, implies_true, ne_eq]

theorem execHvSafeStep_part {pt : Part} (k : Fin 18) (s : State) (hp : pt ∉ ([.loops] : List Part)) :
    KeepsPart pt s (execHvSafeStep k s) := by
  unfold execHvSafeStep
  simp only [List.mem_cons, List.not_mem_nil, or_false, not_or] at hp
  first
  | (simp (maxDischargeDepth := 12) only [acStop_part, hvMux_part, hvRegulate_part, keepsPart_live, keepsPart_liveIf, keepsPart_next, hp, part_ite, ite_self, List.mem_cons, List.not_mem_nil, or_false, not_or, not_false_eq_true, and_self, implies_true, ne_eq]; done)
  | (try dsimp only
     (repeat' split) <;> simp (maxDischargeDepth := 12) only [acStop_part, hvMux_part, hvRegulate_part, keepsPart_live, keepsPart_liveIf, keepsPart_next, hp, part_ite, ite_self, List.mem_cons, List.not_mem_nil, or_false, not_or, not_false_eq_true, and_self, implies_true, ne_eq])

theorem execHvMonitorRange_part {pt : Part} (k : Fin 18) (s : State) (hp : pt ∉ ([.loops, .faults] : List Part)) :
    KeepsPart pt s (execHvMonitorRange k s) := by
  unfold execHvMonitorRange
  simp only [List.mem_cons, List.not_mem_nil, or_false, not_or] at hp
  simp (maxDischargeDepth := 12) only [hvMux_part, modHv_part, raiseAs_part, keepsPart_live, keepsPart_liveIf, keepsPart_next, hp, part_ite, ite_self, List.mem_cons, List.not_mem_nil, or_false, not_or, not_false_eq_true, and_self, implies_true, ne_eq]

theorem execHvReturn_part {pt : Part} (s : State) (hp : pt ∉ ([.loops] : List Part)) :
    KeepsPart pt s (execHvReturn s) := by
  unfold execHvReturn
  simp only [List.mem_cons, List.not_mem_nil, or_false, not_or] at hp
  simp (maxDischargeDepth := 12) only [hvReturns_part, keepsPart_live, keepsPart_liveIf, keepsPart_next, hp, part_ite, ite_self, List.mem_cons, List.not_mem_nil, or_false, not_or, not_false_eq_true, and_self, implies_true, ne_eq]

theorem execDevacPeriodStart_part {pt : Part} (x : Fin 6) (mon : List Nat) (s : State) (hp : pt ∉ ([.loops] : List Part)) :
    KeepsPart pt s (execDevacPeriodStart x mon s) := by
  unfold execDevacPeriodStart
  simp only [List.mem_cons, List.not_mem_nil, or_false, not_or] at hp
  simp (maxDischargeDepth := 12) only [modAc_part, keepsPart_live, keepsPart_liveIf, keepsPart_next, hp, part_ite, ite_self, List.mem_cons, List.not_mem_nil, or_false, not_or, not_false_eq_true, and_self, implies_true, ne_eq]

theorem execHumidityBandChange_part {pt : Part} (mv : Nat) (s : State) (hp : pt ∉ ([.loops, .faults] : List Part)) :
    KeepsPart pt s (execHumidityBandChange mv s) := by
  unfold execHumidityBandChange
  simp only [List.mem_cons, List.not_mem_nil, or_false, not_or] at hp
  first
  | (simp (maxDischargeDepth := 12) only [raiseIf_part, modLoops_part, keepsPart_live, keepsPart_liveIf, keepsPart_next, hp, part_ite, ite_self, List.mem_cons, List.not_mem_nil, or_false, not_or, not_false_eq_true, and_self, implies_true, ne_eq]; done)
  | (try dsimp only
     (repeat' split) <;> simp (maxDischargeDepth := 12) only [raiseIf_part, modLoops_part, keepsPart_live, keepsPart_liveIf, keepsPart_next, hp, part_ite, ite_self, List.mem_cons, List.not_mem_nil, or_false, not_or, not_false_eq_true, and_self, implies_true, ne_eq])

theorem execHeaterPeriod_part {pt : Part} (z : Fin 8) (s : State) (hp : pt ∉ ([.loops] : List Part)) :
    KeepsPart pt s (execHeaterPeriod z s) := by
  unfold execHeaterPeriod
  simp only [List.mem_cons, List.not_mem_nil, or_false, not_or] at hp
  simp (maxDischargeDepth := 12) only [modHeater_part, keepsPart_live, keepsPart_liveIf, keepsPart_next, hp, part_ite, ite_self, List.mem_cons, List.not_mem_nil, or_false, not_or, not_false_eq_true, and_self, implies_true, ne_eq]

theorem execHeaterSaturation_part {pt : Part} (z : Fin 8) (s : State) (hp : pt ∉ ([.loops, .faults] : List Part)) :
    KeepsPart pt s (execHeaterSaturation z s) := by
  unfold execHeaterSaturation
  simp only [List.mem_cons, List.not_mem_nil, or_false, not_or] at hp
  simp (maxDischargeDepth := 12) only [modHeater_part, raise_part, keepsPart_live, keepsPart_liveIf, keepsPart_next, hp, part_ite, ite_self, List.mem_cons, List.not_mem_nil, or_false, not_or, not_false_eq_true, and_self, implies_true, ne_eq]

theorem execMainsZeroCrossing_part {pt : Part} (s : State) (hp : pt ∉ ([.loops] : List Part)) :
    KeepsPart pt s (execMainsZeroCrossing s) := by
  unfold execMainsZeroCrossing
  simp only [List.mem_cons, List.not_mem_nil, or_false, not_or] at hp
  simp (maxDischargeDepth := 12) only [modLoops_part, keepsPart_live, keepsPart_liveIf, keepsPart_next, hp, part_ite, ite_self, List.mem_cons, List.not_mem_nil, or_false, not_or, not_false_eq_true, and_self, implies_true, ne_eq]

end Sys2Proof.Machine
end

