-- ==== Sys2Proof/Laws/KeptLogOps.lean ====
section
/-! SUPPORT. Which parts of the state each operation of Machine/LogOps.lean leaves as they are. -/

set_option linter.unusedSimpArgs false

namespace Sys2Proof.Machine

open Sys2Proof

theorem spareLog_part {pt : Part} (kind unit detail : Nat) (s : State) (hp : pt ∉ ([.survey] : List Part)) :
    (State.spareLog kind unit detail s).part pt = s.part pt := by
  unfold State.spareLog
  simp only [List.mem_cons, List.not_mem_nil, or_false, not_or] at hp
  simp (maxDischargeDepth := 12) only [modSurvey_part, hp, part_ite, ite_self, List.mem_cons, List.not_mem_nil, or_false, not_or, not_false_eq_true, and_self, implies_true, ne_eq]

theorem powerLog_part {pt : Part} (kind prog step rail code : Nat) (s : State) (hp : pt ∉ ([.power] : List Part)) :
    (State.powerLog kind prog step rail code s).part pt = s.part pt := by
  unfold State.powerLog
  simp only [List.mem_cons, List.not_mem_nil, or_false, not_or] at hp
  simp (maxDischargeDepth := 12) only [modPower_part, hp, part_ite, ite_self, List.mem_cons, List.not_mem_nil, or_false, not_or, not_false_eq_true, and_self, implies_true, ne_eq]

end Sys2Proof.Machine
end

