-- ==== Sys2Proof/Laws/KeptPixel.lean ====
section
/-! SUPPORT. Which parts of the state each operation of Machine/Pixel.lean leaves as they are. -/

set_option linter.unusedSimpArgs false

namespace Sys2Proof.Machine

open Sys2Proof

theorem ringUncorrectable_part {pt : Part} (x : Fin 6) (line : Nat) (s : State) (hp : pt ∉ ([.decoders, .pixels, .faults] : List Part)) :
    (State.ringUncorrectable x line s).part pt = s.part pt := by
  unfold State.ringUncorrectable
  simp only [List.mem_cons, List.not_mem_nil, or_false, not_or] at hp
  simp (maxDischargeDepth := 12) only [raise_part, modDecoder_part, modPixel_part, hp, part_ite, ite_self, List.mem_cons, List.not_mem_nil, or_false, not_or, not_false_eq_true, and_self, implies_true, ne_eq]

theorem execSweepFrameStart_part {pt : Part} (x : Fin 6) (corrected : Nat) (bad : List Nat) (s : State) (hp : pt ∉ ([.decoders, .pixels, .faults] : List Part)) :
    KeepsPart pt s (execSweepFrameStart x corrected bad s) := by
  unfold execSweepFrameStart
  simp only [List.mem_cons, List.not_mem_nil, or_false, not_or] at hp
  first
  | (simp (maxDischargeDepth := 12) only [raiseIf_part, ringUncorrectable_part, modDecoder_part, modPixel_part, each_part, keepsPart_live, keepsPart_liveIf, keepsPart_next, hp, part_ite, ite_self, List.mem_cons, List.not_mem_nil, or_false, not_or, not_false_eq_true, and_self, implies_true, ne_eq]; done)
  | (try dsimp only
     (repeat' split) <;> simp (maxDischargeDepth := 12) only [raiseIf_part, ringUncorrectable_part, modDecoder_part, modPixel_part, each_part, keepsPart_live, keepsPart_liveIf, keepsPart_next, hp, part_ite, ite_self, List.mem_cons, List.not_mem_nil, or_false, not_or, not_false_eq_true, and_self, implies_true, ne_eq])

theorem execSweepFrameComplete_part {pt : Part} (x : Fin 6) (s : State) (hp : pt ∉ ([.layer, .decoders, .pixels] : List Part)) :
    KeepsPart pt s (execSweepFrameComplete x s) := by
  unfold execSweepFrameComplete
  simp only [List.mem_cons, List.not_mem_nil, or_false, not_or] at hp
  first
  | (simp (maxDischargeDepth := 12) only [imagingDone_part, modJob_part, modDecoder_part, modPixel_part, keepsPart_live, keepsPart_liveIf, keepsPart_next, hp, part_ite, ite_self, List.mem_cons, List.not_mem_nil, or_false, not_or, not_false_eq_true, and_self, implies_true, ne_eq]; done)
  | (try dsimp only
     (repeat' split) <;> simp (maxDischargeDepth := 12) only [imagingDone_part, modJob_part, modDecoder_part, modPixel_part, keepsPart_live, keepsPart_liveIf, keepsPart_next, hp, part_ite, ite_self, List.mem_cons, List.not_mem_nil, or_false, not_or, not_false_eq_true, and_self, implies_true, ne_eq])

theorem execXsyncExposure_part {pt : Part} (x : Fin 6) (s : State) (hp : pt ∉ ([.pixels, .scan] : List Part)) :
    KeepsPart pt s (execXsyncExposure x s) := by
  unfold execXsyncExposure
  simp only [List.mem_cons, List.not_mem_nil, or_false, not_or] at hp
  first
  | (simp (maxDischargeDepth := 12) only [modPixel_part, modScan_part, keepsPart_live, keepsPart_liveIf, keepsPart_next, hp, part_ite, ite_self, List.mem_cons, List.not_mem_nil, or_false, not_or, not_false_eq_true, and_self, implies_true, ne_eq]; done)
  | (try dsimp only
     (repeat' split) <;> simp (maxDischargeDepth := 12) only [modPixel_part, modScan_part, keepsPart_live, keepsPart_liveIf, keepsPart_next, hp, part_ite, ite_self, List.mem_cons, List.not_mem_nil, or_false, not_or, not_false_eq_true, and_self, implies_true, ne_eq])

theorem execProbeSample_part {pt : Part} (x : Fin 6) (amp : Option Nat) (s : State) (hp : pt ∉ ([.pixels, .faults] : List Part)) :
    KeepsPart pt s (execProbeSample x amp s) := by
  unfold execProbeSample
  simp only [List.mem_cons, List.not_mem_nil, or_false, not_or] at hp
  first
  | (simp (maxDischargeDepth := 12) only [raiseD_part, modPixel_part, keepsPart_live, keepsPart_liveIf, keepsPart_next, hp, part_ite, ite_self, List.mem_cons, List.not_mem_nil, or_false, not_or, not_false_eq_true, and_self, implies_true, ne_eq]; done)
  | (try dsimp only
     (repeat' split) <;> simp (maxDischargeDepth := 12) only [raiseD_part, modPixel_part, keepsPart_live, keepsPart_liveIf, keepsPart_next, hp, part_ite, ite_self, List.mem_cons, List.not_mem_nil, or_false, not_or, not_false_eq_true, and_self, implies_true, ne_eq])

theorem execSlowLoopSample_part {pt : Part} (x : Fin 6) (track : Fin 4) (volts : Int) (s : State) (hp : pt ∉ ([.pixels, .faults] : List Part)) :
    KeepsPart pt s (execSlowLoopSample x track volts s) := by
  unfold execSlowLoopSample
  simp only [List.mem_cons, List.not_mem_nil, or_false, not_or] at hp
  simp (maxDischargeDepth := 12) only [raiseIf_part, modPixel_part, keepsPart_live, keepsPart_liveIf, keepsPart_next, hp, part_ite, ite_self, List.mem_cons, List.not_mem_nil, or_false, not_or, not_false_eq_true, and_self, implies_true, ne_eq]

theorem sendConfig_part {pt : Part} (x : Fin 6) (s : State) (hp : pt ∉ ([.pixels] : List Part)) :
    (State.sendConfig x s).part pt = s.part pt := by
  unfold State.sendConfig
  simp only [List.mem_cons, List.not_mem_nil, or_false, not_or] at hp
  simp (maxDischargeDepth := 12) only [modPixel_part, hp, part_ite, ite_self, List.mem_cons, List.not_mem_nil, or_false, not_or, not_false_eq_true, and_self, implies_true, ne_eq]

theorem execLaneTraining_part {pt : Part} (x : Fin 6) (lane : Fin 5) (reports : List LaneReport) (s : State) (hp : pt ∉ ([.pixels, .faults] : List Part)) :
    KeepsPart pt s (execLaneTraining x lane reports s) := by
  unfold execLaneTraining
  simp only [List.mem_cons, List.not_mem_nil, or_false, not_or] at hp
  simp (maxDischargeDepth := 12) only [raiseD_part, modPixel_part, when_part, keepsPart_live, keepsPart_liveIf, keepsPart_next, hp, part_ite, ite_self, List.mem_cons, List.not_mem_nil, or_false, not_or, not_false_eq_true, and_self, implies_true, ne_eq]

theorem swapLane_part {pt : Part} (x : Fin 6) (reports : List LaneReport) (s : State) (hp : pt ∉ ([.pixels, .faults, .survey] : List Part)) :
    (State.swapLane x reports s).part pt = s.part pt := by
  unfold State.swapLane
  simp only [List.mem_cons, List.not_mem_nil, or_false, not_or] at hp
  first
  | (simp (maxDischargeDepth := 12) only [raiseD_part, sendConfig_part, spareLog_part, modPixel_part, modSurvey_part, when_part, hp, part_ite, ite_self, List.mem_cons, List.not_mem_nil, or_false, not_or, not_false_eq_true, and_self, implies_true, ne_eq]; done)
  | (try dsimp only
     (repeat' split) <;> simp (maxDischargeDepth := 12) only [raiseD_part, sendConfig_part, spareLog_part, modPixel_part, modSurvey_part, when_part, hp, part_ite, ite_self, List.mem_cons, List.not_mem_nil, or_false, not_or, not_false_eq_true, and_self, implies_true, ne_eq])

theorem forceLanes_part {pt : Part} (src : ForceSource) (s : State) (hp : pt ∉ ([.pixels] : List Part)) :
    (State.forceLanes src s).part pt = s.part pt := by
  unfold State.forceLanes
  simp only [List.mem_cons, List.not_mem_nil, or_false, not_or] at hp
  simp (maxDischargeDepth := 12) only [allPixels_part, hp, part_ite, ite_self, List.mem_cons, List.not_mem_nil, or_false, not_or, not_false_eq_true, and_self, implies_true, ne_eq]

theorem stopStations_part {pt : Part} (s : State) (hp : pt ∉ ([.decoders, .pixels, .position] : List Part)) :
    (State.stopStations s).part pt = s.part pt := by
  unfold State.stopStations
  simp only [List.mem_cons, List.not_mem_nil, or_false, not_or] at hp
  simp (maxDischargeDepth := 12) only [allDecoders_part, allPixels_part, modPosition_part, hp, part_ite, ite_self, List.mem_cons, List.not_mem_nil, or_false, not_or, not_false_eq_true, and_self, implies_true, ne_eq]

theorem execBdOn_part {pt : Part} (x : Fin 6) (s : State) (hp : pt ∉ ([.pixels] : List Part)) :
    KeepsPart pt s (execBdOn x s) := by
  unfold execBdOn
  simp only [List.mem_cons, List.not_mem_nil, or_false, not_or] at hp
  simp (maxDischargeDepth := 12) only [modPixel_part, keepsPart_live, keepsPart_liveIf, keepsPart_next, hp, part_ite, ite_self, List.mem_cons, List.not_mem_nil, or_false, not_or, not_false_eq_true, and_self, implies_true, ne_eq]

theorem execTrimSave_part {pt : Part} (x : Fin 6) (s : State) (hp : pt ∉ ([.boot] : List Part)) :
    KeepsPart pt s (execTrimSave x s) := by
  unfold execTrimSave
  simp only [List.mem_cons, List.not_mem_nil, or_false, not_or] at hp
  simp (maxDischargeDepth := 12) only [modBoot_part, keepsPart_live, keepsPart_liveIf, keepsPart_next, hp, part_ite, ite_self, List.mem_cons, List.not_mem_nil, or_false, not_or, not_false_eq_true, and_self, implies_true, ne_eq]

theorem restoreTrims_part {pt : Part} (x : Fin 6) (serial : Nat) (s : State) (hp : pt ∉ ([.pixels] : List Part)) :
    (State.restoreTrims x serial s).part pt = s.part pt := by
  unfold State.restoreTrims
  simp only [List.mem_cons, List.not_mem_nil, or_false, not_or] at hp
  simp (maxDischargeDepth := 12) only [modPixel_part, hp, part_ite, ite_self, List.mem_cons, List.not_mem_nil, or_false, not_or, not_false_eq_true, and_self, implies_true, ne_eq]

end Sys2Proof.Machine
end

