-- ==== Sys2Proof/Laws/KeptRecords.lean ====
section
/-! SUPPORT. Which parts of the state each operation of Machine/Records.lean leaves as they are. -/

set_option linter.unusedSimpArgs false

namespace Sys2Proof.Machine

open Sys2Proof

theorem modCq_part {pt : Part} (n : Nat) (f : CompQueue → CompQueue) (s : State) (hp : pt ∉ ([.host] : List Part)) :
    (State.modCq n f s).part pt = s.part pt := by
  unfold State.modCq
  simp only [List.mem_cons, List.not_mem_nil, or_false, not_or] at hp
  simp (maxDischargeDepth := 12) only [modHost_part, hp, part_ite, ite_self, List.mem_cons, List.not_mem_nil, or_false, not_or, not_false_eq_true, and_self, implies_true, ne_eq]

theorem offer_part {pt : Part} (n : Nat) (r : Held) (s : State) (hp : pt ∉ ([.faults, .host] : List Part)) :
    (State.offer n r s).part pt = s.part pt := by
  unfold State.offer
  simp only [List.mem_cons, List.not_mem_nil, or_false, not_or] at hp
  simp (maxDischargeDepth := 12) only [modCq_part, raise_part, modHost_part, hp, part_ite, ite_self, List.mem_cons, List.not_mem_nil, or_false, not_or, not_false_eq_true, and_self, implies_true, ne_eq]

theorem record_part {pt : Part} (n : Nat) (kind : RecordKind) (seq : Nat) (body : List Byte) (s : State) (hp : pt ∉ ([.faults, .host] : List Part)) :
    (State.record n kind seq body s).part pt = s.part pt := by
  unfold State.record
  simp only [List.mem_cons, List.not_mem_nil, or_false, not_or] at hp
  simp (maxDischargeDepth := 12) only [offer_part, hp, part_ite, ite_self, List.mem_cons, List.not_mem_nil, or_false, not_or, not_false_eq_true, and_self, implies_true, ne_eq]

theorem doorRecord_part {pt : Part} (ring tail taken : Nat) (reason : DoorReason) (s : State) (hp : pt ∉ ([.faults, .host] : List Part)) :
    (State.doorRecord ring tail taken reason s).part pt = s.part pt := by
  unfold State.doorRecord
  simp only [List.mem_cons, List.not_mem_nil, or_false, not_or] at hp
  simp (maxDischargeDepth := 12) only [record_part, hp, part_ite, ite_self, List.mem_cons, List.not_mem_nil, or_false, not_or, not_false_eq_true, and_self, implies_true, ne_eq]

theorem clockRecord_part {pt : Part} (st : ReqState) (r : FreqRequest) (s : State) (hp : pt ∉ ([.faults, .host] : List Part)) :
    (State.clockRecord st r s).part pt = s.part pt := by
  unfold State.clockRecord
  simp only [List.mem_cons, List.not_mem_nil, or_false, not_or] at hp
  simp (maxDischargeDepth := 12) only [record_part, hp, part_ite, ite_self, List.mem_cons, List.not_mem_nil, or_false, not_or, not_false_eq_true, and_self, implies_true, ne_eq]

theorem commandRecord_part {pt : Part} (cq opcode tag : Nat) (st : MqStatus) (result : List Byte) (s : State) (hp : pt ∉ ([.faults, .host] : List Part)) :
    (State.commandRecord cq opcode tag st result s).part pt = s.part pt := by
  unfold State.commandRecord
  simp only [List.mem_cons, List.not_mem_nil, or_false, not_or] at hp
  simp (maxDischargeDepth := 12) only [record_part, hp, part_ite, ite_self, List.mem_cons, List.not_mem_nil, or_false, not_or, not_false_eq_true, and_self, implies_true, ne_eq]

theorem complete_part {pt : Part} (h : MqHeader) (opcode : Nat) (st : MqStatus) (result : List Byte) (s : State) (hp : pt ∉ ([.faults, .host] : List Part)) :
    (State.complete h opcode st result s).part pt = s.part pt := by
  unfold State.complete
  simp only [List.mem_cons, List.not_mem_nil, or_false, not_or] at hp
  simp (maxDischargeDepth := 12) only [commandRecord_part, hp, part_ite, ite_self, List.mem_cons, List.not_mem_nil, or_false, not_or, not_false_eq_true, and_self, implies_true, ne_eq]

end Sys2Proof.Machine
end

