-- ==== Sys2Proof/Laws/KeptMotion.lean ====
section
/-! SUPPORT. Which parts of the state each operation of Machine/Motion.lean leaves as they are. -/

set_option linter.unusedSimpArgs false

namespace Sys2Proof.Machine

open Sys2Proof

theorem modServo_part {pt : Part} (a : Nat) (f : Servo → Servo) (s : State) (hp : pt ∉ ([.motion] : List Part)) :
    (State.modServo a f s).part pt = s.part pt := by
  unfold State.modServo
  simp only [List.mem_cons, List.not_mem_nil, or_false, not_or] at hp
  simp (maxDischargeDepth := 12) only [modMotion_part, hp, part_ite, ite_self, List.mem_cons, List.not_mem_nil, or_false, not_or, not_false_eq_true, and_self, implies_true, ne_eq]

theorem modStepper_part {pt : Part} (n : Nat) (f : Stepper → Stepper) (s : State) (hp : pt ∉ ([.motion] : List Part)) :
    (State.modStepper n f s).part pt = s.part pt := by
  unfold State.modStepper
  simp only [List.mem_cons, List.not_mem_nil, or_false, not_or] at hp
  simp (maxDischargeDepth := 12) only [modMotion_part, hp, part_ite, ite_self, List.mem_cons, List.not_mem_nil, or_false, not_or, not_false_eq_true, and_self, implies_true, ne_eq]

theorem modBus_part {pt : Part} (f : Bus → Bus) (s : State) (hp : pt ∉ ([.motion] : List Part)) :
    (State.modBus f s).part pt = s.part pt := by
  unfold State.modBus
  simp only [List.mem_cons, List.not_mem_nil, or_false, not_or] at hp
  simp (maxDischargeDepth := 12) only [modMotion_part, hp, part_ite, ite_self, List.mem_cons, List.not_mem_nil, or_false, not_or, not_false_eq_true, and_self, implies_true, ne_eq]

theorem stopServoLoops_part {pt : Part} (a : Nat) (s : State) (hp : pt ∉ ([.loops] : List Part)) :
    (State.stopServoLoops a s).part pt = s.part pt := by
  unfold State.stopServoLoops
  simp only [List.mem_cons, List.not_mem_nil, or_false, not_or] at hp
  simp (maxDischargeDepth := 12) only [modLoop_part, each_part, hp, part_ite, ite_self, List.mem_cons, List.not_mem_nil, or_false, not_or, not_false_eq_true, and_self, implies_true, ne_eq]

theorem beginLoops_part {pt : Part} (ns : List Nat) (s : State) (hp : pt ∉ ([.loops] : List Part)) :
    (State.beginLoops ns s).part pt = s.part pt := by
  unfold State.beginLoops
  simp only [List.mem_cons, List.not_mem_nil, or_false, not_or] at hp
  simp (maxDischargeDepth := 12) only [modLoop_part, when_part, each_part, hp, part_ite, ite_self, List.mem_cons, List.not_mem_nil, or_false, not_or, not_false_eq_true, and_self, implies_true, ne_eq]

theorem coastServo_part {pt : Part} (a : Nat) (s : State) (hp : pt ∉ ([.loops, .motion] : List Part)) :
    (State.coastServo a s).part pt = s.part pt := by
  unfold State.coastServo
  simp only [List.mem_cons, List.not_mem_nil, or_false, not_or] at hp
  simp (maxDischargeDepth := 12) only [modServo_part, stopServoLoops_part, modMotion_part, when_part, hp, part_ite, ite_self, List.mem_cons, List.not_mem_nil, or_false, not_or, not_false_eq_true, and_self, implies_true, ne_eq]

theorem stopStepper_part {pt : Part} (n : Nat) (s : State) (hp : pt ∉ ([.motion, .faults] : List Part)) :
    (State.stopStepper n s).part pt = s.part pt := by
  unfold State.stopStepper
  simp only [List.mem_cons, List.not_mem_nil, or_false, not_or] at hp
  simp (maxDischargeDepth := 12) only [modStepper_part, raiseIf_part, hp, part_ite, ite_self, List.mem_cons, List.not_mem_nil, or_false, not_or, not_false_eq_true, and_self, implies_true, ne_eq]

theorem moveAxis_part {pt : Part} (i : Nat) (p : Int) (s : State) (hp : pt ∉ ([.position, .motion, .faults] : List Part)) :
    (State.moveAxis i p s).part pt = s.part pt := by
  unfold State.moveAxis
  simp only [List.mem_cons, List.not_mem_nil, or_false, not_or] at hp
  simp (maxDischargeDepth := 12) only [eachCompare_part, modServo_part, raise_part, raiseRun_part, stopStepper_part, modPosition_part, when_part, hp, part_ite, ite_self, List.mem_cons, List.not_mem_nil, or_false, not_or, not_false_eq_true, and_self, implies_true, ne_eq]

theorem placeAxis_part {pt : Part} (i : Nat) (p : Int) (s : State) (hp : pt ∉ ([.position] : List Part)) :
    (State.placeAxis i p s).part pt = s.part pt := by
  unfold State.placeAxis
  simp only [List.mem_cons, List.not_mem_nil, or_false, not_or] at hp
  simp (maxDischargeDepth := 12) only [modPosition_part, hp, part_ite, ite_self, List.mem_cons, List.not_mem_nil, or_false, not_or, not_false_eq_true, and_self, implies_true, ne_eq]

theorem countZ_part {pt : Part} (n : Nat) (s : State) (hp : pt ∉ ([.position, .motion, .faults] : List Part)) :
    (State.countZ n s).part pt = s.part pt := by
  unfold State.countZ
  simp only [List.mem_cons, List.not_mem_nil, or_false, not_or] at hp
  simp (maxDischargeDepth := 12) only [moveAxis_part, when_part, hp, part_ite, ite_self, List.mem_cons, List.not_mem_nil, or_false, not_or, not_false_eq_true, and_self, implies_true, ne_eq]

theorem stopSteppers_part {pt : Part} (s : State) (hp : pt ∉ ([.motion, .faults] : List Part)) :
    (State.stopSteppers s).part pt = s.part pt := by
  unfold State.stopSteppers
  simp only [List.mem_cons, List.not_mem_nil, or_false, not_or] at hp
  simp (maxDischargeDepth := 12) only [stopStepper_part, each_part, hp, part_ite, ite_self, List.mem_cons, List.not_mem_nil, or_false, not_or, not_false_eq_true, and_self, implies_true, ne_eq]

theorem motionOff_part {pt : Part} (s : State) (hp : pt ∉ ([.loops, .motion, .faults] : List Part)) :
    (State.motionOff s).part pt = s.part pt := by
  unfold State.motionOff
  simp only [List.mem_cons, List.not_mem_nil, or_false, not_or] at hp
  simp (maxDischargeDepth := 12) only [coastServo_part, stopSteppers_part, modMotion_part, each_part, hp, part_ite, ite_self, List.mem_cons, List.not_mem_nil, or_false, not_or, not_false_eq_true, and_self, implies_true, ne_eq]

theorem abortCarriage_part {pt : Part} (s : State) (hp : pt ∉ ([.motion] : List Part)) :
    (State.abortCarriage s).part pt = s.part pt := by
  unfold State.abortCarriage
  simp only [List.mem_cons, List.not_mem_nil, or_false, not_or] at hp
  try dsimp only
  (repeat' split) <;> simp (maxDischargeDepth := 12) only [modServo_part, modMotion_part, when_part, hp, part_ite, ite_self, List.mem_cons, List.not_mem_nil, or_false, not_or, not_false_eq_true, and_self, implies_true, ne_eq]

theorem abortMotion_part {pt : Part} (s : State) (hp : pt ∉ ([.motion] : List Part)) :
    (State.abortMotion s).part pt = s.part pt := by
  unfold State.abortMotion
  simp only [List.mem_cons, List.not_mem_nil, or_false, not_or] at hp
  simp (maxDischargeDepth := 12) only [abortCarriage_part, modServo_part, hp, part_ite, ite_self, List.mem_cons, List.not_mem_nil, or_false, not_or, not_false_eq_true, and_self, implies_true, ne_eq]

theorem clampOn_part {pt : Part} (s : State) (hp : pt ∉ ([.polygons, .motion] : List Part)) :
    (State.clampOn s).part pt = s.part pt := by
  unfold State.clampOn
  simp only [List.mem_cons, List.not_mem_nil, or_false, not_or] at hp
  simp (maxDischargeDepth := 12) only [allPolygons_part, modMotion_part, hp, part_ite, ite_self, List.mem_cons, List.not_mem_nil, or_false, not_or, not_false_eq_true, and_self, implies_true, ne_eq]

theorem returnCheck_part {pt : Part} (s : State) (hp : pt ∉ ([.layer, .decoders, .pixels, .position, .loops, .host, .telemetry, .boot] : List Part)) :
    (State.returnCheck s).part pt = s.part pt := by
  unfold State.returnCheck
  simp only [List.mem_cons, List.not_mem_nil, or_false, not_or] at hp
  try dsimp only
  (repeat' split) <;> simp (maxDischargeDepth := 12) only [endJob_part, when_part, hp, part_ite, ite_self, List.mem_cons, List.not_mem_nil, or_false, not_or, not_false_eq_true, and_self, implies_true, ne_eq]

theorem beginFeed_part {pt : Part} (seq : Nat) (s : State) (hp : pt ∉ ([.layer, .decoders, .pixels, .position, .loops, .motion, .host, .telemetry, .boot] : List Part)) :
    (State.beginFeed seq s).part pt = s.part pt := by
  unfold State.beginFeed
  simp only [List.mem_cons, List.not_mem_nil, or_false, not_or] at hp
  first
  | (simp (maxDischargeDepth := 12) only [modJob_part, modStepper_part, returnCheck_part, each_part, hp, part_ite, ite_self, List.mem_cons, List.not_mem_nil, or_false, not_or, not_false_eq_true, and_self, implies_true, ne_eq]; done)
  | (try dsimp only
     (repeat' split) <;> simp (maxDischargeDepth := 12) only [modJob_part, modStepper_part, returnCheck_part, each_part, hp, part_ite, ite_self, List.mem_cons, List.not_mem_nil, or_false, not_or, not_false_eq_true, and_self, implies_true, ne_eq])

theorem finishResume_part {pt : Part} (s : State) (hp : pt ∉ ([.layer, .motion, .faults, .host] : List Part)) :
    (State.finishResume s).part pt = s.part pt := by
  unfold State.finishResume
  simp only [List.mem_cons, List.not_mem_nil, or_false, not_or] at hp
  simp (maxDischargeDepth := 12) only [complete_part, modLayer_part, modMotion_part, when_part, each_part, hp, part_ite, ite_self, List.mem_cons, List.not_mem_nil, or_false, not_or, not_false_eq_true, and_self, implies_true, ne_eq]

theorem lowerComplete_part {pt : Part} (seq : Nat) (s : State) (hp : pt ∉ ([.layer, .decoders, .pixels, .position, .loops, .motion, .host, .telemetry, .boot] : List Part)) :
    (State.lowerComplete seq s).part pt = s.part pt := by
  unfold State.lowerComplete
  simp only [List.mem_cons, List.not_mem_nil, or_false, not_or] at hp
  first
  | (simp (maxDischargeDepth := 12) only [beginFeed_part, modJob_part, when_part, hp, part_ite, ite_self, List.mem_cons, List.not_mem_nil, or_false, not_or, not_false_eq_true, and_self, implies_true, ne_eq]; done)
  | (try dsimp only
     (repeat' split) <;> simp (maxDischargeDepth := 12) only [beginFeed_part, modJob_part, when_part, hp, part_ite, ite_self, List.mem_cons, List.not_mem_nil, or_false, not_or, not_false_eq_true, and_self, implies_true, ne_eq])

theorem beginLower_part {pt : Part} (seq : Nat) (s : State) (hp : pt ∉ ([.layer, .decoders, .pixels, .position, .loops, .motion, .host, .telemetry, .boot] : List Part)) :
    (State.beginLower seq s).part pt = s.part pt := by
  unfold State.beginLower
  simp only [List.mem_cons, List.not_mem_nil, or_false, not_or] at hp
  simp (maxDischargeDepth := 12) only [lowerComplete_part, setJobState_part, modMotion_part, when_part, hp, part_ite, ite_self, List.mem_cons, List.not_mem_nil, or_false, not_or, not_false_eq_true, and_self, implies_true, ne_eq]

theorem posBelt_part {pt : Part} (pos vel : Int) (s : State) (hp : pt ∉ ([.motion] : List Part)) :
    (State.posBelt pos vel s).part pt = s.part pt := by
  unfold State.posBelt
  simp only [List.mem_cons, List.not_mem_nil, or_false, not_or] at hp
  simp (maxDischargeDepth := 12) only [modServo_part, hp, part_ite, ite_self, List.mem_cons, List.not_mem_nil, or_false, not_or, not_false_eq_true, and_self, implies_true, ne_eq]

theorem posRoller_part {pt : Part} (travel beltVel beltAcc pos vel : Int) (s : State) (hp : pt ∉ ([.motion] : List Part)) :
    (State.posRoller travel beltVel beltAcc pos vel s).part pt = s.part pt := by
  unfold State.posRoller
  simp only [List.mem_cons, List.not_mem_nil, or_false, not_or] at hp
  simp (maxDischargeDepth := 12) only [modServo_part, hp, part_ite, ite_self, List.mem_cons, List.not_mem_nil, or_false, not_or, not_false_eq_true, and_self, implies_true, ne_eq]

theorem carriageBack_part {pt : Part} (home : Bool) (s : State) (hp : pt ∉ ([.layer, .decoders, .pixels, .position, .loops, .motion, .faults, .host, .telemetry, .boot] : List Part)) :
    (State.carriageBack home s).part pt = s.part pt := by
  unfold State.carriageBack
  simp only [List.mem_cons, List.not_mem_nil, or_false, not_or] at hp
  first
  | (simp (maxDischargeDepth := 12) only [beginFeed_part, finishResume_part, modMotion_part, hp, part_ite, ite_self, List.mem_cons, List.not_mem_nil, or_false, not_or, not_false_eq_true, and_self, implies_true, ne_eq]; done)
  | (try dsimp only
     (repeat' split) <;> simp (maxDischargeDepth := 12) only [beginFeed_part, finishResume_part, modMotion_part, hp, part_ite, ite_self, List.mem_cons, List.not_mem_nil, or_false, not_or, not_false_eq_true, and_self, implies_true, ne_eq])

theorem posCarriage_part {pt : Part} (travel beltVel pos vel : Int) (s : State) (hp : pt ∉ ([.layer, .decoders, .pixels, .position, .loops, .motion, .faults, .host, .telemetry, .boot] : List Part)) :
    (State.posCarriage travel beltVel pos vel s).part pt = s.part pt := by
  unfold State.posCarriage
  simp only [List.mem_cons, List.not_mem_nil, or_false, not_or] at hp
  simp (maxDischargeDepth := 12) only [carriageBack_part, modServo_part, modMotion_part, when_part, hp, part_ite, ite_self, List.mem_cons, List.not_mem_nil, or_false, not_or, not_false_eq_true, and_self, implies_true, ne_eq]

theorem checkSkew_part {pt : Part} (s : State) (hp : pt ∉ ([.motion, .faults] : List Part)) :
    (State.checkSkew s).part pt = s.part pt := by
  unfold State.checkSkew
  simp only [List.mem_cons, List.not_mem_nil, or_false, not_or] at hp
  simp (maxDischargeDepth := 12) only [raise_part, stopStepper_part, modMotion_part, when_part, each_part, foldl_snd_part, hp, part_ite, ite_self, List.mem_cons, List.not_mem_nil, or_false, not_or, not_false_eq_true, and_self, implies_true, ne_eq]

theorem suspendFe_part {pt : Part} (s : State) (hp : pt ∉ ([.loops] : List Part)) :
    (State.suspendFe s).part pt = s.part pt := by
  unfold State.suspendFe
  simp only [List.mem_cons, List.not_mem_nil, or_false, not_or] at hp
  simp (maxDischargeDepth := 12) only [modLoop_part, when_part, each_part, hp, part_ite, ite_self, List.mem_cons, List.not_mem_nil, or_false, not_or, not_false_eq_true, and_self, implies_true, ne_eq]

theorem execPosInstant_part {pt : Part} (frame : Nat) (s : State) (hp : pt ∉ ([.layer, .decoders, .pixels, .position, .loops, .motion, .faults, .host, .telemetry, .boot] : List Part)) :
    KeepsPart pt s (execPosInstant frame s) := by
  unfold execPosInstant
  simp only [List.mem_cons, List.not_mem_nil, or_false, not_or] at hp
  simp (maxDischargeDepth := 12) only [atCycle_part, checkSkew_part, posBelt_part, posCarriage_part, posRoller_part, suspendFe_part, modMotion_part, keepsPart_live, keepsPart_liveIf, keepsPart_next, hp, part_ite, ite_self, List.mem_cons, List.not_mem_nil, or_false, not_or, not_false_eq_true, and_self, implies_true, ne_eq]

theorem enterServo_part {pt : Part} (a : Nat) (s : State) (hp : pt ∉ ([.loops, .motion] : List Part)) :
    (State.enterServo a s).part pt = s.part pt := by
  unfold State.enterServo
  simp only [List.mem_cons, List.not_mem_nil, or_false, not_or] at hp
  first
  | (simp (maxDischargeDepth := 12) only [beginLoops_part, modServo_part, hp, part_ite, ite_self, List.mem_cons, List.not_mem_nil, or_false, not_or, not_false_eq_true, and_self, implies_true, ne_eq]; done)
  | (try dsimp only
     (repeat' split) <;> simp (maxDischargeDepth := 12) only [beginLoops_part, modServo_part, hp, part_ite, ite_self, List.mem_cons, List.not_mem_nil, or_false, not_or, not_false_eq_true, and_self, implies_true, ne_eq])

theorem enableServos_part {pt : Part} (s : State) (hp : pt ∉ ([.loops, .motion] : List Part)) :
    (State.enableServos s).part pt = s.part pt := by
  unfold State.enableServos
  simp only [List.mem_cons, List.not_mem_nil, or_false, not_or] at hp
  simp (maxDischargeDepth := 12) only [enterServo_part, when_part, each_part, hp, part_ite, ite_self, List.mem_cons, List.not_mem_nil, or_false, not_or, not_false_eq_true, and_self, implies_true, ne_eq]

theorem steppersOn_part {pt : Part} (s : State) (hp : pt ∉ ([.motion] : List Part)) :
    (State.steppersOn s).part pt = s.part pt := by
  unfold State.steppersOn
  simp only [List.mem_cons, List.not_mem_nil, or_false, not_or] at hp
  first
  | (simp (maxDischargeDepth := 12) only [modMotion_part, when_part, hp, part_ite, ite_self, List.mem_cons, List.not_mem_nil, or_false, not_or, not_false_eq_true, and_self, implies_true, ne_eq]; done)
  | (try dsimp only
     (repeat' split) <;> simp (maxDischargeDepth := 12) only [modMotion_part, when_part, hp, part_ite, ite_self, List.mem_cons, List.not_mem_nil, or_false, not_or, not_false_eq_true, and_self, implies_true, ne_eq])

theorem execServoAlign_part {pt : Part} (a : Fin 3) (s : State) (hp : pt ∉ ([.loops, .motion, .faults] : List Part)) :
    KeepsPart pt s (execServoAlign a s) := by
  unfold execServoAlign
  simp only [List.mem_cons, List.not_mem_nil, or_false, not_or] at hp
  simp (maxDischargeDepth := 12) only [enterServo_part, modServo_part, raise_part, stopServoLoops_part, keepsPart_live, keepsPart_liveIf, keepsPart_next, hp, part_ite, ite_self, List.mem_cons, List.not_mem_nil, or_false, not_or, not_false_eq_true, and_self, implies_true, ne_eq]

theorem execServoStop_part {pt : Part} (a : Fin 2) (s : State) (hp : pt ∉ ([.motion] : List Part)) :
    KeepsPart pt s (execServoStop a s) := by
  unfold execServoStop
  simp only [List.mem_cons, List.not_mem_nil, or_false, not_or] at hp
  simp (maxDischargeDepth := 12) only [modServo_part, keepsPart_live, keepsPart_liveIf, keepsPart_next, hp, part_ite, ite_self, List.mem_cons, List.not_mem_nil, or_false, not_or, not_false_eq_true, and_self, implies_true, ne_eq]

theorem execBeltStart_part {pt : Part} (s : State) (hp : pt ∉ ([.motion] : List Part)) :
    KeepsPart pt s (execBeltStart s) := by
  unfold execBeltStart
  simp only [List.mem_cons, List.not_mem_nil, or_false, not_or] at hp
  simp (maxDischargeDepth := 12) only [modServo_part, keepsPart_live, keepsPart_liveIf, keepsPart_next, hp, part_ite, ite_self, List.mem_cons, List.not_mem_nil, or_false, not_or, not_false_eq_true, and_self, implies_true, ne_eq]

theorem execCarriageApproachStart_part {pt : Part} (s : State) (hp : pt ∉ ([.motion] : List Part)) :
    KeepsPart pt s (execCarriageApproachStart s) := by
  unfold execCarriageApproachStart
  simp only [List.mem_cons, List.not_mem_nil, or_false, not_or] at hp
  first
  | (simp (maxDischargeDepth := 12) only [modServo_part, modMotion_part, keepsPart_live, keepsPart_liveIf, keepsPart_next, hp, part_ite, ite_self, List.mem_cons, List.not_mem_nil, or_false, not_or, not_false_eq_true, and_self, implies_true, ne_eq]; done)
  | (try dsimp only
     (repeat' split) <;> simp (maxDischargeDepth := 12) only [modServo_part, modMotion_part, keepsPart_live, keepsPart_liveIf, keepsPart_next, hp, part_ite, ite_self, List.mem_cons, List.not_mem_nil, or_false, not_or, not_false_eq_true, and_self, implies_true, ne_eq])

theorem execCarriageLock_part {pt : Part} (s : State) (hp : pt ∉ ([.motion] : List Part)) :
    KeepsPart pt s (execCarriageLock s) := by
  unfold execCarriageLock
  simp only [List.mem_cons, List.not_mem_nil, or_false, not_or] at hp
  simp (maxDischargeDepth := 12) only [modServo_part, modMotion_part, keepsPart_live, keepsPart_liveIf, keepsPart_next, hp, part_ite, ite_self, List.mem_cons, List.not_mem_nil, or_false, not_or, not_false_eq_true, and_self, implies_true, ne_eq]

theorem execLeadingEdgeAtNip_part {pt : Part} (s : State) (hp : pt ∉ ([.layer, .motion] : List Part)) :
    KeepsPart pt s (execLeadingEdgeAtNip s) := by
  unfold execLeadingEdgeAtNip
  simp only [List.mem_cons, List.not_mem_nil, or_false, not_or] at hp
  try dsimp only
  (repeat' split) <;> simp (maxDischargeDepth := 12) only [enterTransfuse_part, modMotion_part, keepsPart_live, keepsPart_liveIf, keepsPart_next, hp, part_ite, ite_self, List.mem_cons, List.not_mem_nil, or_false, not_or, not_false_eq_true, and_self, implies_true, ne_eq]

theorem execCarriageSeparation_part {pt : Part} (s : State) (hp : pt ∉ ([.layer, .decoders, .pixels, .position, .loops, .motion, .host, .telemetry, .boot] : List Part)) :
    KeepsPart pt s (execCarriageSeparation s) := by
  unfold execCarriageSeparation
  simp only [List.mem_cons, List.not_mem_nil, or_false, not_or] at hp
  first
  | (simp (maxDischargeDepth := 12) only [beginLower_part, modServo_part, modMotion_part, keepsPart_live, keepsPart_liveIf, keepsPart_next, hp, part_ite, ite_self, List.mem_cons, List.not_mem_nil, or_false, not_or, not_false_eq_true, and_self, implies_true, ne_eq]; done)
  | (try dsimp only
     (repeat' split) <;> simp (maxDischargeDepth := 12) only [beginLower_part, modServo_part, modMotion_part, keepsPart_live, keepsPart_liveIf, keepsPart_next, hp, part_ite, ite_self, List.mem_cons, List.not_mem_nil, or_false, not_or, not_false_eq_true, and_self, implies_true, ne_eq])

theorem execCarriageReturn_part {pt : Part} (s : State) (hp : pt ∉ ([.layer, .motion, .faults, .host] : List Part)) :
    KeepsPart pt s (execCarriageReturn s) := by
  unfold execCarriageReturn
  simp only [List.mem_cons, List.not_mem_nil, or_false, not_or] at hp
  first
  | (simp (maxDischargeDepth := 12) only [finishResume_part, modServo_part, modMotion_part, keepsPart_live, keepsPart_liveIf, keepsPart_next, hp, part_ite, ite_self, List.mem_cons, List.not_mem_nil, or_false, not_or, not_false_eq_true, and_self, implies_true, ne_eq]; done)
  | (try dsimp only
     (repeat' split) <;> simp (maxDischargeDepth := 12) only [finishResume_part, modServo_part, modMotion_part, keepsPart_live, keepsPart_liveIf, keepsPart_next, hp, part_ite, ite_self, List.mem_cons, List.not_mem_nil, or_false, not_or, not_false_eq_true, and_self, implies_true, ne_eq])

theorem execCarriageTrackFault_part {pt : Part} (s : State) (hp : pt ∉ ([.motion, .faults] : List Part)) :
    KeepsPart pt s (execCarriageTrackFault s) := by
  unfold execCarriageTrackFault
  simp only [List.mem_cons, List.not_mem_nil, or_false, not_or] at hp
  simp (maxDischargeDepth := 12) only [modServo_part, raise_part, keepsPart_live, keepsPart_liveIf, keepsPart_next, hp, part_ite, ite_self, List.mem_cons, List.not_mem_nil, or_false, not_or, not_false_eq_true, and_self, implies_true, ne_eq]

theorem execServoFollowingError_part {pt : Part} (a : Fin 3) (s : State) (hp : pt ∉ ([.loops, .motion, .faults] : List Part)) :
    KeepsPart pt s (execServoFollowingError a s) := by
  unfold execServoFollowingError
  simp only [List.mem_cons, List.not_mem_nil, or_false, not_or] at hp
  simp (maxDischargeDepth := 12) only [modLoop_part, modServo_part, raiseRun_part, each_part, keepsPart_live, keepsPart_liveIf, keepsPart_next, hp, part_ite, ite_self, List.mem_cons, List.not_mem_nil, or_false, not_or, not_false_eq_true, and_self, implies_true, ne_eq]

theorem execStepperStep_part {pt : Part} (n : Fin 10) (cycle : Nat) (s : State) (hp : pt ∉ ([.position, .motion, .faults] : List Part)) :
    KeepsPart pt s (execStepperStep n cycle s) := by
  unfold execStepperStep
  simp only [List.mem_cons, List.not_mem_nil, or_false, not_or] at hp
  simp (maxDischargeDepth := 12) only [atCycle_part, countZ_part, modStepper_part, each_part, keepsPart_live, keepsPart_liveIf, keepsPart_next, hp, part_ite, ite_self, List.mem_cons, List.not_mem_nil, or_false, not_or, not_false_eq_true, and_self, implies_true, ne_eq]

theorem execStepperChopTrip_part {pt : Part} (n : Fin 10) (phaseB : Bool) (cycle : Nat) (s : State) (hp : pt ∉ ([.position, .motion] : List Part)) :
    KeepsPart pt s (execStepperChopTrip n phaseB cycle s) := by
  unfold execStepperChopTrip
  simp only [List.mem_cons, List.not_mem_nil, or_false, not_or] at hp
  simp (maxDischargeDepth := 12) only [atCycle_part, modStepper_part, keepsPart_live, keepsPart_liveIf, keepsPart_next, hp, part_ite, ite_self, List.mem_cons, List.not_mem_nil, or_false, not_or, not_false_eq_true, and_self, implies_true, ne_eq]

theorem execStepperOffTimeEnd_part {pt : Part} (n : Fin 10) (phaseB : Bool) (cycle : Nat) (s : State) (hp : pt ∉ ([.position, .motion] : List Part)) :
    KeepsPart pt s (execStepperOffTimeEnd n phaseB cycle s) := by
  unfold execStepperOffTimeEnd
  simp only [List.mem_cons, List.not_mem_nil, or_false, not_or] at hp
  first
  | (simp (maxDischargeDepth := 12) only [atCycle_part, modStepper_part, keepsPart_live, keepsPart_liveIf, keepsPart_next, hp, part_ite, ite_self, List.mem_cons, List.not_mem_nil, or_false, not_or, not_false_eq_true, and_self, implies_true, ne_eq]; done)
  | (try dsimp only
     (repeat' split) <;> simp (maxDischargeDepth := 12) only [atCycle_part, modStepper_part, keepsPart_live, keepsPart_liveIf, keepsPart_next, hp, part_ite, ite_self, List.mem_cons, List.not_mem_nil, or_false, not_or, not_false_eq_true, and_self, implies_true, ne_eq])

theorem execStepperMoveComplete_part {pt : Part} (n : Fin 10) (s : State) (hp : pt ∉ ([.layer, .decoders, .pixels, .position, .loops, .motion, .host, .telemetry, .boot] : List Part)) :
    KeepsPart pt s (execStepperMoveComplete n s) := by
  unfold execStepperMoveComplete
  simp only [List.mem_cons, List.not_mem_nil, or_false, not_or] at hp
  first
  | (simp (maxDischargeDepth := 12) only [lowerComplete_part, modStepper_part, returnCheck_part, keepsPart_live, keepsPart_liveIf, keepsPart_next, hp, part_ite, ite_self, List.mem_cons, List.not_mem_nil, or_false, not_or, not_false_eq_true, and_self, implies_true, ne_eq]; done)
  | (try dsimp only
     (repeat' split) <;> simp (maxDischargeDepth := 12) only [lowerComplete_part, modStepper_part, returnCheck_part, keepsPart_live, keepsPart_liveIf, keepsPart_next, hp, part_ite, ite_self, List.mem_cons, List.not_mem_nil, or_false, not_or, not_false_eq_true, and_self, implies_true, ne_eq])

theorem execHoldCurrentDelay_part {pt : Part} (n : Fin 10) (s : State) (hp : pt ∉ ([.motion] : List Part)) :
    KeepsPart pt s (execHoldCurrentDelay n s) := by
  unfold execHoldCurrentDelay
  simp only [List.mem_cons, List.not_mem_nil, or_false, not_or] at hp
  simp (maxDischargeDepth := 12) only [modStepper_part, keepsPart_live, keepsPart_liveIf, keepsPart_next, hp, part_ite, ite_self, List.mem_cons, List.not_mem_nil, or_false, not_or, not_false_eq_true, and_self, implies_true, ne_eq]

theorem execStepperImmediateStop_part {pt : Part} (n : Fin 10) (s : State) (hp : pt ∉ ([.motion, .faults] : List Part)) :
    KeepsPart pt s (execStepperImmediateStop n s) := by
  unfold execStepperImmediateStop
  simp only [List.mem_cons, List.not_mem_nil, or_false, not_or] at hp
  simp (maxDischargeDepth := 12) only [stopStepper_part, keepsPart_live, keepsPart_liveIf, keepsPart_next, hp, part_ite, ite_self, List.mem_cons, List.not_mem_nil, or_false, not_or, not_false_eq_true, and_self, implies_true, ne_eq]

theorem homed_part {pt : Part} (ax : Nat) (s : State) (hp : pt ∉ ([.motion] : List Part)) :
    (State.homed ax s).part pt = s.part pt := by
  unfold State.homed
  simp only [List.mem_cons, List.not_mem_nil, or_false, not_or] at hp
  simp (maxDischargeDepth := 12) only [modServo_part, modStepper_part, modMotion_part, hp, part_ite, ite_self, List.mem_cons, List.not_mem_nil, or_false, not_or, not_false_eq_true, and_self, implies_true, ne_eq]

theorem setHome_part {pt : Part} (ax : Nat) (s : State) (hp : pt ∉ ([.position, .motion] : List Part)) :
    (State.setHome ax s).part pt = s.part pt := by
  unfold State.setHome
  simp only [List.mem_cons, List.not_mem_nil, or_false, not_or] at hp
  simp (maxDischargeDepth := 12) only [modServo_part, modStepper_part, placeAxis_part, when_part, hp, part_ite, ite_self, List.mem_cons, List.not_mem_nil, or_false, not_or, not_false_eq_true, and_self, implies_true, ne_eq]

theorem execHoming_part {pt : Part} (ax : Fin 13) (ev : HomeEvent) (s : State) (hp : pt ∉ ([.position, .motion, .faults] : List Part)) :
    KeepsPart pt s (execHoming ax ev s) := by
  unfold execHoming
  simp only [List.mem_cons, List.not_mem_nil, or_false, not_or] at hp
  first
  | (simp (maxDischargeDepth := 12) only [homed_part, modServo_part, modStepper_part, raise_part, raiseIf_part, setHome_part, modMotion_part, when_part, keepsPart_live, keepsPart_liveIf, keepsPart_next, hp, part_ite, ite_self, List.mem_cons, List.not_mem_nil, or_false, not_or, not_false_eq_true, and_self, implies_true, ne_eq]; done)
  | (try dsimp only
     (repeat' split) <;> simp (maxDischargeDepth := 12) only [homed_part, modServo_part, modStepper_part, raise_part, raiseIf_part, setHome_part, modMotion_part, when_part, keepsPart_live, keepsPart_liveIf, keepsPart_next, hp, part_ite, ite_self, List.mem_cons, List.not_mem_nil, or_false, not_or, not_false_eq_true, and_self, implies_true, ne_eq])

theorem execServoRestReentry_part {pt : Part} (a : Fin 3) (s : State) (hp : pt ∉ ([.loops, .motion] : List Part)) :
    KeepsPart pt s (execServoRestReentry a s) := by
  unfold execServoRestReentry
  simp only [List.mem_cons, List.not_mem_nil, or_false, not_or] at hp
  simp (maxDischargeDepth := 12) only [enterServo_part, keepsPart_live, keepsPart_liveIf, keepsPart_next, hp, part_ite, ite_self, List.mem_cons, List.not_mem_nil, or_false, not_or, not_false_eq_true, and_self, implies_true, ne_eq]

theorem execBusSample_part {pt : Part} (volt chopMa : Nat) (s : State) (hp : pt ∉ ([.polygons, .loops, .motion, .faults] : List Part)) :
    KeepsPart pt s (execBusSample volt chopMa s) := by
  unfold execBusSample
  simp only [List.mem_cons, List.not_mem_nil, or_false, not_or] at hp
  simp (maxDischargeDepth := 12) only [coastServo_part, modBus_part, raise_part, raiseAs_part, steppersOn_part, stopSteppers_part, allPolygons_part, modMotion_part, when_part, each_part, keepsPart_live, keepsPart_liveIf, keepsPart_next, hp, part_ite, ite_self, List.mem_cons, List.not_mem_nil, or_false, not_or, not_false_eq_true, and_self, implies_true, ne_eq]

theorem execChopperHot_part {pt : Part} (s : State) (hp : pt ∉ ([.polygons, .motion, .faults] : List Part)) :
    KeepsPart pt s (execChopperHot s) := by
  unfold execChopperHot
  simp only [List.mem_cons, List.not_mem_nil, or_false, not_or] at hp
  first
  | (simp (maxDischargeDepth := 12) only [clampOn_part, modBus_part, raise_part, keepsPart_live, keepsPart_liveIf, keepsPart_next, hp, part_ite, ite_self, List.mem_cons, List.not_mem_nil, or_false, not_or, not_false_eq_true, and_self, implies_true, ne_eq]; done)
  | (try dsimp only
     (repeat' split) <;> simp (maxDischargeDepth := 12) only [clampOn_part, modBus_part, raise_part, keepsPart_live, keepsPart_liveIf, keepsPart_next, hp, part_ite, ite_self, List.mem_cons, List.not_mem_nil, or_false, not_or, not_false_eq_true, and_self, implies_true, ne_eq])

theorem execChopperFail_part {pt : Part} (s : State) (hp : pt ∉ ([.polygons, .motion, .faults] : List Part)) :
    KeepsPart pt s (execChopperFail s) := by
  unfold execChopperFail
  simp only [List.mem_cons, List.not_mem_nil, or_false, not_or] at hp
  simp (maxDischargeDepth := 12) only [clampOn_part, modBus_part, raiseRun_part, keepsPart_live, keepsPart_liveIf, keepsPart_next, hp, part_ite, ite_self, List.mem_cons, List.not_mem_nil, or_false, not_or, not_false_eq_true, and_self, implies_true, ne_eq]

theorem execChopperSelfTest_part {pt : Part} (chopMa : Nat) (s : State) (hp : pt ∉ ([.motion] : List Part)) :
    KeepsPart pt s (execChopperSelfTest chopMa s) := by
  unfold execChopperSelfTest
  simp only [List.mem_cons, List.not_mem_nil, or_false, not_or] at hp
  simp (maxDischargeDepth := 12) only [modBus_part, keepsPart_live, keepsPart_liveIf, keepsPart_next, hp, part_ite, ite_self, List.mem_cons, List.not_mem_nil, or_false, not_or, not_false_eq_true, and_self, implies_true, ne_eq]

theorem execBusOv3_part {pt : Part} (s : State) (hp : pt ∉ ([.polygons, .loops, .motion, .faults] : List Part)) :
    KeepsPart pt s (execBusOv3 s) := by
  unfold execBusOv3
  simp only [List.mem_cons, List.not_mem_nil, or_false, not_or] at hp
  simp (maxDischargeDepth := 12) only [modBus_part, motionOff_part, raise_part, allPolygons_part, keepsPart_live, keepsPart_liveIf, keepsPart_next, hp, part_ite, ite_self, List.mem_cons, List.not_mem_nil, or_false, not_or, not_false_eq_true, and_self, implies_true, ne_eq]

theorem execRegenClampRelease_part {pt : Part} (s : State) (hp : pt ∉ ([.polygons, .motion] : List Part)) :
    KeepsPart pt s (execRegenClampRelease s) := by
  unfold execRegenClampRelease
  simp only [List.mem_cons, List.not_mem_nil, or_false, not_or] at hp
  simp (maxDischargeDepth := 12) only [allPolygons_part, modMotion_part, keepsPart_live, keepsPart_liveIf, keepsPart_next, hp, part_ite, ite_self, List.mem_cons, List.not_mem_nil, or_false, not_or, not_false_eq_true, and_self, implies_true, ne_eq]

theorem markEngine_part {pt : Part} (e : Nat) (s : State) (hp : pt ∉ ([.faults, .survey] : List Part)) :
    (State.markEngine e s).part pt = s.part pt := by
  unfold State.markEngine
  simp only [List.mem_cons, List.not_mem_nil, or_false, not_or] at hp
  simp (maxDischargeDepth := 12) only [raise_part, spareLog_part, modSurvey_part, hp, part_ite, ite_self, List.mem_cons, List.not_mem_nil, or_false, not_or, not_false_eq_true, and_self, implies_true, ne_eq]

theorem haltEngine_part {pt : Part} (e : Nat) (s : State) (hp : pt ∉ ([.polygons, .loops, .motion, .faults, .survey] : List Part)) :
    (State.haltEngine e s).part pt = s.part pt := by
  unfold State.haltEngine
  simp only [List.mem_cons, List.not_mem_nil, or_false, not_or] at hp
  simp (maxDischargeDepth := 12) only [coastServo_part, heatersOff_part, hvMux_part, markEngine_part, modLoops_part, set_polygons_part, when_part, each_part, hp, part_ite, ite_self, List.mem_cons, List.not_mem_nil, or_false, not_or, not_false_eq_true, and_self, implies_true, ne_eq]

theorem execDeadlineMiss_part {pt : Part} (n : Fin 64) (s : State) (hp : pt ∉ ([.polygons, .loops, .motion, .faults, .survey] : List Part)) :
    KeepsPart pt s (execDeadlineMiss n s) := by
  unfold execDeadlineMiss
  simp only [List.mem_cons, List.not_mem_nil, or_false, not_or] at hp
  simp (maxDischargeDepth := 12) only [haltEngine_part, raise_part, keepsPart_live, keepsPart_liveIf, keepsPart_next, hp, part_ite, ite_self, List.mem_cons, List.not_mem_nil, or_false, not_or, not_false_eq_true, and_self, implies_true, ne_eq]

end Sys2Proof.Machine
end

