-- ==== Sys2Proof/Laws/KeptPolygon.lean ====
section
/-! SUPPORT. Which parts of the state each operation of Machine/Polygon.lean leaves as they are. -/

set_option linter.unusedSimpArgs false

namespace Sys2Proof.Machine

open Sys2Proof

theorem polyStart_part {pt : Part} (x : Fin 6) (s : State) (hp : pt ∉ ([.polygons] : List Part)) :
    (State.polyStart x s).part pt = s.part pt := by
  unfold State.polyStart
  simp only [List.mem_cons, List.not_mem_nil, or_false, not_or] at hp
  simp (maxDischargeDepth := 12) only [modPolygon_part, when_part, hp, part_ite, ite_self, List.mem_cons, List.not_mem_nil, or_false, not_or, not_false_eq_true, and_self, implies_true, ne_eq]

theorem failAttempt_part {pt : Part} (x : Fin 6) (coast : Bool) (s : State) (hp : pt ∉ ([.polygons, .faults] : List Part)) :
    (State.failAttempt x coast s).part pt = s.part pt := by
  unfold State.failAttempt
  simp only [List.mem_cons, List.not_mem_nil, or_false, not_or] at hp
  simp (maxDischargeDepth := 12) only [raise_part, modPolygon_part, hp, part_ite, ite_self, List.mem_cons, List.not_mem_nil, or_false, not_or, not_false_eq_true, and_self, implies_true, ne_eq]

theorem execPolyStart_part {pt : Part} (x : Fin 6) (s : State) (hp : pt ∉ ([.polygons] : List Part)) :
    KeepsPart pt s (execPolyStart x s) := by
  unfold execPolyStart
  simp only [List.mem_cons, List.not_mem_nil, or_false, not_or] at hp
  simp (maxDischargeDepth := 12) only [polyStart_part, keepsPart_live, keepsPart_liveIf, keepsPart_next, hp, part_ite, ite_self, List.mem_cons, List.not_mem_nil, or_false, not_or, not_false_eq_true, and_self, implies_true, ne_eq]

theorem execListenTimeout_part {pt : Part} (x : Fin 6) (quietUs : Nat) (s : State) (hp : pt ∉ ([.polygons, .faults] : List Part)) :
    KeepsPart pt s (execListenTimeout x quietUs s) := by
  unfold execListenTimeout
  simp only [List.mem_cons, List.not_mem_nil, or_false, not_or] at hp
  first
  | (simp (maxDischargeDepth := 12) only [raise_part, modPolygon_part, when_part, keepsPart_live, keepsPart_liveIf, keepsPart_next, hp, part_ite, ite_self, List.mem_cons, List.not_mem_nil, or_false, not_or, not_false_eq_true, and_self, implies_true, ne_eq]; done)
  | (try dsimp only
     (repeat' split) <;> simp (maxDischargeDepth := 12) only [raise_part, modPolygon_part, when_part, keepsPart_live, keepsPart_liveIf, keepsPart_next, hp, part_ite, ite_self, List.mem_cons, List.not_mem_nil, or_false, not_or, not_false_eq_true, and_self, implies_true, ne_eq])

theorem execShuntCalibrate_part {pt : Part} (x : Fin 6) (u v w : Int) (s : State) (hp : pt ∉ ([.polygons, .faults] : List Part)) :
    KeepsPart pt s (execShuntCalibrate x u v w s) := by
  unfold execShuntCalibrate
  simp only [List.mem_cons, List.not_mem_nil, or_false, not_or] at hp
  simp (maxDischargeDepth := 12) only [raise_part, modPolygon_part, keepsPart_live, keepsPart_liveIf, keepsPart_next, hp, part_ite, ite_self, List.mem_cons, List.not_mem_nil, or_false, not_or, not_false_eq_true, and_self, implies_true, ne_eq]

theorem execAlignPulses_part {pt : Part} (x : Fin 6) (c : Vector (Int × Int × Int) 12) (s : State) (hp : pt ∉ ([.polygons, .loops, .faults] : List Part)) :
    KeepsPart pt s (execAlignPulses x c s) := by
  unfold execAlignPulses
  simp only [List.mem_cons, List.not_mem_nil, or_false, not_or] at hp
  simp (maxDischargeDepth := 12) only [failAttempt_part, modLoop_part, raise_part, modPolygon_part, keepsPart_live, keepsPart_liveIf, keepsPart_next, hp, part_ite, ite_self, List.mem_cons, List.not_mem_nil, or_false, not_or, not_false_eq_true, and_self, implies_true, ne_eq]

theorem execObserverHandover_part {pt : Part} (x : Fin 6) (s : State) (hp : pt ∉ ([.polygons, .loops, .faults] : List Part)) :
    KeepsPart pt s (execObserverHandover x s) := by
  unfold execObserverHandover
  simp only [List.mem_cons, List.not_mem_nil, or_false, not_or] at hp
  simp (maxDischargeDepth := 12) only [failAttempt_part, modLoop_part, raise_part, modPolygon_part, when_part, keepsPart_live, keepsPart_liveIf, keepsPart_next, hp, part_ite, ite_self, List.mem_cons, List.not_mem_nil, or_false, not_or, not_false_eq_true, and_self, implies_true, ne_eq]

theorem execBearingHandover_part {pt : Part} (x : Fin 6) (s : State) (hp : pt ∉ ([.polygons] : List Part)) :
    KeepsPart pt s (execBearingHandover x s) := by
  unfold execBearingHandover
  simp only [List.mem_cons, List.not_mem_nil, or_false, not_or] at hp
  simp (maxDischargeDepth := 12) only [modPolygon_part, keepsPart_live, keepsPart_liveIf, keepsPart_next, hp, part_ite, ite_self, List.mem_cons, List.not_mem_nil, or_false, not_or, not_false_eq_true, and_self, implies_true, ne_eq]

theorem execSpeedTick_part {pt : Part} (x : Fin 6) (s : State) (hp : pt ∉ ([.polygons, .loops, .faults, .telemetry] : List Part)) :
    KeepsPart pt s (execSpeedTick x s) := by
  unfold execSpeedTick
  simp only [List.mem_cons, List.not_mem_nil, or_false, not_or] at hp
  simp (maxDischargeDepth := 12) only [chargeLoad_part, modLoop_part, raiseIf_part, traceOutput_part, modPolygon_part, keepsPart_live, keepsPart_liveIf, keepsPart_next, hp, part_ite, ite_self, List.mem_cons, List.not_mem_nil, or_false, not_or, not_false_eq_true, and_self, implies_true, ne_eq]

theorem recatchFailed_part {pt : Part} (x : Fin 6) (s : State) (hp : pt ∉ ([.polygons, .faults] : List Part)) :
    (State.recatchFailed x s).part pt = s.part pt := by
  unfold State.recatchFailed
  simp only [List.mem_cons, List.not_mem_nil, or_false, not_or] at hp
  first
  | (simp (maxDischargeDepth := 12) only [raise_part, raiseIf_part, modPolygon_part, hp, part_ite, ite_self, List.mem_cons, List.not_mem_nil, or_false, not_or, not_false_eq_true, and_self, implies_true, ne_eq]; done)
  | (try dsimp only
     (repeat' split) <;> simp (maxDischargeDepth := 12) only [raise_part, raiseIf_part, modPolygon_part, hp, part_ite, ite_self, List.mem_cons, List.not_mem_nil, or_false, not_or, not_false_eq_true, and_self, implies_true, ne_eq])

theorem rotorLost_part {pt : Part} (x : Fin 6) (s : State) (hp : pt ∉ ([.polygons, .faults] : List Part)) :
    (State.rotorLost x s).part pt = s.part pt := by
  unfold State.rotorLost
  simp only [List.mem_cons, List.not_mem_nil, or_false, not_or] at hp
  simp (maxDischargeDepth := 12) only [raiseRun_part, recatchFailed_part, modPolygon_part, when_part, hp, part_ite, ite_self, List.mem_cons, List.not_mem_nil, or_false, not_or, not_false_eq_true, and_self, implies_true, ne_eq]

theorem execObserverLoss_part {pt : Part} (x : Fin 6) (s : State) (hp : pt ∉ ([.polygons, .faults] : List Part)) :
    KeepsPart pt s (execObserverLoss x s) := by
  unfold execObserverLoss
  simp only [List.mem_cons, List.not_mem_nil, or_false, not_or] at hp
  simp (maxDischargeDepth := 12) only [raise_part, rotorLost_part, modPolygon_part, keepsPart_live, keepsPart_liveIf, keepsPart_next, hp, part_ite, ite_self, List.mem_cons, List.not_mem_nil, or_false, not_or, not_false_eq_true, and_self, implies_true, ne_eq]

theorem execRotorLossCoast_part {pt : Part} (x : Fin 6) (s : State) (hp : pt ∉ ([.polygons, .faults] : List Part)) :
    KeepsPart pt s (execRotorLossCoast x s) := by
  unfold execRotorLossCoast
  simp only [List.mem_cons, List.not_mem_nil, or_false, not_or] at hp
  simp (maxDischargeDepth := 12) only [rotorLost_part, keepsPart_live, keepsPart_liveIf, keepsPart_next, hp, part_ite, ite_self, List.mem_cons, List.not_mem_nil, or_false, not_or, not_false_eq_true, and_self, implies_true, ne_eq]

theorem execCoastExpiry_part {pt : Part} (x : Fin 6) (s : State) (hp : pt ∉ ([.polygons] : List Part)) :
    KeepsPart pt s (execCoastExpiry x s) := by
  unfold execCoastExpiry
  simp only [List.mem_cons, List.not_mem_nil, or_false, not_or] at hp
  simp (maxDischargeDepth := 12) only [modPolygon_part, keepsPart_live, keepsPart_liveIf, keepsPart_next, hp, part_ite, ite_self, List.mem_cons, List.not_mem_nil, or_false, not_or, not_false_eq_true, and_self, implies_true, ne_eq]

theorem execRecatchEngage_part {pt : Part} (x : Fin 6) (frame : Nat) (crossings : Vector EmfCrossing 4) (s : State) (hp : pt ∉ ([.polygons, .loops] : List Part)) :
    KeepsPart pt s (execRecatchEngage x frame crossings s) := by
  unfold execRecatchEngage
  simp only [List.mem_cons, List.not_mem_nil, or_false, not_or] at hp
  first
  | (simp (maxDischargeDepth := 12) only [modLoop_part, modPolygon_part, when_part, keepsPart_live, keepsPart_liveIf, keepsPart_next, hp, part_ite, ite_self, List.mem_cons, List.not_mem_nil, or_false, not_or, not_false_eq_true, and_self, implies_true, ne_eq]; done)
  | (try dsimp only
     (repeat' split) <;> simp (maxDischargeDepth := 12) only [modLoop_part, modPolygon_part, when_part, keepsPart_live, keepsPart_liveIf, keepsPart_next, hp, part_ite, ite_self, List.mem_cons, List.not_mem_nil, or_false, not_or, not_false_eq_true, and_self, implies_true, ne_eq])

theorem execRecatchFail_part {pt : Part} (x : Fin 6) (crossings : List EmfCrossing) (s : State) (hp : pt ∉ ([.polygons, .faults] : List Part)) :
    KeepsPart pt s (execRecatchFail x crossings s) := by
  unfold execRecatchFail
  simp only [List.mem_cons, List.not_mem_nil, or_false, not_or] at hp
  simp (maxDischargeDepth := 12) only [raise_part, recatchFailed_part, modPolygon_part, when_part, keepsPart_live, keepsPart_liveIf, keepsPart_next, hp, part_ite, ite_self, List.mem_cons, List.not_mem_nil, or_false, not_or, not_false_eq_true, and_self, implies_true, ne_eq]

theorem polyStop_part {pt : Part} (x : Fin 6) (s : State) (hp : pt ∉ ([.polygons] : List Part)) :
    (State.polyStop x s).part pt = s.part pt := by
  unfold State.polyStop
  simp only [List.mem_cons, List.not_mem_nil, or_false, not_or] at hp
  simp (maxDischargeDepth := 12) only [modPolygon_part, hp, part_ite, ite_self, List.mem_cons, List.not_mem_nil, or_false, not_or, not_false_eq_true, and_self, implies_true, ne_eq]

theorem execPolyStopComplete_part {pt : Part} (x : Fin 6) (s : State) (hp : pt ∉ ([.polygons] : List Part)) :
    KeepsPart pt s (execPolyStopComplete x s) := by
  unfold execPolyStopComplete
  simp only [List.mem_cons, List.not_mem_nil, or_false, not_or] at hp
  simp (maxDischargeDepth := 12) only [modPolygon_part, keepsPart_live, keepsPart_liveIf, keepsPart_next, hp, part_ite, ite_self, List.mem_cons, List.not_mem_nil, or_false, not_or, not_false_eq_true, and_self, implies_true, ne_eq]

theorem execOvercurrentTrip_part {pt : Part} (b : Fin 9) (s : State) (hp : pt ∉ ([.polygons, .loops, .motion, .faults] : List Part)) :
    KeepsPart pt s (execOvercurrentTrip b s) := by
  unfold execOvercurrentTrip
  simp only [List.mem_cons, List.not_mem_nil, or_false, not_or] at hp
  first
  | (simp (maxDischargeDepth := 12) only [coastServo_part, raise_part, modPolygon_part, keepsPart_live, keepsPart_liveIf, keepsPart_next, hp, part_ite, ite_self, List.mem_cons, List.not_mem_nil, or_false, not_or, not_false_eq_true, and_self, implies_true, ne_eq]; done)
  | (try dsimp only
     (repeat' split) <;> simp (maxDischargeDepth := 12) only [coastServo_part, raise_part, modPolygon_part, keepsPart_live, keepsPart_liveIf, keepsPart_next, hp, part_ite, ite_self, List.mem_cons, List.not_mem_nil, or_false, not_or, not_false_eq_true, and_self, implies_true, ne_eq])

theorem execPolySpeedFault_part {pt : Part} (x : Fin 6) (s : State) (hp : pt ∉ ([.polygons, .faults] : List Part)) :
    KeepsPart pt s (execPolySpeedFault x s) := by
  unfold execPolySpeedFault
  simp only [List.mem_cons, List.not_mem_nil, or_false, not_or] at hp
  first
  | (simp (maxDischargeDepth := 12) only [raiseRun_part, modPolygon_part, keepsPart_live, keepsPart_liveIf, keepsPart_next, hp, part_ite, ite_self, List.mem_cons, List.not_mem_nil, or_false, not_or, not_false_eq_true, and_self, implies_true, ne_eq]; done)
  | (try dsimp only
     (repeat' split) <;> simp (maxDischargeDepth := 12) only [raiseRun_part, modPolygon_part, keepsPart_live, keepsPart_liveIf, keepsPart_next, hp, part_ite, ite_self, List.mem_cons, List.not_mem_nil, or_false, not_or, not_false_eq_true, and_self, implies_true, ne_eq])

theorem phaseLost_part {pt : Part} (x : Fin 6) (s : State) (hp : pt ∉ ([.polygons, .faults] : List Part)) :
    (State.phaseLost x s).part pt = s.part pt := by
  unfold State.phaseLost
  simp only [List.mem_cons, List.not_mem_nil, or_false, not_or] at hp
  simp (maxDischargeDepth := 12) only [raiseRun_part, modPolygon_part, when_part, hp, part_ite, ite_self, List.mem_cons, List.not_mem_nil, or_false, not_or, not_false_eq_true, and_self, implies_true, ne_eq]

theorem deliverBearing_part {pt : Part} (x : Fin 6) (substituted : Bool) (s : State) (hp : pt ∉ ([.polygons, .faults] : List Part)) :
    (State.deliverBearing x substituted s).part pt = s.part pt := by
  unfold State.deliverBearing
  simp only [List.mem_cons, List.not_mem_nil, or_false, not_or] at hp
  simp (maxDischargeDepth := 12) only [phaseLost_part, modPolygon_part, when_part, hp, part_ite, ite_self, List.mem_cons, List.not_mem_nil, or_false, not_or, not_false_eq_true, and_self, implies_true, ne_eq]

theorem phaseError_part {pt : Part} (x : Fin 6) (e : Int) (s : State) (hp : pt ∉ ([.polygons, .faults] : List Part)) :
    (State.phaseError x e s).part pt = s.part pt := by
  unfold State.phaseError
  simp only [List.mem_cons, List.not_mem_nil, or_false, not_or] at hp
  simp (maxDischargeDepth := 12) only [phaseLost_part, modPolygon_part, when_part, hp, part_ite, ite_self, List.mem_cons, List.not_mem_nil, or_false, not_or, not_false_eq_true, and_self, implies_true, ne_eq]

theorem signalLoss_part {pt : Part} (x : Fin 6) (s : State) (hp : pt ∉ ([.polygons, .faults] : List Part)) :
    (State.signalLoss x s).part pt = s.part pt := by
  unfold State.signalLoss
  simp only [List.mem_cons, List.not_mem_nil, or_false, not_or] at hp
  simp (maxDischargeDepth := 12) only [phaseLost_part, modPolygon_part, hp, part_ite, ite_self, List.mem_cons, List.not_mem_nil, or_false, not_or, not_false_eq_true, and_self, implies_true, ne_eq]

end Sys2Proof.Machine
end

