-- ==== Sys2Proof/Laws/KeptScan.lean ====
section
/-! SUPPORT. Which parts of the state each operation of Machine/Scan.lean leaves as they are. -/

set_option linter.unusedSimpArgs false

namespace Sys2Proof.Machine

open Sys2Proof

theorem modStation_part {pt : Part} (x : Fin 6) (f : ScanStation → ScanStation) (s : State) (hp : pt ∉ ([.scan] : List Part)) :
    (State.modStation x f s).part pt = s.part pt := by
  unfold State.modStation
  simp only [List.mem_cons, List.not_mem_nil, or_false, not_or] at hp
  simp (maxDischargeDepth := 12) only [modScan_part, hp, part_ite, ite_self, List.mem_cons, List.not_mem_nil, or_false, not_or, not_false_eq_true, and_self, implies_true, ne_eq]

theorem forceOff_part {pt : Part} (src : ForceSource) (s : State) (hp : pt ∉ ([.pixels, .scan, .polygons] : List Part)) :
    (State.forceOff src s).part pt = s.part pt := by
  unfold State.forceOff
  simp only [List.mem_cons, List.not_mem_nil, or_false, not_or] at hp
  simp (maxDischargeDepth := 12) only [forceLanes_part, allPolygons_part, modScan_part, hp, part_ite, ite_self, List.mem_cons, List.not_mem_nil, or_false, not_or, not_false_eq_true, and_self, implies_true, ne_eq]

theorem loadDividers_part {pt : Part} (n sigma : Nat) (s : State) (hp : pt ∉ ([.scan, .faults] : List Part)) :
    (State.loadDividers n sigma s).part pt = s.part pt := by
  unfold State.loadDividers
  simp only [List.mem_cons, List.not_mem_nil, or_false, not_or] at hp
  simp (maxDischargeDepth := 12) only [raiseIf_part, modScan_part, each_part, foldl_snd_part, hp, part_ite, ite_self, List.mem_cons, List.not_mem_nil, or_false, not_or, not_false_eq_true, and_self, implies_true, ne_eq]

theorem followSigma_part {pt : Part} (s : State) (hp : pt ∉ ([.polygons, .motion] : List Part)) :
    (State.followSigma s).part pt = s.part pt := by
  unfold State.followSigma
  simp only [List.mem_cons, List.not_mem_nil, or_false, not_or] at hp
  simp (maxDischargeDepth := 12) only [modServo_part, set_polygons_part, hp, part_ite, ite_self, List.mem_cons, List.not_mem_nil, or_false, not_or, not_false_eq_true, and_self, implies_true, ne_eq]

theorem applyRequest_part {pt : Part} (r : FreqRequest) (s : State) (hp : pt ∉ ([.scan, .polygons, .motion, .thermal, .faults, .host] : List Part)) :
    (State.applyRequest r s).part pt = s.part pt := by
  unfold State.applyRequest
  simp only [List.mem_cons, List.not_mem_nil, or_false, not_or] at hp
  simp (maxDischargeDepth := 12) only [clockRecord_part, followSigma_part, loadDividers_part, allPolygons_part, modScan_part, modThermal_part, when_part, hp, part_ite, ite_self, List.mem_cons, List.not_mem_nil, or_false, not_or, not_false_eq_true, and_self, implies_true, ne_eq]

theorem supersede_part {pt : Part} (s : State) (hp : pt ∉ ([.scan, .faults, .host] : List Part)) :
    (State.supersede s).part pt = s.part pt := by
  unfold State.supersede
  simp only [List.mem_cons, List.not_mem_nil, or_false, not_or] at hp
  try dsimp only
  (repeat' split) <;> simp (maxDischargeDepth := 12) only [clockRecord_part, modScan_part, hp, part_ite, ite_self, List.mem_cons, List.not_mem_nil, or_false, not_or, not_false_eq_true, and_self, implies_true, ne_eq]

theorem frequencyRequest_part {pt : Part} (src : ReqSource) (code : Nat) (s : State) (hp : pt ∉ ([.scan, .polygons, .motion, .thermal, .faults, .host] : List Part)) :
    (State.frequencyRequest src code s).part pt = s.part pt := by
  unfold State.frequencyRequest
  simp only [List.mem_cons, List.not_mem_nil, or_false, not_or] at hp
  simp (maxDischargeDepth := 12) only [applyRequest_part, supersede_part, modScan_part, hp, part_ite, ite_self, List.mem_cons, List.not_mem_nil, or_false, not_or, not_false_eq_true, and_self, implies_true, ne_eq]

theorem execFrequencyRequest_part {pt : Part} (src : ReqSource) (s : State) (hp : pt ∉ ([.scan, .polygons, .motion, .thermal, .faults, .host] : List Part)) :
    KeepsPart pt s (execFrequencyRequest src s) := by
  unfold execFrequencyRequest
  simp only [List.mem_cons, List.not_mem_nil, or_false, not_or] at hp
  simp (maxDischargeDepth := 12) only [frequencyRequest_part, keepsPart_live, keepsPart_liveIf, keepsPart_next, hp, part_ite, ite_self, List.mem_cons, List.not_mem_nil, or_false, not_or, not_false_eq_true, and_self, implies_true, ne_eq]

theorem execPixelPllRelock_part {pt : Part} (s : State) (hp : pt ∉ ([.scan, .faults, .host] : List Part)) :
    KeepsPart pt s (execPixelPllRelock s) := by
  unfold execPixelPllRelock
  simp only [List.mem_cons, List.not_mem_nil, or_false, not_or] at hp
  simp (maxDischargeDepth := 12) only [clockRecord_part, modScan_part, when_part, keepsPart_live, keepsPart_liveIf, keepsPart_next, hp, part_ite, ite_self, List.mem_cons, List.not_mem_nil, or_false, not_or, not_false_eq_true, and_self, implies_true, ne_eq]

theorem stopClocks_part {pt : Part} (s : State) (hp : pt ∉ ([.scan, .polygons] : List Part)) :
    (State.stopClocks s).part pt = s.part pt := by
  unfold State.stopClocks
  simp only [List.mem_cons, List.not_mem_nil, or_false, not_or] at hp
  simp (maxDischargeDepth := 12) only [allPolygons_part, modScan_part, hp, part_ite, ite_self, List.mem_cons, List.not_mem_nil, or_false, not_or, not_false_eq_true, and_self, implies_true, ne_eq]

theorem execRefLoss_part {pt : Part} (s : State) (hp : pt ∉ ([.scan, .faults] : List Part)) :
    KeepsPart pt s (execRefLoss s) := by
  unfold execRefLoss
  simp only [List.mem_cons, List.not_mem_nil, or_false, not_or] at hp
  simp (maxDischargeDepth := 12) only [raise_part, modScan_part, keepsPart_live, keepsPart_liveIf, keepsPart_next, hp, part_ite, ite_self, List.mem_cons, List.not_mem_nil, or_false, not_or, not_false_eq_true, and_self, implies_true, ne_eq]

theorem execCtlSysPllUnlock_part {pt : Part} (sys : Bool) (s : State) (hp : pt ∉ ([.scan, .faults] : List Part)) :
    KeepsPart pt s (execCtlSysPllUnlock sys s) := by
  unfold execCtlSysPllUnlock
  simp only [List.mem_cons, List.not_mem_nil, or_false, not_or] at hp
  try dsimp only
  (repeat' split) <;> simp (maxDischargeDepth := 12) only [raise_part, modScan_part, keepsPart_live, keepsPart_liveIf, keepsPart_next, hp, part_ite, ite_self, List.mem_cons, List.not_mem_nil, or_false, not_or, not_false_eq_true, and_self, implies_true, ne_eq]

theorem execDllUnlock_part {pt : Part} (x : Fin 6) (s : State) (hp : pt ∉ ([.scan, .faults] : List Part)) :
    KeepsPart pt s (execDllUnlock x s) := by
  unfold execDllUnlock
  simp only [List.mem_cons, List.not_mem_nil, or_false, not_or] at hp
  simp (maxDischargeDepth := 12) only [modStation_part, raiseRun_part, keepsPart_live, keepsPart_liveIf, keepsPart_next, hp, part_ite, ite_self, List.mem_cons, List.not_mem_nil, or_false, not_or, not_false_eq_true, and_self, implies_true, ne_eq]

theorem execDllRelock_part {pt : Part} (x : Fin 6) (s : State) (hp : pt ∉ ([.scan] : List Part)) :
    KeepsPart pt s (execDllRelock x s) := by
  unfold execDllRelock
  simp only [List.mem_cons, List.not_mem_nil, or_false, not_or] at hp
  simp (maxDischargeDepth := 12) only [modStation_part, keepsPart_live, keepsPart_liveIf, keepsPart_next, hp, part_ite, ite_self, List.mem_cons, List.not_mem_nil, or_false, not_or, not_false_eq_true, and_self, implies_true, ne_eq]

theorem loadMap_part {pt : Part} (x : Fin 6) (s : State) (hp : pt ∉ ([.scan] : List Part)) :
    (State.loadMap x s).part pt = s.part pt := by
  unfold State.loadMap
  simp only [List.mem_cons, List.not_mem_nil, or_false, not_or] at hp
  try dsimp only
  (repeat' split) <;> simp (maxDischargeDepth := 12) only [modStation_part, when_part, hp, part_ite, ite_self, List.mem_cons, List.not_mem_nil, or_false, not_or, not_false_eq_true, and_self, implies_true, ne_eq]

theorem calibrate_part {pt : Part} (x : Fin 6) (m : TapMeasure) (s : State) (hp : pt ∉ ([.scan, .survey] : List Part)) :
    (State.calibrate x m s).part pt = s.part pt := by
  unfold State.calibrate
  simp only [List.mem_cons, List.not_mem_nil, or_false, not_or] at hp
  simp (maxDischargeDepth := 12) only [loadMap_part, modStation_part, modSurvey_part, hp, part_ite, ite_self, List.mem_cons, List.not_mem_nil, or_false, not_or, not_false_eq_true, and_self, implies_true, ne_eq]

theorem execDatumCalibration_part {pt : Part} (x : Fin 6) (m : TapMeasure) (s : State) (hp : pt ∉ ([.scan, .survey] : List Part)) :
    KeepsPart pt s (execDatumCalibration x m s) := by
  unfold execDatumCalibration
  simp only [List.mem_cons, List.not_mem_nil, or_false, not_or] at hp
  simp (maxDischargeDepth := 12) only [calibrate_part, keepsPart_live, keepsPart_liveIf, keepsPart_next, hp, part_ite, ite_self, List.mem_cons, List.not_mem_nil, or_false, not_or, not_false_eq_true, and_self, implies_true, ne_eq]

theorem execCalibrationDue_part {pt : Part} (x : Fin 6) (s : State) (hp : pt ∉ ([.scan] : List Part)) :
    KeepsPart pt s (execCalibrationDue x s) := by
  unfold execCalibrationDue
  simp only [List.mem_cons, List.not_mem_nil, or_false, not_or] at hp
  simp (maxDischargeDepth := 12) only [modStation_part, keepsPart_live, keepsPart_liveIf, keepsPart_next, hp, part_ite, ite_self, List.mem_cons, List.not_mem_nil, or_false, not_or, not_false_eq_true, and_self, implies_true, ne_eq]

theorem swapDatum_part {pt : Part} (x : Fin 6) (m : TapMeasure) (s : State) (hp : pt ∉ ([.scan, .faults, .survey] : List Part)) :
    (State.swapDatum x m s).part pt = s.part pt := by
  unfold State.swapDatum
  simp only [List.mem_cons, List.not_mem_nil, or_false, not_or] at hp
  simp (maxDischargeDepth := 12) only [modStation_part, raise_part, spareLog_part, modSurvey_part, hp, part_ite, ite_self, List.mem_cons, List.not_mem_nil, or_false, not_or, not_false_eq_true, and_self, implies_true, ne_eq]

theorem takeBearing_part {pt : Part} (x : Fin 6) (b : Nat) (stamped : Bool) (s : State) (hp : pt ∉ ([.scan] : List Part)) :
    (State.takeBearing x b stamped s).part pt = s.part pt := by
  unfold State.takeBearing
  simp only [List.mem_cons, List.not_mem_nil, or_false, not_or] at hp
  simp (maxDischargeDepth := 12) only [modStation_part, hp, part_ite, ite_self, List.mem_cons, List.not_mem_nil, or_false, not_or, not_false_eq_true, and_self, implies_true, ne_eq]

theorem execBearingStamp_part {pt : Part} (x : Fin 6) (edge : BdEdge) (s : State) (hp : pt ∉ ([.scan, .polygons, .faults] : List Part)) :
    KeepsPart pt s (execBearingStamp x edge s) := by
  unfold execBearingStamp
  simp only [List.mem_cons, List.not_mem_nil, or_false, not_or] at hp
  simp (maxDischargeDepth := 12) only [deliverBearing_part, modStation_part, phaseError_part, takeBearing_part, keepsPart_live, keepsPart_liveIf, keepsPart_next, hp, part_ite, ite_self, List.mem_cons, List.not_mem_nil, or_false, not_or, not_false_eq_true, and_self, implies_true, ne_eq]

theorem execBearingWindowClose_part {pt : Part} (x : Fin 6) (s : State) (hp : pt ∉ ([.scan, .polygons, .faults] : List Part)) :
    KeepsPart pt s (execBearingWindowClose x s) := by
  unfold execBearingWindowClose
  simp only [List.mem_cons, List.not_mem_nil, or_false, not_or] at hp
  first
  | (simp (maxDischargeDepth := 12) only [deliverBearing_part, modStation_part, raise_part, raiseIf_part, signalLoss_part, takeBearing_part, keepsPart_live, keepsPart_liveIf, keepsPart_next, hp, part_ite, ite_self, List.mem_cons, List.not_mem_nil, or_false, not_or, not_false_eq_true, and_self, implies_true, ne_eq]; done)
  | (try dsimp only
     (repeat' split) <;> simp (maxDischargeDepth := 12) only [deliverBearing_part, modStation_part, raise_part, raiseIf_part, signalLoss_part, takeBearing_part, keepsPart_live, keepsPart_liveIf, keepsPart_next, hp, part_ite, ite_self, List.mem_cons, List.not_mem_nil, or_false, not_or, not_false_eq_true, and_self, implies_true, ne_eq])

theorem execStrayEdge_part {pt : Part} (x : Fin 6) (edge : BdEdge) (s : State) (hp : pt ∉ ([.scan, .faults] : List Part)) :
    KeepsPart pt s (execStrayEdge x edge s) := by
  unfold execStrayEdge
  simp only [List.mem_cons, List.not_mem_nil, or_false, not_or] at hp
  simp (maxDischargeDepth := 12) only [modStation_part, raise_part, keepsPart_live, keepsPart_liveIf, keepsPart_next, hp, part_ite, ite_self, List.mem_cons, List.not_mem_nil, or_false, not_or, not_false_eq_true, and_self, implies_true, ne_eq]

theorem execFacetIdCheck_part {pt : Part} (x : Fin 6) (s : State) (hp : pt ∉ ([.scan, .faults] : List Part)) :
    KeepsPart pt s (execFacetIdCheck x s) := by
  unfold execFacetIdCheck
  simp only [List.mem_cons, List.not_mem_nil, or_false, not_or] at hp
  first
  | (simp (maxDischargeDepth := 12) only [modStation_part, raiseRun_part, when_part, keepsPart_live, keepsPart_liveIf, keepsPart_next, hp, part_ite, ite_self, List.mem_cons, List.not_mem_nil, or_false, not_or, not_false_eq_true, and_self, implies_true, ne_eq]; done)
  | (try dsimp only
     (repeat' split) <;> simp (maxDischargeDepth := 12) only [modStation_part, raiseRun_part, when_part, keepsPart_live, keepsPart_liveIf, keepsPart_next, hp, part_ite, ite_self, List.mem_cons, List.not_mem_nil, or_false, not_or, not_false_eq_true, and_self, implies_true, ne_eq])

theorem execScheduleTick_part {pt : Part} (x : Fin 6) (s : State) (hp : pt ∉ ([.scan] : List Part)) :
    KeepsPart pt s (execScheduleTick x s) := by
  unfold execScheduleTick
  simp only [List.mem_cons, List.not_mem_nil, or_false, not_or] at hp
  simp (maxDischargeDepth := 12) only [loadMap_part, modStation_part, keepsPart_live, keepsPart_liveIf, keepsPart_next, hp, part_ite, ite_self, List.mem_cons, List.not_mem_nil, or_false, not_or, not_false_eq_true, and_self, implies_true, ne_eq]

theorem takeCrossing_part {pt : Part} (x : Fin 6) (j c : Int) (s : State) (hp : pt ∉ ([.scan, .position, .faults] : List Part)) :
    (State.takeCrossing x j c s).part pt = s.part pt := by
  unfold State.takeCrossing
  simp only [List.mem_cons, List.not_mem_nil, or_false, not_or] at hp
  first
  | (simp (maxDischargeDepth := 12) only [modStation_part, raiseRun_part, modPosition_part, when_part, hp, part_ite, ite_self, List.mem_cons, List.not_mem_nil, or_false, not_or, not_false_eq_true, and_self, implies_true, ne_eq]; done)
  | (try dsimp only
     (repeat' split) <;> simp (maxDischargeDepth := 12) only [modStation_part, raiseRun_part, modPosition_part, when_part, hp, part_ite, ite_self, List.mem_cons, List.not_mem_nil, or_false, not_or, not_false_eq_true, and_self, implies_true, ne_eq])

theorem execCrossingTimeDelivery_part {pt : Part} (x : Fin 6) (pair : ClockPair) (s : State) (hp : pt ∉ ([.scan, .position, .faults] : List Part)) :
    KeepsPart pt s (execCrossingTimeDelivery x pair s) := by
  unfold execCrossingTimeDelivery
  simp only [List.mem_cons, List.not_mem_nil, or_false, not_or] at hp
  first
  | (simp (maxDischargeDepth := 12) only [modStation_part, takeCrossing_part, modPosition_part, when_part, keepsPart_live, keepsPart_liveIf, keepsPart_next, hp, part_ite, ite_self, List.mem_cons, List.not_mem_nil, or_false, not_or, not_false_eq_true, and_self, implies_true, ne_eq]; done)
  | (try dsimp only
     (repeat' split) <;> simp (maxDischargeDepth := 12) only [modStation_part, takeCrossing_part, modPosition_part, when_part, keepsPart_live, keepsPart_liveIf, keepsPart_next, hp, part_ite, ite_self, List.mem_cons, List.not_mem_nil, or_false, not_or, not_false_eq_true, and_self, implies_true, ne_eq])

end Sys2Proof.Machine
end

