-- ==== Sys2Proof/Laws/KeptAbort.lean ====
section
/-! SUPPORT. Which parts of the state each operation of Machine/Abort.lean leaves as they are. -/

set_option linter.unusedSimpArgs false

namespace Sys2Proof.Machine

open Sys2Proof

theorem idleCompares_part {pt : Part} (s : State) (hp : pt ∉ ([.position] : List Part)) :
    (State.idleCompares s).part pt = s.part pt := by
  unfold State.idleCompares
  simp only [List.mem_cons, List.not_mem_nil, or_false, not_or] at hp
  simp (maxDischargeDepth := 12) only [compareIdle_part, eachCompare_part, hp, part_ite, ite_self, List.mem_cons, List.not_mem_nil, or_false, not_or, not_false_eq_true, and_self, implies_true, ne_eq]

theorem cutLayer_part {pt : Part} (src : ForceSource) (s : State) (hp : pt ∉ ([.decoders, .pixels, .scan, .position, .polygons, .loops] : List Part)) :
    (State.cutLayer src s).part pt = s.part pt := by
  unfold State.cutLayer
  simp only [List.mem_cons, List.not_mem_nil, or_false, not_or] at hp
  simp (maxDischargeDepth := 12) only [forceOff_part, hvHardware_part, idleCompares_part, stopStations_part, hp, part_ite, ite_self, List.mem_cons, List.not_mem_nil, or_false, not_or, not_false_eq_true, and_self, implies_true, ne_eq]

theorem drivePulse_part {pt : Part} (own : Bool) (s : State) (hp : pt ∉ ([.power] : List Part)) :
    (State.drivePulse own s).part pt = s.part pt := by
  unfold State.drivePulse
  simp only [List.mem_cons, List.not_mem_nil, or_false, not_or] at hp
  simp (maxDischargeDepth := 12) only [modPower_part, when_part, hp, part_ite, ite_self, List.mem_cons, List.not_mem_nil, or_false, not_or, not_false_eq_true, and_self, implies_true, ne_eq]

theorem abort_part {pt : Part} (cause : Cause) (src inst : Nat) (s : State) (hp : pt ∉ ([.layer, .decoders, .pixels, .scan, .position, .polygons, .loops, .motion, .power] : List Part)) :
    (State.abort cause src inst s).part pt = s.part pt := by
  unfold State.abort
  simp only [List.mem_cons, List.not_mem_nil, or_false, not_or] at hp
  first
  | (simp (maxDischargeDepth := 12) only [abortMotion_part, cutLayer_part, drivePulse_part, modJob_part, modLayer_part, hp, part_ite, ite_self, List.mem_cons, List.not_mem_nil, or_false, not_or, not_false_eq_true, and_self, implies_true, ne_eq]; done)
  | (try dsimp only
     (repeat' split) <;> simp (maxDischargeDepth := 12) only [abortMotion_part, cutLayer_part, drivePulse_part, modJob_part, modLayer_part, hp, part_ite, ite_self, List.mem_cons, List.not_mem_nil, or_false, not_or, not_false_eq_true, and_self, implies_true, ne_eq])

theorem meridianMissed_part {pt : Part} (seq x : Nat) (s : State) (hp : pt ∉ ([.layer, .decoders, .pixels, .scan, .position, .polygons, .loops, .motion, .power, .host, .telemetry, .boot] : List Part)) :
    (State.meridianMissed seq x s).part pt = s.part pt := by
  unfold State.meridianMissed
  simp only [List.mem_cons, List.not_mem_nil, or_false, not_or] at hp
  try dsimp only
  (repeat' split) <;> simp (maxDischargeDepth := 12) only [abort_part, endJob_part, hp, part_ite, ite_self, List.mem_cons, List.not_mem_nil, or_false, not_or, not_false_eq_true, and_self, implies_true, ne_eq]

end Sys2Proof.Machine
end

