-- ==== Sys2Proof/Laws/KeptAtlas.lean ====
section
/-! SUPPORT. Which parts of the state each operation of Machine/Atlas.lean leaves as they are. -/

set_option linter.unusedSimpArgs false

namespace Sys2Proof.Machine

open Sys2Proof

theorem modAtlas_part {pt : Part} (f : Atlas → Atlas) (s : State) (hp : pt ∉ ([.host] : List Part)) :
    (State.modAtlas f s).part pt = s.part pt := by
  unfold State.modAtlas
  simp only [List.mem_cons, List.not_mem_nil, or_false, not_or] at hp
  simp (maxDischargeDepth := 12) only [modHost_part, hp, part_ite, ite_self, List.mem_cons, List.not_mem_nil, or_false, not_or, not_false_eq_true, and_self, implies_true, ne_eq]

theorem stopLq_part {pt : Part} (reason : DoorReason) (s : State) (hp : pt ∉ ([.faults, .host] : List Part)) :
    (State.stopLq reason s).part pt = s.part pt := by
  unfold State.stopLq
  simp only [List.mem_cons, List.not_mem_nil, or_false, not_or] at hp
  simp (maxDischargeDepth := 12) only [doorRecord_part, modHost_part, hp, part_ite, ite_self, List.mem_cons, List.not_mem_nil, or_false, not_or, not_false_eq_true, and_self, implies_true, ne_eq]

theorem execLqDoorbell_part {pt : Part} (tail : Fin 64) (s : State) (hp : pt ∉ ([.host] : List Part)) :
    KeepsPart pt s (execLqDoorbell tail s) := by
  unfold execLqDoorbell
  simp only [List.mem_cons, List.not_mem_nil, or_false, not_or] at hp
  simp (maxDischargeDepth := 12) only [modHost_part, keepsPart_live, keepsPart_liveIf, keepsPart_next, hp, part_ite, ite_self, List.mem_cons, List.not_mem_nil, or_false, not_or, not_false_eq_true, and_self, implies_true, ne_eq]

theorem acceptEntry_part {pt : Part} (slot : Nat) (entry : List Byte) (s : State) (hp : pt ∉ ([.layer, .faults, .host] : List Part)) :
    (State.acceptEntry slot entry s).part pt = s.part pt := by
  unfold State.acceptEntry
  simp only [List.mem_cons, List.not_mem_nil, or_false, not_or] at hp
  simp (maxDischargeDepth := 12) only [modAtlas_part, record_part, modHost_part, modLayer_part, hp, part_ite, ite_self, List.mem_cons, List.not_mem_nil, or_false, not_or, not_false_eq_true, and_self, implies_true, ne_eq]

theorem refuseEntry_part {pt : Part} (slot : Nat) (s : State) (hp : pt ∉ ([.faults, .host] : List Part)) :
    (State.refuseEntry slot s).part pt = s.part pt := by
  unfold State.refuseEntry
  simp only [List.mem_cons, List.not_mem_nil, or_false, not_or] at hp
  simp (maxDischargeDepth := 12) only [modAtlas_part, raise_part, stopLq_part, hp, part_ite, ite_self, List.mem_cons, List.not_mem_nil, or_false, not_or, not_false_eq_true, and_self, implies_true, ne_eq]

theorem execLqEntryAccept_part {pt : Part} (entry : Vector Byte 128) (verdict : MarkResult) (s : State) (hp : pt ∉ ([.layer, .faults, .host] : List Part)) :
    KeepsPart pt s (execLqEntryAccept entry verdict s) := by
  unfold execLqEntryAccept
  simp only [List.mem_cons, List.not_mem_nil, or_false, not_or] at hp
  try dsimp only
  (repeat' split) <;> simp (maxDischargeDepth := 12) only [acceptEntry_part, refuseEntry_part, stopLq_part, keepsPart_live, keepsPart_liveIf, keepsPart_next, hp, part_ite, ite_self, List.mem_cons, List.not_mem_nil, or_false, not_or, not_false_eq_true, and_self, implies_true, ne_eq]

theorem startedFailed_part {pt : Part} (seq : Nat) (s : State) (hp : pt ∉ ([.layer, .decoders, .pixels, .position, .loops, .power, .host, .telemetry, .boot] : List Part)) :
    (State.startedFailed seq s).part pt = s.part pt := by
  unfold State.startedFailed
  simp only [List.mem_cons, List.not_mem_nil, or_false, not_or] at hp
  simp (maxDischargeDepth := 12) only [drivePulse_part, endJob_part, when_part, hp, part_ite, ite_self, List.mem_cons, List.not_mem_nil, or_false, not_or, not_false_eq_true, and_self, implies_true, ne_eq]

theorem markDurable_part {pt : Part} (slot : Nat) (m : MarkTodo) (s : State) (hp : pt ∉ ([.layer, .host] : List Part)) :
    (State.markDurable slot m s).part pt = s.part pt := by
  unfold State.markDurable
  simp only [List.mem_cons, List.not_mem_nil, or_false, not_or] at hp
  simp (maxDischargeDepth := 12) only [modAtlas_part, modJob_part, hp, part_ite, ite_self, List.mem_cons, List.not_mem_nil, or_false, not_or, not_false_eq_true, and_self, implies_true, ne_eq]

theorem execAtlasMarkWrite_part {pt : Part} (verdict : MarkResult) (s : State) (hp : pt ∉ ([.layer, .decoders, .pixels, .position, .loops, .power, .faults, .host, .telemetry, .boot] : List Part)) :
    KeepsPart pt s (execAtlasMarkWrite verdict s) := by
  unfold execAtlasMarkWrite
  simp only [List.mem_cons, List.not_mem_nil, or_false, not_or] at hp
  first
  | (simp (maxDischargeDepth := 12) only [markDurable_part, modAtlas_part, raise_part, startedFailed_part, keepsPart_live, keepsPart_liveIf, keepsPart_next, hp, part_ite, ite_self, List.mem_cons, List.not_mem_nil, or_false, not_or, not_false_eq_true, and_self, implies_true, ne_eq]; done)
  | (try dsimp only
     (repeat' split) <;> simp (maxDischargeDepth := 12) only [markDurable_part, modAtlas_part, raise_part, startedFailed_part, keepsPart_live, keepsPart_liveIf, keepsPart_next, hp, part_ite, ite_self, List.mem_cons, List.not_mem_nil, or_false, not_or, not_false_eq_true, and_self, implies_true, ne_eq])

theorem execFinalRecord_part {pt : Part} (s : State) (hp : pt ∉ ([.layer, .faults, .host] : List Part)) :
    KeepsPart pt s (execFinalRecord s) := by
  unfold execFinalRecord
  simp only [List.mem_cons, List.not_mem_nil, or_false, not_or] at hp
  first
  | (simp (maxDischargeDepth := 12) only [modAtlas_part, offer_part, modLayer_part, keepsPart_live, keepsPart_liveIf, keepsPart_next, hp, part_ite, ite_self, List.mem_cons, List.not_mem_nil, or_false, not_or, not_false_eq_true, and_self, implies_true, ne_eq]; done)
  | (try dsimp only
     (repeat' split) <;> simp (maxDischargeDepth := 12) only [modAtlas_part, offer_part, modLayer_part, keepsPart_live, keepsPart_liveIf, keepsPart_next, hp, part_ite, ite_self, List.mem_cons, List.not_mem_nil, or_false, not_or, not_false_eq_true, and_self, implies_true, ne_eq])

theorem report_part {pt : Part} (verdicts : List (Nat × MarkResult)) (seq : Nat) (s : State) (hp : pt ∉ ([.faults, .host] : List Part)) :
    (State.report verdicts seq s).part pt = s.part pt := by
  unfold State.report
  simp only [List.mem_cons, List.not_mem_nil, or_false, not_or] at hp
  first
  | (simp (maxDischargeDepth := 12) only [modAtlas_part, raise_part, hp, part_ite, ite_self, List.mem_cons, List.not_mem_nil, or_false, not_or, not_false_eq_true, and_self, implies_true, ne_eq]; done)
  | (try dsimp only
     (repeat' split) <;> simp (maxDischargeDepth := 12) only [modAtlas_part, raise_part, hp, part_ite, ite_self, List.mem_cons, List.not_mem_nil, or_false, not_or, not_false_eq_true, and_self, implies_true, ne_eq])

theorem execCqHeadWrite_part {pt : Part} (n : Fin 14) (head : Fin 4096) (verdicts : List (Nat × MarkResult)) (s : State) (hp : pt ∉ ([.faults, .host] : List Part)) :
    KeepsPart pt s (execCqHeadWrite n head verdicts s) := by
  unfold execCqHeadWrite
  simp only [List.mem_cons, List.not_mem_nil, or_false, not_or] at hp
  simp (maxDischargeDepth := 12) only [modCq_part, report_part, each_part, keepsPart_live, keepsPart_liveIf, keepsPart_next, hp, part_ite, ite_self, List.mem_cons, List.not_mem_nil, or_false, not_or, not_false_eq_true, and_self, implies_true, ne_eq]

theorem replayJob_part {pt : Part} (q : Nat × Nat) (acc : List Held × Bool × State) (hp : pt ∉ ([.layer, .host] : List Part)) :
    (State.replayJob q acc).2.2.part pt = acc.2.2.part pt := by
  unfold State.replayJob
  simp only [List.mem_cons, List.not_mem_nil, or_false, not_or] at hp
  dsimp only
  split <;> simp [modLayer_part, modAtlas_part, hp]

theorem replayAll_part {pt : Part} (l : List (Nat × Nat)) (acc : List Held × Bool × State) (hp : pt ∉ ([.layer, .host] : List Part)) :
    (l.foldl (fun acc q => State.replayJob q acc) acc).2.2.part pt = acc.2.2.part pt := by
  induction l generalizing acc with
  | nil => rfl
  | cons q l ih => simp only [List.foldl_cons]; rw [ih, replayJob_part q acc hp]

theorem execRestartRecords_part {pt : Part} (s : State) (hp : pt ∉ ([.layer, .host] : List Part)) :
    KeepsPart pt s (execRestartRecords s) := by
  unfold execRestartRecords
  simp only [List.mem_cons, List.not_mem_nil, or_false, not_or] at hp
  have h := replayAll_part (pt := pt) s.host.atlas.bySeq ([], true, s) (by simpa using hp)
  refine keepsPart_liveIf _ _ _ _ rfl ?_
  simp [modHost_part, modCq_part, hp, h]

end Sys2Proof.Machine
end

