-- ==== Sys2Proof/Laws/KeptPosition.lean ====
section
/-! SUPPORT. Which parts of the state each operation of Machine/Position.lean leaves as they are. -/

set_option linter.unusedSimpArgs false

namespace Sys2Proof.Machine

open Sys2Proof

theorem beltCount_part {pt : Part} (e : Fin 4) (old c : Encoder) (s : State) (hp : pt ∉ ([.position] : List Part)) :
    (State.beltCount e old c s).part pt = s.part pt := by
  unfold State.beltCount
  simp only [List.mem_cons, List.not_mem_nil, or_false, not_or] at hp
  first
  | (simp (maxDischargeDepth := 12) only [eachCompare_part, modPosition_part, hp, part_ite, ite_self, List.mem_cons, List.not_mem_nil, or_false, not_or, not_false_eq_true, and_self, implies_true, ne_eq]; done)
  | (try dsimp only
     (repeat' split) <;> simp (maxDischargeDepth := 12) only [eachCompare_part, modPosition_part, hp, part_ite, ite_self, List.mem_cons, List.not_mem_nil, or_false, not_or, not_false_eq_true, and_self, implies_true, ne_eq])

theorem execEncoderEdge_part {pt : Part} (e : Fin 4) (qa qb : Bool) (cycle held : Nat) (s : State) (hp : pt ∉ ([.position, .motion, .faults] : List Part)) :
    KeepsPart pt s (execEncoderEdge e qa qb cycle held s) := by
  unfold execEncoderEdge
  simp only [List.mem_cons, List.not_mem_nil, or_false, not_or] at hp
  first
  | (simp (maxDischargeDepth := 12) only [atCycle_part, beltCount_part, moveAxis_part, raiseRun_part, modPosition_part, keepsPart_live, keepsPart_liveIf, keepsPart_next, hp, part_ite, ite_self, List.mem_cons, List.not_mem_nil, or_false, not_or, not_false_eq_true, and_self, implies_true, ne_eq]; done)
  | (try dsimp only
     (repeat' split) <;> simp (maxDischargeDepth := 12) only [atCycle_part, beltCount_part, moveAxis_part, raiseRun_part, modPosition_part, keepsPart_live, keepsPart_liveIf, keepsPart_next, hp, part_ite, ite_self, List.mem_cons, List.not_mem_nil, or_false, not_or, not_false_eq_true, and_self, implies_true, ne_eq])

theorem execSsiFrame_part {pt : Part} (n : Fin 4) (frame : SsiBits) (s : State) (hp : pt ∉ ([.position, .motion, .faults] : List Part)) :
    KeepsPart pt s (execSsiFrame n frame s) := by
  unfold execSsiFrame
  simp only [List.mem_cons, List.not_mem_nil, or_false, not_or] at hp
  first
  | (simp (maxDischargeDepth := 12) only [moveAxis_part, raise_part, raiseIf_part, modPosition_part, set_position_part, keepsPart_live, keepsPart_liveIf, keepsPart_next, hp, part_ite, ite_self, List.mem_cons, List.not_mem_nil, or_false, not_or, not_false_eq_true, and_self, implies_true, ne_eq]; done)
  | (try dsimp only
     (repeat' split) <;> simp (maxDischargeDepth := 12) only [moveAxis_part, raise_part, raiseIf_part, modPosition_part, set_position_part, keepsPart_live, keepsPart_liveIf, keepsPart_next, hp, part_ite, ite_self, List.mem_cons, List.not_mem_nil, or_false, not_or, not_false_eq_true, and_self, implies_true, ne_eq])

theorem execMarkEdge_part {pt : Part} (m : Fin 4) (rising : Bool) (cycle held : Nat) (s : State) (hp : pt ∉ ([.position] : List Part)) :
    KeepsPart pt s (execMarkEdge m rising cycle held s) := by
  unfold execMarkEdge
  simp only [List.mem_cons, List.not_mem_nil, or_false, not_or] at hp
  simp (maxDischargeDepth := 12) only [atCycle_part, modPosition_part, keepsPart_live, keepsPart_liveIf, keepsPart_next, hp, part_ite, ite_self, List.mem_cons, List.not_mem_nil, or_false, not_or, not_false_eq_true, and_self, implies_true, ne_eq]

theorem execBeltIndex_part {pt : Part} (e : Fin 4) (cycle held : Nat) (s : State) (hp : pt ∉ ([.position, .faults] : List Part)) :
    KeepsPart pt s (execBeltIndex e cycle held s) := by
  unfold execBeltIndex
  simp only [List.mem_cons, List.not_mem_nil, or_false, not_or] at hp
  simp (maxDischargeDepth := 12) only [atCycle_part, raiseIf_part, modPosition_part, keepsPart_live, keepsPart_liveIf, keepsPart_next, hp, part_ite, ite_self, List.mem_cons, List.not_mem_nil, or_false, not_or, not_false_eq_true, and_self, implies_true, ne_eq]

theorem fireCompare_part {pt : Part} (n t : Nat) (s : State) (hp : pt ∉ ([.position] : List Part)) :
    (State.fireCompare n t s).part pt = s.part pt := by
  unfold State.fireCompare
  simp only [List.mem_cons, List.not_mem_nil, or_false, not_or] at hp
  simp (maxDischargeDepth := 12) only [atCycle_part, modPosition_part, when_part, hp, part_ite, ite_self, List.mem_cons, List.not_mem_nil, or_false, not_or, not_false_eq_true, and_self, implies_true, ne_eq]

theorem fireMeridian_part {pt : Part} (x : Fin 6) (t : Nat) (s : State) (hp : pt ∉ ([.layer, .pixels, .scan, .position] : List Part)) :
    (State.fireMeridian x t s).part pt = s.part pt := by
  unfold State.fireMeridian
  simp only [List.mem_cons, List.not_mem_nil, or_false, not_or] at hp
  first
  | (simp (maxDischargeDepth := 12) only [atCycle_part, modJob_part, modStation_part, modPixel_part, modPosition_part, when_part, hp, part_ite, ite_self, List.mem_cons, List.not_mem_nil, or_false, not_or, not_false_eq_true, and_self, implies_true, ne_eq]; done)
  | (try dsimp only
     (repeat' split) <;> simp (maxDischargeDepth := 12) only [atCycle_part, modJob_part, modStation_part, modPixel_part, modPosition_part, when_part, hp, part_ite, ite_self, List.mem_cons, List.not_mem_nil, or_false, not_or, not_false_eq_true, and_self, implies_true, ne_eq])

theorem execCompareFire_part {pt : Part} (u : Fin 14) (t : Nat) (s : State) (hp : pt ∉ ([.layer, .pixels, .scan, .position] : List Part)) :
    KeepsPart pt s (execCompareFire u t s) := by
  unfold execCompareFire
  simp only [List.mem_cons, List.not_mem_nil, or_false, not_or] at hp
  try dsimp only
  (repeat' split) <;> simp (maxDischargeDepth := 12) only [fireCompare_part, fireMeridian_part, keepsPart_live, keepsPart_liveIf, keepsPart_next, hp, part_ite, ite_self, List.mem_cons, List.not_mem_nil, or_false, not_or, not_false_eq_true, and_self, implies_true, ne_eq]

theorem missMeridian_part {pt : Part} (x : Fin 6) (s : State) (hp : pt ∉ ([.layer, .decoders, .pixels, .scan, .position, .polygons, .loops, .motion, .power, .faults, .host, .telemetry, .boot] : List Part)) :
    (State.missMeridian x s).part pt = s.part pt := by
  unfold State.missMeridian
  simp only [List.mem_cons, List.not_mem_nil, or_false, not_or] at hp
  simp (maxDischargeDepth := 12) only [meridianMissed_part, raise_part, modPosition_part, hp, part_ite, ite_self, List.mem_cons, List.not_mem_nil, or_false, not_or, not_false_eq_true, and_self, implies_true, ne_eq]

theorem missCompare_part {pt : Part} (n : Nat) (s : State) (hp : pt ∉ ([.position, .faults] : List Part)) :
    (State.missCompare n s).part pt = s.part pt := by
  unfold State.missCompare
  simp only [List.mem_cons, List.not_mem_nil, or_false, not_or] at hp
  simp (maxDischargeDepth := 12) only [raise_part, modPosition_part, hp, part_ite, ite_self, List.mem_cons, List.not_mem_nil, or_false, not_or, not_false_eq_true, and_self, implies_true, ne_eq]

theorem execEntryFoundBehind_part {pt : Part} (u : Fin 14) (s : State) (hp : pt ∉ ([.layer, .decoders, .pixels, .scan, .position, .polygons, .loops, .motion, .power, .faults, .host, .telemetry, .boot] : List Part)) :
    KeepsPart pt s (execEntryFoundBehind u s) := by
  unfold execEntryFoundBehind
  simp only [List.mem_cons, List.not_mem_nil, or_false, not_or] at hp
  first
  | (simp (maxDischargeDepth := 12) only [missCompare_part, missMeridian_part, keepsPart_live, keepsPart_liveIf, keepsPart_next, hp, part_ite, ite_self, List.mem_cons, List.not_mem_nil, or_false, not_or, not_false_eq_true, and_self, implies_true, ne_eq]; done)
  | (try dsimp only
     (repeat' split) <;> simp (maxDischargeDepth := 12) only [missCompare_part, missMeridian_part, keepsPart_live, keepsPart_liveIf, keepsPart_next, hp, part_ite, ite_self, List.mem_cons, List.not_mem_nil, or_false, not_or, not_false_eq_true, and_self, implies_true, ne_eq])

theorem measureStation_part {pt : Part} (origin : Int) (x : Fin 6) (s : State) (hp : pt ∉ ([.position, .faults] : List Part)) :
    (State.measureStation origin x s).part pt = s.part pt := by
  unfold State.measureStation
  simp only [List.mem_cons, List.not_mem_nil, or_false, not_or] at hp
  first
  | (simp (maxDischargeDepth := 12) only [raiseIf_part, modPosition_part, hp, part_ite, ite_self, List.mem_cons, List.not_mem_nil, or_false, not_or, not_false_eq_true, and_self, implies_true, ne_eq]; done)
  | (try dsimp only
     (repeat' split) <;> simp (maxDischargeDepth := 12) only [raiseIf_part, modPosition_part, hp, part_ite, ite_self, List.mem_cons, List.not_mem_nil, or_false, not_or, not_false_eq_true, and_self, implies_true, ne_eq])

theorem execRegistrationMeasure_part {pt : Part} (s : State) (hp : pt ∉ ([.position, .faults] : List Part)) :
    KeepsPart pt s (execRegistrationMeasure s) := by
  unfold execRegistrationMeasure
  simp only [List.mem_cons, List.not_mem_nil, or_false, not_or] at hp
  first
  | (simp (maxDischargeDepth := 12) only [measureStation_part, modPosition_part, each_part, keepsPart_live, keepsPart_liveIf, keepsPart_next, hp, part_ite, ite_self, List.mem_cons, List.not_mem_nil, or_false, not_or, not_false_eq_true, and_self, implies_true, ne_eq]; done)
  | (try dsimp only
     (repeat' split) <;> simp (maxDischargeDepth := 12) only [measureStation_part, modPosition_part, each_part, keepsPart_live, keepsPart_liveIf, keepsPart_next, hp, part_ite, ite_self, List.mem_cons, List.not_mem_nil, or_false, not_or, not_false_eq_true, and_self, implies_true, ne_eq])

theorem setOffsets_part {pt : Part} (x : Nat) (xs ins : Int) (s : State) (hp : pt ∉ ([.scan, .position, .faults] : List Part)) :
    (State.setOffsets x xs ins s).part pt = s.part pt := by
  unfold State.setOffsets
  simp only [List.mem_cons, List.not_mem_nil, or_false, not_or] at hp
  simp (maxDischargeDepth := 12) only [raiseIf_part, modPosition_part, modScan_part, when_part, hp, part_ite, ite_self, List.mem_cons, List.not_mem_nil, or_false, not_or, not_false_eq_true, and_self, implies_true, ne_eq]

theorem applyHeldUpdates_part {pt : Part} (s : State) (hp : pt ∉ ([.scan, .position, .faults] : List Part)) :
    (State.applyHeldUpdates s).part pt = s.part pt := by
  unfold State.applyHeldUpdates
  simp only [List.mem_cons, List.not_mem_nil, or_false, not_or] at hp
  simp (maxDischargeDepth := 12) only [setOffsets_part, when_part, each_part, hp, part_ite, ite_self, List.mem_cons, List.not_mem_nil, or_false, not_or, not_false_eq_true, and_self, implies_true, ne_eq]

theorem execEmulationEdge_part {pt : Part} (n : Fin 2) (t : Nat) (s : State) (hp : pt ∉ ([.position, .faults] : List Part)) :
    KeepsPart pt s (execEmulationEdge n t s) := by
  unfold execEmulationEdge
  simp only [List.mem_cons, List.not_mem_nil, or_false, not_or] at hp
  first
  | (simp (maxDischargeDepth := 12) only [atCycle_part, raiseIf_part, modPosition_part, set_position_part, keepsPart_live, keepsPart_liveIf, keepsPart_next, hp, part_ite, ite_self, List.mem_cons, List.not_mem_nil, or_false, not_or, not_false_eq_true, and_self, implies_true, ne_eq]; done)
  | (try dsimp only
     (repeat' split) <;> simp (maxDischargeDepth := 12) only [atCycle_part, raiseIf_part, modPosition_part, set_position_part, keepsPart_live, keepsPart_liveIf, keepsPart_next, hp, part_ite, ite_self, List.mem_cons, List.not_mem_nil, or_false, not_or, not_false_eq_true, and_self, implies_true, ne_eq])

end Sys2Proof.Machine
end

