-- ==== Sys2Proof/Laws/KeptPower.lean ====
section
/-! SUPPORT. Which parts of the state each operation of Machine/Power.lean leaves as they are. -/

set_option linter.unusedSimpArgs false

namespace Sys2Proof.Machine

open Sys2Proof

theorem modRail_part {pt : Part} (n : Nat) (f : Rail → Rail) (s : State) (hp : pt ∉ ([.power] : List Part)) :
    (State.modRail n f s).part pt = s.part pt := by
  unfold State.modRail
  simp only [List.mem_cons, List.not_mem_nil, or_false, not_or] at hp
  simp (maxDischargeDepth := 12) only [modPower_part, hp, part_ite, ite_self, List.mem_cons, List.not_mem_nil, or_false, not_or, not_false_eq_true, and_self, implies_true, ne_eq]

theorem pseLog_part {pt : Part} (kind rail code : Nat) (s : State) (hp : pt ∉ ([.power] : List Part)) :
    (State.pseLog kind rail code s).part pt = s.part pt := by
  unfold State.pseLog
  simp only [List.mem_cons, List.not_mem_nil, or_false, not_or] at hp
  simp (maxDischargeDepth := 12) only [powerLog_part, hp, part_ite, ite_self, List.mem_cons, List.not_mem_nil, or_false, not_or, not_false_eq_true, and_self, implies_true, ne_eq]

theorem polygonsOff_part {pt : Part} (s : State) (hp : pt ∉ ([.polygons] : List Part)) :
    (State.polygonsOff s).part pt = s.part pt := by
  unfold State.polygonsOff
  simp only [List.mem_cons, List.not_mem_nil, or_false, not_or] at hp
  first
  | (simp (maxDischargeDepth := 12) only [allPolygons_part, hp, part_ite, ite_self, List.mem_cons, List.not_mem_nil, or_false, not_or, not_false_eq_true, and_self, implies_true, ne_eq]; done)
  | (try dsimp only
     (repeat' split) <;> simp (maxDischargeDepth := 12) only [allPolygons_part, hp, part_ite, ite_self, List.mem_cons, List.not_mem_nil, or_false, not_or, not_false_eq_true, and_self, implies_true, ne_eq])

theorem settleJob_part {pt : Part} (j : Job) (s : State) (hp : pt ∉ ([.layer, .decoders, .pixels, .position, .loops, .host, .telemetry, .boot] : List Part)) :
    (State.settleJob j s).part pt = s.part pt := by
  unfold State.settleJob
  simp only [List.mem_cons, List.not_mem_nil, or_false, not_or] at hp
  first
  | (simp (maxDischargeDepth := 12) only [endJob_part, modJob_part, rejectJob_part, requeueJob_part, hp, part_ite, ite_self, List.mem_cons, List.not_mem_nil, or_false, not_or, not_false_eq_true, and_self, implies_true, ne_eq]; done)
  | (try dsimp only
     (repeat' split) <;> simp (maxDischargeDepth := 12) only [endJob_part, modJob_part, rejectJob_part, requeueJob_part, hp, part_ite, ite_self, List.mem_cons, List.not_mem_nil, or_false, not_or, not_false_eq_true, and_self, implies_true, ne_eq])

theorem shutdownStart_part {pt : Part} (s : State) (hp : pt ∉ ([.layer, .decoders, .pixels, .scan, .position, .polygons, .loops, .motion, .power, .faults, .host, .telemetry, .boot] : List Part)) :
    (State.shutdownStart s).part pt = s.part pt := by
  unfold State.shutdownStart
  simp only [List.mem_cons, List.not_mem_nil, or_false, not_or] at hp
  simp (maxDischargeDepth := 12) only [cutLayer_part, heatersOff_part, hvOff_part, motionOff_part, polygonsOff_part, settleJob_part, modFaults_part, modLayer_part, modPower_part, when_part, each_part, hp, part_ite, ite_self, List.mem_cons, List.not_mem_nil, or_false, not_or, not_false_eq_true, and_self, implies_true, ne_eq]

theorem startProgram_part {pt : Part} (p : Program) (cause : ProgCause) (s : State) (hp : pt ∉ ([.layer, .decoders, .pixels, .scan, .position, .polygons, .loops, .motion, .power, .faults, .host, .telemetry, .boot] : List Part)) :
    (State.startProgram p cause s).part pt = s.part pt := by
  unfold State.startProgram
  simp only [List.mem_cons, List.not_mem_nil, or_false, not_or] at hp
  simp (maxDischargeDepth := 12) only [pseLog_part, shutdownStart_part, modPower_part, when_part, hp, part_ite, ite_self, List.mem_cons, List.not_mem_nil, or_false, not_or, not_false_eq_true, and_self, implies_true, ne_eq]

theorem endProgram_part {pt : Part} (st : ProgStatus) (s : State) (hp : pt ∉ ([.power] : List Part)) :
    (State.endProgram st s).part pt = s.part pt := by
  unfold State.endProgram
  simp only [List.mem_cons, List.not_mem_nil, or_false, not_or] at hp
  simp (maxDischargeDepth := 12) only [pseLog_part, modPower_part, hp, part_ite, ite_self, List.mem_cons, List.not_mem_nil, or_false, not_or, not_false_eq_true, and_self, implies_true, ne_eq]

theorem requestProgram_part {pt : Part} (p : Program) (cause : ProgCause) (s : State) (hp : pt ∉ ([.layer, .decoders, .pixels, .scan, .position, .polygons, .loops, .motion, .power, .faults, .host, .telemetry, .boot] : List Part)) :
    (State.requestProgram p cause s).part pt = s.part pt := by
  unfold State.requestProgram
  simp only [List.mem_cons, List.not_mem_nil, or_false, not_or] at hp
  first
  | (simp (maxDischargeDepth := 12) only [powerLog_part, startProgram_part, modPower_part, hp, part_ite, ite_self, List.mem_cons, List.not_mem_nil, or_false, not_or, not_false_eq_true, and_self, implies_true, ne_eq]; done)
  | (try dsimp only
     (repeat' split) <;> simp (maxDischargeDepth := 12) only [powerLog_part, startProgram_part, modPower_part, hp, part_ite, ite_self, List.mem_cons, List.not_mem_nil, or_false, not_or, not_false_eq_true, and_self, implies_true, ne_eq])

theorem requestDown_part {pt : Part} (cause : ProgCause) (s : State) (hp : pt ∉ ([.layer, .decoders, .pixels, .scan, .position, .polygons, .loops, .motion, .power, .faults, .host, .telemetry, .boot] : List Part)) :
    (State.requestDown cause s).part pt = s.part pt := by
  unfold State.requestDown
  simp only [List.mem_cons, List.not_mem_nil, or_false, not_or] at hp
  simp (maxDischargeDepth := 12) only [requestProgram_part, modPower_part, hp, part_ite, ite_self, List.mem_cons, List.not_mem_nil, or_false, not_or, not_false_eq_true, and_self, implies_true, ne_eq]

theorem failRail_part {pt : Part} (n : Nat) (s : State) (hp : pt ∉ ([.power, .faults] : List Part)) :
    (State.failRail n s).part pt = s.part pt := by
  unfold State.failRail
  simp only [List.mem_cons, List.not_mem_nil, or_false, not_or] at hp
  simp (maxDischargeDepth := 12) only [pseLog_part, raiseAs_part, modPower_part, when_part, hp, part_ite, ite_self, List.mem_cons, List.not_mem_nil, or_false, not_or, not_false_eq_true, and_self, implies_true, ne_eq]

theorem nextStep_part {pt : Part} (s : State) (hp : pt ∉ ([.power] : List Part)) :
    (State.nextStep s).part pt = s.part pt := by
  unfold State.nextStep
  simp only [List.mem_cons, List.not_mem_nil, or_false, not_or] at hp
  simp (maxDischargeDepth := 12) only [endProgram_part, modPower_part, when_part, hp, part_ite, ite_self, List.mem_cons, List.not_mem_nil, or_false, not_or, not_false_eq_true, and_self, implies_true, ne_eq]

theorem beginWait_part {pt : Part} (w : PseWait) (s : State) (hp : pt ∉ ([.power] : List Part)) :
    (State.beginWait w s).part pt = s.part pt := by
  unfold State.beginWait
  simp only [List.mem_cons, List.not_mem_nil, or_false, not_or] at hp
  simp (maxDischargeDepth := 12) only [modPower_part, hp, part_ite, ite_self, List.mem_cons, List.not_mem_nil, or_false, not_or, not_false_eq_true, and_self, implies_true, ne_eq]

theorem enableRail_part {pt : Part} (n : Nat) (s : State) (hp : pt ∉ ([.power] : List Part)) :
    (State.enableRail n s).part pt = s.part pt := by
  unfold State.enableRail
  simp only [List.mem_cons, List.not_mem_nil, or_false, not_or] at hp
  simp (maxDischargeDepth := 12) only [modRail_part, hp, part_ite, ite_self, List.mem_cons, List.not_mem_nil, or_false, not_or, not_false_eq_true, and_self, implies_true, ne_eq]

theorem disableRail_part {pt : Part} (n : Nat) (s : State) (hp : pt ∉ ([.power] : List Part)) :
    (State.disableRail n s).part pt = s.part pt := by
  unfold State.disableRail
  simp only [List.mem_cons, List.not_mem_nil, or_false, not_or] at hp
  simp (maxDischargeDepth := 12) only [modRail_part, hp, part_ite, ite_self, List.mem_cons, List.not_mem_nil, or_false, not_or, not_false_eq_true, and_self, implies_true, ne_eq]

theorem checkCond_part {pt : Part} (s : State) (code : Nat) (hp : pt ∉ ([.free] : List Part)) :
    (State.checkCond s code).2.part pt = s.part pt := by
  unfold State.checkCond
  simp only [List.mem_cons, List.not_mem_nil, or_false, not_or] at hp
  first
  | (simp (maxDischargeDepth := 12) only [takeBool_part, hp, State.takeBool, set_free_part, part_ite, ite_self, List.mem_cons, List.not_mem_nil, or_false, not_or, not_false_eq_true, and_self, implies_true, ne_eq]; done)
  | (try dsimp only
     (repeat' split) <;> simp (maxDischargeDepth := 12) only [takeBool_part, hp, State.takeBool, set_free_part, part_ite, ite_self, List.mem_cons, List.not_mem_nil, or_false, not_or, not_false_eq_true, and_self, implies_true, ne_eq])

theorem railStep_part {pt : Part} (step : PseStep) (w : PseWait) (t : Nat) (s : State) (hp : pt ∉ ([.power, .faults] : List Part)) :
    (State.railStep step w t s).part pt = s.part pt := by
  unfold State.railStep
  simp only [List.mem_cons, List.not_mem_nil, or_false, not_or] at hp
  simp (maxDischargeDepth := 12) only [beginWait_part, failRail_part, nextStep_part, each_part, hp, part_ite, ite_self, List.mem_cons, List.not_mem_nil, or_false, not_or, not_false_eq_true, and_self, implies_true, ne_eq]

theorem syncStep_part {pt : Part} (n k : Nat) (s : State) (hp : pt ∉ ([.power] : List Part)) :
    (State.syncStep n k s).part pt = s.part pt := by
  unfold State.syncStep
  simp only [List.mem_cons, List.not_mem_nil, or_false, not_or] at hp
  simp (maxDischargeDepth := 12) only [beginWait_part, nextStep_part, modPower_part, hp, part_ite, ite_self, List.mem_cons, List.not_mem_nil, or_false, not_or, not_false_eq_true, and_self, implies_true, ne_eq]

theorem runStep_part {pt : Part} (s : State) (hp : pt ∉ ([.free, .power, .faults] : List Part)) :
    (State.runStep s).part pt = s.part pt := by
  unfold State.runStep
  simp only [List.mem_cons, List.not_mem_nil, or_false, not_or] at hp
  first
  | (simp (maxDischargeDepth := 12) only [beginWait_part, checkCond_part, disableRail_part, enableRail_part, endProgram_part, nextStep_part, pseLog_part, railStep_part, syncStep_part, modPower_part, when_part, hp, part_ite, ite_self, List.mem_cons, List.not_mem_nil, or_false, not_or, not_false_eq_true, and_self, implies_true, ne_eq]; done)
  | (try dsimp only
     (repeat' split) <;> simp (maxDischargeDepth := 12) only [beginWait_part, checkCond_part, disableRail_part, enableRail_part, endProgram_part, nextStep_part, pseLog_part, railStep_part, syncStep_part, modPower_part, when_part, hp, part_ite, ite_self, List.mem_cons, List.not_mem_nil, or_false, not_or, not_false_eq_true, and_self, implies_true, ne_eq])

theorem execPseStep_part {pt : Part} (s : State) (hp : pt ∉ ([.free, .power, .faults] : List Part)) :
    KeepsPart pt s (execPseStep s) := by
  unfold execPseStep
  simp only [List.mem_cons, List.not_mem_nil, or_false, not_or] at hp
  simp (maxDischargeDepth := 12) only [runStep_part, keepsPart_live, keepsPart_liveIf, keepsPart_next, hp, part_ite, ite_self, List.mem_cons, List.not_mem_nil, or_false, not_or, not_false_eq_true, and_self, implies_true, ne_eq]

theorem execPseWaitEnd_part {pt : Part} (s : State) (hp : pt ∉ ([.power, .faults] : List Part)) :
    KeepsPart pt s (execPseWaitEnd s) := by
  unfold execPseWaitEnd
  simp only [List.mem_cons, List.not_mem_nil, or_false, not_or] at hp
  first
  | (simp (maxDischargeDepth := 12) only [failRail_part, nextStep_part, each_part, keepsPart_live, keepsPart_liveIf, keepsPart_next, hp, part_ite, ite_self, List.mem_cons, List.not_mem_nil, or_false, not_or, not_false_eq_true, and_self, implies_true, ne_eq]; done)
  | (try dsimp only
     (repeat' split) <;> simp (maxDischargeDepth := 12) only [failRail_part, nextStep_part, each_part, keepsPart_live, keepsPart_liveIf, keepsPart_next, hp, part_ite, ite_self, List.mem_cons, List.not_mem_nil, or_false, not_or, not_false_eq_true, and_self, implies_true, ne_eq])

theorem sense_part {pt : Part} (own : Vector Nat 7) (abortHigh : Bool) (s : State) (hp : pt ∉ ([.power] : List Part)) :
    (State.sense own abortHigh s).part pt = s.part pt := by
  unfold State.sense
  simp only [List.mem_cons, List.not_mem_nil, or_false, not_or] at hp
  simp (maxDischargeDepth := 12) only [modPower_part, hp, part_ite, ite_self, List.mem_cons, List.not_mem_nil, or_false, not_or, not_false_eq_true, and_self, implies_true, ne_eq]

theorem execProgramStart_part {pt : Part} (own : Vector Nat 7) (abortHigh : Bool) (s : State) (hp : pt ∉ ([.layer, .decoders, .pixels, .scan, .position, .polygons, .loops, .motion, .power, .faults, .host, .telemetry, .boot] : List Part)) :
    KeepsPart pt s (execProgramStart own abortHigh s) := by
  unfold execProgramStart
  simp only [List.mem_cons, List.not_mem_nil, or_false, not_or] at hp
  simp (maxDischargeDepth := 12) only [sense_part, startProgram_part, when_part, keepsPart_live, keepsPart_liveIf, keepsPart_next, hp, part_ite, ite_self, List.mem_cons, List.not_mem_nil, or_false, not_or, not_false_eq_true, and_self, implies_true, ne_eq]

theorem execProgramPreempt_part {pt : Part} (s : State) (hp : pt ∉ ([.layer, .decoders, .pixels, .scan, .position, .polygons, .loops, .motion, .power, .faults, .host, .telemetry, .boot] : List Part)) :
    KeepsPart pt s (execProgramPreempt s) := by
  unfold execProgramPreempt
  simp only [List.mem_cons, List.not_mem_nil, or_false, not_or] at hp
  try dsimp only
  (repeat' split) <;> simp (maxDischargeDepth := 12) only [endProgram_part, startProgram_part, keepsPart_live, keepsPart_liveIf, keepsPart_next, hp, part_ite, ite_self, List.mem_cons, List.not_mem_nil, or_false, not_or, not_false_eq_true, and_self, implies_true, ne_eq]

theorem execProgramEnd_part {pt : Part} (s : State) (hp : pt ∉ ([.power] : List Part)) :
    KeepsPart pt s (execProgramEnd s) := by
  unfold execProgramEnd
  simp only [List.mem_cons, List.not_mem_nil, or_false, not_or] at hp
  simp (maxDischargeDepth := 12) only [disableRail_part, endProgram_part, each_part, keepsPart_live, keepsPart_liveIf, keepsPart_next, hp, part_ite, ite_self, List.mem_cons, List.not_mem_nil, or_false, not_or, not_false_eq_true, and_self, implies_true, ne_eq]

theorem execProgTimeout_part {pt : Part} (s : State) (hp : pt ∉ ([.power, .faults] : List Part)) :
    KeepsPart pt s (execProgTimeout s) := by
  unfold execProgTimeout
  simp only [List.mem_cons, List.not_mem_nil, or_false, not_or] at hp
  simp (maxDischargeDepth := 12) only [endProgram_part, raise_part, modPower_part, keepsPart_live, keepsPart_liveIf, keepsPart_next, hp, part_ite, ite_self, List.mem_cons, List.not_mem_nil, or_false, not_or, not_false_eq_true, and_self, implies_true, ne_eq]

theorem execInputFail_part {pt : Part} (lowUs : Nat) (s : State) (hp : pt ∉ ([.layer, .decoders, .pixels, .scan, .position, .polygons, .loops, .motion, .power, .faults, .host, .telemetry, .boot] : List Part)) :
    KeepsPart pt s (execInputFail lowUs s) := by
  unfold execInputFail
  simp only [List.mem_cons, List.not_mem_nil, or_false, not_or] at hp
  simp (maxDischargeDepth := 12) only [pseLog_part, raise_part, requestProgram_part, modPower_part, when_part, keepsPart_live, keepsPart_liveIf, keepsPart_next, hp, part_ite, ite_self, List.mem_cons, List.not_mem_nil, or_false, not_or, not_false_eq_true, and_self, implies_true, ne_eq]

theorem execInputQualified_part {pt : Part} (s : State) (hp : pt ∉ ([.power] : List Part)) :
    KeepsPart pt s (execInputQualified s) := by
  unfold execInputQualified
  simp only [List.mem_cons, List.not_mem_nil, or_false, not_or] at hp
  simp (maxDischargeDepth := 12) only [modPower_part, keepsPart_live, keepsPart_liveIf, keepsPart_next, hp, part_ite, ite_self, List.mem_cons, List.not_mem_nil, or_false, not_or, not_false_eq_true, and_self, implies_true, ne_eq]

theorem execInputReturn_part {pt : Part} (s : State) (hp : pt ∉ ([.power] : List Part)) :
    KeepsPart pt s (execInputReturn s) := by
  unfold execInputReturn
  simp only [List.mem_cons, List.not_mem_nil, or_false, not_or] at hp
  simp (maxDischargeDepth := 12) only [pseLog_part, modPower_part, when_part, keepsPart_live, keepsPart_liveIf, keepsPart_next, hp, part_ite, ite_self, List.mem_cons, List.not_mem_nil, or_false, not_or, not_false_eq_true, and_self, implies_true, ne_eq]

theorem execBrownoutRecovery_part {pt : Part} (own : Vector Nat 7) (abortHigh : Bool) (s : State) (hp : pt ∉ ([.layer, .decoders, .pixels, .scan, .position, .polygons, .loops, .motion, .power, .faults, .host, .telemetry, .boot] : List Part)) :
    KeepsPart pt s (execBrownoutRecovery own abortHigh s) := by
  unfold execBrownoutRecovery
  simp only [List.mem_cons, List.not_mem_nil, or_false, not_or] at hp
  simp (maxDischargeDepth := 12) only [pseLog_part, sense_part, startProgram_part, when_part, keepsPart_live, keepsPart_liveIf, keepsPart_next, hp, part_ite, ite_self, List.mem_cons, List.not_mem_nil, or_false, not_or, not_false_eq_true, and_self, implies_true, ne_eq]

theorem execUpEndResume_part {pt : Part} (s : State) (hp : pt ∉ ([.polygons, .loops, .motion, .power] : List Part)) :
    KeepsPart pt s (execUpEndResume s) := by
  unfold execUpEndResume
  simp only [List.mem_cons, List.not_mem_nil, or_false, not_or] at hp
  simp (maxDischargeDepth := 12) only [enableServos_part, heatersStart_part, hvStart_part, polyStart_part, steppersOn_part, modPower_part, when_part, each_part, keepsPart_live, keepsPart_liveIf, keepsPart_next, hp, part_ite, ite_self, List.mem_cons, List.not_mem_nil, or_false, not_or, not_false_eq_true, and_self, implies_true, ne_eq]

theorem countRail_part {pt : Part} (n : Nat) (f : RailCounts → RailCounts) (s : State) (hp : pt ∉ ([.power] : List Part)) :
    (State.countRail n f s).part pt = s.part pt := by
  unfold State.countRail
  simp only [List.mem_cons, List.not_mem_nil, or_false, not_or] at hp
  simp (maxDischargeDepth := 12) only [modPower_part, hp, part_ite, ite_self, List.mem_cons, List.not_mem_nil, or_false, not_or, not_false_eq_true, and_self, implies_true, ne_eq]

theorem railEvent_part {pt : Part} (b : Bool) (n : Nat) (f : RailCounts → RailCounts) (src : Source) (cls : Option FaultClass) (s : State) (hp : pt ∉ ([.power, .faults] : List Part)) :
    (State.railEvent b n f src cls s).part pt = s.part pt := by
  unfold State.railEvent
  simp only [List.mem_cons, List.not_mem_nil, or_false, not_or] at hp
  first
  | (simp (maxDischargeDepth := 12) only [countRail_part, raise_part, raiseAs_part, when_part, hp, part_ite, ite_self, List.mem_cons, List.not_mem_nil, or_false, not_or, not_false_eq_true, and_self, implies_true, ne_eq]; done)
  | (try dsimp only
     (repeat' split) <;> simp (maxDischargeDepth := 12) only [countRail_part, raise_part, raiseAs_part, when_part, hp, part_ite, ite_self, List.mem_cons, List.not_mem_nil, or_false, not_or, not_false_eq_true, and_self, implies_true, ne_eq])

theorem execRailEvent_part {pt : Part} (n : Fin 24) (pin : Nat) (s : State) (hp : pt ∉ ([.power, .faults] : List Part)) :
    KeepsPart pt s (execRailEvent n pin s) := by
  unfold execRailEvent
  simp only [List.mem_cons, List.not_mem_nil, or_false, not_or] at hp
  first
  | (simp (maxDischargeDepth := 12) only [modRail_part, pseLog_part, railEvent_part, modPower_part, when_part, keepsPart_live, keepsPart_liveIf, keepsPart_next, hp, part_ite, ite_self, List.mem_cons, List.not_mem_nil, or_false, not_or, not_false_eq_true, and_self, implies_true, ne_eq]; done)
  | (try dsimp only
     (repeat' split) <;> simp (maxDischargeDepth := 12) only [modRail_part, pseLog_part, railEvent_part, modPower_part, when_part, keepsPart_live, keepsPart_liveIf, keepsPart_next, hp, part_ite, ite_self, List.mem_cons, List.not_mem_nil, or_false, not_or, not_false_eq_true, and_self, implies_true, ne_eq])

theorem execPgFilterChange_part {pt : Part} (n : Fin 24) (level : Bool) (heldUs : Nat) (s : State) (hp : pt ∉ ([.power] : List Part)) :
    KeepsPart pt s (execPgFilterChange n level heldUs s) := by
  unfold execPgFilterChange
  simp only [List.mem_cons, List.not_mem_nil, or_false, not_or] at hp
  simp (maxDischargeDepth := 12) only [modRail_part, keepsPart_live, keepsPart_liveIf, keepsPart_next, hp, part_ite, ite_self, List.mem_cons, List.not_mem_nil, or_false, not_or, not_false_eq_true, and_self, implies_true, ne_eq]

theorem execCounterRecordWrite_part {pt : Part} (n : Fin 32) (s : State) (hp : pt ∉ ([.power, .logs] : List Part)) :
    KeepsPart pt s (execCounterRecordWrite n s) := by
  unfold execCounterRecordWrite
  simp only [List.mem_cons, List.not_mem_nil, or_false, not_or] at hp
  simp (maxDischargeDepth := 12) only [modLogs_part, modPower_part, keepsPart_live, keepsPart_liveIf, keepsPart_next, hp, part_ite, ite_self, List.mem_cons, List.not_mem_nil, or_false, not_or, not_false_eq_true, and_self, implies_true, ne_eq]

theorem execPowerLogWrite_part {pt : Part} (s : State) (hp : pt ∉ ([.power, .logs] : List Part)) :
    KeepsPart pt s (execPowerLogWrite s) := by
  unfold execPowerLogWrite
  simp only [List.mem_cons, List.not_mem_nil, or_false, not_or] at hp
  try dsimp only
  (repeat' split) <;> simp (maxDischargeDepth := 12) only [modLogs_part, modPower_part, set_power_part, keepsPart_live, keepsPart_liveIf, keepsPart_next, hp, part_ite, ite_self, List.mem_cons, List.not_mem_nil, or_false, not_or, not_false_eq_true, and_self, implies_true, ne_eq]

theorem execOwnSupplyFault_part {pt : Part} (i : Fin 7) (uv : Nat) (s : State) (hp : pt ∉ ([.power, .faults] : List Part)) :
    KeepsPart pt s (execOwnSupplyFault i uv s) := by
  unfold execOwnSupplyFault
  simp only [List.mem_cons, List.not_mem_nil, or_false, not_or] at hp
  simp (maxDischargeDepth := 12) only [countRail_part, raiseD_part, modPower_part, keepsPart_live, keepsPart_liveIf, keepsPart_next, hp, part_ite, ite_self, List.mem_cons, List.not_mem_nil, or_false, not_or, not_false_eq_true, and_self, implies_true, ne_eq]

theorem execVcoreStep_part {pt : Part} (s : State) (hp : pt ∉ ([.power] : List Part)) :
    KeepsPart pt s (execVcoreStep s) := by
  unfold execVcoreStep
  simp only [List.mem_cons, List.not_mem_nil, or_false, not_or] at hp
  simp (maxDischargeDepth := 12) only [modPower_part, keepsPart_live, keepsPart_liveIf, keepsPart_next, hp, part_ite, ite_self, List.mem_cons, List.not_mem_nil, or_false, not_or, not_false_eq_true, and_self, implies_true, ne_eq]

theorem execReadVoutPoll_part {pt : Part} (mv : Fin 1024) (s : State) (hp : pt ∉ ([.power, .faults] : List Part)) :
    KeepsPart pt s (execReadVoutPoll mv s) := by
  unfold execReadVoutPoll
  simp only [List.mem_cons, List.not_mem_nil, or_false, not_or] at hp
  simp (maxDischargeDepth := 12) only [raiseIf_part, modPower_part, keepsPart_live, keepsPart_liveIf, keepsPart_next, hp, part_ite, ite_self, List.mem_cons, List.not_mem_nil, or_false, not_or, not_false_eq_true, and_self, implies_true, ne_eq]

theorem execPmbusFailure_part {pt : Part} (s : State) (hp : pt ∉ ([.power, .faults] : List Part)) :
    KeepsPart pt s (execPmbusFailure s) := by
  unfold execPmbusFailure
  simp only [List.mem_cons, List.not_mem_nil, or_false, not_or] at hp
  first
  | (simp (maxDischargeDepth := 12) only [raise_part, modPower_part, when_part, keepsPart_live, keepsPart_liveIf, keepsPart_next, hp, part_ite, ite_self, List.mem_cons, List.not_mem_nil, or_false, not_or, not_false_eq_true, and_self, implies_true, ne_eq]; done)
  | (try dsimp only
     (repeat' split) <;> simp (maxDischargeDepth := 12) only [raise_part, modPower_part, when_part, keepsPart_live, keepsPart_liveIf, keepsPart_next, hp, part_ite, ite_self, List.mem_cons, List.not_mem_nil, or_false, not_or, not_false_eq_true, and_self, implies_true, ne_eq])

theorem execUliberRise_part {pt : Part} (s : State) (hp : pt ∉ ([.layer, .power] : List Part)) :
    KeepsPart pt s (execUliberRise s) := by
  unfold execUliberRise
  simp only [List.mem_cons, List.not_mem_nil, or_false, not_or] at hp
  first
  | (simp (maxDischargeDepth := 12) only [modJob_part, modPower_part, when_part, keepsPart_live, keepsPart_liveIf, keepsPart_next, hp, part_ite, ite_self, List.mem_cons, List.not_mem_nil, or_false, not_or, not_false_eq_true, and_self, implies_true, ne_eq]; done)
  | (try dsimp only
     (repeat' split) <;> simp (maxDischargeDepth := 12) only [modJob_part, modPower_part, when_part, keepsPart_live, keepsPart_liveIf, keepsPart_next, hp, part_ite, ite_self, List.mem_cons, List.not_mem_nil, or_false, not_or, not_false_eq_true, and_self, implies_true, ne_eq])

theorem execSyncTimeout_part {pt : Part} (s : State) (hp : pt ∉ ([.power, .faults] : List Part)) :
    KeepsPart pt s (execSyncTimeout s) := by
  unfold execSyncTimeout
  simp only [List.mem_cons, List.not_mem_nil, or_false, not_or] at hp
  first
  | (simp (maxDischargeDepth := 12) only [nextStep_part, pseLog_part, raise_part, modPower_part, keepsPart_live, keepsPart_liveIf, keepsPart_next, hp, part_ite, ite_self, List.mem_cons, List.not_mem_nil, or_false, not_or, not_false_eq_true, and_self, implies_true, ne_eq]; done)
  | (try dsimp only
     (repeat' split) <;> simp (maxDischargeDepth := 12) only [nextStep_part, pseLog_part, raise_part, modPower_part, keepsPart_live, keepsPart_liveIf, keepsPart_next, hp, part_ite, ite_self, List.mem_cons, List.not_mem_nil, or_false, not_or, not_false_eq_true, and_self, implies_true, ne_eq])

theorem execUliberLayerRelease_part {pt : Part} (s : State) (hp : pt ∉ ([.power] : List Part)) :
    KeepsPart pt s (execUliberLayerRelease s) := by
  unfold execUliberLayerRelease
  simp only [List.mem_cons, List.not_mem_nil, or_false, not_or] at hp
  simp (maxDischargeDepth := 12) only [modPower_part, keepsPart_live, keepsPart_liveIf, keepsPart_next, hp, part_ite, ite_self, List.mem_cons, List.not_mem_nil, or_false, not_or, not_false_eq_true, and_self, implies_true, ne_eq]

theorem execUliberAbortPulseReceived_part {pt : Part} (s : State) (hp : pt ∉ ([.layer, .decoders, .pixels, .scan, .position, .polygons, .loops, .motion, .power, .host, .telemetry, .boot] : List Part)) :
    KeepsPart pt s (execUliberAbortPulseReceived s) := by
  unfold execUliberAbortPulseReceived
  simp only [List.mem_cons, List.not_mem_nil, or_false, not_or] at hp
  simp (maxDischargeDepth := 12) only [abort_part, rejectJob_part, modPower_part, each_part, keepsPart_live, keepsPart_liveIf, keepsPart_next, hp, part_ite, ite_self, List.mem_cons, List.not_mem_nil, or_false, not_or, not_false_eq_true, and_self, implies_true, ne_eq]

theorem execUliberAbortLevel_part {pt : Part} (s : State) (hp : pt ∉ ([.layer, .decoders, .pixels, .scan, .position, .polygons, .loops, .motion, .power, .faults, .host, .telemetry, .boot] : List Part)) :
    KeepsPart pt s (execUliberAbortLevel s) := by
  unfold execUliberAbortLevel
  simp only [List.mem_cons, List.not_mem_nil, or_false, not_or] at hp
  simp (maxDischargeDepth := 12) only [requestDown_part, modPower_part, when_part, keepsPart_live, keepsPart_liveIf, keepsPart_next, hp, part_ite, ite_self, List.mem_cons, List.not_mem_nil, or_false, not_or, not_false_eq_true, and_self, implies_true, ne_eq]

end Sys2Proof.Machine
end

