-- ==== Sys2Proof/Laws/KeptThermal.lean ====
section
/-! SUPPORT. Which parts of the state each operation of Machine/Thermal.lean leaves as they are. -/

set_option linter.unusedSimpArgs false

namespace Sys2Proof.Machine

open Sys2Proof

theorem zoneMeasured_part {pt : Part} (z : Nat) (temp : Int) (s : State) (hp : pt ∉ ([.thermal, .faults] : List Part)) :
    (State.zoneMeasured z temp s).part pt = s.part pt := by
  unfold State.zoneMeasured
  simp only [List.mem_cons, List.not_mem_nil, or_false, not_or] at hp
  simp (maxDischargeDepth := 12) only [raiseIf_part, modThermal_part, hp, part_ite, ite_self, List.mem_cons, List.not_mem_nil, or_false, not_or, not_false_eq_true, and_self, implies_true, ne_eq]

theorem execTinResult_part {pt : Part} (n : Fin 16) (frame : Nat) (raw : TinRaw) (s : State) (hp : pt ∉ ([.loops, .thermal, .faults] : List Part)) :
    KeepsPart pt s (execTinResult n frame raw s) := by
  unfold execTinResult
  simp only [List.mem_cons, List.not_mem_nil, or_false, not_or] at hp
  simp (maxDischargeDepth := 12) only [raiseIf_part, zoneMeasured_part, modLoops_part, modThermal_part, when_part, each_part, keepsPart_live, keepsPart_liveIf, keepsPart_next, hp, part_ite, ite_self, List.mem_cons, List.not_mem_nil, or_false, not_or, not_false_eq_true, and_self, implies_true, ne_eq]

theorem execDieSensorRead_part {pt : Part} (t : Vector Int 12) (s : State) (hp : pt ∉ ([.thermal, .faults] : List Part)) :
    KeepsPart pt s (execDieSensorRead t s) := by
  unfold execDieSensorRead
  simp only [List.mem_cons, List.not_mem_nil, or_false, not_or] at hp
  simp (maxDischargeDepth := 12) only [raiseIf_part, modThermal_part, each_part, foldl_snd_part, keepsPart_live, keepsPart_liveIf, keepsPart_next, hp, part_ite, ite_self, List.mem_cons, List.not_mem_nil, or_false, not_or, not_false_eq_true, and_self, implies_true, ne_eq]

theorem execDieBandChange_part {pt : Part} (s : State) (hp : pt ∉ ([.scan, .thermal, .faults, .host] : List Part)) :
    KeepsPart pt s (execDieBandChange s) := by
  unfold execDieBandChange
  simp only [List.mem_cons, List.not_mem_nil, or_false, not_or] at hp
  simp (maxDischargeDepth := 12) only [raiseIf_part, supersede_part, modThermal_part, when_part, keepsPart_live, keepsPart_liveIf, keepsPart_next, hp, part_ite, ite_self, List.mem_cons, List.not_mem_nil, or_false, not_or, not_false_eq_true, and_self, implies_true, ne_eq]

theorem execThermalThrottle_part {pt : Part} (s : State) (hp : pt ∉ ([.scan, .polygons, .motion, .thermal, .faults, .host] : List Part)) :
    KeepsPart pt s (execThermalThrottle s) := by
  unfold execThermalThrottle
  simp only [List.mem_cons, List.not_mem_nil, or_false, not_or] at hp
  simp (maxDischargeDepth := 12) only [frequencyRequest_part, modThermal_part, keepsPart_live, keepsPart_liveIf, keepsPart_next, hp, part_ite, ite_self, List.mem_cons, List.not_mem_nil, or_false, not_or, not_false_eq_true, and_self, implies_true, ne_eq]

theorem slope_part {pt : Part} (s : State) (hp : pt ∉ ([.free] : List Part)) :
    (State.slope s).2.part pt = s.part pt := by
  unfold State.slope
  simp only [List.mem_cons, List.not_mem_nil, or_false, not_or] at hp
  first
  | (simp (maxDischargeDepth := 12) only [takeNat_part, hp, State.takeNat, set_free_part, part_ite, ite_self, List.mem_cons, List.not_mem_nil, or_false, not_or, not_false_eq_true, and_self, implies_true, ne_eq]; done)
  | (try dsimp only
     (repeat' split) <;> simp (maxDischargeDepth := 12) only [takeNat_part, hp, State.takeNat, set_free_part, part_ite, ite_self, List.mem_cons, List.not_mem_nil, or_false, not_or, not_false_eq_true, and_self, implies_true, ne_eq])

theorem execCriticalDecision_part {pt : Part} (s : State) (hp : pt ∉ ([.free, .layer, .decoders, .pixels, .scan, .position, .polygons, .loops, .motion, .thermal, .power] : List Part)) :
    KeepsPart pt s (execCriticalDecision s) := by
  unfold execCriticalDecision
  simp only [List.mem_cons, List.not_mem_nil, or_false, not_or] at hp
  first
  | (simp (maxDischargeDepth := 12) only [abort_part, slope_part, modThermal_part, keepsPart_live, keepsPart_liveIf, keepsPart_next, hp, part_ite, ite_self, List.mem_cons, List.not_mem_nil, or_false, not_or, not_false_eq_true, and_self, implies_true, ne_eq]; done)
  | (try dsimp only
     (repeat' split) <;> simp (maxDischargeDepth := 12) only [abort_part, slope_part, modThermal_part, keepsPart_live, keepsPart_liveIf, keepsPart_next, hp, part_ite, ite_self, List.mem_cons, List.not_mem_nil, or_false, not_or, not_false_eq_true, and_self, implies_true, ne_eq])

theorem execThermalShutdown_part {pt : Part} (s : State) (hp : pt ∉ ([.layer, .decoders, .pixels, .scan, .position, .polygons, .loops, .motion, .thermal, .power, .faults, .host, .telemetry, .boot] : List Part)) :
    KeepsPart pt s (execThermalShutdown s) := by
  unfold execThermalShutdown
  simp only [List.mem_cons, List.not_mem_nil, or_false, not_or] at hp
  simp (maxDischargeDepth := 12) only [powerLog_part, pseLog_part, raise_part, requestDown_part, modThermal_part, keepsPart_live, keepsPart_liveIf, keepsPart_next, hp, part_ite, ite_self, List.mem_cons, List.not_mem_nil, or_false, not_or, not_false_eq_true, and_self, implies_true, ne_eq]

theorem execThermalTrip_part {pt : Part} (i : Fin 12) (s : State) (hp : pt ∉ ([.layer, .decoders, .pixels, .scan, .position, .polygons, .loops, .motion, .thermal, .power, .faults, .host, .telemetry, .boot] : List Part)) :
    KeepsPart pt s (execThermalTrip i s) := by
  unfold execThermalTrip
  simp only [List.mem_cons, List.not_mem_nil, or_false, not_or] at hp
  simp (maxDischargeDepth := 12) only [raiseD_part, requestDown_part, modPower_part, modThermal_part, keepsPart_live, keepsPart_liveIf, keepsPart_next, hp, part_ite, ite_self, List.mem_cons, List.not_mem_nil, or_false, not_or, not_false_eq_true, and_self, implies_true, ne_eq]

end Sys2Proof.Machine
end

