-- ==== Sys2Proof/Laws/KeptFaults.lean ====
section
/-! SUPPORT. Which parts of the state each operation of Machine/Faults.lean leaves as they are. -/

set_option linter.unusedSimpArgs false

namespace Sys2Proof.Machine

open Sys2Proof

theorem faultJob_part {pt : Part} (src inst : Nat) (j : Job) (s : State) (hp : pt ∉ ([.layer, .decoders, .pixels, .position, .loops, .power, .host, .telemetry, .boot] : List Part)) :
    (State.faultJob src inst j s).part pt = s.part pt := by
  unfold State.faultJob
  simp only [List.mem_cons, List.not_mem_nil, or_false, not_or] at hp
  first
  | (simp (maxDischargeDepth := 12) only [drivePulse_part, endJob_part, modJob_part, requeueJob_part, hp, part_ite, ite_self, List.mem_cons, List.not_mem_nil, or_false, not_or, not_false_eq_true, and_self, implies_true, ne_eq]; done)
  | (try dsimp only
     (repeat' split) <;> simp (maxDischargeDepth := 12) only [drivePulse_part, endJob_part, modJob_part, requeueJob_part, hp, part_ite, ite_self, List.mem_cons, List.not_mem_nil, or_false, not_or, not_false_eq_true, and_self, implies_true, ne_eq])

theorem severeStop_part {pt : Part} (s : State) (hp : pt ∉ ([.motion] : List Part)) :
    (State.severeStop s).part pt = s.part pt := by
  unfold State.severeStop
  simp only [List.mem_cons, List.not_mem_nil, or_false, not_or] at hp
  simp (maxDischargeDepth := 12) only [modServo_part, hp, part_ite, ite_self, List.mem_cons, List.not_mem_nil, or_false, not_or, not_false_eq_true, and_self, implies_true, ne_eq]

theorem severeReaction_part {pt : Part} (cls : FaultClass) (src inst : Nat) (s : State) (hp : pt ∉ ([.layer, .decoders, .pixels, .scan, .position, .polygons, .loops, .motion, .power, .faults, .host, .telemetry, .boot] : List Part)) :
    (State.severeReaction cls src inst s).part pt = s.part pt := by
  unfold State.severeReaction
  simp only [List.mem_cons, List.not_mem_nil, or_false, not_or] at hp
  simp (maxDischargeDepth := 12) only [abort_part, faultJob_part, forceOff_part, hvHardware_part, severeStop_part, stopSteppers_part, each_part, hp, part_ite, ite_self, List.mem_cons, List.not_mem_nil, or_false, not_or, not_false_eq_true, and_self, implies_true, ne_eq]

theorem graveGates_part {pt : Part} (s : State) (hp : pt ∉ ([.polygons, .loops, .motion, .faults] : List Part)) :
    (State.graveGates s).part pt = s.part pt := by
  unfold State.graveGates
  simp only [List.mem_cons, List.not_mem_nil, or_false, not_or] at hp
  simp (maxDischargeDepth := 12) only [heatersOff_part, hvGrave_part, motionOff_part, allPolygons_part, hp, part_ite, ite_self, List.mem_cons, List.not_mem_nil, or_false, not_or, not_false_eq_true, and_self, implies_true, ne_eq]

theorem react_part {pt : Part} (cls : FaultClass) (src inst : Nat) (s : State) (hp : pt ∉ ([.layer, .decoders, .pixels, .scan, .position, .polygons, .loops, .motion, .power, .faults, .host, .telemetry, .boot] : List Part)) :
    (State.react cls src inst s).part pt = s.part pt := by
  unfold State.react
  simp only [List.mem_cons, List.not_mem_nil, or_false, not_or] at hp
  simp (maxDischargeDepth := 12) only [graveGates_part, severeReaction_part, modFaults_part, when_part, hp, part_ite, ite_self, List.mem_cons, List.not_mem_nil, or_false, not_or, not_false_eq_true, and_self, implies_true, ne_eq]

theorem execPixelPllUnlock_part {pt : Part} (s : State) (hp : pt ∉ ([.layer, .decoders, .pixels, .scan, .position, .polygons, .loops, .motion, .power, .faults, .host, .telemetry, .boot] : List Part)) :
    KeepsPart pt s (execPixelPllUnlock s) := by
  unfold execPixelPllUnlock
  simp only [List.mem_cons, List.not_mem_nil, or_false, not_or] at hp
  first
  | (simp (maxDischargeDepth := 12) only [raise_part, react_part, stopClocks_part, modFaults_part, keepsPart_live, keepsPart_liveIf, keepsPart_next, hp, part_ite, ite_self, List.mem_cons, List.not_mem_nil, or_false, not_or, not_false_eq_true, and_self, implies_true, ne_eq]; done)
  | (try dsimp only
     (repeat' split) <;> simp (maxDischargeDepth := 12) only [raise_part, react_part, stopClocks_part, modFaults_part, keepsPart_live, keepsPart_liveIf, keepsPart_next, hp, part_ite, ite_self, List.mem_cons, List.not_mem_nil, or_false, not_or, not_false_eq_true, and_self, implies_true, ne_eq])

theorem execFaultFastPath_part {pt : Part} (s : State) (hp : pt ∉ ([.layer, .decoders, .pixels, .scan, .position, .polygons, .loops, .motion, .power, .faults, .host, .telemetry, .boot] : List Part)) :
    KeepsPart pt s (execFaultFastPath s) := by
  unfold execFaultFastPath
  simp only [List.mem_cons, List.not_mem_nil, or_false, not_or] at hp
  try dsimp only
  (repeat' split) <;> simp (maxDischargeDepth := 12) only [react_part, modFaults_part, keepsPart_live, keepsPart_liveIf, keepsPart_next, hp, part_ite, ite_self, List.mem_cons, List.not_mem_nil, or_false, not_or, not_false_eq_true, and_self, implies_true, ne_eq]

theorem faultRecord_part {pt : Part} (body : List Byte) (s : State) (hp : pt ∉ ([.faults] : List Part)) :
    (State.faultRecord body s).part pt = s.part pt := by
  unfold State.faultRecord
  simp only [List.mem_cons, List.not_mem_nil, or_false, not_or] at hp
  simp (maxDischargeDepth := 12) only [modFaults_part, hp, part_ite, ite_self, List.mem_cons, List.not_mem_nil, or_false, not_or, not_false_eq_true, and_self, implies_true, ne_eq]

theorem faultEventRecord_part {pt : Part} (body : List Byte) (s : State) (hp : pt ∉ ([.faults, .host] : List Part)) :
    (State.faultEventRecord body s).part pt = s.part pt := by
  unfold State.faultEventRecord
  simp only [List.mem_cons, List.not_mem_nil, or_false, not_or] at hp
  simp (maxDischargeDepth := 12) only [record_part, hp, part_ite, ite_self, List.mem_cons, List.not_mem_nil, or_false, not_or, not_false_eq_true, and_self, implies_true, ne_eq]

theorem askRestrictedSpeed_part {pt : Part} (old : Nat) (s : State) (hp : pt ∉ ([.scan, .polygons, .motion, .thermal, .faults, .host] : List Part)) :
    (State.askRestrictedSpeed old s).part pt = s.part pt := by
  unfold State.askRestrictedSpeed
  simp only [List.mem_cons, List.not_mem_nil, or_false, not_or] at hp
  simp (maxDischargeDepth := 12) only [frequencyRequest_part, when_part, hp, part_ite, ite_self, List.mem_cons, List.not_mem_nil, or_false, not_or, not_false_eq_true, and_self, implies_true, ne_eq]

theorem applyRestriction_part {pt : Part} (src old : Nat) (s : State) (hp : pt ∉ ([.layer, .scan, .polygons, .motion, .thermal, .faults, .host] : List Part)) :
    (State.applyRestriction src old s).part pt = s.part pt := by
  unfold State.applyRestriction
  simp only [List.mem_cons, List.not_mem_nil, or_false, not_or] at hp
  try dsimp only
  (repeat' split) <;> simp (maxDischargeDepth := 12) only [askRestrictedSpeed_part, modFaults_part, modLayer_part, hp, part_ite, ite_self, List.mem_cons, List.not_mem_nil, or_false, not_or, not_false_eq_true, and_self, implies_true, ne_eq]

theorem snapTrigger_part {pt : Part} (src : Nat) (cls : FaultClass) (record : List Byte) (s : State) (hp : pt ∉ ([.telemetry] : List Part)) :
    (State.snapTrigger src cls record s).part pt = s.part pt := by
  unfold State.snapTrigger
  simp only [List.mem_cons, List.not_mem_nil, or_false, not_or] at hp
  simp (maxDischargeDepth := 12) only [modTelemetry_part, hp, part_ite, ite_self, List.mem_cons, List.not_mem_nil, or_false, not_or, not_false_eq_true, and_self, implies_true, ne_eq]

theorem collect_part {pt : Part} (e : FaultEvent) (s : State) (hp : pt ∉ ([.free, .layer, .decoders, .pixels, .scan, .position, .polygons, .loops, .motion, .thermal, .power, .faults, .host, .telemetry, .boot] : List Part)) :
    (State.collect e s).part pt = s.part pt := by
  unfold State.collect
  simp only [List.mem_cons, List.not_mem_nil, or_false, not_or] at hp
  first
  | (simp (maxDischargeDepth := 12) only [applyRestriction_part, faultEventRecord_part, faultRecord_part, react_part, snapTrigger_part, takeNat_part, modFaults_part, when_part, hp, State.takeNat, set_free_part, part_ite, ite_self, List.mem_cons, List.not_mem_nil, or_false, not_or, not_false_eq_true, and_self, implies_true, ne_eq]; done)
  | (try dsimp only
     (repeat' split) <;> simp (maxDischargeDepth := 12) only [applyRestriction_part, faultEventRecord_part, faultRecord_part, react_part, snapTrigger_part, takeNat_part, modFaults_part, when_part, hp, State.takeNat, set_free_part, part_ite, ite_self, List.mem_cons, List.not_mem_nil, or_false, not_or, not_false_eq_true, and_self, implies_true, ne_eq])

theorem stormEvent_part {pt : Part} (s : State) (hp : pt ∉ ([.faults] : List Part)) :
    (State.stormEvent s).part pt = s.part pt := by
  unfold State.stormEvent
  simp only [List.mem_cons, List.not_mem_nil, or_false, not_or] at hp
  simp (maxDischargeDepth := 12) only [raise_part, modFaults_part, when_part, hp, part_ite, ite_self, List.mem_cons, List.not_mem_nil, or_false, not_or, not_false_eq_true, and_self, implies_true, ne_eq]

theorem execFaultEvent_part {pt : Part} (s : State) (hp : pt ∉ ([.free, .layer, .decoders, .pixels, .scan, .position, .polygons, .loops, .motion, .thermal, .power, .faults, .host, .telemetry, .boot] : List Part)) :
    KeepsPart pt s (execFaultEvent s) := by
  unfold execFaultEvent
  simp only [List.mem_cons, List.not_mem_nil, or_false, not_or] at hp
  first
  | (simp (maxDischargeDepth := 12) only [collect_part, stormEvent_part, modFaults_part, keepsPart_live, keepsPart_liveIf, keepsPart_next, hp, part_ite, ite_self, List.mem_cons, List.not_mem_nil, or_false, not_or, not_false_eq_true, and_self, implies_true, ne_eq]; done)
  | (try dsimp only
     (repeat' split) <;> simp (maxDischargeDepth := 12) only [collect_part, stormEvent_part, modFaults_part, keepsPart_live, keepsPart_liveIf, keepsPart_next, hp, part_ite, ite_self, List.mem_cons, List.not_mem_nil, or_false, not_or, not_false_eq_true, and_self, implies_true, ne_eq])

theorem execFaultQueueOverflow_part {pt : Part} (src : Source) (inst : Fin 64) (s : State) (hp : pt ∉ ([.faults] : List Part)) :
    KeepsPart pt s (execFaultQueueOverflow src inst s) := by
  unfold execFaultQueueOverflow
  simp only [List.mem_cons, List.not_mem_nil, or_false, not_or] at hp
  simp (maxDischargeDepth := 12) only [raise_part, keepsPart_live, keepsPart_liveIf, keepsPart_next, hp, part_ite, ite_self, List.mem_cons, List.not_mem_nil, or_false, not_or, not_false_eq_true, and_self, implies_true, ne_eq]

theorem execClassFallback_part {pt : Part} (src : Fin 256) (inst : Fin 64) (s : State) (hp : pt ∉ ([.faults] : List Part)) :
    KeepsPart pt s (execClassFallback src inst s) := by
  unfold execClassFallback
  simp only [List.mem_cons, List.not_mem_nil, or_false, not_or] at hp
  first
  | (simp (maxDischargeDepth := 12) only [faultRecord_part, modFaults_part, keepsPart_live, keepsPart_liveIf, keepsPart_next, hp, part_ite, ite_self, List.mem_cons, List.not_mem_nil, or_false, not_or, not_false_eq_true, and_self, implies_true, ne_eq]; done)
  | (try dsimp only
     (repeat' split) <;> simp (maxDischargeDepth := 12) only [faultRecord_part, modFaults_part, keepsPart_live, keepsPart_liveIf, keepsPart_next, hp, part_ite, ite_self, List.mem_cons, List.not_mem_nil, or_false, not_or, not_false_eq_true, and_self, implies_true, ne_eq])

theorem execSuppressedRecord_part {pt : Part} (src : Fin 256) (inst : Fin 64) (s : State) (hp : pt ∉ ([.faults] : List Part)) :
    KeepsPart pt s (execSuppressedRecord src inst s) := by
  unfold execSuppressedRecord
  simp only [List.mem_cons, List.not_mem_nil, or_false, not_or] at hp
  first
  | (simp (maxDischargeDepth := 12) only [faultRecord_part, modFaults_part, keepsPart_live, keepsPart_liveIf, keepsPart_next, hp, part_ite, ite_self, List.mem_cons, List.not_mem_nil, or_false, not_or, not_false_eq_true, and_self, implies_true, ne_eq]; done)
  | (try dsimp only
     (repeat' split) <;> simp (maxDischargeDepth := 12) only [faultRecord_part, modFaults_part, keepsPart_live, keepsPart_liveIf, keepsPart_next, hp, part_ite, ite_self, List.mem_cons, List.not_mem_nil, or_false, not_or, not_false_eq_true, and_self, implies_true, ne_eq])

theorem execFaultLogWrite_part {pt : Part} (verified : Bool) (s : State) (hp : pt ∉ ([.faults, .logs] : List Part)) :
    KeepsPart pt s (execFaultLogWrite verified s) := by
  unfold execFaultLogWrite
  simp only [List.mem_cons, List.not_mem_nil, or_false, not_or] at hp
  first
  | (simp (maxDischargeDepth := 12) only [raise_part, modFaults_part, modLogs_part, set_faults_part, keepsPart_live, keepsPart_liveIf, keepsPart_next, hp, part_ite, ite_self, List.mem_cons, List.not_mem_nil, or_false, not_or, not_false_eq_true, and_self, implies_true, ne_eq]; done)
  | (try dsimp only
     (repeat' split) <;> simp (maxDischargeDepth := 12) only [raise_part, modFaults_part, modLogs_part, set_faults_part, keepsPart_live, keepsPart_liveIf, keepsPart_next, hp, part_ite, ite_self, List.mem_cons, List.not_mem_nil, or_false, not_or, not_false_eq_true, and_self, implies_true, ne_eq])

theorem execGraveLatch_part {pt : Part} (s : State) (hp : pt ∉ ([.layer, .decoders, .pixels, .scan, .position, .polygons, .loops, .motion, .power, .faults, .host, .telemetry, .boot] : List Part)) :
    KeepsPart pt s (execGraveLatch s) := by
  unfold execGraveLatch
  simp only [List.mem_cons, List.not_mem_nil, or_false, not_or] at hp
  simp (maxDischargeDepth := 12) only [graveGates_part, requestDown_part, modFaults_part, modPower_part, when_part, keepsPart_live, keepsPart_liveIf, keepsPart_next, hp, part_ite, ite_self, List.mem_cons, List.not_mem_nil, or_false, not_or, not_false_eq_true, and_self, implies_true, ne_eq]

theorem execAlivePeriodEnd_part {pt : Part} (s : State) (hp : pt ∉ ([.faults] : List Part)) :
    KeepsPart pt s (execAlivePeriodEnd s) := by
  unfold execAlivePeriodEnd
  simp only [List.mem_cons, List.not_mem_nil, or_false, not_or] at hp
  simp (maxDischargeDepth := 12) only [raiseIf_part, modFaults_part, keepsPart_live, keepsPart_liveIf, keepsPart_next, hp, part_ite, ite_self, List.mem_cons, List.not_mem_nil, or_false, not_or, not_false_eq_true, and_self, implies_true, ne_eq]

theorem execHeartbeatWrite_part {pt : Part} (s : State) (hp : pt ∉ ([.faults] : List Part)) :
    KeepsPart pt s (execHeartbeatWrite s) := by
  unfold execHeartbeatWrite
  simp only [List.mem_cons, List.not_mem_nil, or_false, not_or] at hp
  simp (maxDischargeDepth := 12) only [modFaults_part, keepsPart_live, keepsPart_liveIf, keepsPart_next, hp, part_ite, ite_self, List.mem_cons, List.not_mem_nil, or_false, not_or, not_false_eq_true, and_self, implies_true, ne_eq]

theorem lsafeAsserted_part {pt : Part} (s : State) (hp : pt ∉ ([.layer, .decoders, .pixels, .scan, .position, .polygons, .loops, .motion, .power, .faults, .host, .telemetry, .boot] : List Part)) :
    (State.lsafeAsserted s).part pt = s.part pt := by
  unfold State.lsafeAsserted
  simp only [List.mem_cons, List.not_mem_nil, or_false, not_or] at hp
  simp (maxDischargeDepth := 12) only [forceOff_part, raise_part, react_part, modFaults_part, hp, part_ite, ite_self, List.mem_cons, List.not_mem_nil, or_false, not_or, not_false_eq_true, and_self, implies_true, ne_eq]

theorem execLsafeAssert_part {pt : Part} (s : State) (hp : pt ∉ ([.layer, .decoders, .pixels, .scan, .position, .polygons, .loops, .motion, .power, .faults, .host, .telemetry, .boot, .pins] : List Part)) :
    KeepsPart pt s (execLsafeAssert s) := by
  unfold execLsafeAssert
  simp only [List.mem_cons, List.not_mem_nil, or_false, not_or] at hp
  simp (maxDischargeDepth := 12) only [lsafeAsserted_part, modPins_part, keepsPart_live, keepsPart_liveIf, keepsPart_next, hp, part_ite, ite_self, List.mem_cons, List.not_mem_nil, or_false, not_or, not_false_eq_true, and_self, implies_true, ne_eq]

theorem execLsafeNRelease_part {pt : Part} (s : State) (hp : pt ∉ ([.faults, .pins] : List Part)) :
    KeepsPart pt s (execLsafeNRelease s) := by
  unfold execLsafeNRelease
  simp only [List.mem_cons, List.not_mem_nil, or_false, not_or] at hp
  simp (maxDischargeDepth := 12) only [modFaults_part, modPins_part, keepsPart_live, keepsPart_liveIf, keepsPart_next, hp, part_ite, ite_self, List.mem_cons, List.not_mem_nil, or_false, not_or, not_false_eq_true, and_self, implies_true, ne_eq]

theorem execLenAssert_part {pt : Part} (s : State) (hp : pt ∉ ([.faults] : List Part)) :
    KeepsPart pt s (execLenAssert s) := by
  unfold execLenAssert
  simp only [List.mem_cons, List.not_mem_nil, or_false, not_or] at hp
  simp (maxDischargeDepth := 12) only [modFaults_part, keepsPart_live, keepsPart_liveIf, keepsPart_next, hp, part_ite, ite_self, List.mem_cons, List.not_mem_nil, or_false, not_or, not_false_eq_true, and_self, implies_true, ne_eq]

theorem clearInst_part {pt : Part} (i : FaultInst) (reported : List (Nat × Nat)) (s : State) (hp : pt ∉ ([.faults] : List Part)) :
    (State.clearInst i reported s).2.part pt = s.part pt := by
  unfold State.clearInst
  simp only [List.mem_cons, List.not_mem_nil, or_false, not_or] at hp
  first
  | (simp (maxDischargeDepth := 12) only [faultRecord_part, modFaults_part, hp, part_ite, ite_self, List.mem_cons, List.not_mem_nil, or_false, not_or, not_false_eq_true, and_self, implies_true, ne_eq]; done)
  | (try dsimp only
     (repeat' split) <;> simp (maxDischargeDepth := 12) only [faultRecord_part, modFaults_part, hp, part_ite, ite_self, List.mem_cons, List.not_mem_nil, or_false, not_or, not_false_eq_true, and_self, implies_true, ne_eq])

theorem lastCleared_part {pt : Part} (before : Bool) (s : State) (hp : pt ∉ ([.motion, .faults] : List Part)) :
    (State.lastCleared before s).part pt = s.part pt := by
  unfold State.lastCleared
  simp only [List.mem_cons, List.not_mem_nil, or_false, not_or] at hp
  simp (maxDischargeDepth := 12) only [modBus_part, modFaults_part, when_part, hp, part_ite, ite_self, List.mem_cons, List.not_mem_nil, or_false, not_or, not_false_eq_true, and_self, implies_true, ne_eq]

theorem clearFaults_part {pt : Part} (scope src inst : Nat) (reported : List (Nat × Nat)) (s : State) (hp : pt ∉ ([.scan, .polygons, .motion, .thermal, .faults, .host] : List Part)) :
    (State.clearFaults scope src inst reported s).2.part pt = s.part pt := by
  unfold State.clearFaults
  simp only [List.mem_cons, List.not_mem_nil, or_false, not_or] at hp
  simp (maxDischargeDepth := 12) only [askRestrictedSpeed_part, clearInst_part, lastCleared_part, modFaults_part, foldl_snd_part, hp, part_ite, ite_self, List.mem_cons, List.not_mem_nil, or_false, not_or, not_false_eq_true, and_self, implies_true, ne_eq]

end Sys2Proof.Machine
end

