-- ==== Sys2Proof/Laws/KeptLayer.lean ====
section
/-! SUPPORT. Which parts of the state each operation of Machine/Layer.lean leaves as they are. -/

set_option linter.unusedSimpArgs false

namespace Sys2Proof.Machine

open Sys2Proof

theorem endByRetest_part {pt : Part} (seq n : Nat) (s : State) (hp : pt ∉ ([.layer, .decoders, .pixels, .position, .loops, .host, .telemetry, .boot] : List Part)) :
    (State.endByRetest seq n s).part pt = s.part pt := by
  unfold State.endByRetest
  simp only [List.mem_cons, List.not_mem_nil, or_false, not_or] at hp
  first
  | (simp (maxDischargeDepth := 12) only [endJob_part, hp, part_ite, ite_self, List.mem_cons, List.not_mem_nil, or_false, not_or, not_false_eq_true, and_self, implies_true, ne_eq]; done)
  | (try dsimp only
     (repeat' split) <;> simp (maxDischargeDepth := 12) only [endJob_part, hp, part_ite, ite_self, List.mem_cons, List.not_mem_nil, or_false, not_or, not_false_eq_true, and_self, implies_true, ne_eq])

theorem admitJob_part {pt : Part} (seq : Nat) (s : State) (hp : pt ∉ ([.layer] : List Part)) :
    (State.admitJob seq s).part pt = s.part pt := by
  unfold State.admitJob
  simp only [List.mem_cons, List.not_mem_nil, or_false, not_or] at hp
  simp (maxDischargeDepth := 12) only [modJob_part, modLayer_part, hp, part_ite, ite_self, List.mem_cons, List.not_mem_nil, or_false, not_or, not_false_eq_true, and_self, implies_true, ne_eq]

theorem execAdmissionEvaluation_part {pt : Part} (s : State) (hp : pt ∉ ([.layer, .decoders, .pixels, .position, .loops, .host, .telemetry, .boot] : List Part)) :
    KeepsPart pt s (execAdmissionEvaluation s) := by
  unfold execAdmissionEvaluation
  simp only [List.mem_cons, List.not_mem_nil, or_false, not_or] at hp
  first
  | (simp (maxDischargeDepth := 12) only [admitJob_part, rejectJob_part, modLayer_part, keepsPart_live, keepsPart_liveIf, keepsPart_next, hp, part_ite, ite_self, List.mem_cons, List.not_mem_nil, or_false, not_or, not_false_eq_true, and_self, implies_true, ne_eq]; done)
  | (try dsimp only
     (repeat' split) <;> simp (maxDischargeDepth := 12) only [admitJob_part, rejectJob_part, modLayer_part, keepsPart_live, keepsPart_liveIf, keepsPart_next, hp, part_ite, ite_self, List.mem_cons, List.not_mem_nil, or_false, not_or, not_false_eq_true, and_self, implies_true, ne_eq])

theorem execAdmitTimeout_part {pt : Part} (s : State) (hp : pt ∉ ([.layer, .decoders, .pixels, .position, .loops, .host, .telemetry, .boot] : List Part)) :
    KeepsPart pt s (execAdmitTimeout s) := by
  unfold execAdmitTimeout
  simp only [List.mem_cons, List.not_mem_nil, or_false, not_or] at hp
  first
  | (simp (maxDischargeDepth := 12) only [rejectJob_part, keepsPart_live, keepsPart_liveIf, keepsPart_next, hp, part_ite, ite_self, List.mem_cons, List.not_mem_nil, or_false, not_or, not_false_eq_true, and_self, implies_true, ne_eq]; done)
  | (try dsimp only
     (repeat' split) <;> simp (maxDischargeDepth := 12) only [rejectJob_part, keepsPart_live, keepsPart_liveIf, keepsPart_next, hp, part_ite, ite_self, List.mem_cons, List.not_mem_nil, or_false, not_or, not_false_eq_true, and_self, implies_true, ne_eq])

theorem admittedFails_part {pt : Part} (j : Job) (n : Nat) (s : State) (hp : pt ∉ ([.layer, .decoders, .pixels, .position, .loops, .power, .host, .telemetry, .boot] : List Part)) :
    (State.admittedFails j n s).part pt = s.part pt := by
  unfold State.admittedFails
  simp only [List.mem_cons, List.not_mem_nil, or_false, not_or] at hp
  simp (maxDischargeDepth := 12) only [drivePulse_part, rejectJob_part, requeueJob_part, hp, part_ite, ite_self, List.mem_cons, List.not_mem_nil, or_false, not_or, not_false_eq_true, and_self, implies_true, ne_eq]

theorem execAdmittedRequeue_part {pt : Part} (s : State) (hp : pt ∉ ([.layer, .decoders, .pixels, .position, .loops, .power, .host, .telemetry, .boot] : List Part)) :
    KeepsPart pt s (execAdmittedRequeue s) := by
  unfold execAdmittedRequeue
  simp only [List.mem_cons, List.not_mem_nil, or_false, not_or] at hp
  first
  | (simp (maxDischargeDepth := 12) only [admittedFails_part, modJob_part, keepsPart_live, keepsPart_liveIf, keepsPart_next, hp, part_ite, ite_self, List.mem_cons, List.not_mem_nil, or_false, not_or, not_false_eq_true, and_self, implies_true, ne_eq]; done)
  | (try dsimp only
     (repeat' split) <;> simp (maxDischargeDepth := 12) only [admittedFails_part, modJob_part, keepsPart_live, keepsPart_liveIf, keepsPart_next, hp, part_ite, ite_self, List.mem_cons, List.not_mem_nil, or_false, not_or, not_false_eq_true, and_self, implies_true, ne_eq])

theorem beginArming_part {pt : Part} (j : Job) (overlapped : Bool) (s : State) (hp : pt ∉ ([.layer, .position, .host] : List Part)) :
    (State.beginArming j overlapped s).part pt = s.part pt := by
  unfold State.beginArming
  simp only [List.mem_cons, List.not_mem_nil, or_false, not_or] at hp
  simp (maxDischargeDepth := 12) only [markDue_part, modJob_part, modPosition_part, hp, part_ite, ite_self, List.mem_cons, List.not_mem_nil, or_false, not_or, not_false_eq_true, and_self, implies_true, ne_eq]

theorem execArmingStart_part {pt : Part} (s : State) (hp : pt ∉ ([.layer, .position, .host] : List Part)) :
    KeepsPart pt s (execArmingStart s) := by
  unfold execArmingStart
  simp only [List.mem_cons, List.not_mem_nil, or_false, not_or] at hp
  first
  | (simp (maxDischargeDepth := 12) only [beginArming_part, keepsPart_live, keepsPart_liveIf, keepsPart_next, hp, part_ite, ite_self, List.mem_cons, List.not_mem_nil, or_false, not_or, not_false_eq_true, and_self, implies_true, ne_eq]; done)
  | (try dsimp only
     (repeat' split) <;> simp (maxDischargeDepth := 12) only [beginArming_part, keepsPart_live, keepsPart_liveIf, keepsPart_next, hp, part_ite, ite_self, List.mem_cons, List.not_mem_nil, or_false, not_or, not_false_eq_true, and_self, implies_true, ne_eq])

theorem execOverlapTest_part {pt : Part} (s : State) (hp : pt ∉ ([.layer, .position, .host] : List Part)) :
    KeepsPart pt s (execOverlapTest s) := by
  unfold execOverlapTest
  simp only [List.mem_cons, List.not_mem_nil, or_false, not_or] at hp
  try dsimp only
  (repeat' split) <;> simp (maxDischargeDepth := 12) only [beginArming_part, keepsPart_live, keepsPart_liveIf, keepsPart_next, hp, part_ite, ite_self, List.mem_cons, List.not_mem_nil, or_false, not_or, not_false_eq_true, and_self, implies_true, ne_eq]

theorem latchArmed_part {pt : Part} (s : State) (hp : pt ∉ ([.pixels, .position, .loops, .motion, .thermal] : List Part)) :
    (State.latchArmed s).part pt = s.part pt := by
  unfold State.latchArmed
  simp only [List.mem_cons, List.not_mem_nil, or_false, not_or] at hp
  simp (maxDischargeDepth := 12) only [modLoops_part, modMotion_part, modPosition_part, modThermal_part, set_pixels_part, set_pixels_part, hp, part_ite, ite_self, List.mem_cons, List.not_mem_nil, or_false, not_or, not_false_eq_true, and_self, implies_true, ne_eq]

theorem armLists_part {pt : Part} (j : Job) (s : State) (hp : pt ∉ ([.position, .faults] : List Part)) :
    (State.armLists j s).part pt = s.part pt := by
  unfold State.armLists
  simp only [List.mem_cons, List.not_mem_nil, or_false, not_or] at hp
  simp (maxDischargeDepth := 12) only [eachCompare_part, missCompare_part, each_part, hp, part_ite, ite_self, List.mem_cons, List.not_mem_nil, or_false, not_or, not_false_eq_true, and_self, implies_true, ne_eq]

theorem armMeridians_part {pt : Part} (j : Job) (s : State) (hp : pt ∉ ([.position] : List Part)) :
    (State.armMeridians j s).part pt = s.part pt := by
  unfold State.armMeridians
  simp only [List.mem_cons, List.not_mem_nil, or_false, not_or] at hp
  simp (maxDischargeDepth := 12) only [modPosition_part, hp, part_ite, ite_self, List.mem_cons, List.not_mem_nil, or_false, not_or, not_false_eq_true, and_self, implies_true, ne_eq]

theorem arm_part {pt : Part} (j : Job) (s : State) (hp : pt ∉ ([.layer, .decoders, .pixels, .position, .loops, .motion, .thermal, .faults, .host, .telemetry, .boot] : List Part)) :
    (State.arm j s).part pt = s.part pt := by
  unfold State.arm
  simp only [List.mem_cons, List.not_mem_nil, or_false, not_or] at hp
  simp (maxDischargeDepth := 12) only [armLists_part, armMeridians_part, beginLower_part, latchArmed_part, modJob_part, sendConfig_part, modPixel_part, when_part, each_part, hp, part_ite, ite_self, List.mem_cons, List.not_mem_nil, or_false, not_or, not_false_eq_true, and_self, implies_true, ne_eq]

theorem execArmingComplete_part {pt : Part} (s : State) (hp : pt ∉ ([.layer, .decoders, .pixels, .scan, .position, .polygons, .loops, .motion, .thermal, .power, .faults, .host, .telemetry, .boot] : List Part)) :
    KeepsPart pt s (execArmingComplete s) := by
  unfold execArmingComplete
  simp only [List.mem_cons, List.not_mem_nil, or_false, not_or] at hp
  first
  | (simp (maxDischargeDepth := 12) only [arm_part, drivePulse_part, endByRetest_part, endJob_part, meridianMissed_part, raise_part, modPosition_part, each_part, keepsPart_live, keepsPart_liveIf, keepsPart_next, hp, part_ite, ite_self, List.mem_cons, List.not_mem_nil, or_false, not_or, not_false_eq_true, and_self, implies_true, ne_eq]; done)
  | (try dsimp only
     (repeat' split) <;> simp (maxDischargeDepth := 12) only [arm_part, drivePulse_part, endByRetest_part, endJob_part, meridianMissed_part, raise_part, modPosition_part, each_part, keepsPart_live, keepsPart_liveIf, keepsPart_next, hp, part_ite, ite_self, List.mem_cons, List.not_mem_nil, or_false, not_or, not_false_eq_true, and_self, implies_true, ne_eq])

theorem execArmedRetestFail_part {pt : Part} (s : State) (hp : pt ∉ ([.layer, .decoders, .pixels, .position, .loops, .host, .telemetry, .boot] : List Part)) :
    KeepsPart pt s (execArmedRetestFail s) := by
  unfold execArmedRetestFail
  simp only [List.mem_cons, List.not_mem_nil, or_false, not_or] at hp
  try dsimp only
  (repeat' split) <;> simp (maxDischargeDepth := 12) only [endByRetest_part, keepsPart_live, keepsPart_liveIf, keepsPart_next, hp, part_ite, ite_self, List.mem_cons, List.not_mem_nil, or_false, not_or, not_false_eq_true, and_self, implies_true, ne_eq]

theorem execLayerAbortSequence_part {pt : Part} (s : State) (hp : pt ∉ ([.layer, .decoders, .pixels, .scan, .position, .polygons, .loops, .motion, .power, .faults, .host, .telemetry, .boot] : List Part)) :
    KeepsPart pt s (execLayerAbortSequence s) := by
  unfold execLayerAbortSequence
  simp only [List.mem_cons, List.not_mem_nil, or_false, not_or] at hp
  first
  | (simp (maxDischargeDepth := 12) only [abort_part, meridianMissed_part, modFaults_part, keepsPart_live, keepsPart_liveIf, keepsPart_next, hp, part_ite, ite_self, List.mem_cons, List.not_mem_nil, or_false, not_or, not_false_eq_true, and_self, implies_true, ne_eq]; done)
  | (try dsimp only
     (repeat' split) <;> simp (maxDischargeDepth := 12) only [abort_part, meridianMissed_part, modFaults_part, keepsPart_live, keepsPart_liveIf, keepsPart_next, hp, part_ite, ite_self, List.mem_cons, List.not_mem_nil, or_false, not_or, not_false_eq_true, and_self, implies_true, ne_eq])

theorem execAbortEnd_part {pt : Part} (s : State) (hp : pt ∉ ([.layer, .decoders, .pixels, .position, .loops, .host, .telemetry, .boot] : List Part)) :
    KeepsPart pt s (execAbortEnd s) := by
  unfold execAbortEnd
  simp only [List.mem_cons, List.not_mem_nil, or_false, not_or] at hp
  simp (maxDischargeDepth := 12) only [endJob_part, modLayer_part, keepsPart_live, keepsPart_liveIf, keepsPart_next, hp, part_ite, ite_self, List.mem_cons, List.not_mem_nil, or_false, not_or, not_false_eq_true, and_self, implies_true, ne_eq]

theorem execPostFaultEnd_part {pt : Part} (s : State) (hp : pt ∉ ([.layer, .decoders, .pixels, .position, .loops, .host, .telemetry, .boot] : List Part)) :
    KeepsPart pt s (execPostFaultEnd s) := by
  unfold execPostFaultEnd
  simp only [List.mem_cons, List.not_mem_nil, or_false, not_or] at hp
  first
  | (simp (maxDischargeDepth := 12) only [endJob_part, keepsPart_live, keepsPart_liveIf, keepsPart_next, hp, part_ite, ite_self, List.mem_cons, List.not_mem_nil, or_false, not_or, not_false_eq_true, and_self, implies_true, ne_eq]; done)
  | (try dsimp only
     (repeat' split) <;> simp (maxDischargeDepth := 12) only [endJob_part, keepsPart_live, keepsPart_liveIf, keepsPart_next, hp, part_ite, ite_self, List.mem_cons, List.not_mem_nil, or_false, not_or, not_false_eq_true, and_self, implies_true, ne_eq])

end Sys2Proof.Machine
end

