-- ==== Sys2Proof/Laws/KeptSurvey.lean ====
section
/-! SUPPORT. Which parts of the state each operation of Machine/Survey.lean leaves as they are. -/

set_option linter.unusedSimpArgs false

namespace Sys2Proof.Machine

open Sys2Proof

theorem replanMargins_part {pt : Part} (old : Survey) (s : State) (hp : pt ∉ ([.scan, .power, .faults, .survey] : List Part)) :
    (State.replanMargins old s).part pt = s.part pt := by
  unfold State.replanMargins
  simp only [List.mem_cons, List.not_mem_nil, or_false, not_or] at hp
  simp (maxDischargeDepth := 12) only [modStation_part, raise_part, raiseIf_part, spareLog_part, modPower_part, modSurvey_part, when_part, each_part, hp, part_ite, ite_self, List.mem_cons, List.not_mem_nil, or_false, not_or, not_false_eq_true, and_self, implies_true, ne_eq]

theorem runSurvey_part {pt : Part} (r : SurveyReading) (s : State) (hp : pt ∉ ([.scan, .power, .faults, .survey] : List Part)) :
    (State.runSurvey r s).part pt = s.part pt := by
  unfold State.runSurvey
  simp only [List.mem_cons, List.not_mem_nil, or_false, not_or] at hp
  simp (maxDischargeDepth := 12) only [replanMargins_part, modSurvey_part, hp, part_ite, ite_self, List.mem_cons, List.not_mem_nil, or_false, not_or, not_false_eq_true, and_self, implies_true, ne_eq]

theorem execSurveyIntervalExpiry_part {pt : Part} (s : State) (hp : pt ∉ ([.survey] : List Part)) :
    KeepsPart pt s (execSurveyIntervalExpiry s) := by
  unfold execSurveyIntervalExpiry
  simp only [List.mem_cons, List.not_mem_nil, or_false, not_or] at hp
  simp (maxDischargeDepth := 12) only [modSurvey_part, keepsPart_live, keepsPart_liveIf, keepsPart_next, hp, part_ite, ite_self, List.mem_cons, List.not_mem_nil, or_false, not_or, not_false_eq_true, and_self, implies_true, ne_eq]

theorem execRsCorrectionMark_part {pt : Part} (array : Fin 128) (row : Fin 2048) (col : Fin 256) (uncorrectable : Bool) (s : State) (hp : pt ∉ ([.survey] : List Part)) :
    KeepsPart pt s (execRsCorrectionMark array row col uncorrectable s) := by
  unfold execRsCorrectionMark
  simp only [List.mem_cons, List.not_mem_nil, or_false, not_or] at hp
  first
  | (simp (maxDischargeDepth := 12) only [modSurvey_part, keepsPart_live, keepsPart_liveIf, keepsPart_next, hp, part_ite, ite_self, List.mem_cons, List.not_mem_nil, or_false, not_or, not_false_eq_true, and_self, implies_true, ne_eq]; done)
  | (try dsimp only
     (repeat' split) <;> simp (maxDischargeDepth := 12) only [modSurvey_part, keepsPart_live, keepsPart_liveIf, keepsPart_next, hp, part_ite, ite_self, List.mem_cons, List.not_mem_nil, or_false, not_or, not_false_eq_true, and_self, implies_true, ne_eq])

theorem repair_part {pt : Part} (column : Bool) (m : Nat × Nat) (s : State) (hp : pt ∉ ([.faults, .survey] : List Part)) :
    (State.repair column m s).part pt = s.part pt := by
  unfold State.repair
  simp only [List.mem_cons, List.not_mem_nil, or_false, not_or] at hp
  first
  | (simp (maxDischargeDepth := 12) only [raise_part, spareLog_part, modSurvey_part, hp, part_ite, ite_self, List.mem_cons, List.not_mem_nil, or_false, not_or, not_false_eq_true, and_self, implies_true, ne_eq]; done)
  | (try dsimp only
     (repeat' split) <;> simp (maxDischargeDepth := 12) only [raise_part, spareLog_part, modSurvey_part, hp, part_ite, ite_self, List.mem_cons, List.not_mem_nil, or_false, not_or, not_false_eq_true, and_self, implies_true, ne_eq])

theorem repairSram_part {pt : Part} (s : State) (hp : pt ∉ ([.faults, .survey] : List Part)) :
    (State.repairSram s).part pt = s.part pt := by
  unfold State.repairSram
  simp only [List.mem_cons, List.not_mem_nil, or_false, not_or] at hp
  simp (maxDischargeDepth := 12) only [repair_part, modSurvey_part, when_part, each_part, hp, part_ite, ite_self, List.mem_cons, List.not_mem_nil, or_false, not_or, not_false_eq_true, and_self, implies_true, ne_eq]

theorem restartLoops_part {pt : Part} (e : Nat) (s : State) (hp : pt ∉ ([.loops] : List Part)) :
    (State.restartLoops e s).part pt = s.part pt := by
  unfold State.restartLoops
  simp only [List.mem_cons, List.not_mem_nil, or_false, not_or] at hp
  simp (maxDischargeDepth := 12) only [heatersStart_part, modLoop_part, when_part, each_part, hp, part_ite, ite_self, List.mem_cons, List.not_mem_nil, or_false, not_or, not_false_eq_true, and_self, implies_true, ne_eq]

theorem takeOverEngine_part {pt : Part} (s : State) (hp : pt ∉ ([.loops, .faults, .survey] : List Part)) :
    (State.takeOverEngine s).part pt = s.part pt := by
  unfold State.takeOverEngine
  simp only [List.mem_cons, List.not_mem_nil, or_false, not_or] at hp
  first
  | (simp (maxDischargeDepth := 12) only [raise_part, restartLoops_part, spareLog_part, modLoops_part, modSurvey_part, hp, part_ite, ite_self, List.mem_cons, List.not_mem_nil, or_false, not_or, not_false_eq_true, and_self, implies_true, ne_eq]; done)
  | (try dsimp only
     (repeat' split) <;> simp (maxDischargeDepth := 12) only [raise_part, restartLoops_part, spareLog_part, modLoops_part, modSurvey_part, hp, part_ite, ite_self, List.mem_cons, List.not_mem_nil, or_false, not_or, not_false_eq_true, and_self, implies_true, ne_eq])

theorem takeOverStation_part {pt : Part} (s : State) (hp : pt ∉ ([.scan, .faults, .survey] : List Part)) :
    (State.takeOverStation s).part pt = s.part pt := by
  unfold State.takeOverStation
  simp only [List.mem_cons, List.not_mem_nil, or_false, not_or] at hp
  first
  | (simp (maxDischargeDepth := 12) only [raise_part, spareLog_part, modScan_part, modSurvey_part, hp, part_ite, ite_self, List.mem_cons, List.not_mem_nil, or_false, not_or, not_false_eq_true, and_self, implies_true, ne_eq]; done)
  | (try dsimp only
     (repeat' split) <;> simp (maxDischargeDepth := 12) only [raise_part, spareLog_part, modScan_part, modSurvey_part, hp, part_ite, ite_self, List.mem_cons, List.not_mem_nil, or_false, not_or, not_false_eq_true, and_self, implies_true, ne_eq])

theorem execSeParity_part {pt : Part} (x : Fin 6) (s : State) (hp : pt ∉ ([.scan, .faults, .survey] : List Part)) :
    KeepsPart pt s (execSeParity x s) := by
  unfold execSeParity
  simp only [List.mem_cons, List.not_mem_nil, or_false, not_or] at hp
  simp (maxDischargeDepth := 12) only [modStation_part, raise_part, spareLog_part, modSurvey_part, keepsPart_live, keepsPart_liveIf, keepsPart_next, hp, part_ite, ite_self, List.mem_cons, List.not_mem_nil, or_false, not_or, not_false_eq_true, and_self, implies_true, ne_eq]

end Sys2Proof.Machine
end

