-- ==== Sys2Proof/Laws/KeptHost.lean ====
section
/-! SUPPORT. Which parts of the state each operation of Machine/Host.lean leaves as they are. -/

set_option linter.unusedSimpArgs false

namespace Sys2Proof.Machine

open Sys2Proof

theorem signal_part {pt : Part} (v : Nat) (s : State) (hp : pt ∉ ([.host] : List Part)) :
    (State.signal v s).part pt = s.part pt := by
  unfold State.signal
  simp only [List.mem_cons, List.not_mem_nil, or_false, not_or] at hp
  simp (maxDischargeDepth := 12) only [modHost_part, hp, part_ite, ite_self, List.mem_cons, List.not_mem_nil, or_false, not_or, not_false_eq_true, and_self, implies_true, ne_eq]

theorem signalCq_part {pt : Part} (n : Nat) (s : State) (hp : pt ∉ ([.host] : List Part)) :
    (State.signalCq n s).part pt = s.part pt := by
  unfold State.signalCq
  simp only [List.mem_cons, List.not_mem_nil, or_false, not_or] at hp
  simp (maxDischargeDepth := 12) only [modCq_part, signal_part, when_part, hp, part_ite, ite_self, List.mem_cons, List.not_mem_nil, or_false, not_or, not_false_eq_true, and_self, implies_true, ne_eq]

theorem writeSlot_part {pt : Part} (n : Nat) (r : Held) (s : State) (hp : pt ∉ ([.host] : List Part)) :
    (State.writeSlot n r s).part pt = s.part pt := by
  unfold State.writeSlot
  simp only [List.mem_cons, List.not_mem_nil, or_false, not_or] at hp
  simp (maxDischargeDepth := 12) only [modCq_part, signalCq_part, modHost_part, when_part, hp, part_ite, ite_self, List.mem_cons, List.not_mem_nil, or_false, not_or, not_false_eq_true, and_self, implies_true, ne_eq]

theorem writeRecord_part {pt : Part} (n : Nat) (s : State) (hp : pt ∉ ([.host] : List Part)) :
    (State.writeRecord n s).part pt = s.part pt := by
  unfold State.writeRecord
  simp only [List.mem_cons, List.not_mem_nil, or_false, not_or] at hp
  first
  | (simp (maxDischargeDepth := 12) only [modCq_part, writeSlot_part, modHost_part, hp, part_ite, ite_self, List.mem_cons, List.not_mem_nil, or_false, not_or, not_false_eq_true, and_self, implies_true, ne_eq]; done)
  | (try dsimp only
     (repeat' split) <;> simp (maxDischargeDepth := 12) only [modCq_part, writeSlot_part, modHost_part, hp, part_ite, ite_self, List.mem_cons, List.not_mem_nil, or_false, not_or, not_false_eq_true, and_self, implies_true, ne_eq])

theorem execCqWaitLong_part {pt : Part} (n : Fin 14) (s : State) (hp : pt ∉ ([.faults, .host] : List Part)) :
    KeepsPart pt s (execCqWaitLong n s) := by
  unfold execCqWaitLong
  simp only [List.mem_cons, List.not_mem_nil, or_false, not_or] at hp
  try dsimp only
  (repeat' split) <;> simp (maxDischargeDepth := 12) only [modCq_part, raise_part, keepsPart_live, keepsPart_liveIf, keepsPart_next, hp, part_ite, ite_self, List.mem_cons, List.not_mem_nil, or_false, not_or, not_false_eq_true, and_self, implies_true, ne_eq]

theorem execCoalTimerExpiry_part {pt : Part} (n : Fin 14) (s : State) (hp : pt ∉ ([.host] : List Part)) :
    KeepsPart pt s (execCoalTimerExpiry n s) := by
  unfold execCoalTimerExpiry
  simp only [List.mem_cons, List.not_mem_nil, or_false, not_or] at hp
  simp (maxDischargeDepth := 12) only [signalCq_part, keepsPart_live, keepsPart_liveIf, keepsPart_next, hp, part_ite, ite_self, List.mem_cons, List.not_mem_nil, or_false, not_or, not_false_eq_true, and_self, implies_true, ne_eq]

theorem execRingEnable_part {pt : Part} (mq : Bool) (value : BitVec 32) (s : State) (hp : pt ∉ ([.host] : List Part)) :
    KeepsPart pt s (execRingEnable mq value s) := by
  unfold execRingEnable
  simp only [List.mem_cons, List.not_mem_nil, or_false, not_or] at hp
  simp (maxDischargeDepth := 12) only [modHost_part, keepsPart_live, keepsPart_liveIf, keepsPart_next, hp, part_ite, ite_self, List.mem_cons, List.not_mem_nil, or_false, not_or, not_false_eq_true, and_self, implies_true, ne_eq]

theorem divertWaiting_part {pt : Part} (n : Nat) (s : State) (hp : pt ∉ ([.host] : List Part)) :
    (State.divertWaiting n s).part pt = s.part pt := by
  unfold State.divertWaiting
  simp only [List.mem_cons, List.not_mem_nil, or_false, not_or] at hp
  simp (maxDischargeDepth := 12) only [modCq_part, when_part, hp, part_ite, ite_self, List.mem_cons, List.not_mem_nil, or_false, not_or, not_false_eq_true, and_self, implies_true, ne_eq]

theorem execCqEnable_part {pt : Part} (n : Fin 14) (value : BitVec 32) (s : State) (hp : pt ∉ ([.host] : List Part)) :
    KeepsPart pt s (execCqEnable n value s) := by
  unfold execCqEnable
  simp only [List.mem_cons, List.not_mem_nil, or_false, not_or] at hp
  simp (maxDischargeDepth := 12) only [divertWaiting_part, modCq_part, keepsPart_live, keepsPart_liveIf, keepsPart_next, hp, part_ite, ite_self, List.mem_cons, List.not_mem_nil, or_false, not_or, not_false_eq_true, and_self, implies_true, ne_eq]

theorem execHostWinWrite_part {pt : Part} (value : BitVec 32) (s : State) (hp : pt ∉ ([.host] : List Part)) :
    KeepsPart pt s (execHostWinWrite value s) := by
  unfold execHostWinWrite
  simp only [List.mem_cons, List.not_mem_nil, or_false, not_or] at hp
  simp (maxDischargeDepth := 12) only [modHost_part, keepsPart_live, keepsPart_liveIf, keepsPart_next, hp, part_ite, ite_self, List.mem_cons, List.not_mem_nil, or_false, not_or, not_false_eq_true, and_self, implies_true, ne_eq]

theorem spoilDram_part {pt : Part} (cws : List Nat) (s : State) (hp : pt ∉ ([.memory] : List Part)) :
    (State.spoilDram cws s).part pt = s.part pt := by
  unfold State.spoilDram
  simp only [List.mem_cons, List.not_mem_nil, or_false, not_or] at hp
  simp (maxDischargeDepth := 12) only [modMemory_part, hp, part_ite, ite_self, List.mem_cons, List.not_mem_nil, or_false, not_or, not_false_eq_true, and_self, implies_true, ne_eq]

theorem execBar2Read_part {pt : Part} (off : Fin 268435456) (len : Nat) (bad : List Nat) (s : State) (hp : pt ∉ ([.free, .faults, .host, .memory] : List Part)) :
    KeepsPart pt s (execBar2Read off len bad s) := by
  unfold execBar2Read
  simp only [List.mem_cons, List.not_mem_nil, or_false, not_or] at hp
  simp (maxDischargeDepth := 12) only [raiseIf_part, spoilDram_part, takeBytes_part, modHost_part, keepsPart_live, keepsPart_liveIf, keepsPart_next, hp, State.takeByte, State.takeBytes, set_free_part, part_ite, ite_self, List.mem_cons, List.not_mem_nil, or_false, not_or, not_false_eq_true, and_self, implies_true, ne_eq]

theorem execBar2Write_part {pt : Part} (off : Fin 268435456) (data : List Byte) (bad : List Nat) (s : State) (hp : pt ∉ ([.faults, .memory] : List Part)) :
    KeepsPart pt s (execBar2Write off data bad s) := by
  unfold execBar2Write
  simp only [List.mem_cons, List.not_mem_nil, or_false, not_or] at hp
  simp (maxDischargeDepth := 12) only [raiseIf_part, spoilDram_part, modMemory_part, keepsPart_live, keepsPart_liveIf, keepsPart_next, hp, part_ite, ite_self, List.mem_cons, List.not_mem_nil, or_false, not_or, not_false_eq_true, and_self, implies_true, ne_eq]

theorem execPartialWrite_part {pt : Part} (s : State) (hp : pt ∉ ([.faults] : List Part)) :
    KeepsPart pt s (execPartialWrite s) := by
  unfold execPartialWrite
  simp only [List.mem_cons, List.not_mem_nil, or_false, not_or] at hp
  simp (maxDischargeDepth := 12) only [raise_part, keepsPart_live, keepsPart_liveIf, keepsPart_next, hp, part_ite, ite_self, List.mem_cons, List.not_mem_nil, or_false, not_or, not_false_eq_true, and_self, implies_true, ne_eq]

theorem execConfigRequest_part {pt : Part} (s : State) (hp : pt ∉ ([.host] : List Part)) :
    KeepsPart pt s (execConfigRequest s) := by
  unfold execConfigRequest
  simp only [List.mem_cons, List.not_mem_nil, or_false, not_or] at hp
  simp (maxDischargeDepth := 12) only [modHost_part, keepsPart_live, keepsPart_liveIf, keepsPart_next, hp, part_ite, ite_self, List.mem_cons, List.not_mem_nil, or_false, not_or, not_false_eq_true, and_self, implies_true, ne_eq]

theorem execBarAccessBeforeReady_part {pt : Part} (write : Bool) (s : State) (hp : pt ∉ ([.host] : List Part)) :
    KeepsPart pt s (execBarAccessBeforeReady write s) := by
  unfold execBarAccessBeforeReady
  simp only [List.mem_cons, List.not_mem_nil, or_false, not_or] at hp
  simp (maxDischargeDepth := 12) only [modHost_part, keepsPart_live, keepsPart_liveIf, keepsPart_next, hp, part_ite, ite_self, List.mem_cons, List.not_mem_nil, or_false, not_or, not_false_eq_true, and_self, implies_true, ne_eq]

theorem execAerError_part {pt : Part} (uncorrectable : Bool) (s : State) (hp : pt ∉ ([.faults] : List Part)) :
    KeepsPart pt s (execAerError uncorrectable s) := by
  unfold execAerError
  simp only [List.mem_cons, List.not_mem_nil, or_false, not_or] at hp
  simp (maxDischargeDepth := 12) only [raise_part, keepsPart_live, keepsPart_liveIf, keepsPart_next, hp, part_ite, ite_self, List.mem_cons, List.not_mem_nil, or_false, not_or, not_false_eq_true, and_self, implies_true, ne_eq]

end Sys2Proof.Machine
end

