-- ==== Sys2Proof/Laws/KeptDma.lean ====
section
/-! SUPPORT. Which parts of the state each operation of Machine/Dma.lean leaves as they are. -/

set_option linter.unusedSimpArgs false

namespace Sys2Proof.Machine

open Sys2Proof

theorem setRamAt_part {pt : Part} (a : Nat) (r : Ram) (s : State) (hp : pt ∉ ([.memory] : List Part)) :
    (State.setRamAt a r s).part pt = s.part pt := by
  unfold State.setRamAt
  simp only [List.mem_cons, List.not_mem_nil, or_false, not_or] at hp
  simp (maxDischargeDepth := 12) only [modMemory_part, hp, part_ite, ite_self, List.mem_cons, List.not_mem_nil, or_false, not_or, not_false_eq_true, and_self, implies_true, ne_eq]

theorem writeMem_part {pt : Part} (a : Nat) (bs : List Byte) (s : State) (hp : pt ∉ ([.host, .memory] : List Part)) :
    (State.writeMem a bs s).part pt = s.part pt := by
  unfold State.writeMem
  simp only [List.mem_cons, List.not_mem_nil, or_false, not_or] at hp
  simp (maxDischargeDepth := 12) only [setRamAt_part, modHost_part, hp, part_ite, ite_self, List.mem_cons, List.not_mem_nil, or_false, not_or, not_false_eq_true, and_self, implies_true, ne_eq]

theorem spoil_part {pt : Part} (found : List (Bool × Nat)) (s : State) (hp : pt ∉ ([.memory] : List Part)) :
    (State.spoil found s).part pt = s.part pt := by
  unfold State.spoil
  simp only [List.mem_cons, List.not_mem_nil, or_false, not_or] at hp
  simp (maxDischargeDepth := 12) only [modMemory_part, hp, part_ite, ite_self, List.mem_cons, List.not_mem_nil, or_false, not_or, not_false_eq_true, and_self, implies_true, ne_eq]

theorem modChannel_part {pt : Part} (n : Nat) (f : DmaChannel → DmaChannel) (s : State) (hp : pt ∉ ([.dma] : List Part)) :
    (State.modChannel n f s).part pt = s.part pt := by
  unfold State.modChannel
  simp only [List.mem_cons, List.not_mem_nil, or_false, not_or] at hp
  simp (maxDischargeDepth := 12) only [modDma_part, hp, part_ite, ite_self, List.mem_cons, List.not_mem_nil, or_false, not_or, not_false_eq_true, and_self, implies_true, ne_eq]

theorem errorRecord_part {pt : Part} (n : Nat) (own : Option Nat) (addr residue : Nat) (st : DmaStatus) (flags : Nat) (irq : Bool)
    (s : State) (hp : pt ∉ ([.faults, .dma] : List Part)) :
    (State.errorRecord n own addr residue st flags irq s).part pt = s.part pt := by
  unfold State.errorRecord
  simp only [List.mem_cons, List.not_mem_nil, or_false, not_or] at hp
  first
  | (simp (maxDischargeDepth := 12) only [modChannel_part, raise_part, hp, part_ite, ite_self, List.mem_cons, List.not_mem_nil, or_false, not_or, not_false_eq_true, and_self, implies_true, ne_eq]; done)
  | (try dsimp only
     (repeat' split) <;> simp (maxDischargeDepth := 12) only [modChannel_part, raise_part, hp, part_ite, ite_self, List.mem_cons, List.not_mem_nil, or_false, not_or, not_false_eq_true, and_self, implies_true, ne_eq])

theorem haltChannel_part {pt : Part} (n addr residue : Nat) (st : DmaStatus) (dir readback fetch : Bool) (s : State) (hp : pt ∉ ([.faults, .dma] : List Part)) :
    (State.haltChannel n addr residue st dir readback fetch s).part pt = s.part pt := by
  unfold State.haltChannel
  simp only [List.mem_cons, List.not_mem_nil, or_false, not_or] at hp
  simp (maxDischargeDepth := 12) only [modChannel_part, raise_part, hp, part_ite, ite_self, List.mem_cons, List.not_mem_nil, or_false, not_or, not_false_eq_true, and_self, implies_true, ne_eq]

theorem fetchHalt_part {pt : Part} (n addr : Nat) (d : Option Descriptor) (st : DmaStatus) (s : State) (hp : pt ∉ ([.faults, .dma] : List Part)) :
    (State.fetchHalt n addr d st s).part pt = s.part pt := by
  unfold State.fetchHalt
  simp only [List.mem_cons, List.not_mem_nil, or_false, not_or] at hp
  simp (maxDischargeDepth := 12) only [errorRecord_part, haltChannel_part, modChannel_part, hp, part_ite, ite_self, List.mem_cons, List.not_mem_nil, or_false, not_or, not_false_eq_true, and_self, implies_true, ne_eq]

theorem execDmaRun_part {pt : Part} (n : Fin 32) (s : State) (hp : pt ∉ ([.dma] : List Part)) :
    KeepsPart pt s (execDmaRun n s) := by
  unfold execDmaRun
  simp only [List.mem_cons, List.not_mem_nil, or_false, not_or] at hp
  simp (maxDischargeDepth := 12) only [modChannel_part, keepsPart_live, keepsPart_liveIf, keepsPart_next, hp, part_ite, ite_self, List.mem_cons, List.not_mem_nil, or_false, not_or, not_false_eq_true, and_self, implies_true, ne_eq]

theorem resumeEnd_part {pt : Part} (n : Nat) (d : Descriptor) (host : Option (Vector Byte 8)) (s : State) (hp : pt ∉ ([.faults, .dma] : List Part)) :
    (State.resumeEnd n d host s).part pt = s.part pt := by
  unfold State.resumeEnd
  simp only [List.mem_cons, List.not_mem_nil, or_false, not_or] at hp
  first
  | (simp (maxDischargeDepth := 12) only [fetchHalt_part, modChannel_part, hp, part_ite, ite_self, List.mem_cons, List.not_mem_nil, or_false, not_or, not_false_eq_true, and_self, implies_true, ne_eq]; done)
  | (try dsimp only
     (repeat' split) <;> simp (maxDischargeDepth := 12) only [fetchHalt_part, modChannel_part, hp, part_ite, ite_self, List.mem_cons, List.not_mem_nil, or_false, not_or, not_false_eq_true, and_self, implies_true, ne_eq])

theorem resumeHalted_part {pt : Part} (n : Nat) (s : State) (hp : pt ∉ ([.free, .dma] : List Part)) :
    (State.resumeHalted n s).part pt = s.part pt := by
  unfold State.resumeHalted
  simp only [List.mem_cons, List.not_mem_nil, or_false, not_or] at hp
  first
  | (simp (maxDischargeDepth := 12) only [modChannel_part, takeBool_part, takeNat_part, hp, State.takeNat, State.takeBool, set_free_part, part_ite, ite_self, List.mem_cons, List.not_mem_nil, or_false, not_or, not_false_eq_true, and_self, implies_true, ne_eq]; done)
  | (try dsimp only
     (repeat' split) <;> simp (maxDischargeDepth := 12) only [modChannel_part, takeBool_part, takeNat_part, hp, State.takeNat, State.takeBool, set_free_part, part_ite, ite_self, List.mem_cons, List.not_mem_nil, or_false, not_or, not_false_eq_true, and_self, implies_true, ne_eq])

theorem execDmaResume_part {pt : Part} (n : Fin 32) (host : Option (Vector Byte 8)) (s : State) (hp : pt ∉ ([.free, .faults, .dma] : List Part)) :
    KeepsPart pt s (execDmaResume n host s) := by
  unfold execDmaResume
  simp only [List.mem_cons, List.not_mem_nil, or_false, not_or] at hp
  first
  | (simp (maxDischargeDepth := 12) only [resumeEnd_part, resumeHalted_part, keepsPart_live, keepsPart_liveIf, keepsPart_next, hp, part_ite, ite_self, List.mem_cons, List.not_mem_nil, or_false, not_or, not_false_eq_true, and_self, implies_true, ne_eq]; done)
  | (try dsimp only
     (repeat' split) <;> simp (maxDischargeDepth := 12) only [resumeEnd_part, resumeHalted_part, keepsPart_live, keepsPart_liveIf, keepsPart_next, hp, part_ite, ite_self, List.mem_cons, List.not_mem_nil, or_false, not_or, not_false_eq_true, and_self, implies_true, ne_eq])

theorem execDmaReset_part {pt : Part} (n : Fin 32) (s : State) (hp : pt ∉ ([.dma] : List Part)) :
    KeepsPart pt s (execDmaReset n s) := by
  unfold execDmaReset
  simp only [List.mem_cons, List.not_mem_nil, or_false, not_or] at hp
  simp (maxDischargeDepth := 12) only [modChannel_part, keepsPart_live, keepsPart_liveIf, keepsPart_next, hp, part_ite, ite_self, List.mem_cons, List.not_mem_nil, or_false, not_or, not_false_eq_true, and_self, implies_true, ne_eq]

theorem openDest_part {pt : Part} (d : Descriptor) (s : State) (hp : pt ∉ ([.free, .host, .memory] : List Part)) :
    (State.openDest d s).part pt = s.part pt := by
  unfold State.openDest
  simp only [List.mem_cons, List.not_mem_nil, or_false, not_or] at hp
  first
  | (simp (maxDischargeDepth := 12) only [takeBytes_part, writeMem_part, hp, State.takeByte, State.takeBytes, set_free_part, part_ite, ite_self, List.mem_cons, List.not_mem_nil, or_false, not_or, not_false_eq_true, and_self, implies_true, ne_eq]; done)
  | (try dsimp only
     (repeat' split) <;> simp (maxDischargeDepth := 12) only [takeBytes_part, writeMem_part, hp, State.takeByte, State.takeBytes, set_free_part, part_ite, ite_self, List.mem_cons, List.not_mem_nil, or_false, not_or, not_false_eq_true, and_self, implies_true, ne_eq])

theorem disableChannel_part {pt : Part} (n reads hostReads writes : Nat) (s : State) (hp : pt ∉ ([.free, .host, .dma, .memory] : List Part)) :
    (State.disableChannel n reads hostReads writes s).part pt = s.part pt := by
  unfold State.disableChannel
  simp only [List.mem_cons, List.not_mem_nil, or_false, not_or] at hp
  simp (maxDischargeDepth := 12) only [modChannel_part, openDest_part, takeNat_part, when_part, each_part, hp, State.takeNat, set_free_part, part_ite, ite_self, List.mem_cons, List.not_mem_nil, or_false, not_or, not_false_eq_true, and_self, implies_true, ne_eq]

theorem latchAccess_part {pt : Part} (n : Nat) (err : Option (Nat × Bool × Bool × Bool)) (s : State) (hp : pt ∉ ([.dma] : List Part)) :
    (State.latchAccess n err s).part pt = s.part pt := by
  unfold State.latchAccess
  simp only [List.mem_cons, List.not_mem_nil, or_false, not_or] at hp
  first
  | (simp (maxDischargeDepth := 12) only [modChannel_part, when_part, hp, part_ite, ite_self, List.mem_cons, List.not_mem_nil, or_false, not_or, not_false_eq_true, and_self, implies_true, ne_eq]; done)
  | (try dsimp only
     (repeat' split) <;> simp (maxDischargeDepth := 12) only [modChannel_part, when_part, hp, part_ite, ite_self, List.mem_cons, List.not_mem_nil, or_false, not_or, not_false_eq_true, and_self, implies_true, ne_eq])

theorem execDmaDisable_part {pt : Part} (n : Fin 32) (reads : Fin 17) (hostReads : Fin 17) (writes : Fin 65) (err : Option (Nat × Bool × Bool × Bool))
    (s : State) (hp : pt ∉ ([.free, .host, .dma, .memory] : List Part)) :
    KeepsPart pt s (execDmaDisable n reads hostReads writes err s) := by
  unfold execDmaDisable
  simp only [List.mem_cons, List.not_mem_nil, or_false, not_or] at hp
  simp (maxDischargeDepth := 12) only [disableChannel_part, latchAccess_part, keepsPart_live, keepsPart_liveIf, keepsPart_next, hp, part_ite, ite_self, List.mem_cons, List.not_mem_nil, or_false, not_or, not_false_eq_true, and_self, implies_true, ne_eq]

theorem execDmaDisableClear_part {pt : Part} (n : Fin 32) (s : State) (hp : pt ∉ ([.dma] : List Part)) :
    KeepsPart pt s (execDmaDisableClear n s) := by
  unfold execDmaDisableClear
  simp only [List.mem_cons, List.not_mem_nil, or_false, not_or] at hp
  simp (maxDischargeDepth := 12) only [modChannel_part, keepsPart_live, keepsPart_liveIf, keepsPart_next, hp, part_ite, ite_self, List.mem_cons, List.not_mem_nil, or_false, not_or, not_false_eq_true, and_self, implies_true, ne_eq]

theorem execDmaDrainDone_part {pt : Part} (n : Fin 32) (s : State) (hp : pt ∉ ([.dma] : List Part)) :
    KeepsPart pt s (execDmaDrainDone n s) := by
  unfold execDmaDrainDone
  simp only [List.mem_cons, List.not_mem_nil, or_false, not_or] at hp
  simp (maxDischargeDepth := 12) only [modChannel_part, keepsPart_live, keepsPart_liveIf, keepsPart_next, hp, part_ite, ite_self, List.mem_cons, List.not_mem_nil, or_false, not_or, not_false_eq_true, and_self, implies_true, ne_eq]

theorem rsCorrected_part {pt : Part} (n reads : Nat) (s : State) (hp : pt ∉ ([.faults, .dma] : List Part)) :
    (State.rsCorrected n reads s).part pt = s.part pt := by
  unfold State.rsCorrected
  simp only [List.mem_cons, List.not_mem_nil, or_false, not_or] at hp
  simp (maxDischargeDepth := 12) only [modChannel_part, raise_part, when_part, hp, part_ite, ite_self, List.mem_cons, List.not_mem_nil, or_false, not_or, not_false_eq_true, and_self, implies_true, ne_eq]

theorem execDescriptorFetch_part {pt : Part} (n : Fin 32) (bytes : Option (Vector Byte 32)) (found : List (Bool × Nat)) (corrected : Nat)
    (s : State) (hp : pt ∉ ([.faults, .dma, .memory] : List Part)) :
    KeepsPart pt s (execDescriptorFetch n bytes found corrected s) := by
  unfold execDescriptorFetch
  simp only [List.mem_cons, List.not_mem_nil, or_false, not_or] at hp
  first
  | (simp (maxDischargeDepth := 12) only [fetchHalt_part, modChannel_part, rsCorrected_part, spoil_part, keepsPart_live, keepsPart_liveIf, keepsPart_next, hp, part_ite, ite_self, List.mem_cons, List.not_mem_nil, or_false, not_or, not_false_eq_true, and_self, implies_true, ne_eq]; done)
  | (try dsimp only
     (repeat' split) <;> simp (maxDischargeDepth := 12) only [fetchHalt_part, modChannel_part, rsCorrected_part, spoil_part, keepsPart_live, keepsPart_liveIf, keepsPart_next, hp, part_ite, ite_self, List.mem_cons, List.not_mem_nil, or_false, not_or, not_false_eq_true, and_self, implies_true, ne_eq])

theorem descWrite_part {pt : Part} (d : Descriptor) (hostSrc : List Byte) (n : Nat) (s : State) (hp : pt ∉ ([.free, .host, .memory] : List Part)) :
    (State.descWrite d hostSrc n s).part pt = s.part pt := by
  unfold State.descWrite
  simp only [List.mem_cons, List.not_mem_nil, or_false, not_or] at hp
  first
  | (simp (maxDischargeDepth := 12) only [takeBytes_part, writeMem_part, hp, State.takeByte, State.takeBytes, set_free_part, part_ite, ite_self, List.mem_cons, List.not_mem_nil, or_false, not_or, not_false_eq_true, and_self, implies_true, ne_eq]; done)
  | (try dsimp only
     (repeat' split) <;> simp (maxDischargeDepth := 12) only [takeBytes_part, writeMem_part, hp, State.takeByte, State.takeBytes, set_free_part, part_ite, ite_self, List.mem_cons, List.not_mem_nil, or_false, not_or, not_false_eq_true, and_self, implies_true, ne_eq])

theorem completeDesc_part {pt : Part} (n : Nat) (d : Descriptor) (st : DmaStatus) (residue : Nat) (s : State) (hp : pt ∉ ([.dma] : List Part)) :
    (State.completeDesc n d st residue s).part pt = s.part pt := by
  unfold State.completeDesc
  simp only [List.mem_cons, List.not_mem_nil, or_false, not_or] at hp
  simp (maxDischargeDepth := 12) only [modChannel_part, hp, part_ite, ite_self, List.mem_cons, List.not_mem_nil, or_false, not_or, not_false_eq_true, and_self, implies_true, ne_eq]

theorem execDescriptorComplete_part {pt : Part} (n : Fin 32) (hostSrc hostDst : List Byte) (corrected : Nat) (s : State) (hp : pt ∉ ([.free, .faults, .host, .dma, .memory] : List Part)) :
    KeepsPart pt s (execDescriptorComplete n hostSrc hostDst corrected s) := by
  unfold execDescriptorComplete
  simp only [List.mem_cons, List.not_mem_nil, or_false, not_or] at hp
  first
  | (simp (maxDischargeDepth := 12) only [completeDesc_part, descWrite_part, rsCorrected_part, keepsPart_live, keepsPart_liveIf, keepsPart_next, hp, part_ite, ite_self, List.mem_cons, List.not_mem_nil, or_false, not_or, not_false_eq_true, and_self, implies_true, ne_eq]; done)
  | (try dsimp only
     (repeat' split) <;> simp (maxDischargeDepth := 12) only [completeDesc_part, descWrite_part, rsCorrected_part, keepsPart_live, keepsPart_liveIf, keepsPart_next, hp, part_ite, ite_self, List.mem_cons, List.not_mem_nil, or_false, not_or, not_false_eq_true, and_self, implies_true, ne_eq])

theorem descError_part {pt : Part} (n : Nat) (d : Descriptor) (off : Nat) (dst data readback : Bool) (hostSrc : List Byte) (s : State) (hp : pt ∉ ([.free, .faults, .host, .dma, .memory] : List Part)) :
    (State.descError n d off dst data readback hostSrc s).part pt = s.part pt := by
  unfold State.descError
  simp only [List.mem_cons, List.not_mem_nil, or_false, not_or] at hp
  simp (maxDischargeDepth := 12) only [descWrite_part, errorRecord_part, haltChannel_part, openDest_part, takeNat_part, hp, State.takeNat, set_free_part, part_ite, ite_self, List.mem_cons, List.not_mem_nil, or_false, not_or, not_false_eq_true, and_self, implies_true, ne_eq]

theorem execDmaAccessError_part {pt : Part} (n : Fin 32) (host : Option (Nat × Bool × Bool × Bool)) (hostSrc hostDst : List Byte) (found : List (Bool × Nat))
    (corrected : Nat) (s : State) (hp : pt ∉ ([.free, .faults, .host, .dma, .memory] : List Part)) :
    KeepsPart pt s (execDmaAccessError n host hostSrc hostDst found corrected s) := by
  unfold execDmaAccessError
  simp only [List.mem_cons, List.not_mem_nil, or_false, not_or] at hp
  first
  | (simp (maxDischargeDepth := 12) only [descError_part, rsCorrected_part, spoil_part, keepsPart_live, keepsPart_liveIf, keepsPart_next, hp, part_ite, ite_self, List.mem_cons, List.not_mem_nil, or_false, not_or, not_false_eq_true, and_self, implies_true, ne_eq]; done)
  | (try dsimp only
     (repeat' split) <;> simp (maxDischargeDepth := 12) only [descError_part, rsCorrected_part, spoil_part, keepsPart_live, keepsPart_liveIf, keepsPart_next, hp, part_ite, ite_self, List.mem_cons, List.not_mem_nil, or_false, not_or, not_false_eq_true, and_self, implies_true, ne_eq])

theorem execDmaRecordWrite_part {pt : Part} (n : Fin 32) (s : State) (hp : pt ∉ ([.host, .dma] : List Part)) :
    KeepsPart pt s (execDmaRecordWrite n s) := by
  unfold execDmaRecordWrite
  simp only [List.mem_cons, List.not_mem_nil, or_false, not_or] at hp
  first
  | (simp (maxDischargeDepth := 12) only [modChannel_part, writeSlot_part, keepsPart_live, keepsPart_liveIf, keepsPart_next, hp, part_ite, ite_self, List.mem_cons, List.not_mem_nil, or_false, not_or, not_false_eq_true, and_self, implies_true, ne_eq]; done)
  | (try dsimp only
     (repeat' split) <;> simp (maxDischargeDepth := 12) only [modChannel_part, writeSlot_part, keepsPart_live, keepsPart_liveIf, keepsPart_next, hp, part_ite, ite_self, List.mem_cons, List.not_mem_nil, or_false, not_or, not_false_eq_true, and_self, implies_true, ne_eq])

theorem execFeedChannelError_part {pt : Part} (x : Fin 6) (s : State) (hp : pt ∉ ([.layer, .decoders, .pixels, .position, .loops, .faults, .host, .telemetry, .boot] : List Part)) :
    KeepsPart pt s (execFeedChannelError x s) := by
  unfold execFeedChannelError
  simp only [List.mem_cons, List.not_mem_nil, or_false, not_or] at hp
  first
  | (simp (maxDischargeDepth := 12) only [endJob_part, raise_part, keepsPart_live, keepsPart_liveIf, keepsPart_next, hp, part_ite, ite_self, List.mem_cons, List.not_mem_nil, or_false, not_or, not_false_eq_true, and_self, implies_true, ne_eq]; done)
  | (try dsimp only
     (repeat' split) <;> simp (maxDischargeDepth := 12) only [endJob_part, raise_part, keepsPart_live, keepsPart_liveIf, keepsPart_next, hp, part_ite, ite_self, List.mem_cons, List.not_mem_nil, or_false, not_or, not_false_eq_true, and_self, implies_true, ne_eq])

end Sys2Proof.Machine
end

