-- ==== Sys2Proof/Laws/KeptJenzan.lean ====
section
/-! SUPPORT. Which parts of the state each operation of Machine/Jenzan.lean leaves as they are. -/

set_option linter.unusedSimpArgs false

namespace Sys2Proof.Machine

open Sys2Proof

theorem modUnit_part {pt : Part} (port unit : Nat) (f : Unit → Unit) (s : State) (hp : pt ∉ ([.boot] : List Part)) :
    (State.modUnit port unit f s).part pt = s.part pt := by
  unfold State.modUnit
  simp only [List.mem_cons, List.not_mem_nil, or_false, not_or] at hp
  simp (maxDischargeDepth := 12) only [modBoot_part, hp, part_ite, ite_self, List.mem_cons, List.not_mem_nil, or_false, not_or, not_false_eq_true, and_self, implies_true, ne_eq]

theorem modPort_part {pt : Part} (port : Nat) (f : JzPort → JzPort) (s : State) (hp : pt ∉ ([.boot] : List Part)) :
    (State.modPort port f s).part pt = s.part pt := by
  unfold State.modPort
  simp only [List.mem_cons, List.not_mem_nil, or_false, not_or] at hp
  simp (maxDischargeDepth := 12) only [modBoot_part, hp, part_ite, ite_self, List.mem_cons, List.not_mem_nil, or_false, not_or, not_false_eq_true, and_self, implies_true, ne_eq]

theorem unitAppears_part {pt : Part} (port unit : Nat) (s : State) (hp : pt ∉ ([.boot] : List Part)) :
    (State.unitAppears port unit s).part pt = s.part pt := by
  unfold State.unitAppears
  simp only [List.mem_cons, List.not_mem_nil, or_false, not_or] at hp
  simp (maxDischargeDepth := 12) only [modUnit_part, when_part, hp, part_ite, ite_self, List.mem_cons, List.not_mem_nil, or_false, not_or, not_false_eq_true, and_self, implies_true, ne_eq]

theorem unitDetach_part {pt : Part} (port : Fin 8) (unit : Nat) (s : State) (hp : pt ∉ ([.pixels, .faults, .boot] : List Part)) :
    (State.unitDetach port unit s).part pt = s.part pt := by
  unfold State.unitDetach
  simp only [List.mem_cons, List.not_mem_nil, or_false, not_or] at hp
  first
  | (simp (maxDischargeDepth := 12) only [modUnit_part, raiseRun_part, modPixel_part, when_part, hp, part_ite, ite_self, List.mem_cons, List.not_mem_nil, or_false, not_or, not_false_eq_true, and_self, implies_true, ne_eq]; done)
  | (try dsimp only
     (repeat' split) <;> simp (maxDischargeDepth := 12) only [modUnit_part, raiseRun_part, modPixel_part, when_part, hp, part_ite, ite_self, List.mem_cons, List.not_mem_nil, or_false, not_or, not_false_eq_true, and_self, implies_true, ne_eq])

theorem moduleFound_part {pt : Part} (x : Fin 6) (serial : Nat) (s : State) (hp : pt ∉ ([.pixels, .survey] : List Part)) :
    (State.moduleFound x serial s).part pt = s.part pt := by
  unfold State.moduleFound
  simp only [List.mem_cons, List.not_mem_nil, or_false, not_or] at hp
  simp (maxDischargeDepth := 12) only [restoreTrims_part, modPixel_part, modSurvey_part, set_pending_part, when_part, hp, part_ite, ite_self, List.mem_cons, List.not_mem_nil, or_false, not_or, not_false_eq_true, and_self, implies_true, ne_eq]

theorem unitFailed_part {pt : Part} (port : Fin 8) (unit : Nat) (s : State) (hp : pt ∉ ([.faults, .boot] : List Part)) :
    (State.unitFailed port unit s).part pt = s.part pt := by
  unfold State.unitFailed
  simp only [List.mem_cons, List.not_mem_nil, or_false, not_or] at hp
  simp (maxDischargeDepth := 12) only [modUnit_part, raise_part, hp, part_ite, ite_self, List.mem_cons, List.not_mem_nil, or_false, not_or, not_false_eq_true, and_self, implies_true, ne_eq]

theorem unitIdentify_part {pt : Part} (port : Fin 8) (unit : Nat) (b : List Byte) (s : State) (hp : pt ∉ ([.pixels, .faults, .boot, .survey] : List Part)) :
    (State.unitIdentify port unit b s).part pt = s.part pt := by
  unfold State.unitIdentify
  simp only [List.mem_cons, List.not_mem_nil, or_false, not_or] at hp
  first
  | (simp (maxDischargeDepth := 12) only [modUnit_part, moduleFound_part, unitFailed_part, when_part, hp, part_ite, ite_self, List.mem_cons, List.not_mem_nil, or_false, not_or, not_false_eq_true, and_self, implies_true, ne_eq]; done)
  | (try dsimp only
     (repeat' split) <;> simp (maxDischargeDepth := 12) only [modUnit_part, moduleFound_part, unitFailed_part, when_part, hp, part_ite, ite_self, List.mem_cons, List.not_mem_nil, or_false, not_or, not_false_eq_true, and_self, implies_true, ne_eq])

theorem unitReread_part {pt : Part} (port : Fin 8) (unit : Nat) (b : List Byte) (s : State) (hp : pt ∉ ([.pixels, .faults, .boot, .survey] : List Part)) :
    (State.unitReread port unit b s).part pt = s.part pt := by
  unfold State.unitReread
  simp only [List.mem_cons, List.not_mem_nil, or_false, not_or] at hp
  first
  | (simp (maxDischargeDepth := 12) only [modUnit_part, unitAppears_part, unitDetach_part, unitIdentify_part, modPixel_part, set_pending_part, when_part, hp, part_ite, ite_self, List.mem_cons, List.not_mem_nil, or_false, not_or, not_false_eq_true, and_self, implies_true, ne_eq]; done)
  | (try dsimp only
     (repeat' split) <;> simp (maxDischargeDepth := 12) only [modUnit_part, unitAppears_part, unitDetach_part, unitIdentify_part, modPixel_part, set_pending_part, when_part, hp, part_ite, ite_self, List.mem_cons, List.not_mem_nil, or_false, not_or, not_false_eq_true, and_self, implies_true, ne_eq])

theorem execUnitIdentify_part {pt : Part} (port : Fin 8) (unit : Fin 3) (block : Vector Byte 64) (s : State) (hp : pt ∉ ([.pixels, .faults, .boot, .survey] : List Part)) :
    KeepsPart pt s (execUnitIdentify port unit block s) := by
  unfold execUnitIdentify
  simp only [List.mem_cons, List.not_mem_nil, or_false, not_or] at hp
  first
  | (simp (maxDischargeDepth := 12) only [modUnit_part, unitIdentify_part, unitReread_part, keepsPart_live, keepsPart_liveIf, keepsPart_next, hp, part_ite, ite_self, List.mem_cons, List.not_mem_nil, or_false, not_or, not_false_eq_true, and_self, implies_true, ne_eq]; done)
  | (try dsimp only
     (repeat' split) <;> simp (maxDischargeDepth := 12) only [modUnit_part, unitIdentify_part, unitReread_part, keepsPart_live, keepsPart_liveIf, keepsPart_next, hp, part_ite, ite_self, List.mem_cons, List.not_mem_nil, or_false, not_or, not_false_eq_true, and_self, implies_true, ne_eq])

theorem bind_part {pt : Part} (port : Nat) (s : State) (hp : pt ∉ ([.boot] : List Part)) :
    (State.bind port s).part pt = s.part pt := by
  unfold State.bind
  simp only [List.mem_cons, List.not_mem_nil, or_false, not_or] at hp
  simp (maxDischargeDepth := 12) only [modPort_part, unitAppears_part, hp, part_ite, ite_self, List.mem_cons, List.not_mem_nil, or_false, not_or, not_false_eq_true, and_self, implies_true, ne_eq]

theorem execAnnounceReceived_part {pt : Part} (port : Fin 8) (s : State) (hp : pt ∉ ([.boot] : List Part)) :
    KeepsPart pt s (execAnnounceReceived port s) := by
  unfold execAnnounceReceived
  simp only [List.mem_cons, List.not_mem_nil, or_false, not_or] at hp
  simp (maxDischargeDepth := 12) only [bind_part, modPort_part, modUnit_part, each_part, keepsPart_live, keepsPart_liveIf, keepsPart_next, hp, part_ite, ite_self, List.mem_cons, List.not_mem_nil, or_false, not_or, not_false_eq_true, and_self, implies_true, ne_eq]

theorem pollPresent_part {pt : Part} (port : Nat) (bits : Nat) (s : State) (hp : pt ∉ ([.boot] : List Part)) :
    (State.pollPresent port bits s).part pt = s.part pt := by
  unfold State.pollPresent
  simp only [List.mem_cons, List.not_mem_nil, or_false, not_or] at hp
  simp (maxDischargeDepth := 12) only [modUnit_part, unitAppears_part, each_part, hp, part_ite, ite_self, List.mem_cons, List.not_mem_nil, or_false, not_or, not_false_eq_true, and_self, implies_true, ne_eq]

theorem laneLost_part {pt : Part} (x : Fin 6) (lane : Nat) (s : State) (hp : pt ∉ ([.pixels, .faults] : List Part)) :
    (State.laneLost x lane s).part pt = s.part pt := by
  unfold State.laneLost
  simp only [List.mem_cons, List.not_mem_nil, or_false, not_or] at hp
  simp (maxDischargeDepth := 12) only [raiseD_part, modPixel_part, hp, part_ite, ite_self, List.mem_cons, List.not_mem_nil, or_false, not_or, not_false_eq_true, and_self, implies_true, ne_eq]

theorem framesDropped_part {pt : Part} (x : Fin 6) (n : Nat) (s : State) (hp : pt ∉ ([.free, .pixels, .faults] : List Part)) :
    (State.framesDropped x n s).part pt = s.part pt := by
  unfold State.framesDropped
  simp only [List.mem_cons, List.not_mem_nil, or_false, not_or] at hp
  simp (maxDischargeDepth := 12) only [raiseD_part, takeNat_part, modPixel_part, when_part, hp, State.takeNat, set_free_part, part_ite, ite_self, List.mem_cons, List.not_mem_nil, or_false, not_or, not_false_eq_true, and_self, implies_true, ne_eq]

theorem checkRefresh_part {pt : Part} (x : Fin 6) (crc : Nat) (s : State) (hp : pt ∉ ([.free, .pixels, .faults] : List Part)) :
    (State.checkRefresh x crc s).part pt = s.part pt := by
  unfold State.checkRefresh
  simp only [List.mem_cons, List.not_mem_nil, or_false, not_or] at hp
  simp (maxDischargeDepth := 12) only [raiseD_part, takeNat_part, modPixel_part, hp, State.takeNat, set_free_part, part_ite, ite_self, List.mem_cons, List.not_mem_nil, or_false, not_or, not_false_eq_true, and_self, implies_true, ne_eq]

theorem pollDriver_part {pt : Part} (x : Fin 6) (b : List Byte) (s : State) (hp : pt ∉ ([.free, .pixels, .faults] : List Part)) :
    (State.pollDriver x b s).part pt = s.part pt := by
  unfold State.pollDriver
  simp only [List.mem_cons, List.not_mem_nil, or_false, not_or] at hp
  simp (maxDischargeDepth := 12) only [checkRefresh_part, framesDropped_part, laneLost_part, when_part, each_part, hp, part_ite, ite_self, List.mem_cons, List.not_mem_nil, or_false, not_or, not_false_eq_true, and_self, implies_true, ne_eq]

theorem execJenzanPoll_part {pt : Part} (port : Fin 8) (unit : Fin 3) (status : Vector Byte 16) (s : State) (hp : pt ∉ ([.free, .pixels, .faults, .boot] : List Part)) :
    KeepsPart pt s (execJenzanPoll port unit status s) := by
  unfold execJenzanPoll
  simp only [List.mem_cons, List.not_mem_nil, or_false, not_or] at hp
  first
  | (simp (maxDischargeDepth := 12) only [modPort_part, modUnit_part, pollDriver_part, pollPresent_part, raiseD_part, when_part, keepsPart_live, keepsPart_liveIf, keepsPart_next, hp, part_ite, ite_self, List.mem_cons, List.not_mem_nil, or_false, not_or, not_false_eq_true, and_self, implies_true, ne_eq]; done)
  | (try dsimp only
     (repeat' split) <;> simp (maxDischargeDepth := 12) only [modPort_part, modUnit_part, pollDriver_part, pollPresent_part, raiseD_part, when_part, keepsPart_live, keepsPart_liveIf, keepsPart_next, hp, part_ite, ite_self, List.mem_cons, List.not_mem_nil, or_false, not_or, not_false_eq_true, and_self, implies_true, ne_eq])

theorem execJenzanReplyMissing_part {pt : Part} (port : Fin 8) (unit : Fin 3) (request : JzRequest) (badCrc : Bool) (s : State) (hp : pt ∉ ([.boot] : List Part)) :
    KeepsPart pt s (execJenzanReplyMissing port unit request badCrc s) := by
  unfold execJenzanReplyMissing
  simp only [List.mem_cons, List.not_mem_nil, or_false, not_or] at hp
  simp (maxDischargeDepth := 12) only [modPort_part, modUnit_part, when_part, keepsPart_live, keepsPart_liveIf, keepsPart_next, hp, part_ite, ite_self, List.mem_cons, List.not_mem_nil, or_false, not_or, not_false_eq_true, and_self, implies_true, ne_eq]

theorem detachIfDue_part {pt : Part} (port : Fin 8) (unit : Nat) (s : State) (hp : pt ∉ ([.pixels, .faults, .boot] : List Part)) :
    (State.detachIfDue port unit s).part pt = s.part pt := by
  unfold State.detachIfDue
  simp only [List.mem_cons, List.not_mem_nil, or_false, not_or] at hp
  simp (maxDischargeDepth := 12) only [modPort_part, unitDetach_part, each_part, hp, part_ite, ite_self, List.mem_cons, List.not_mem_nil, or_false, not_or, not_false_eq_true, and_self, implies_true, ne_eq]

theorem execUnitDetach_part {pt : Part} (port : Fin 8) (unit : Fin 3) (s : State) (hp : pt ∉ ([.pixels, .faults, .boot] : List Part)) :
    KeepsPart pt s (execUnitDetach port unit s) := by
  unfold execUnitDetach
  simp only [List.mem_cons, List.not_mem_nil, or_false, not_or] at hp
  simp (maxDischargeDepth := 12) only [detachIfDue_part, keepsPart_live, keepsPart_liveIf, keepsPart_next, hp, part_ite, ite_self, List.mem_cons, List.not_mem_nil, or_false, not_or, not_false_eq_true, and_self, implies_true, ne_eq]

theorem execWearWrite_part {pt : Part} (port : Fin 8) (unit : Fin 3) (revolutions : Nat) (acked : Bool) (s : State) (hp : pt ∉ ([.boot] : List Part)) :
    KeepsPart pt s (execWearWrite port unit revolutions acked s) := by
  unfold execWearWrite
  simp only [List.mem_cons, List.not_mem_nil, or_false, not_or] at hp
  simp (maxDischargeDepth := 12) only [modUnit_part, keepsPart_live, keepsPart_liveIf, keepsPart_next, hp, part_ite, ite_self, List.mem_cons, List.not_mem_nil, or_false, not_or, not_false_eq_true, and_self, implies_true, ne_eq]

theorem discover_part {pt : Part} (f : JzFound) (s : State) (hp : pt ∉ ([.pixels, .faults, .boot, .survey] : List Part)) :
    (State.discover f s).part pt = s.part pt := by
  unfold State.discover
  simp only [List.mem_cons, List.not_mem_nil, or_false, not_or] at hp
  simp (maxDischargeDepth := 12) only [bind_part, unitAppears_part, unitIdentify_part, when_part, hp, part_ite, ite_self, List.mem_cons, List.not_mem_nil, or_false, not_or, not_false_eq_true, and_self, implies_true, ne_eq]

end Sys2Proof.Machine
end

