-- ==== Sys2Proof/Laws/KeptOtp.lean ====
section
/-! SUPPORT. Which parts of the state each operation of Machine/Otp.lean leaves as they are. -/

set_option linter.unusedSimpArgs false

namespace Sys2Proof.Machine

open Sys2Proof

theorem haltBoot_part {pt : Part} (stage : BootStage) (s : State) (hp : pt ∉ ([.boot] : List Part)) :
    (State.haltBoot stage s).part pt = s.part pt := by
  unfold State.haltBoot
  simp only [List.mem_cons, List.not_mem_nil, or_false, not_or] at hp
  simp (maxDischargeDepth := 12) only [modBoot_part, hp, part_ite, ite_self, List.mem_cons, List.not_mem_nil, or_false, not_or, not_false_eq_true, and_self, implies_true, ne_eq]

theorem senseEvents_part {pt : Part} (flips : List OtpFlip) (s : State) (hp : pt ∉ ([.faults] : List Part)) :
    (State.senseEvents flips s).part pt = s.part pt := by
  unfold State.senseEvents
  simp only [List.mem_cons, List.not_mem_nil, or_false, not_or] at hp
  simp (maxDischargeDepth := 12) only [raise_part, raiseD_part, raiseIf_part, each_part, hp, part_ite, ite_self, List.mem_cons, List.not_mem_nil, or_false, not_or, not_false_eq_true, and_self, implies_true, ne_eq]

theorem integrity_part {pt : Part} (s : State) (hp : pt ∉ ([.faults, .otp] : List Part)) :
    (State.integrity s).part pt = s.part pt := by
  unfold State.integrity
  simp only [List.mem_cons, List.not_mem_nil, or_false, not_or] at hp
  simp (maxDischargeDepth := 12) only [raise_part, raiseIf_part, modOtp_part, each_part, hp, part_ite, ite_self, List.mem_cons, List.not_mem_nil, or_false, not_or, not_false_eq_true, and_self, implies_true, ne_eq]

theorem romStep_part {pt : Part} (s : State) (hp : pt ∉ ([.scan, .boot, .otp] : List Part)) :
    (State.romStep s).part pt = s.part pt := by
  unfold State.romStep
  simp only [List.mem_cons, List.not_mem_nil, or_false, not_or] at hp
  simp (maxDischargeDepth := 12) only [modBoot_part, modOtp_part, modScan_part, hp, part_ite, ite_self, List.mem_cons, List.not_mem_nil, or_false, not_or, not_false_eq_true, and_self, implies_true, ne_eq]

theorem policyStep_part {pt : Part} (s : State) (hp : pt ∉ ([.faults, .boot, .otp] : List Part)) :
    (State.policyStep s).part pt = s.part pt := by
  unfold State.policyStep
  simp only [List.mem_cons, List.not_mem_nil, or_false, not_or] at hp
  simp (maxDischargeDepth := 12) only [haltBoot_part, raise_part, modBoot_part, modOtp_part, hp, part_ite, ite_self, List.mem_cons, List.not_mem_nil, or_false, not_or, not_false_eq_true, and_self, implies_true, ne_eq]

theorem execBootOtpSense_part {pt : Part} (temp : Int) (flips : List OtpFlip) (s : State) (hp : pt ∉ ([.scan, .faults, .boot, .otp] : List Part)) :
    KeepsPart pt s (execBootOtpSense temp flips s) := by
  unfold execBootOtpSense
  simp only [List.mem_cons, List.not_mem_nil, or_false, not_or] at hp
  simp (maxDischargeDepth := 12) only [integrity_part, policyStep_part, romStep_part, senseEvents_part, modOtp_part, keepsPart_live, keepsPart_liveIf, keepsPart_next, hp, part_ite, ite_self, List.mem_cons, List.not_mem_nil, or_false, not_or, not_false_eq_true, and_self, implies_true, ne_eq]

theorem otpEnd_part {pt : Part} (st : OtpStatus) (s : State) (hp : pt ∉ ([.otp] : List Part)) :
    (State.otpEnd st s).part pt = s.part pt := by
  unfold State.otpEnd
  simp only [List.mem_cons, List.not_mem_nil, or_false, not_or] at hp
  simp (maxDischargeDepth := 12) only [modOtp_part, hp, part_ite, ite_self, List.mem_cons, List.not_mem_nil, or_false, not_or, not_false_eq_true, and_self, implies_true, ne_eq]

theorem pulseWord_part {pt : Part} (a : Nat) (want : BitVec 40) (p : OtpPulse) (s : State) (hp : pt ∉ ([.faults, .otp] : List Part)) :
    (State.pulseWord a want p s).part pt = s.part pt := by
  unfold State.pulseWord
  simp only [List.mem_cons, List.not_mem_nil, or_false, not_or] at hp
  first
  | (simp (maxDischargeDepth := 12) only [raise_part, modOtp_part, hp, part_ite, ite_self, List.mem_cons, List.not_mem_nil, or_false, not_or, not_false_eq_true, and_self, implies_true, ne_eq]; done)
  | (try dsimp only
     (repeat' split) <;> simp (maxDischargeDepth := 12) only [raise_part, modOtp_part, hp, part_ite, ite_self, List.mem_cons, List.not_mem_nil, or_false, not_or, not_false_eq_true, and_self, implies_true, ne_eq])

theorem execOtpProgram_part {pt : Part} (key : BitVec 16) (p : OtpPulse) (s : State) (hp : pt ∉ ([.faults, .otp] : List Part)) :
    KeepsPart pt s (execOtpProgram key p s) := by
  unfold execOtpProgram
  simp only [List.mem_cons, List.not_mem_nil, or_false, not_or] at hp
  first
  | (simp (maxDischargeDepth := 12) only [otpEnd_part, pulseWord_part, keepsPart_live, keepsPart_liveIf, keepsPart_next, hp, part_ite, ite_self, List.mem_cons, List.not_mem_nil, or_false, not_or, not_false_eq_true, and_self, implies_true, ne_eq]; done)
  | (try dsimp only
     (repeat' split) <;> simp (maxDischargeDepth := 12) only [otpEnd_part, pulseWord_part, keepsPart_live, keepsPart_liveIf, keepsPart_next, hp, part_ite, ite_self, List.mem_cons, List.not_mem_nil, or_false, not_or, not_false_eq_true, and_self, implies_true, ne_eq])

theorem verify_part {pt : Part} (r : Nat) (flips : List OtpFlip) (s : State) (hp : pt ∉ ([.otp] : List Part)) :
    (State.verify r flips s).part pt = s.part pt := by
  unfold State.verify
  simp only [List.mem_cons, List.not_mem_nil, or_false, not_or] at hp
  simp (maxDischargeDepth := 12) only [modOtp_part, hp, part_ite, ite_self, List.mem_cons, List.not_mem_nil, or_false, not_or, not_false_eq_true, and_self, implies_true, ne_eq]

theorem execVerifyRegion_part {pt : Part} (key : BitVec 16) (r : Fin 8) (flips : List OtpFlip) (s : State) (hp : pt ∉ ([.otp] : List Part)) :
    KeepsPart pt s (execVerifyRegion key r flips s) := by
  unfold execVerifyRegion
  simp only [List.mem_cons, List.not_mem_nil, or_false, not_or] at hp
  try dsimp only
  (repeat' split) <;> simp (maxDischargeDepth := 12) only [otpEnd_part, verify_part, keepsPart_live, keepsPart_liveIf, keepsPart_next, hp, part_ite, ite_self, List.mem_cons, List.not_mem_nil, or_false, not_or, not_false_eq_true, and_self, implies_true, ne_eq]

theorem execOtpLock_part {pt : Part} (key : BitVec 16) (r : Fin 8) (flips : List OtpFlip) (p : OtpPulse) (s : State) (hp : pt ∉ ([.faults, .otp] : List Part)) :
    KeepsPart pt s (execOtpLock key r flips p s) := by
  unfold execOtpLock
  simp only [List.mem_cons, List.not_mem_nil, or_false, not_or] at hp
  try dsimp only
  (repeat' split) <;> simp (maxDischargeDepth := 12) only [otpEnd_part, pulseWord_part, verify_part, keepsPart_live, keepsPart_liveIf, keepsPart_next, hp, part_ite, ite_self, List.mem_cons, List.not_mem_nil, or_false, not_or, not_false_eq_true, and_self, implies_true, ne_eq]

theorem execOtpAdvance_part {pt : Part} (key : BitVec 16) (p : OtpPulse) (s : State) (hp : pt ∉ ([.faults, .otp] : List Part)) :
    KeepsPart pt s (execOtpAdvance key p s) := by
  unfold execOtpAdvance
  simp only [List.mem_cons, List.not_mem_nil, or_false, not_or] at hp
  try dsimp only
  (repeat' split) <;> simp (maxDischargeDepth := 12) only [otpEnd_part, pulseWord_part, keepsPart_live, keepsPart_liveIf, keepsPart_next, hp, part_ite, ite_self, List.mem_cons, List.not_mem_nil, or_false, not_or, not_false_eq_true, and_self, implies_true, ne_eq]

end Sys2Proof.Machine
end

