-- ==== Sys2Proof/Laws/KeptRegs.lean ====
section
/-! SUPPORT. Which parts of the state each operation of Machine/Regs.lean leaves as they are. -/

set_option linter.unusedSimpArgs false

namespace Sys2Proof.Machine

open Sys2Proof

theorem execLowHalfRead_part {pt : Part} (word : Fin 262144) (be : BitVec 4) (s : State) (hp : pt ∉ ([.host] : List Part)) :
    KeepsPart pt s (execLowHalfRead word be s) := by
  unfold execLowHalfRead
  simp only [List.mem_cons, List.not_mem_nil, or_false, not_or] at hp
  simp (maxDischargeDepth := 12) only [modHost_part, keepsPart_live, keepsPart_liveIf, keepsPart_next, hp, part_ite, ite_self, List.mem_cons, List.not_mem_nil, or_false, not_or, not_false_eq_true, and_self, implies_true, ne_eq]

end Sys2Proof.Machine
end

