-- ==== Sys2Proof/Laws/KeptTelemetry.lean ====
section
/-! SUPPORT. Which parts of the state each operation of Machine/Telemetry.lean leaves as they are. -/

set_option linter.unusedSimpArgs false

namespace Sys2Proof.Machine

open Sys2Proof

theorem modStream_part {pt : Part} (n : Nat) (f : Stream → Stream) (s : State) (hp : pt ∉ ([.telemetry] : List Part)) :
    (State.modStream n f s).part pt = s.part pt := by
  unfold State.modStream
  simp only [List.mem_cons, List.not_mem_nil, or_false, not_or] at hp
  simp (maxDischargeDepth := 12) only [modTelemetry_part, hp, part_ite, ite_self, List.mem_cons, List.not_mem_nil, or_false, not_or, not_false_eq_true, and_self, implies_true, ne_eq]

theorem stageRecord_part {pt : Part} (n kind inst time : Nat) (body : List Byte) (s : State) (hp : pt ∉ ([.faults, .telemetry] : List Part)) :
    (State.stageRecord n kind inst time body s).part pt = s.part pt := by
  unfold State.stageRecord
  simp only [List.mem_cons, List.not_mem_nil, or_false, not_or] at hp
  first
  | (simp (maxDischargeDepth := 12) only [modStream_part, raiseIf_part, hp, part_ite, ite_self, List.mem_cons, List.not_mem_nil, or_false, not_or, not_false_eq_true, and_self, implies_true, ne_eq]; done)
  | (try dsimp only
     (repeat' split) <;> simp (maxDischargeDepth := 12) only [modStream_part, raiseIf_part, hp, part_ite, ite_self, List.mem_cons, List.not_mem_nil, or_false, not_or, not_false_eq_true, and_self, implies_true, ne_eq])

theorem traceLoop_part {pt : Part} (d : Sample) (g : LegLoopSource) (s : State) (hp : pt ∉ ([.faults, .telemetry] : List Part)) :
    (State.traceLoop d g s).part pt = s.part pt := by
  unfold State.traceLoop
  simp only [List.mem_cons, List.not_mem_nil, or_false, not_or] at hp
  simp (maxDischargeDepth := 12) only [modStream_part, stageRecord_part, when_part, hp, part_ite, ite_self, List.mem_cons, List.not_mem_nil, or_false, not_or, not_false_eq_true, and_self, implies_true, ne_eq]

theorem ringSample_part {pt : Part} (n : Nat) (d : Sample) (s : State) (hp : pt ∉ ([.free, .host, .telemetry, .memory] : List Part)) :
    (State.ringSample n d s).part pt = s.part pt := by
  unfold State.ringSample
  simp only [List.mem_cons, List.not_mem_nil, or_false, not_or] at hp
  simp (maxDischargeDepth := 12) only [modStream_part, takeBytes_part, writeMem_part, hp, State.takeByte, State.takeBytes, set_free_part, part_ite, ite_self, List.mem_cons, List.not_mem_nil, or_false, not_or, not_false_eq_true, and_self, implies_true, ne_eq]

theorem captureLoop_part {pt : Part} (d : Sample) (s : State) (hp : pt ∉ ([.free, .faults, .host, .telemetry, .memory] : List Part)) :
    (State.captureLoop d s).part pt = s.part pt := by
  unfold State.captureLoop
  simp only [List.mem_cons, List.not_mem_nil, or_false, not_or] at hp
  simp (maxDischargeDepth := 12) only [ringSample_part, traceLoop_part, each_part, hp, part_ite, ite_self, List.mem_cons, List.not_mem_nil, or_false, not_or, not_false_eq_true, and_self, implies_true, ne_eq]

theorem captureLane_part {pt : Part} (x : Fin 6) (s : State) (hp : pt ∉ ([.faults, .telemetry] : List Part)) :
    (State.captureLane x s).part pt = s.part pt := by
  unfold State.captureLane
  simp only [List.mem_cons, List.not_mem_nil, or_false, not_or] at hp
  first
  | (simp (maxDischargeDepth := 12) only [stageRecord_part, modTelemetry_part, hp, part_ite, ite_self, List.mem_cons, List.not_mem_nil, or_false, not_or, not_false_eq_true, and_self, implies_true, ne_eq]; done)
  | (try dsimp only
     (repeat' split) <;> simp (maxDischargeDepth := 12) only [stageRecord_part, modTelemetry_part, hp, part_ite, ite_self, List.mem_cons, List.not_mem_nil, or_false, not_or, not_false_eq_true, and_self, implies_true, ne_eq])

theorem execCaptureRecord_part {pt : Part} (src : Fin 59) (s : State) (hp : pt ∉ ([.free, .faults, .host, .telemetry, .memory] : List Part)) :
    KeepsPart pt s (execCaptureRecord src s) := by
  unfold execCaptureRecord
  simp only [List.mem_cons, List.not_mem_nil, or_false, not_or] at hp
  first
  | (simp (maxDischargeDepth := 12) only [captureLane_part, captureLoop_part, modTelemetry_part, keepsPart_live, keepsPart_liveIf, keepsPart_next, hp, part_ite, ite_self, List.mem_cons, List.not_mem_nil, or_false, not_or, not_false_eq_true, and_self, implies_true, ne_eq]; done)
  | (try dsimp only
     (repeat' split) <;> simp (maxDischargeDepth := 12) only [captureLane_part, captureLoop_part, modTelemetry_part, keepsPart_live, keepsPart_liveIf, keepsPart_next, hp, part_ite, ite_self, List.mem_cons, List.not_mem_nil, or_false, not_or, not_false_eq_true, and_self, implies_true, ne_eq])

theorem snapshot_part {pt : Part} (n : Nat) (record : List Byte) (s : State) (hp : pt ∉ ([.faults, .telemetry] : List Part)) :
    (State.snapshot n record s).part pt = s.part pt := by
  unfold State.snapshot
  simp only [List.mem_cons, List.not_mem_nil, or_false, not_or] at hp
  simp (maxDischargeDepth := 12) only [modStream_part, stageRecord_part, hp, part_ite, ite_self, List.mem_cons, List.not_mem_nil, or_false, not_or, not_false_eq_true, and_self, implies_true, ne_eq]

theorem execSnapshotTrigger_part {pt : Part} (n : Fin 4) (s : State) (hp : pt ∉ ([.faults, .telemetry] : List Part)) :
    KeepsPart pt s (execSnapshotTrigger n s) := by
  unfold execSnapshotTrigger
  simp only [List.mem_cons, List.not_mem_nil, or_false, not_or] at hp
  first
  | (simp (maxDischargeDepth := 12) only [modStream_part, raise_part, snapshot_part, keepsPart_live, keepsPart_liveIf, keepsPart_next, hp, part_ite, ite_self, List.mem_cons, List.not_mem_nil, or_false, not_or, not_false_eq_true, and_self, implies_true, ne_eq]; done)
  | (try dsimp only
     (repeat' split) <;> simp (maxDischargeDepth := 12) only [modStream_part, raise_part, snapshot_part, keepsPart_live, keepsPart_liveIf, keepsPart_next, hp, part_ite, ite_self, List.mem_cons, List.not_mem_nil, or_false, not_or, not_false_eq_true, and_self, implies_true, ne_eq])

theorem bufferRecord_part {pt : Part} (n cq addr used : Nat) (st : TlmStatus) (irq : Bool) (s : State) (hp : pt ∉ ([.faults, .host] : List Part)) :
    (State.bufferRecord n cq addr used st irq s).part pt = s.part pt := by
  unfold State.bufferRecord
  simp only [List.mem_cons, List.not_mem_nil, or_false, not_or] at hp
  simp (maxDischargeDepth := 12) only [offer_part, hp, part_ite, ite_self, List.mem_cons, List.not_mem_nil, or_false, not_or, not_false_eq_true, and_self, implies_true, ne_eq]

theorem stopRecord_part {pt : Part} (n : Nat) (st : TlmStatus) (s : State) (hp : pt ∉ ([.faults, .host] : List Part)) :
    (State.stopRecord n st s).part pt = s.part pt := by
  unfold State.stopRecord
  simp only [List.mem_cons, List.not_mem_nil, or_false, not_or] at hp
  first
  | (simp (maxDischargeDepth := 12) only [bufferRecord_part, raise_part, hp, part_ite, ite_self, List.mem_cons, List.not_mem_nil, or_false, not_or, not_false_eq_true, and_self, implies_true, ne_eq]; done)
  | (try dsimp only
     (repeat' split) <;> simp (maxDischargeDepth := 12) only [bufferRecord_part, raise_part, hp, part_ite, ite_self, List.mem_cons, List.not_mem_nil, or_false, not_or, not_false_eq_true, and_self, implies_true, ne_eq])

theorem stopStream_part {pt : Part} (n : Nat) (st : TlmStatus) (s : State) (hp : pt ∉ ([.faults, .host, .telemetry] : List Part)) :
    (State.stopStream n st s).part pt = s.part pt := by
  unfold State.stopStream
  simp only [List.mem_cons, List.not_mem_nil, or_false, not_or] at hp
  first
  | (simp (maxDischargeDepth := 12) only [modStream_part, raise_part, stopRecord_part, modTelemetry_part, when_part, hp, part_ite, ite_self, List.mem_cons, List.not_mem_nil, or_false, not_or, not_false_eq_true, and_self, implies_true, ne_eq]; done)
  | (try dsimp only
     (repeat' split) <;> simp (maxDischargeDepth := 12) only [modStream_part, raise_part, stopRecord_part, modTelemetry_part, when_part, hp, part_ite, ite_self, List.mem_cons, List.not_mem_nil, or_false, not_or, not_false_eq_true, and_self, implies_true, ne_eq])

theorem useBuffer_part {pt : Part} (n addr : Nat) (host : Option (Vector Byte 32)) (s : State) (hp : pt ∉ ([.free, .faults, .host, .dma, .telemetry, .memory] : List Part)) :
    (State.useBuffer n addr host s).1.part pt = s.part pt := by
  unfold State.useBuffer
  simp only [List.mem_cons, List.not_mem_nil, or_false, not_or] at hp
  first
  | (simp (maxDischargeDepth := 12) only [descError_part, modStream_part, hp, part_ite, ite_self, List.mem_cons, List.not_mem_nil, or_false, not_or, not_false_eq_true, and_self, implies_true, ne_eq]; done)
  | (try dsimp only
     (repeat' split) <;> simp (maxDischargeDepth := 12) only [descError_part, modStream_part, hp, part_ite, ite_self, List.mem_cons, List.not_mem_nil, or_false, not_or, not_false_eq_true, and_self, implies_true, ne_eq])

theorem nextBuffer_part {pt : Part} (n : Nat) (b : TlmBuffer) (ans : TlmAnswer) (s : State) (hp : pt ∉ ([.free, .faults, .host, .dma, .telemetry, .memory] : List Part)) :
    (State.nextBuffer n b ans s).1.part pt = s.part pt := by
  unfold State.nextBuffer
  simp only [List.mem_cons, List.not_mem_nil, or_false, not_or] at hp
  first
  | (simp (maxDischargeDepth := 12) only [bufferRecord_part, descError_part, modStream_part, useBuffer_part, when_part, hp, part_ite, ite_self, List.mem_cons, List.not_mem_nil, or_false, not_or, not_false_eq_true, and_self, implies_true, ne_eq]; done)
  | (try dsimp only
     (repeat' split) <;> simp (maxDischargeDepth := 12) only [bufferRecord_part, descError_part, modStream_part, useBuffer_part, when_part, hp, part_ite, ite_self, List.mem_cons, List.not_mem_nil, or_false, not_or, not_false_eq_true, and_self, implies_true, ne_eq])

theorem putOut_part {pt : Part} (k n : Nat) (last : Bool) (bs : List Byte) (answers : List TlmAnswer) (s : State)
    (hp : pt ∉ ([.free, .faults, .host, .dma, .telemetry, .memory] : List Part)) :
    (State.putOut k n last bs answers s).1.part pt = s.part pt := by
  have hp' := hp
  simp only [List.mem_cons, List.not_mem_nil, or_false, not_or] at hp
  induction k generalizing bs answers s with
  | zero => rfl
  | succ k ih =>
    unfold State.putOut
    dsimp only
    (repeat' split) <;>
      simp (maxDischargeDepth := 12) only [ih, nextBuffer_part, writeMem_part, modStream_part, hp, ite_self, List.mem_cons,
        List.not_mem_nil, or_false, not_or, not_false_eq_true, and_self, implies_true, ne_eq, part_ite]

theorem openStream_part {pt : Part} (n head : Nat) (host : Option (Vector Byte 32)) (s : State) (hp : pt ∉ ([.free, .faults, .host, .dma, .telemetry, .memory] : List Part)) :
    (State.openStream n head host s).part pt = s.part pt := by
  unfold State.openStream
  simp only [List.mem_cons, List.not_mem_nil, or_false, not_or] at hp
  first
  | (simp (maxDischargeDepth := 12) only [modStream_part, putOut_part, stopStream_part, useBuffer_part, modTelemetry_part, hp, part_ite, ite_self, List.mem_cons, List.not_mem_nil, or_false, not_or, not_false_eq_true, and_self, implies_true, ne_eq]; done)
  | (try dsimp only
     (repeat' split) <;> simp (maxDischargeDepth := 12) only [modStream_part, putOut_part, stopStream_part, useBuffer_part, modTelemetry_part, hp, part_ite, ite_self, List.mem_cons, List.not_mem_nil, or_false, not_or, not_false_eq_true, and_self, implies_true, ne_eq])

theorem execTlmStart_part {pt : Part} (n : Fin 16) (host : Option (Vector Byte 32)) (s : State) (hp : pt ∉ ([.free, .faults, .host, .dma, .telemetry, .memory] : List Part)) :
    KeepsPart pt s (execTlmStart n host s) := by
  unfold execTlmStart
  simp only [List.mem_cons, List.not_mem_nil, or_false, not_or] at hp
  simp (maxDischargeDepth := 12) only [openStream_part, keepsPart_live, keepsPart_liveIf, keepsPart_next, hp, part_ite, ite_self, List.mem_cons, List.not_mem_nil, or_false, not_or, not_false_eq_true, and_self, implies_true, ne_eq]

theorem execTlmStop_part {pt : Part} (n : Fin 16) (s : State) (hp : pt ∉ ([.telemetry] : List Part)) :
    KeepsPart pt s (execTlmStop n s) := by
  unfold execTlmStop
  simp only [List.mem_cons, List.not_mem_nil, or_false, not_or] at hp
  simp (maxDischargeDepth := 12) only [modStream_part, keepsPart_live, keepsPart_liveIf, keepsPart_next, hp, part_ite, ite_self, List.mem_cons, List.not_mem_nil, or_false, not_or, not_false_eq_true, and_self, implies_true, ne_eq]

theorem execTlmFlush_part {pt : Part} (value : BitVec 32) (s : State) (hp : pt ∉ ([.telemetry] : List Part)) :
    KeepsPart pt s (execTlmFlush value s) := by
  unfold execTlmFlush
  simp only [List.mem_cons, List.not_mem_nil, or_false, not_or] at hp
  simp (maxDischargeDepth := 12) only [modStream_part, each_part, keepsPart_live, keepsPart_liveIf, keepsPart_next, hp, part_ite, ite_self, List.mem_cons, List.not_mem_nil, or_false, not_or, not_false_eq_true, and_self, implies_true, ne_eq]

theorem execTlmRearm_part {pt : Part} (value : BitVec 32) (s : State) (hp : pt ∉ ([.free, .faults, .host, .dma, .telemetry, .memory] : List Part)) :
    KeepsPart pt s (execTlmRearm value s) := by
  unfold execTlmRearm
  simp only [List.mem_cons, List.not_mem_nil, or_false, not_or] at hp
  simp (maxDischargeDepth := 12) only [openStream_part, when_part, each_part, keepsPart_live, keepsPart_liveIf, keepsPart_next, hp, part_ite, ite_self, List.mem_cons, List.not_mem_nil, or_false, not_or, not_false_eq_true, and_self, implies_true, ne_eq]

theorem startPrivileged_part {pt : Part} (s : State) (hp : pt ∉ ([.free, .faults, .host, .dma, .telemetry, .memory] : List Part)) :
    (State.startPrivileged s).part pt = s.part pt := by
  unfold State.startPrivileged
  simp only [List.mem_cons, List.not_mem_nil, or_false, not_or] at hp
  simp (maxDischargeDepth := 12) only [modStream_part, openStream_part, when_part, each_part, hp, part_ite, ite_self, List.mem_cons, List.not_mem_nil, or_false, not_or, not_false_eq_true, and_self, implies_true, ne_eq]

theorem switchContext_part {pt : Part} (n : Nat) (s : State) (hp : pt ∉ ([.free, .faults, .host, .telemetry, .memory] : List Part)) :
    (State.switchContext n s).part pt = s.part pt := by
  unfold State.switchContext
  simp only [List.mem_cons, List.not_mem_nil, or_false, not_or] at hp
  first
  | (simp (maxDischargeDepth := 12) only [modStream_part, raise_part, takeBytes_part, writeMem_part, modTelemetry_part, hp, State.takeByte, State.takeBytes, set_free_part, part_ite, ite_self, List.mem_cons, List.not_mem_nil, or_false, not_or, not_false_eq_true, and_self, implies_true, ne_eq]; done)
  | (try dsimp only
     (repeat' split) <;> simp (maxDischargeDepth := 12) only [modStream_part, raise_part, takeBytes_part, writeMem_part, modTelemetry_part, hp, State.takeByte, State.takeBytes, set_free_part, part_ite, ite_self, List.mem_cons, List.not_mem_nil, or_false, not_or, not_false_eq_true, and_self, implies_true, ne_eq])

theorem blockDone_part {pt : Part} (n : Nat) (input : List Byte) (stored final flushed : Bool) (s : State) (hp : pt ∉ ([.faults, .host, .telemetry] : List Part)) :
    (State.blockDone n input stored final flushed s).part pt = s.part pt := by
  unfold State.blockDone
  simp only [List.mem_cons, List.not_mem_nil, or_false, not_or] at hp
  first
  | (simp (maxDischargeDepth := 12) only [bufferRecord_part, modStream_part, modTelemetry_part, when_part, hp, part_ite, ite_self, List.mem_cons, List.not_mem_nil, or_false, not_or, not_false_eq_true, and_self, implies_true, ne_eq]; done)
  | (try dsimp only
     (repeat' split) <;> simp (maxDischargeDepth := 12) only [bufferRecord_part, modStream_part, modTelemetry_part, when_part, hp, part_ite, ite_self, List.mem_cons, List.not_mem_nil, or_false, not_or, not_false_eq_true, and_self, implies_true, ne_eq])

theorem codeBlock_part {pt : Part} (n : Nat) (payload : List Byte) (answers : List TlmAnswer) (s : State) (hp : pt ∉ ([.free, .faults, .host, .dma, .telemetry, .memory] : List Part)) :
    (State.codeBlock n payload answers s).part pt = s.part pt := by
  unfold State.codeBlock
  simp only [List.mem_cons, List.not_mem_nil, or_false, not_or] at hp
  first
  | (simp (maxDischargeDepth := 12) only [blockDone_part, modStream_part, putOut_part, stopStream_part, when_part, hp, part_ite, ite_self, List.mem_cons, List.not_mem_nil, or_false, not_or, not_false_eq_true, and_self, implies_true, ne_eq]; done)
  | (try dsimp only
     (repeat' split) <;> simp (maxDischargeDepth := 12) only [blockDone_part, modStream_part, putOut_part, stopStream_part, when_part, hp, part_ite, ite_self, List.mem_cons, List.not_mem_nil, or_false, not_or, not_false_eq_true, and_self, implies_true, ne_eq])

theorem execBlockCode_part {pt : Part} (payload : List Byte) (answers : List TlmAnswer) (found : List (Bool × Nat)) (s : State) (hp : pt ∉ ([.free, .faults, .host, .dma, .telemetry, .memory] : List Part)) :
    KeepsPart pt s (execBlockCode payload answers found s) := by
  unfold execBlockCode
  simp only [List.mem_cons, List.not_mem_nil, or_false, not_or] at hp
  first
  | (simp (maxDischargeDepth := 12) only [codeBlock_part, spoil_part, switchContext_part, keepsPart_live, keepsPart_liveIf, keepsPart_next, hp, part_ite, ite_self, List.mem_cons, List.not_mem_nil, or_false, not_or, not_false_eq_true, and_self, implies_true, ne_eq]; done)
  | (try dsimp only
     (repeat' split) <;> simp (maxDischargeDepth := 12) only [codeBlock_part, spoil_part, switchContext_part, keepsPart_live, keepsPart_liveIf, keepsPart_next, hp, part_ite, ite_self, List.mem_cons, List.not_mem_nil, or_false, not_or, not_false_eq_true, and_self, implies_true, ne_eq])

theorem execTlmWriteError_part {pt : Part} (n : Fin 16) (fetch : Bool) (s : State) (hp : pt ∉ ([.free, .faults, .host, .dma, .telemetry, .memory] : List Part)) :
    KeepsPart pt s (execTlmWriteError n fetch s) := by
  unfold execTlmWriteError
  simp only [List.mem_cons, List.not_mem_nil, or_false, not_or] at hp
  simp (maxDischargeDepth := 12) only [descError_part, stopStream_part, keepsPart_live, keepsPart_liveIf, keepsPart_next, hp, part_ite, ite_self, List.mem_cons, List.not_mem_nil, or_false, not_or, not_false_eq_true, and_self, implies_true, ne_eq]

theorem tlmLinkReset_part {pt : Part} (s : State) (hp : pt ∉ ([.faults, .host, .telemetry] : List Part)) :
    (State.tlmLinkReset s).part pt = s.part pt := by
  unfold State.tlmLinkReset
  simp only [List.mem_cons, List.not_mem_nil, or_false, not_or] at hp
  simp (maxDischargeDepth := 12) only [stopStream_part, when_part, each_part, hp, part_ite, ite_self, List.mem_cons, List.not_mem_nil, or_false, not_or, not_false_eq_true, and_self, implies_true, ne_eq]

end Sys2Proof.Machine
end

