-- ==== Sys2Proof/Laws/KeptReset.lean ====
section
/-! SUPPORT. Which parts of the state each operation of Machine/Reset.lean leaves as they are. -/

set_option linter.unusedSimpArgs false

namespace Sys2Proof.Machine

open Sys2Proof

theorem resetIslands_part {pt : Part} (s : State) (hp : pt ∉ ([.legendApplied, .layer, .decoders, .pixels, .scan, .position, .polygons, .loops, .motion, .thermal, .power, .faults, .host, .dma, .telemetry, .otp, .survey] : List Part)) :
    (State.resetIslands s).part pt = s.part pt := by
  unfold State.resetIslands
  simp only [List.mem_cons, List.not_mem_nil, or_false, not_or] at hp
  cases pt <;> first | rfl | simp at hp

theorem beforeReset_part {pt : Part} (s : State) (hp : pt ∉ ([.free, .decoders, .pixels, .scan, .position, .polygons, .loops, .host, .dma, .memory] : List Part)) :
    (State.beforeReset s).part pt = s.part pt := by
  unfold State.beforeReset
  simp only [List.mem_cons, List.not_mem_nil, or_false, not_or] at hp
  simp (maxDischargeDepth := 12) only [cutLayer_part, disableChannel_part, when_part, each_part, hp, part_ite, ite_self, List.mem_cons, List.not_mem_nil, or_false, not_or, not_false_eq_true, and_self, implies_true, ne_eq]

theorem warmReset_part {pt : Part} (cause : ResetCause) (kind : RestartKind) (kept : Bool) (s : State) (hp : pt ∉ ([.free, .legendApplied, .layer, .decoders, .pixels, .scan, .position, .polygons, .loops, .motion, .thermal, .power, .faults, .host, .dma, .telemetry, .boot, .otp, .survey, .memory] : List Part)) :
    (State.warmReset cause kind kept s).part pt = s.part pt := by
  unfold State.warmReset
  simp only [List.mem_cons, List.not_mem_nil, or_false, not_or] at hp
  simp (maxDischargeDepth := 12) only [beforeReset_part, resetIslands_part, modBoot_part, modHost_part, hp, part_ite, ite_self, List.mem_cons, List.not_mem_nil, or_false, not_or, not_false_eq_true, and_self, implies_true, ne_eq]

theorem execExternalWarmReset_part {pt : Part} (perst kept : Bool) (s : State) (hp : pt ∉ ([.free, .legendApplied, .layer, .decoders, .pixels, .scan, .position, .polygons, .loops, .motion, .thermal, .power, .faults, .host, .dma, .telemetry, .boot, .otp, .survey, .memory] : List Part)) :
    KeepsPart pt s (execExternalWarmReset perst kept s) := by
  unfold execExternalWarmReset
  simp only [List.mem_cons, List.not_mem_nil, or_false, not_or] at hp
  refine keepsPart_liveIf _ _ _ _ rfl ?_
  split
  · dsimp only
    split <;> simp (maxDischargeDepth := 12) only [warmReset_part, modBoot_part, keepsPart_live, keepsPart_liveIf, keepsPart_next, hp, part_ite, ite_self, List.mem_cons, List.not_mem_nil, or_false, not_or, not_false_eq_true, and_self, implies_true, ne_eq]
  · dsimp only
    split <;> simp (maxDischargeDepth := 12) only [warmReset_part, modBoot_part, keepsPart_live, keepsPart_liveIf, keepsPart_next, hp, part_ite, ite_self, List.mem_cons, List.not_mem_nil, or_false, not_or, not_false_eq_true, and_self, implies_true, ne_eq]

theorem execResetNRelease_part {pt : Part} (s : State) (hp : pt ∉ ([.boot] : List Part)) :
    KeepsPart pt s (execResetNRelease s) := by
  unfold execResetNRelease
  simp only [List.mem_cons, List.not_mem_nil, or_false, not_or] at hp
  simp (maxDischargeDepth := 12) only [modBoot_part, keepsPart_live, keepsPart_liveIf, keepsPart_next, hp, part_ite, ite_self, List.mem_cons, List.not_mem_nil, or_false, not_or, not_false_eq_true, and_self, implies_true, ne_eq]

theorem execWatchdogReset_part {pt : Part} (kept : Bool) (s : State) (hp : pt ∉ ([.free, .legendApplied, .layer, .decoders, .pixels, .scan, .position, .polygons, .loops, .motion, .thermal, .power, .faults, .host, .dma, .telemetry, .boot, .otp, .survey, .memory] : List Part)) :
    KeepsPart pt s (execWatchdogReset kept s) := by
  unfold execWatchdogReset
  simp only [List.mem_cons, List.not_mem_nil, or_false, not_or] at hp
  simp (maxDischargeDepth := 12) only [warmReset_part, keepsPart_live, keepsPart_liveIf, keepsPart_next, hp, part_ite, ite_self, List.mem_cons, List.not_mem_nil, or_false, not_or, not_false_eq_true, and_self, implies_true, ne_eq]

theorem execPowerOnResetAssert_part {pt : Part} (s : State) (hp : pt ∉ ([.timeUs, .legend, .legendApplied, .layer, .decoders, .pixels, .scan, .position, .polygons, .loops, .motion, .thermal, .power, .faults, .host, .dma, .telemetry, .boot, .otp, .survey, .memory] : List Part)) :
    KeepsPart pt s (execPowerOnResetAssert s) := by
  unfold execPowerOnResetAssert
  simp only [List.mem_cons, List.not_mem_nil, or_false, not_or] at hp
  refine keepsPart_next _ _ ?_
  cases pt <;> first | rfl | simp at hp

theorem loadCounters_part {pt : Part} (s : State) (hp : pt ∉ ([.power] : List Part)) :
    (State.loadCounters s).part pt = s.part pt := by
  unfold State.loadCounters
  simp only [List.mem_cons, List.not_mem_nil, or_false, not_or] at hp
  refine each_part _ _ _ fun a t => ?_
  dsimp only
  split <;> simp (maxDischargeDepth := 12) only [powerLog_part, modPower_part, each_part, hp, part_ite, ite_self, List.mem_cons, List.not_mem_nil, or_false, not_or, not_false_eq_true, and_self, implies_true, ne_eq]

theorem execPowerOnReset_part {pt : Part} (resetN perstN testEn : Bool) (s : State) (hp : pt ∉ ([.timeUs, .power, .faults, .boot, .pins] : List Part)) :
    KeepsPart pt s (execPowerOnReset resetN perstN testEn s) := by
  unfold execPowerOnReset
  simp only [List.mem_cons, List.not_mem_nil, or_false, not_or] at hp
  first
  | (simp (maxDischargeDepth := 12) only [loadCounters_part, raiseIf_part, modBoot_part, modFaults_part, modPins_part, modTimeUs_part, keepsPart_live, keepsPart_liveIf, keepsPart_next, hp, part_ite, ite_self, List.mem_cons, List.not_mem_nil, or_false, not_or, not_false_eq_true, and_self, implies_true, ne_eq]; done)
  | (try dsimp only
     (repeat' split) <;> simp (maxDischargeDepth := 12) only [loadCounters_part, raiseIf_part, modBoot_part, modFaults_part, modPins_part, modTimeUs_part, keepsPart_live, keepsPart_liveIf, keepsPart_next, hp, part_ite, ite_self, List.mem_cons, List.not_mem_nil, or_false, not_or, not_false_eq_true, and_self, implies_true, ne_eq])

theorem execTestEnAssert_part {pt : Part} (s : State) (hp : pt ∉ ([.legendApplied, .layer, .decoders, .pixels, .scan, .position, .polygons, .loops, .motion, .thermal, .power, .faults, .host, .dma, .telemetry, .otp, .survey, .pins] : List Part)) :
    KeepsPart pt s (execTestEnAssert s) := by
  unfold execTestEnAssert
  simp only [List.mem_cons, List.not_mem_nil, or_false, not_or] at hp
  simp (maxDischargeDepth := 12) only [resetIslands_part, modPins_part, keepsPart_live, keepsPart_liveIf, keepsPart_next, hp, part_ite, ite_self, List.mem_cons, List.not_mem_nil, or_false, not_or, not_false_eq_true, and_self, implies_true, ne_eq]

theorem execHostLinkReset_part {pt : Part} (speed width : Fin 4) (s : State) (hp : pt ∉ ([.free, .faults, .host, .dma, .telemetry, .memory] : List Part)) :
    KeepsPart pt s (execHostLinkReset speed width s) := by
  unfold execHostLinkReset
  simp only [List.mem_cons, List.not_mem_nil, or_false, not_or] at hp
  simp (maxDischargeDepth := 12) only [disableChannel_part, raise_part, tlmLinkReset_part, modDma_part, modHost_part, each_part, keepsPart_live, keepsPart_liveIf, keepsPart_next, hp, part_ite, ite_self, List.mem_cons, List.not_mem_nil, or_false, not_or, not_false_eq_true, and_self, implies_true, ne_eq]

end Sys2Proof.Machine
end

