-- ==== Sys2Proof/Laws/KeptBoot.lean ====
section
/-! SUPPORT. Which parts of the state each operation of Machine/Boot.lean leaves as they are. -/

set_option linter.unusedSimpArgs false

namespace Sys2Proof.Machine

open Sys2Proof

theorem failNumbers_part {pt : Part} (v : CopyVerdict) (s : State) (hp : pt ∉ ([.free] : List Part)) :
    (State.failNumbers v s).2.part pt = s.part pt := by
  unfold State.failNumbers
  simp only [List.mem_cons, List.not_mem_nil, or_false, not_or] at hp
  first
  | (simp (maxDischargeDepth := 12) only [takeNat_part, hp, State.takeNat, set_free_part, part_ite, ite_self, List.mem_cons, List.not_mem_nil, or_false, not_or, not_false_eq_true, and_self, implies_true, ne_eq]; done)
  | (try dsimp only
     (repeat' split) <;> simp (maxDischargeDepth := 12) only [takeNat_part, hp, State.takeNat, set_free_part, part_ite, ite_self, List.mem_cons, List.not_mem_nil, or_false, not_or, not_false_eq_true, and_self, implies_true, ne_eq])

theorem startClocks_part {pt : Part} (s : State) (hp : pt ∉ ([.scan, .faults] : List Part)) :
    (State.startClocks s).part pt = s.part pt := by
  unfold State.startClocks
  simp only [List.mem_cons, List.not_mem_nil, or_false, not_or] at hp
  simp (maxDischargeDepth := 12) only [loadDividers_part, modScan_part, hp, part_ite, ite_self, List.mem_cons, List.not_mem_nil, or_false, not_or, not_false_eq_true, and_self, implies_true, ne_eq]

theorem startEngines_part {pt : Part} (s : State) (hp : pt ∉ ([.loops] : List Part)) :
    (State.startEngines s).part pt = s.part pt := by
  unfold State.startEngines
  simp only [List.mem_cons, List.not_mem_nil, or_false, not_or] at hp
  simp (maxDischargeDepth := 12) only [modLoops_part, hp, part_ite, ite_self, List.mem_cons, List.not_mem_nil, or_false, not_or, not_false_eq_true, and_self, implies_true, ne_eq]

theorem startPower_part {pt : Part} (s : State) (hp : pt ∉ ([.power] : List Part)) :
    (State.startPower s).part pt = s.part pt := by
  unfold State.startPower
  simp only [List.mem_cons, List.not_mem_nil, or_false, not_or] at hp
  simp (maxDischargeDepth := 12) only [modPower_part, hp, part_ite, ite_self, List.mem_cons, List.not_mem_nil, or_false, not_or, not_false_eq_true, and_self, implies_true, ne_eq]

theorem applyLegend_part {pt : Part} (g : Legend) (s : State) (hp : pt ∉ ([.legend, .legendApplied, .scan, .position, .loops, .motion, .power, .faults, .boot] : List Part)) :
    (State.applyLegend g s).part pt = s.part pt := by
  unfold State.applyLegend
  simp only [List.mem_cons, List.not_mem_nil, or_false, not_or] at hp
  simp (maxDischargeDepth := 12) only [compareIdle_part, startClocks_part, startEngines_part, startPower_part, modBoot_part, modLegendApplied_part, modLegend_part, modMotion_part, modPower_part, when_part, hp, part_ite, ite_self, List.mem_cons, List.not_mem_nil, or_false, not_or, not_false_eq_true, and_self, implies_true, ne_eq]

theorem useCopy_part {pt : Part} (n : Nat) (c : LegendCopy) (s : State) (hp : pt ∉ ([.legend, .legendApplied, .scan, .position, .loops, .motion, .power, .faults, .boot] : List Part)) :
    (State.useCopy n c s).part pt = s.part pt := by
  unfold State.useCopy
  simp only [List.mem_cons, List.not_mem_nil, or_false, not_or] at hp
  simp (maxDischargeDepth := 12) only [applyLegend_part, raiseIf_part, modBoot_part, hp, part_ite, ite_self, List.mem_cons, List.not_mem_nil, or_false, not_or, not_false_eq_true, and_self, implies_true, ne_eq]

theorem execBootLegend_part {pt : Part} (quad dual : Option (Fin 64)) (fast : Fin 64) (a b : LegendCopy) (s : State) (hp : pt ∉ ([.free, .legend, .legendApplied, .scan, .position, .loops, .motion, .power, .faults, .boot] : List Part)) :
    KeepsPart pt s (execBootLegend quad dual fast a b s) := by
  unfold execBootLegend
  simp only [List.mem_cons, List.not_mem_nil, or_false, not_or] at hp
  first
  | (simp (maxDischargeDepth := 12) only [failNumbers_part, haltBoot_part, raise_part, raiseIf_part, useCopy_part, modBoot_part, keepsPart_live, keepsPart_liveIf, keepsPart_next, hp, part_ite, ite_self, List.mem_cons, List.not_mem_nil, or_false, not_or, not_false_eq_true, and_self, implies_true, ne_eq]; done)
  | (try dsimp only
     (repeat' split) <;> simp (maxDischargeDepth := 12) only [failNumbers_part, haltBoot_part, raise_part, raiseIf_part, useCopy_part, modBoot_part, keepsPart_live, keepsPart_liveIf, keepsPart_next, hp, part_ite, ite_self, List.mem_cons, List.not_mem_nil, or_false, not_or, not_false_eq_true, and_self, implies_true, ne_eq])

theorem applyRepair_part {pt : Part} (e : BitVec 32) (s : State) (hp : pt ∉ ([.survey] : List Part)) :
    (State.applyRepair e s).part pt = s.part pt := by
  unfold State.applyRepair
  simp only [List.mem_cons, List.not_mem_nil, or_false, not_or] at hp
  simp (maxDischargeDepth := 12) only [modSurvey_part, hp, part_ite, ite_self, List.mem_cons, List.not_mem_nil, or_false, not_or, not_false_eq_true, and_self, implies_true, ne_eq]

theorem applySpares_part {pt : Part} (softBad : Bool) (s : State) (hp : pt ∉ ([.pixels, .scan, .loops, .faults, .survey] : List Part)) :
    (State.applySpares softBad s).part pt = s.part pt := by
  unfold State.applySpares
  simp only [List.mem_cons, List.not_mem_nil, or_false, not_or] at hp
  refine (each_part _ _ _ fun x t => ?_).trans ?_
  · split <;> simp (maxDischargeDepth := 12) only [applyRepair_part, raise_part, modLoops_part, modPixel_part, modScan_part, modSurvey_part, each_part, hp, part_ite, ite_self, List.mem_cons, List.not_mem_nil, or_false, not_or, not_false_eq_true, and_self, implies_true, ne_eq]
  · (repeat' split) <;> simp (maxDischargeDepth := 12) only [applyRepair_part, raise_part, modLoops_part, modPixel_part, modScan_part, modSurvey_part, each_part, hp, part_ite, ite_self, List.mem_cons, List.not_mem_nil, or_false, not_or, not_false_eq_true, and_self, implies_true, ne_eq]

theorem execBootDdrTrain_part {pt : Part} (ok : Bool) (ms sizeMib : Nat) (softBad : Bool) (s : State) (hp : pt ∉ ([.pixels, .scan, .loops, .faults, .boot, .survey] : List Part)) :
    KeepsPart pt s (execBootDdrTrain ok ms sizeMib softBad s) := by
  unfold execBootDdrTrain
  simp only [List.mem_cons, List.not_mem_nil, or_false, not_or] at hp
  simp (maxDischargeDepth := 12) only [applySpares_part, haltBoot_part, raise_part, modBoot_part, keepsPart_live, keepsPart_liveIf, keepsPart_next, hp, part_ite, ite_self, List.mem_cons, List.not_mem_nil, or_false, not_or, not_false_eq_true, and_self, implies_true, ne_eq]

theorem execBootDiscovery_part {pt : Part} (found : List JzFound) (s : State) (hp : pt ∉ ([.pixels, .faults, .boot, .survey] : List Part)) :
    KeepsPart pt s (execBootDiscovery found s) := by
  unfold execBootDiscovery
  simp only [List.mem_cons, List.not_mem_nil, or_false, not_or] at hp
  simp (maxDischargeDepth := 12) only [discover_part, modBoot_part, each_part, keepsPart_live, keepsPart_liveIf, keepsPart_next, hp, part_ite, ite_self, List.mem_cons, List.not_mem_nil, or_false, not_or, not_false_eq_true, and_self, implies_true, ne_eq]

theorem openConfig_part {pt : Part} (speed width : Nat) (s : State) (hp : pt ∉ ([.host, .boot] : List Part)) :
    (State.openConfig speed width s).part pt = s.part pt := by
  unfold State.openConfig
  simp only [List.mem_cons, List.not_mem_nil, or_false, not_or] at hp
  simp (maxDischargeDepth := 12) only [modBoot_part, modHost_part, hp, part_ite, ite_self, List.mem_cons, List.not_mem_nil, or_false, not_or, not_false_eq_true, and_self, implies_true, ne_eq]

theorem execConfigOpen_part {pt : Part} (speed width : Fin 4) (s : State) (hp : pt ∉ ([.host, .boot] : List Part)) :
    KeepsPart pt s (execConfigOpen speed width s) := by
  unfold execConfigOpen
  simp only [List.mem_cons, List.not_mem_nil, or_false, not_or] at hp
  simp (maxDischargeDepth := 12) only [openConfig_part, modBoot_part, keepsPart_live, keepsPart_liveIf, keepsPart_next, hp, part_ite, ite_self, List.mem_cons, List.not_mem_nil, or_false, not_or, not_false_eq_true, and_self, implies_true, ne_eq]

theorem execBootHalt_part {pt : Part} (speed width : Fin 4) (s : State) (hp : pt ∉ ([.host, .boot] : List Part)) :
    KeepsPart pt s (execBootHalt speed width s) := by
  unfold execBootHalt
  simp only [List.mem_cons, List.not_mem_nil, or_false, not_or] at hp
  simp (maxDischargeDepth := 12) only [openConfig_part, keepsPart_live, keepsPart_liveIf, keepsPart_next, hp, part_ite, ite_self, List.mem_cons, List.not_mem_nil, or_false, not_or, not_false_eq_true, and_self, implies_true, ne_eq]

theorem endAtRestart_part {pt : Part} (slot seq : Nat) (status : EndStatus) (body : List Byte) (s : State) (hp : pt ∉ ([.host] : List Part)) :
    (State.endAtRestart slot seq status body s).part pt = s.part pt := by
  unfold State.endAtRestart
  simp only [List.mem_cons, List.not_mem_nil, or_false, not_or] at hp
  simp (maxDischargeDepth := 12) only [modAtlas_part, hp, part_ite, ite_self, List.mem_cons, List.not_mem_nil, or_false, not_or, not_false_eq_true, and_self, implies_true, ne_eq]

theorem recoverSlot_part {pt : Part} (powerLoss kept : Bool) (slot : Nat) (s : State) (hp : pt ∉ ([.layer, .faults, .host] : List Part)) :
    (State.recoverSlot powerLoss kept slot s).part pt = s.part pt := by
  unfold State.recoverSlot
  simp only [List.mem_cons, List.not_mem_nil, or_false, not_or] at hp
  first
  | (simp (maxDischargeDepth := 12) only [endAtRestart_part, modAtlas_part, raiseIf_part, modHost_part, modLayer_part, hp, part_ite, ite_self, List.mem_cons, List.not_mem_nil, or_false, not_or, not_false_eq_true, and_self, implies_true, ne_eq]; done)
  | (try dsimp only
     (repeat' split) <;> simp (maxDischargeDepth := 12) only [endAtRestart_part, modAtlas_part, raiseIf_part, modHost_part, modLayer_part, hp, part_ite, ite_self, List.mem_cons, List.not_mem_nil, or_false, not_or, not_false_eq_true, and_self, implies_true, ne_eq])

theorem restoreOffsets_part {pt : Part} (s : State) (hp : pt ∉ ([.position, .host] : List Part)) :
    (State.restoreOffsets s).part pt = s.part pt := by
  unfold State.restoreOffsets
  simp only [List.mem_cons, List.not_mem_nil, or_false, not_or] at hp
  simp (maxDischargeDepth := 12) only [modAtlas_part, modPosition_part, hp, part_ite, ite_self, List.mem_cons, List.not_mem_nil, or_false, not_or, not_false_eq_true, and_self, implies_true, ne_eq]

theorem execBootRecovery_part {pt : Part} (bad : List Nat) (s : State) (hp : pt ∉ ([.layer, .position, .faults, .host, .boot, .memory] : List Part)) :
    KeepsPart pt s (execBootRecovery bad s) := by
  unfold execBootRecovery
  simp only [List.mem_cons, List.not_mem_nil, or_false, not_or] at hp
  simp (maxDischargeDepth := 12) only [modAtlas_part, recoverSlot_part, restoreOffsets_part, spoilDram_part, modBoot_part, modHost_part, modLayer_part, modMemory_part, each_part, keepsPart_live, keepsPart_liveIf, keepsPart_next, hp, part_ite, ite_self, List.mem_cons, List.not_mem_nil, or_false, not_or, not_false_eq_true, and_self, implies_true, ne_eq]

theorem execReady_part {pt : Part} (s : State) (hp : pt ∉ ([.free, .loops, .motion, .faults, .host, .dma, .telemetry, .boot, .survey, .memory] : List Part)) :
    KeepsPart pt s (execReady s) := by
  unfold execReady
  simp only [List.mem_cons, List.not_mem_nil, or_false, not_or] at hp
  simp (maxDischargeDepth := 12) only [enableServos_part, heatersStart_part, hvStart_part, startPrivileged_part, steppersOn_part, modBoot_part, modFaults_part, modMotion_part, modSurvey_part, keepsPart_live, keepsPart_liveIf, keepsPart_next, hp, part_ite, ite_self, List.mem_cons, List.not_mem_nil, or_false, not_or, not_false_eq_true, and_self, implies_true, ne_eq]

end Sys2Proof.Machine
end

