-- ==== Sys2Proof/Laws/KeptMq.lean ====
section
/-! SUPPORT. Which parts of the state each operation of Machine/Mq.lean leaves as they are. -/

set_option linter.unusedSimpArgs false

namespace Sys2Proof.Machine

open Sys2Proof

theorem abortJob_part {pt : Part} (seq : Nat) (s : State) (hp : pt ∉ ([.layer, .decoders, .pixels, .scan, .position, .polygons, .loops, .motion, .power, .host, .telemetry, .boot] : List Part)) :
    (State.abortJob seq s).2.part pt = s.part pt := by
  unfold State.abortJob
  simp only [List.mem_cons, List.not_mem_nil, or_false, not_or] at hp
  try dsimp only
  (repeat' split) <;> simp (maxDischargeDepth := 12) only [abort_part, drivePulse_part, rejectJob_part, hp, part_ite, ite_self, List.mem_cons, List.not_mem_nil, or_false, not_or, not_false_eq_true, and_self, implies_true, ne_eq]

theorem resumeLayer_part {pt : Part} (h : MqHeader) (s : State) (hp : pt ∉ ([.layer, .motion, .faults, .host] : List Part)) :
    (State.resumeLayer h s).part pt = s.part pt := by
  unfold State.resumeLayer
  simp only [List.mem_cons, List.not_mem_nil, or_false, not_or] at hp
  simp (maxDischargeDepth := 12) only [finishResume_part, modLayer_part, modMotion_part, when_part, hp, part_ite, ite_self, List.mem_cons, List.not_mem_nil, or_false, not_or, not_false_eq_true, and_self, implies_true, ne_eq]

theorem flushLayer_part {pt : Part} (s : State) (hp : pt ∉ ([.layer, .decoders, .pixels, .position, .loops, .power, .host, .telemetry, .boot] : List Part)) :
    (State.flushLayer s).part pt = s.part pt := by
  unfold State.flushLayer
  simp only [List.mem_cons, List.not_mem_nil, or_false, not_or] at hp
  simp (maxDischargeDepth := 12) only [drivePulse_part, rejectJob_part, modLayer_part, each_part, hp, part_ite, ite_self, List.mem_cons, List.not_mem_nil, or_false, not_or, not_false_eq_true, and_self, implies_true, ne_eq]

theorem setExposure_part {pt : Part} (n : Nat) (s : State) (hp : pt ∉ ([.pixels, .loops] : List Part)) :
    (State.setExposure n s).part pt = s.part pt := by
  unfold State.setExposure
  simp only [List.mem_cons, List.not_mem_nil, or_false, not_or] at hp
  simp (maxDischargeDepth := 12) only [modLoop_part, allPixels_part, modLoops_part, when_part, each_part, hp, part_ite, ite_self, List.mem_cons, List.not_mem_nil, or_false, not_or, not_false_eq_true, and_self, implies_true, ne_eq]

theorem setSpeed_part {pt : Part} (code : Nat) (s : State) (hp : pt ∉ ([.scan, .polygons, .motion, .thermal, .faults, .host] : List Part)) :
    (State.setSpeed code s).2.part pt = s.part pt := by
  unfold State.setSpeed
  simp only [List.mem_cons, List.not_mem_nil, or_false, not_or] at hp
  first
  | (simp (maxDischargeDepth := 12) only [frequencyRequest_part, hp, part_ite, ite_self, List.mem_cons, List.not_mem_nil, or_false, not_or, not_false_eq_true, and_self, implies_true, ne_eq]; done)
  | (try dsimp only
     (repeat' split) <;> simp (maxDischargeDepth := 12) only [frequencyRequest_part, hp, part_ite, ite_self, List.mem_cons, List.not_mem_nil, or_false, not_or, not_false_eq_true, and_self, implies_true, ne_eq])

theorem setHeater_part {pt : Part} (mask : BitVec 8) (v : Int) (s : State) (hp : pt ∉ ([.loops] : List Part)) :
    (State.setHeater mask v s).part pt = s.part pt := by
  unfold State.setHeater
  simp only [List.mem_cons, List.not_mem_nil, or_false, not_or] at hp
  simp (maxDischargeDepth := 12) only [modHeater_part, modLoop_part, when_part, each_part, hp, part_ite, ite_self, List.mem_cons, List.not_mem_nil, or_false, not_or, not_false_eq_true, and_self, implies_true, ne_eq]

theorem saveOffsets_part {pt : Part} (s : State) (hp : pt ∉ ([.position, .host] : List Part)) :
    (State.saveOffsets s).part pt = s.part pt := by
  unfold State.saveOffsets
  simp only [List.mem_cons, List.not_mem_nil, or_false, not_or] at hp
  simp (maxDischargeDepth := 12) only [modAtlas_part, modPosition_part, when_part, hp, part_ite, ite_self, List.mem_cons, List.not_mem_nil, or_false, not_or, not_false_eq_true, and_self, implies_true, ne_eq]

theorem regSet_part {pt : Part} (mask : BitVec 8) (xs ins : Int) (s : State) (hp : pt ∉ ([.scan, .position, .faults, .host] : List Part)) :
    (State.regSet mask xs ins s).part pt = s.part pt := by
  unfold State.regSet
  simp only [List.mem_cons, List.not_mem_nil, or_false, not_or] at hp
  simp (maxDischargeDepth := 12) only [saveOffsets_part, setOffsets_part, each_part, hp, part_ite, ite_self, List.mem_cons, List.not_mem_nil, or_false, not_or, not_false_eq_true, and_self, implies_true, ne_eq]

theorem faultThresh_part {pt : Part} (src n w : Nat) (s : State) (hp : pt ∉ ([.faults] : List Part)) :
    (State.faultThresh src n w s).2.part pt = s.part pt := by
  unfold State.faultThresh
  simp only [List.mem_cons, List.not_mem_nil, or_false, not_or] at hp
  first
  | (simp (maxDischargeDepth := 12) only [modFaults_part, hp, part_ite, ite_self, List.mem_cons, List.not_mem_nil, or_false, not_or, not_false_eq_true, and_self, implies_true, ne_eq]; done)
  | (try dsimp only
     (repeat' split) <;> simp (maxDischargeDepth := 12) only [modFaults_part, hp, part_ite, ite_self, List.mem_cons, List.not_mem_nil, or_false, not_or, not_false_eq_true, and_self, implies_true, ne_eq])

theorem polyCtrl_part {pt : Part} (mask : BitVec 8) (action : Nat) (s : State) (hp : pt ∉ ([.polygons] : List Part)) :
    (State.polyCtrl mask action s).part pt = s.part pt := by
  unfold State.polyCtrl
  simp only [List.mem_cons, List.not_mem_nil, or_false, not_or] at hp
  simp (maxDischargeDepth := 12) only [polyStart_part, polyStop_part, modPolygon_part, when_part, each_part, hp, part_ite, ite_self, List.mem_cons, List.not_mem_nil, or_false, not_or, not_false_eq_true, and_self, implies_true, ne_eq]

theorem hvCtrl_part {pt : Part} (mask : BitVec 8) (action : Nat) (s : State) (hp : pt ∉ ([.loops] : List Part)) :
    (State.hvCtrl mask action s).part pt = s.part pt := by
  unfold State.hvCtrl
  simp only [List.mem_cons, List.not_mem_nil, or_false, not_or] at hp
  simp (maxDischargeDepth := 12) only [acStop_part, hvToSafe_part, modHv_part, each_part, hp, part_ite, ite_self, List.mem_cons, List.not_mem_nil, or_false, not_or, not_false_eq_true, and_self, implies_true, ne_eq]

theorem motionStop_part {pt : Part} (m : BitVec 16) (s : State) (hp : pt ∉ ([.layer, .motion, .faults] : List Part)) :
    (State.motionStop m s).part pt = s.part pt := by
  unfold State.motionStop
  simp only [List.mem_cons, List.not_mem_nil, or_false, not_or] at hp
  simp (maxDischargeDepth := 12) only [modServo_part, stopStepper_part, modLayer_part, when_part, each_part, hp, part_ite, ite_self, List.mem_cons, List.not_mem_nil, or_false, not_or, not_false_eq_true, and_self, implies_true, ne_eq]

theorem motionHome_part {pt : Part} (m : BitVec 16) (s : State) (hp : pt ∉ ([.motion] : List Part)) :
    (State.motionHome m s).part pt = s.part pt := by
  unfold State.motionHome
  simp only [List.mem_cons, List.not_mem_nil, or_false, not_or] at hp
  simp (maxDischargeDepth := 12) only [modMotion_part, hp, part_ite, ite_self, List.mem_cons, List.not_mem_nil, or_false, not_or, not_false_eq_true, and_self, implies_true, ne_eq]

theorem powerUp_part {pt : Part} (s : State) (hp : pt ∉ ([.layer, .decoders, .pixels, .scan, .position, .polygons, .loops, .motion, .power, .faults, .host, .telemetry, .boot] : List Part)) :
    (State.powerUp s).2.part pt = s.part pt := by
  unfold State.powerUp
  simp only [List.mem_cons, List.not_mem_nil, or_false, not_or] at hp
  try dsimp only
  (repeat' split) <;> simp (maxDischargeDepth := 12) only [startProgram_part, hp, part_ite, ite_self, List.mem_cons, List.not_mem_nil, or_false, not_or, not_false_eq_true, and_self, implies_true, ne_eq]

theorem powerProg_part {pt : Part} (n : Nat) (s : State) (hp : pt ∉ ([.layer, .decoders, .pixels, .scan, .position, .polygons, .loops, .motion, .power, .faults, .host, .telemetry, .boot] : List Part)) :
    (State.powerProg n s).2.part pt = s.part pt := by
  unfold State.powerProg
  simp only [List.mem_cons, List.not_mem_nil, or_false, not_or] at hp
  try dsimp only
  (repeat' split) <;> simp (maxDischargeDepth := 12) only [startProgram_part, hp, part_ite, ite_self, List.mem_cons, List.not_mem_nil, or_false, not_or, not_false_eq_true, and_self, implies_true, ne_eq]

theorem logRead_part {pt : Part} (log first count addr : Nat) (s : State) (hp : pt ∉ ([.host] : List Part)) :
    (State.logRead log first count addr s).2.part pt = s.part pt := by
  unfold State.logRead
  simp only [List.mem_cons, List.not_mem_nil, or_false, not_or] at hp
  simp (maxDischargeDepth := 12) only [modHost_part, hp, part_ite, ite_self, List.mem_cons, List.not_mem_nil, or_false, not_or, not_false_eq_true, and_self, implies_true, ne_eq]

theorem writeToReset_part {pt : Part} (n k : Nat) (s : State) (hp : pt ∉ ([.host] : List Part)) :
    (State.writeToReset n k s).2.part pt = s.part pt := by
  have h : ∀ t : State, (t.writeRecord n).part pt = t.part pt := fun t => writeRecord_part n t hp
  induction k generalizing s with
  | zero => rfl
  | succ k ih =>
    unfold State.writeToReset
    dsimp only
    (repeat' split) <;> simp only [ih, h]

theorem commandReset_part {pt : Part} (h : MqHeader) (kept : Bool) (s : State) (hp : pt ∉ ([.free, .legendApplied, .layer, .decoders, .pixels, .scan, .position, .polygons, .loops, .motion, .thermal, .power, .faults, .host, .dma, .telemetry, .boot, .otp, .survey, .memory] : List Part)) :
    (State.commandReset h kept s).part pt = s.part pt := by
  unfold State.commandReset
  simp only [List.mem_cons, List.not_mem_nil, or_false, not_or] at hp
  simp (maxDischargeDepth := 12) only [complete_part, warmReset_part, writeToReset_part, modHost_part, hp, part_ite, ite_self, List.mem_cons, List.not_mem_nil, or_false, not_or, not_false_eq_true, and_self, implies_true, ne_eq]

theorem execCqRecordWrite_part {pt : Part} (n : Fin 14) (kept : Bool) (s : State) (hp : pt ∉ ([.free, .legendApplied, .layer, .decoders, .pixels, .scan, .position, .polygons, .loops, .motion, .thermal, .power, .faults, .host, .dma, .telemetry, .boot, .otp, .survey, .memory] : List Part)) :
    KeepsPart pt s (execCqRecordWrite n kept s) := by
  unfold execCqRecordWrite
  simp only [List.mem_cons, List.not_mem_nil, or_false, not_or] at hp
  simp (maxDischargeDepth := 12) only [warmReset_part, writeRecord_part, keepsPart_live, keepsPart_liveIf, keepsPart_next, hp, part_ite, ite_self, List.mem_cons, List.not_mem_nil, or_false, not_or, not_false_eq_true, and_self, implies_true, ne_eq]

/-- The parts of the state that a maintenance command may change as it acts, its record's included. -/
def mqParts : MqOp → List Part
  | .layerAbort _ => [.layer, .decoders, .pixels, .scan, .position, .polygons, .loops, .motion, .power, .faults, .host, .telemetry, .boot]
  | .layerResume => [.layer, .motion, .faults, .host]
  | .layerFlush => [.layer, .decoders, .pixels, .scan, .position, .polygons, .loops, .power, .faults, .host, .telemetry, .boot]
  | .setExposure _ => [.pixels, .loops, .faults, .host]
  | .setSpeed _ => [.scan, .polygons, .motion, .thermal, .faults, .host]
  | .setHeater _ _ => [.loops, .faults, .host]
  | .setZStep _ => [.motion, .faults, .host]
  | .regSet _ _ _ => [.scan, .position, .faults, .host]
  | .faultThresh _ _ _ => [.faults, .host]
  | .faultClear _ _ _ => [.scan, .polygons, .motion, .thermal, .faults, .host]
  | .polyCtrl _ _ => [.polygons, .faults, .host]
  | .hvCtrl _ _ => [.loops, .faults, .host]
  | .motionStop _ => [.layer, .motion, .faults, .host]
  | .motionHome _ => [.motion, .faults, .host]
  | .powerDown => [.layer, .decoders, .pixels, .scan, .position, .polygons, .loops, .motion, .power, .faults, .host, .telemetry, .boot]
  | .powerUp => [.layer, .decoders, .pixels, .scan, .position, .polygons, .loops, .motion, .power, .faults, .host, .telemetry, .boot]
  | .powerProg _ => [.layer, .decoders, .pixels, .scan, .position, .polygons, .loops, .motion, .power, .faults, .host, .telemetry, .boot]
  | .survey => [.scan, .power, .faults, .host, .survey]
  | .logRead _ _ _ _ => [.faults, .host]
  | .warmReset _ => [.free, .legendApplied, .layer, .decoders, .pixels, .scan, .position, .polygons, .loops, .motion, .thermal, .power, .faults, .host, .dma, .telemetry, .boot, .otp, .survey, .memory]
  | .nop => [.faults, .host]

theorem mqAct_part {pt : Part} (h : MqHeader) (e : MqOutside) (op : MqOp) (s : State) (hp : pt ∉ mqParts op) :
    (State.mqAct h e op s).part pt = s.part pt := by
  cases op <;> simp only [mqParts, List.mem_cons, List.not_mem_nil, or_false, not_or] at hp <;>
    simp (maxDischargeDepth := 12) only [State.mqAct, complete_part, modMotion_part, abortJob_part, clearFaults_part, commandReset_part, faultThresh_part, flushLayer_part, hvCtrl_part, logRead_part, motionHome_part, motionStop_part, polyCtrl_part, powerProg_part, powerUp_part, regSet_part, requestDown_part, resumeLayer_part, runSurvey_part, setExposure_part, setHeater_part, setSpeed_part, hp, List.mem_cons, List.not_mem_nil, or_false,
      not_or, not_false_eq_true, and_self, implies_true, ne_eq]

theorem mqHold_part {pt : Part} (h : MqHeader) (op : MqOp) (s : State) (hp : pt ∉ ([.host, .survey] : List Part)) :
    (State.mqHold h op s).part pt = s.part pt := by
  unfold State.mqHold
  simp only [List.mem_cons, List.not_mem_nil, or_false, not_or] at hp
  simp (maxDischargeDepth := 12) only [modHost_part, modSurvey_part, when_part, hp, implies_true, ne_eq, not_false_eq_true]

theorem mqRun_part {pt : Part} (h : MqHeader) (e : MqOutside) (r : Option SurveyReading) (op : MqOp) (s : State)
    (hq : pt ∉ ([.host, .survey] : List Part)) (hp : pt ∉ mqParts op) : (State.mqRun h e r op s).part pt = s.part pt := by
  unfold State.mqRun
  split
  · split
    · rename_i ho r _
      subst ho
      refine (mqAct_part _ _ _ _ hp).trans (runSurvey_part _ _ ?_)
      simp only [mqParts, List.mem_cons, List.not_mem_nil, or_false, not_or] at hp hq ⊢
      simp only [hp, hq, not_false_eq_true, and_self]
    · exact mqHold_part _ _ _ hq
  · exact mqAct_part _ _ _ _ hp

theorem mqParts_own {pt : Part} (op : MqOp) (hp : pt ∉ mqParts op) : pt ∉ ([.faults, .host] : List Part) := by
  cases op <;> simp only [mqParts, List.mem_cons, List.not_mem_nil, or_false, not_or] at hp ⊢ <;> simp only [hp, not_false_eq_true, and_self]

theorem mqCommand_part {pt : Part} (h : MqHeader) (e : MqOutside) (r : Option SurveyReading) (op : MqOp) (s : State)
    (hs : pt ≠ .survey) (hp : pt ∉ mqParts op) : (State.mqCommand h e r op s).part pt = s.part pt := by
  have hh := mqParts_own op hp
  have hq : pt ∉ ([.host, .survey] : List Part) := by
    simp only [List.mem_cons, List.not_mem_nil, or_false, not_or] at hh ⊢
    exact ⟨hh.2, hs⟩
  unfold State.mqCommand
  dsimp only
  split
  · exact complete_part _ _ _ _ _ hh
  · split
    · exact mqHold_part _ _ _ hq
    · exact mqRun_part _ _ _ _ _ hq hp

theorem stopMq_part {pt : Part} (reason : DoorReason) (s : State) (hp : pt ∉ ([.faults, .host] : List Part)) :
    (State.stopMq reason s).part pt = s.part pt := by
  unfold State.stopMq
  simp only [List.mem_cons, List.not_mem_nil, or_false, not_or] at hp
  simp (maxDischargeDepth := 12) only [doorRecord_part, modHost_part, hp, part_ite, ite_self, List.mem_cons, List.not_mem_nil, or_false, not_or, not_false_eq_true, and_self, implies_true, ne_eq]

theorem mqTake_part {pt : Part} (cq : Nat) (act : State → State) (s : State) (hp : pt ∉ ([.faults, .host] : List Part))
    (ha : ∀ t, (act t).part pt = t.part pt) : KeepsPart pt s (State.mqTake cq act s) := by
  unfold State.mqTake
  refine keepsPart_liveIf _ _ _ _ rfl ?_
  split
  · exact stopMq_part _ _ hp
  · simp only [List.mem_cons, List.not_mem_nil, or_false, not_or] at hp
    rw [ha, modHost_part _ _ hp.2]

theorem execMqDoorbell_part {pt : Part} (tail : Fin 64) (s : State) (hp : pt ∉ ([.host] : List Part)) :
    KeepsPart pt s (execMqDoorbell tail s) := by
  unfold execMqDoorbell
  simp only [List.mem_cons, List.not_mem_nil, or_false, not_or] at hp
  simp (maxDischargeDepth := 12) only [modHost_part, keepsPart_live, keepsPart_liveIf, keepsPart_next, hp, part_ite, ite_self, List.mem_cons, List.not_mem_nil, or_false, not_or, not_false_eq_true, and_self, implies_true, ne_eq]

theorem execRingReadError_part {pt : Part} (mq : Bool) (s : State) (hp : pt ∉ ([.faults, .host] : List Part)) :
    KeepsPart pt s (execRingReadError mq s) := by
  unfold execRingReadError
  simp only [List.mem_cons, List.not_mem_nil, or_false, not_or] at hp
  first
  | (simp (maxDischargeDepth := 12) only [raise_part, stopLq_part, stopMq_part, modHost_part, keepsPart_live, keepsPart_liveIf, keepsPart_next, hp, part_ite, ite_self, List.mem_cons, List.not_mem_nil, or_false, not_or, not_false_eq_true, and_self, implies_true, ne_eq]; done)
  | (try dsimp only
     (repeat' split) <;> simp (maxDischargeDepth := 12) only [raise_part, stopLq_part, stopMq_part, modHost_part, keepsPart_live, keepsPart_liveIf, keepsPart_next, hp, part_ite, ite_self, List.mem_cons, List.not_mem_nil, or_false, not_or, not_false_eq_true, and_self, implies_true, ne_eq])

theorem execMqEntryTake_part {pt : Part} (entry : Vector Byte 64) (outside : MqOutside) (s : State)
    (hp : pt ∉ ([.free, .legendApplied, .layer, .decoders, .pixels, .scan, .position, .polygons, .loops, .motion, .thermal, .power, .faults, .host, .dma, .telemetry, .boot, .otp, .survey, .memory] : List Part)) : KeepsPart pt s (execMqEntryTake entry outside s) := by
  simp only [List.mem_cons, List.not_mem_nil, or_false, not_or] at hp
  have hh : pt ∉ ([.faults, .host] : List Part) := by
    simp only [List.mem_cons, List.not_mem_nil, or_false, not_or, hp, not_false_eq_true, and_self]
  unfold execMqEntryTake
  dsimp only
  refine mqTake_part _ _ _ hh fun t => ?_
  split
  · exact complete_part _ _ _ _ _ hh
  · split
    · exact mqCommand_part _ _ _ _ _ (by simp only [hp, ne_eq, not_false_eq_true]) (by
        rename_i op _ _ _; cases op <;> simp only [mqParts, List.mem_cons, List.not_mem_nil, or_false, not_or, hp, not_false_eq_true, and_self])
    · exact complete_part _ _ _ _ _ hh

theorem execLayerAbort_part {pt : Part} (h : MqHeader)  (s : State) (hs : pt ≠ .survey)
    (hp : pt ∉ mqParts (.layerAbort h.seq)) : KeepsPart pt s (execLayerAbort h  s) := by
  exact mqTake_part _ _ _ (mqParts_own _ hp) fun t => mqCommand_part _ _ _ _ _ hs hp

theorem execLayerResume_part {pt : Part} (h : MqHeader)  (s : State) (hs : pt ≠ .survey)
    (hp : pt ∉ mqParts (.layerResume)) : KeepsPart pt s (execLayerResume h  s) := by
  exact mqTake_part _ _ _ (mqParts_own _ hp) fun t => mqCommand_part _ _ _ _ _ hs hp

theorem execLayerFlush_part {pt : Part} (h : MqHeader)  (s : State) (hs : pt ≠ .survey)
    (hp : pt ∉ mqParts (.layerFlush)) : KeepsPart pt s (execLayerFlush h  s) := by
  exact mqTake_part _ _ _ (mqParts_own _ hp) fun t => mqCommand_part _ _ _ _ _ hs hp

theorem execSetExposure_part {pt : Part} (h : MqHeader) (set : BitVec 8) (s : State) (hs : pt ≠ .survey)
    (hp : pt ∉ mqParts (.setExposure set.toNat)) : KeepsPart pt s (execSetExposure h set s) := by
  exact mqTake_part _ _ _ (mqParts_own _ hp) fun t => mqCommand_part _ _ _ _ _ hs hp

theorem execSetSpeed_part {pt : Part} (h : MqHeader) (code : BitVec 8) (s : State) (hs : pt ≠ .survey)
    (hp : pt ∉ mqParts (.setSpeed code.toNat)) : KeepsPart pt s (execSetSpeed h code s) := by
  exact mqTake_part _ _ _ (mqParts_own _ hp) fun t => mqCommand_part _ _ _ _ _ hs hp

theorem execSetHeater_part {pt : Part} (h : MqHeader) (mask : BitVec 8) (setPoint : BitVec 16) (s : State) (hs : pt ≠ .survey)
    (hp : pt ∉ mqParts (.setHeater mask setPoint.toInt)) : KeepsPart pt s (execSetHeater h mask setPoint s) := by
  exact mqTake_part _ _ _ (mqParts_own _ hp) fun t => mqCommand_part _ _ _ _ _ hs hp

theorem execSetZStep_part {pt : Part} (h : MqHeader) (nm : BitVec 32) (s : State) (hs : pt ≠ .survey)
    (hp : pt ∉ mqParts (.setZStep nm.toNat)) : KeepsPart pt s (execSetZStep h nm s) := by
  exact mqTake_part _ _ _ (mqParts_own _ hp) fun t => mqCommand_part _ _ _ _ _ hs hp

theorem execRegSet_part {pt : Part} (h : MqHeader) (mask : BitVec 8) (xscan : BitVec 32) (inscan : BitVec 16) (s : State) (hs : pt ≠ .survey)
    (hp : pt ∉ mqParts (.regSet mask xscan.toInt inscan.toInt)) : KeepsPart pt s (execRegSet h mask xscan inscan s) := by
  exact mqTake_part _ _ _ (mqParts_own _ hp) fun t => mqCommand_part _ _ _ _ _ hs hp

theorem execFaultThresh_part {pt : Part} (h : MqHeader) (src n : BitVec 8) (w : BitVec 32) (s : State) (hs : pt ≠ .survey)
    (hp : pt ∉ mqParts (.faultThresh src.toNat n.toNat w.toNat)) : KeepsPart pt s (execFaultThresh h src n w s) := by
  exact mqTake_part _ _ _ (mqParts_own _ hp) fun t => mqCommand_part _ _ _ _ _ hs hp

theorem execFaultClear_part {pt : Part} (h : MqHeader) (scope src inst : BitVec 8) (outside : MqOutside) (s : State) (hs : pt ≠ .survey)
    (hp : pt ∉ mqParts (.faultClear scope.toNat src.toNat inst.toNat)) : KeepsPart pt s (execFaultClear h scope src inst outside s) := by
  exact mqTake_part _ _ _ (mqParts_own _ hp) fun t => mqCommand_part _ _ _ _ _ hs hp

theorem execPolyCtrl_part {pt : Part} (h : MqHeader) (mask action : BitVec 8) (s : State) (hs : pt ≠ .survey)
    (hp : pt ∉ mqParts (.polyCtrl mask action.toNat)) : KeepsPart pt s (execPolyCtrl h mask action s) := by
  exact mqTake_part _ _ _ (mqParts_own _ hp) fun t => mqCommand_part _ _ _ _ _ hs hp

theorem execHvCtrl_part {pt : Part} (h : MqHeader) (mask action : BitVec 8) (s : State) (hs : pt ≠ .survey)
    (hp : pt ∉ mqParts (.hvCtrl mask action.toNat)) : KeepsPart pt s (execHvCtrl h mask action s) := by
  exact mqTake_part _ _ _ (mqParts_own _ hp) fun t => mqCommand_part _ _ _ _ _ hs hp

theorem execMotionStop_part {pt : Part} (h : MqHeader) (mask : BitVec 16) (s : State) (hs : pt ≠ .survey)
    (hp : pt ∉ mqParts (.motionStop mask)) : KeepsPart pt s (execMotionStop h mask s) := by
  exact mqTake_part _ _ _ (mqParts_own _ hp) fun t => mqCommand_part _ _ _ _ _ hs hp

theorem execMotionHome_part {pt : Part} (h : MqHeader) (mask : BitVec 16) (s : State) (hs : pt ≠ .survey)
    (hp : pt ∉ mqParts (.motionHome mask)) : KeepsPart pt s (execMotionHome h mask s) := by
  exact mqTake_part _ _ _ (mqParts_own _ hp) fun t => mqCommand_part _ _ _ _ _ hs hp

theorem execPowerDown_part {pt : Part} (h : MqHeader)  (s : State) (hs : pt ≠ .survey)
    (hp : pt ∉ mqParts (.powerDown)) : KeepsPart pt s (execPowerDown h  s) := by
  exact mqTake_part _ _ _ (mqParts_own _ hp) fun t => mqCommand_part _ _ _ _ _ hs hp

theorem execPowerUp_part {pt : Part} (h : MqHeader)  (s : State) (hs : pt ≠ .survey)
    (hp : pt ∉ mqParts (.powerUp)) : KeepsPart pt s (execPowerUp h  s) := by
  exact mqTake_part _ _ _ (mqParts_own _ hp) fun t => mqCommand_part _ _ _ _ _ hs hp

theorem execPowerProg_part {pt : Part} (h : MqHeader) (n : BitVec 8) (s : State) (hs : pt ≠ .survey)
    (hp : pt ∉ mqParts (.powerProg n.toNat)) : KeepsPart pt s (execPowerProg h n s) := by
  exact mqTake_part _ _ _ (mqParts_own _ hp) fun t => mqCommand_part _ _ _ _ _ hs hp

theorem execSurvey_part {pt : Part} (h : MqHeader) (reading : SurveyReading) (s : State) (hs : pt ≠ .survey)
    (hp : pt ∉ mqParts (.survey)) : KeepsPart pt s (execSurvey h reading s) := by
  exact mqTake_part _ _ _ (mqParts_own _ hp) fun t => mqCommand_part _ _ _ _ _ hs hp

theorem execLogRead_part {pt : Part} (h : MqHeader) (log : BitVec 8) (first : BitVec 32) (count : BitVec 16) (addr : BitVec 64) (s : State) (hs : pt ≠ .survey)
    (hp : pt ∉ mqParts (.logRead log.toNat first.toNat count.toNat addr.toNat)) : KeepsPart pt s (execLogRead h log first count addr s) := by
  exact mqTake_part _ _ _ (mqParts_own _ hp) fun t => mqCommand_part _ _ _ _ _ hs hp

theorem execWarmReset_part {pt : Part} (h : MqHeader) (force : Bool) (outside : MqOutside) (s : State) (hs : pt ≠ .survey)
    (hp : pt ∉ mqParts (.warmReset force)) : KeepsPart pt s (execWarmReset h force outside s) := by
  exact mqTake_part _ _ _ (mqParts_own _ hp) fun t => mqCommand_part _ _ _ _ _ hs hp

theorem execNop_part {pt : Part} (h : MqHeader)  (s : State) (hs : pt ≠ .survey)
    (hp : pt ∉ mqParts (.nop)) : KeepsPart pt s (execNop h  s) := by
  exact mqTake_part _ _ _ (mqParts_own _ hp) fun t => mqCommand_part _ _ _ _ _ hs hp

end Sys2Proof.Machine
end

