-- ==== Sys2Proof/Laws/KeptBoundary.lean ====
section
/-! SUPPORT. Which parts of the state each operation of Machine/Boundary.lean leaves as they are. -/

set_option linter.unusedSimpArgs false

namespace Sys2Proof.Machine

open Sys2Proof

theorem boundarySurvey_part {pt : Part} (r : SurveyReading) (s : State) (hp : pt ∉ ([.scan, .power, .faults, .host, .survey] : List Part)) :
    (State.boundarySurvey r s).part pt = s.part pt := by
  unfold State.boundarySurvey
  simp only [List.mem_cons, List.not_mem_nil, or_false, not_or] at hp
  simp (maxDischargeDepth := 12) only [complete_part, runSurvey_part, modHost_part, when_part, each_part, hp, part_ite, ite_self, List.mem_cons, List.not_mem_nil, or_false, not_or, not_false_eq_true, and_self, implies_true, ne_eq]

theorem boundaryClock_part {pt : Part} (s : State) (hp : pt ∉ ([.scan, .polygons, .motion, .thermal, .faults, .host, .survey] : List Part)) :
    (State.boundaryClock s).part pt = s.part pt := by
  unfold State.boundaryClock
  simp only [List.mem_cons, List.not_mem_nil, or_false, not_or] at hp
  first
  | (simp (maxDischargeDepth := 12) only [applyRequest_part, frequencyRequest_part, modSurvey_part, when_part, hp, part_ite, ite_self, List.mem_cons, List.not_mem_nil, or_false, not_or, not_false_eq_true, and_self, implies_true, ne_eq]; done)
  | (try dsimp only
     (repeat' split) <;> simp (maxDischargeDepth := 12) only [applyRequest_part, frequencyRequest_part, modSurvey_part, when_part, hp, part_ite, ite_self, List.mem_cons, List.not_mem_nil, or_false, not_or, not_false_eq_true, and_self, implies_true, ne_eq])

theorem boundaryEngines_part {pt : Part} (s : State) (hp : pt ∉ ([.scan, .loops, .faults, .survey] : List Part)) :
    (State.boundaryEngines s).part pt = s.part pt := by
  unfold State.boundaryEngines
  simp only [List.mem_cons, List.not_mem_nil, or_false, not_or] at hp
  simp (maxDischargeDepth := 12) only [repairSram_part, takeOverEngine_part, takeOverStation_part, when_part, hp, part_ite, ite_self, List.mem_cons, List.not_mem_nil, or_false, not_or, not_false_eq_true, and_self, implies_true, ne_eq]

theorem boundaryStations_part {pt : Part} (b : BoundaryInput) (s : State) (hp : pt ∉ ([.pixels, .scan, .faults, .survey] : List Part)) :
    (State.boundaryStations b s).part pt = s.part pt := by
  unfold State.boundaryStations
  simp only [List.mem_cons, List.not_mem_nil, or_false, not_or] at hp
  simp (maxDischargeDepth := 12) only [calibrate_part, swapDatum_part, swapLane_part, each_part, hp, part_ite, ite_self, List.mem_cons, List.not_mem_nil, or_false, not_or, not_false_eq_true, and_self, implies_true, ne_eq]

theorem actWaiting_part {pt : Part} (down : Bool) (e : MqOutside) (q : MqHeader × MqOp) (s : State)
    (hp : pt ∉ ([.free, .legendApplied, .layer, .decoders, .pixels, .scan, .position, .polygons, .loops, .motion, .thermal, .power, .faults, .host, .dma, .telemetry, .boot, .otp, .survey, .memory] : List Part)) : (State.actWaiting down e q s).part pt = s.part pt := by
  simp only [List.mem_cons, List.not_mem_nil, or_false, not_or] at hp
  unfold State.actWaiting
  split
  · exact complete_part _ _ _ _ _ (by simp only [List.mem_cons, List.not_mem_nil, or_false, not_or, hp, not_false_eq_true, and_self])
  · refine mqAct_part _ _ _ _ ?_
    cases q.2 <;> simp only [mqParts, List.mem_cons, List.not_mem_nil, or_false, not_or, hp, not_false_eq_true, and_self]

theorem boundaryCommands_part {pt : Part} (e : MqOutside) (s : State)
    (hp : pt ∉ ([.free, .legendApplied, .layer, .decoders, .pixels, .scan, .position, .polygons, .loops, .motion, .thermal, .power, .faults, .host, .dma, .telemetry, .boot, .otp, .survey, .memory] : List Part)) : (State.boundaryCommands e s).part pt = s.part pt := by
  have ha : ∀ (b : Bool) (q : MqHeader × MqOp) (t : State), (State.actWaiting b e q t).part pt = t.part pt := fun b q t => actWaiting_part b e q t hp
  simp only [List.mem_cons, List.not_mem_nil, or_false, not_or] at hp
  unfold State.boundaryCommands
  simp only [each_part, ha, modHost_part, hp, ne_eq, not_false_eq_true, implies_true]

theorem boundaryDetach_part {pt : Part} (s : State) (hp : pt ∉ ([.pixels, .faults, .boot] : List Part)) :
    (State.boundaryDetach s).part pt = s.part pt := by
  unfold State.boundaryDetach
  simp only [List.mem_cons, List.not_mem_nil, or_false, not_or] at hp
  simp (maxDischargeDepth := 12) only [detachIfDue_part, each_part, hp, part_ite, ite_self, List.mem_cons, List.not_mem_nil, or_false, not_or, not_false_eq_true, and_self, implies_true, ne_eq]

theorem execLayerBoundaryActions_part {pt : Part} (b : BoundaryInput) (s : State) (hp : pt ∉ ([.free, .legendApplied, .layer, .decoders, .pixels, .scan, .position, .polygons, .loops, .motion, .thermal, .power, .faults, .host, .dma, .telemetry, .boot, .otp, .survey, .memory] : List Part)) :
    KeepsPart pt s (execLayerBoundaryActions b s) := by
  unfold execLayerBoundaryActions
  simp only [List.mem_cons, List.not_mem_nil, or_false, not_or] at hp
  simp (maxDischargeDepth := 12) only [applyHeldUpdates_part, boundaryClock_part, boundaryCommands_part, boundaryDetach_part, boundaryEngines_part, boundaryStations_part, boundarySurvey_part, saveOffsets_part, keepsPart_live, keepsPart_liveIf, keepsPart_next, hp, part_ite, ite_self, List.mem_cons, List.not_mem_nil, or_false, not_or, not_false_eq_true, and_self, implies_true, ne_eq]

theorem unmasked_part {pt : Part} (v : Nat) (s : State) (hp : pt ∉ ([.host] : List Part)) :
    (State.unmasked v s).part pt = s.part pt := by
  unfold State.unmasked
  simp only [List.mem_cons, List.not_mem_nil, or_false, not_or] at hp
  simp (maxDischargeDepth := 12) only [modHost_part, when_part, hp, part_ite, ite_self, List.mem_cons, List.not_mem_nil, or_false, not_or, not_false_eq_true, and_self, implies_true, ne_eq]

theorem writeHost_part {pt : Part} (o v : Nat) (s : State) (hp : pt ∉ ([.host] : List Part)) :
    (State.writeHost o v s).part pt = s.part pt := by
  unfold State.writeHost
  simp only [List.mem_cons, List.not_mem_nil, or_false, not_or] at hp
  simp (maxDischargeDepth := 12) only [modCq_part, unmasked_part, modHost_part, hp, part_ite, ite_self, List.mem_cons, List.not_mem_nil, or_false, not_or, not_false_eq_true, and_self, implies_true, ne_eq]

theorem writeReg_part {pt : Part} (off v : Nat) (s : State) (hp : pt ∉ ([.host, .dma, .telemetry, .otp] : List Part)) :
    (State.writeReg off v s).part pt = s.part pt := by
  unfold State.writeReg
  simp only [List.mem_cons, List.not_mem_nil, or_false, not_or] at hp
  first
  | (simp (maxDischargeDepth := 12) only [modStream_part, writeHost_part, modDma_part, modOtp_part, hp, part_ite, ite_self, List.mem_cons, List.not_mem_nil, or_false, not_or, not_false_eq_true, and_self, implies_true, ne_eq]; done)
  | (try dsimp only
     (repeat' split) <;> simp (maxDischargeDepth := 12) only [modStream_part, writeHost_part, modDma_part, modOtp_part, hp, part_ite, ite_self, List.mem_cons, List.not_mem_nil, or_false, not_or, not_false_eq_true, and_self, implies_true, ne_eq])

theorem execRegisterWrite_part {pt : Part} (word : Fin 262144) (value : BitVec 32) (s : State) (hp : pt ∉ ([.host, .dma, .telemetry, .otp] : List Part)) :
    KeepsPart pt s (execRegisterWrite word value s) := by
  unfold execRegisterWrite
  simp only [List.mem_cons, List.not_mem_nil, or_false, not_or] at hp
  simp (maxDischargeDepth := 12) only [writeReg_part, keepsPart_live, keepsPart_liveIf, keepsPart_next, hp, part_ite, ite_self, List.mem_cons, List.not_mem_nil, or_false, not_or, not_false_eq_true, and_self, implies_true, ne_eq]

end Sys2Proof.Machine
end

