-- ==== Sys2Proof/Laws/Jobs.lean ====
section
/-! SUPPORT. How a command ends, and what the operations on jobs leave in the job list. -/

namespace Sys2Proof.Machine

open Sys2Proof

theorem live_next {s t : State} (h : s.specified = true) : live s t = .next t := by
  simp only [State.specified, Bool.not_eq_true'] at h
  simp [live, h]

theorem liveIf_next {c : Bool} {s t : State} (h : s.specified = true) (hc : c = true) : liveIf c s t = .next t := by
  simp [liveIf, live_next h, hc]

/-- A command that completes keeps what its meaning keeps. -/
theorem completes_keeps {c : Instr} {s : State} {T : List Part} {Q : State → Prop} (kp : ∀ p, p ∉ T → KeepsPart p s (exec c s))
    (h : Completes c s Q) : Completes c s fun t => Keeps T s t ∧ Q t := by
  obtain ⟨t, e, q⟩ := h
  exact ⟨t, e, fun p hp => kp p hp t e, q⟩

theorem completes_of {c : Instr} {s u : State} {Q : State → Prop} (h : exec c s = .next u) (q : Q u) : Completes c s Q :=
  ⟨u, h, q⟩

theorem part_layer (s : State) : s.part .layer = s.layer := rfl

theorem jobOf_seq {s : State} {q : Nat} {j : Job} (h : s.jobOf q = some j) : j.seq = q := by
  have := List.find?_some h
  simpa using this

theorem jobOf_isSome {s : State} {j : Job} (h : j ∈ s.layer.jobs) : ∃ k, s.jobOf j.seq = some k := by
  cases e : s.jobOf j.seq with
  | some k => exact ⟨k, rfl⟩
  | none => exact absurd (List.find?_eq_none.mp e j h) (by simp)

/-- What a job becomes as it ends. -/
def Job.endedAs (st : EndStatus) (cause : Cause) (src inst : Nat) (j : Job) : Job :=
  { j with state := .ended, status := st, cause := cause, source := src, inst := inst }

theorem releaseFeed_jobs (q : Nat) (s : State) : (s.releaseFeed q).layer.jobs = s.layer.jobs := rfl

theorem freeStations_layer (q : Nat) (st : EndStatus) (s : State) : (s.freeStations q st).layer = s.layer :=
  freeStations_part (pt := .layer) q st s (by simp)

theorem wearFalls_layer (j : Job) (s : State) : (s.wearFalls j).layer = s.layer :=
  wearFalls_part (pt := .layer) j s (by simp)

theorem markDue_layer (q k : Nat) (b : List Byte) (s : State) : (s.markDue q k b).layer = s.layer := rfl

theorem openJob_of_jobOf {s : State} {q : Nat} {j : Job} (h : s.jobOf q = some j) (hn : j.state ≠ .ended) : s.openJob q = some j := by
  unfold State.jobOf at h; unfold State.openJob
  generalize s.layer.jobs = l at h
  induction l with
  | nil => simp at h
  | cons a l ih =>
    by_cases e : a.seq = q
    · have ha : a = j := by simpa [List.find?_cons, e] using h
      subst ha
      simp [e, hn]
    · have h' : l.find? (fun k => k.seq == q) = some j := by simpa [List.find?_cons, e] using h
      simpa [e] using ih h'

theorem openJob_isSome {s : State} {j : Job} (h : j ∈ s.layer.jobs) (hn : j.state ≠ .ended) : ∃ k, s.openJob j.seq = some k := by
  cases e : s.openJob j.seq with
  | some k => exact ⟨k, rfl⟩
  | none => exact absurd (List.find?_eq_none.mp e j h) (by simp [hn])

theorem openJob_seq {s : State} {q : Nat} {j : Job} (h : s.openJob q = some j) : j.seq = q := by
  have := List.find?_some h
  simp only [Bool.and_eq_true, beq_iff_eq] at this
  exact this.1

theorem endJob_layer {seq : Nat} {st : EndStatus} {c : Cause} {src inst : Nat} {s : State} {j : Job} (h : s.openJob seq = some j) :
    (s.endJob seq st c src inst).layer =
      { (s.releaseFeed seq).layer.countEnd st with
        jobs := s.layer.jobs.map fun k => if k.seq = seq then j.endedAs st c src inst else k
        lastStatus := st, lastCause := c, lastFlags := j.flags, lastEmitted := j.emitted
        timerSeq := if s.layer.timerSeq = some seq then none else s.layer.timerSeq
        timerRunning := s.layer.timerRunning && s.layer.timerSeq != some seq
        timerRemainUs := if s.layer.timerSeq = some seq then 0 else s.layer.timerRemainUs
        hold := s.layer.hold || st == .scrapped || j.flags.postFault } := by
  unfold State.endJob
  rw [h]
  dsimp only
  rw [markDue_layer, modLoops_layer]
  unfold State.when
  split
  · rw [wearFalls_layer]
    simp only [modLayer_layer, modTelemetry_layer, freeStations_layer, releaseFeed_jobs]
    cases st <;> rfl
  · simp only [modLayer_layer, modTelemetry_layer, freeStations_layer, releaseFeed_jobs]
    cases st <;> rfl

/-- A job that has ended stays as it is (R47). -/
theorem endJob_ended {seq : Nat} {st : EndStatus} {c : Cause} {src inst : Nat} {s : State} (h : s.openJob seq = none) :
    s.endJob seq st c src inst = s := by
  unfold State.endJob
  rw [h]

theorem endJob_jobIs {seq : Nat} {st : EndStatus} {c : Cause} {src inst : Nat} {s : State} {j : Job} (h : s.openJob seq = some j) :
    JobIs (s.endJob seq st c src inst) seq fun k => k.state = .ended ∧ k.status = st ∧ k.cause = c ∧ k.source = src ∧ k.inst = inst := by
  have hj : j.seq = seq := openJob_seq h
  refine ⟨⟨j.endedAs st c src inst, ?_, hj⟩, fun k hk hs => ?_⟩
  · rw [endJob_layer h]
    exact List.mem_map.mpr ⟨j, List.mem_of_find?_eq_some h, by simp [hj]⟩
  · rw [endJob_layer h] at hk
    simp only [List.mem_map] at hk
    obtain ⟨k0, _, rfl⟩ := hk
    by_cases e : k0.seq = seq
    · simp [e, Job.endedAs]
    · simp only [e, if_false] at hs

/-- A job of the list that has not ended ends as it is said to. -/
theorem endJob_mem {st : EndStatus} {c : Cause} {src inst : Nat} {s : State} {j : Job} (h : j ∈ s.layer.jobs) (hn : j.state ≠ .ended) :
    JobIs (s.endJob j.seq st c src inst) j.seq fun k => k.state = .ended ∧ k.status = st ∧ k.cause = c ∧ k.source = src ∧ k.inst = inst := by
  obtain ⟨k, hk⟩ := openJob_isSome h hn
  exact endJob_jobIs hk

theorem mapV_get {α β : Type} {n : Nat} (f : α → β) (v : Vector α n) (i : Fin n) : (mapV f v)[i] = f v[i] := by simp [mapV]

/-- The stations that a job's end frees (R70, R74). -/
theorem freed_pixels (seq : Nat) (st : EndStatus) (s : State) (x : Fin 6) :
    ((s.releaseFeed seq).freeStations seq st).pixels[x] =
      if s.pixels[x].job = some seq then { s.pixels[x] with job := none } else s.pixels[x] := mapV_get _ _ x

theorem freed_decoders (seq : Nat) (st : EndStatus) (s : State) (x : Fin 6) (h : s.decoders[x].jobSeq ≠ some seq) :
    ((s.releaseFeed seq).freeStations seq st).decoders[x] = s.decoders[x] := by
  exact (mapV_get _ _ x).trans (if_neg h)

theorem freed_meridians (seq : Nat) (st : EndStatus) (s : State) (x : Fin 6)
    (h : ((s.releaseFeed seq).freeStations seq st).position.meridians[x].job = seq) :
    ((s.releaseFeed seq).freeStations seq st).position.meridians[x].state ≠ .armed := by
  have e : ((s.releaseFeed seq).freeStations seq st).position.meridians[x] =
      if s.position.meridians[x].job = seq ∧ s.position.meridians[x].state = .armed
      then { s.position.meridians[x] with state := .disabled } else s.position.meridians[x] := mapV_get _ _ x
  rw [e] at h ⊢
  split
  · simp
  · rename_i hn
    rw [if_neg hn] at h
    exact fun ha => hn ⟨h, ha⟩

/-- What a job's end does beside its part of the layer (R47, R70, R74, R370). -/
theorem endJob_rest {seq : Nat} {st : EndStatus} {c : Cause} {src inst : Nat} {s : State} {j : Job} (h : s.openJob seq = some j) :
    (∃ b, (s.endJob seq st c src inst).host.atlas.todo = s.host.atlas.todo ++ [{ seq := seq, kind := 3, body := b }]) ∧
    (s.endJob seq st c src inst).pixels = ((s.releaseFeed seq).freeStations seq st).pixels ∧
    (s.endJob seq st c src inst).decoders = ((s.releaseFeed seq).freeStations seq st).decoders ∧
    (s.endJob seq st c src inst).position = ((s.releaseFeed seq).freeStations seq st).position := by
  unfold State.endJob
  rw [h]
  dsimp only
  unfold State.when
  split <;> exact ⟨⟨_, rfl⟩, rfl, rfl, rfl⟩

/-- Everything a job's end leaves that a statement may need. -/
theorem endJob_endedBy {st : EndStatus} {c : Cause} {src inst : Nat} {s : State} {j : Job} (h : j ∈ s.layer.jobs) (hn : j.state ≠ .ended) :
    EndedBy j.seq st c src inst s (s.endJob j.seq st c src inst) := by
  obtain ⟨k, hk⟩ := openJob_isSome h hn
  obtain ⟨ht, hp, hd, hm⟩ := endJob_rest (st := st) (c := c) (src := src) (inst := inst) hk
  have hl := endJob_layer (st := st) (c := c) (src := src) (inst := inst) hk
  refine ⟨endJob_jobIs hk, fun q hq => ?_, ?_, ?_, ?_, ?_, ?_, ?_, ?_, ?_, ht, fun x => ?_, fun x hx => ?_, fun x hx => ?_⟩
  · rw [hl]
    simp only [List.mem_map]
    constructor
    · rintro ⟨a, ha, rfl⟩
      split at hq
      · rename_i e
        exact absurd (openJob_seq hk) hq
      · rename_i e
        rw [if_neg e]; exact ha
    · intro ha
      exact ⟨q, ha, if_neg hq⟩
  · rw [hl]
  · rw [hl]
  · rw [hl]; dsimp only; split <;> simp_all
  · rw [hl]; cases st <;> rfl
  · rw [hl]; cases st <;> rfl
  · rw [hl]; cases st <;> rfl
  · rw [hl]; cases st <;> rfl
  · rw [hl]; rintro (e | rfl) <;> simp_all
  · rw [hp]; exact freed_pixels _ _ _ x
  · rw [hd]; exact freed_decoders _ _ _ x hx
  · rw [hm] at hx ⊢; exact freed_meridians _ _ _ x hx

theorem modJob_jobIs {seq : Nat} {f : Job → Job} {s : State} {P : Job → Prop} (hm : ∃ k ∈ s.layer.jobs, k.seq = seq)
    (hf : ∀ k, (f k).seq = k.seq) (h : ∀ k, P (f k)) : JobIs (s.modJob seq f) seq P := by
  obtain ⟨k, hk, hs⟩ := hm
  refine ⟨⟨f k, List.mem_map.mpr ⟨k, hk, by simp [hs]⟩, by rw [hf, hs]⟩, fun k hk hs => ?_⟩
  simp only [State.modJob, modLayer_layer, List.mem_map] at hk
  obtain ⟨k0, _, rfl⟩ := hk
  by_cases e : k0.seq = seq
  · simp only [e, if_true]; exact h k0
  · simp only [e, if_false] at hs

end Sys2Proof.Machine
end

