-- ==== Sys2Proof/Laws/KeptSampling.lean ====
section
/-! SUPPORT. Which parts of the state each operation of Machine/Sampling.lean leaves as they are. -/

set_option linter.unusedSimpArgs false

namespace Sys2Proof.Machine

open Sys2Proof

theorem samplePolygon_part {pt : Part} (x : Fin 6) (frame : Nat) (shunts : Int × Int × Int) (s : State) (hp : pt ∉ ([.polygons, .loops] : List Part)) :
    (State.samplePolygon x frame shunts s).part pt = s.part pt := by
  unfold State.samplePolygon
  simp only [List.mem_cons, List.not_mem_nil, or_false, not_or] at hp
  first
  | (simp (maxDischargeDepth := 12) only [modLoop_part, modPolygon_part, hp, part_ite, ite_self, List.mem_cons, List.not_mem_nil, or_false, not_or, not_false_eq_true, and_self, implies_true, ne_eq]; done)
  | (try dsimp only
     (repeat' split) <;> simp (maxDischargeDepth := 12) only [modLoop_part, modPolygon_part, hp, part_ite, ite_self, List.mem_cons, List.not_mem_nil, or_false, not_or, not_false_eq_true, and_self, implies_true, ne_eq])

theorem outputPolygon_part {pt : Part} (x : Fin 6) (s : State) (hp : pt ∉ ([.polygons] : List Part)) :
    (State.outputPolygon x s).part pt = s.part pt := by
  unfold State.outputPolygon
  simp only [List.mem_cons, List.not_mem_nil, or_false, not_or] at hp
  simp (maxDischargeDepth := 12) only [modPolygon_part, hp, part_ite, ite_self, List.mem_cons, List.not_mem_nil, or_false, not_or, not_false_eq_true, and_self, implies_true, ne_eq]

theorem sampleServoCurrent_part {pt : Part} (a frame : Nat) (shunts : Int × Int × Int) (s : State) (hp : pt ∉ ([.loops, .motion] : List Part)) :
    (State.sampleServoCurrent a frame shunts s).part pt = s.part pt := by
  unfold State.sampleServoCurrent
  simp only [List.mem_cons, List.not_mem_nil, or_false, not_or] at hp
  first
  | (simp (maxDischargeDepth := 12) only [modLoop_part, modServo_part, hp, part_ite, ite_self, List.mem_cons, List.not_mem_nil, or_false, not_or, not_false_eq_true, and_self, implies_true, ne_eq]; done)
  | (try dsimp only
     (repeat' split) <;> simp (maxDischargeDepth := 12) only [modLoop_part, modServo_part, hp, part_ite, ite_self, List.mem_cons, List.not_mem_nil, or_false, not_or, not_false_eq_true, and_self, implies_true, ne_eq])

theorem outputServo_part {pt : Part} (a : Nat) (s : State) (hp : pt ∉ ([.motion] : List Part)) :
    (State.outputServo a s).part pt = s.part pt := by
  unfold State.outputServo
  simp only [List.mem_cons, List.not_mem_nil, or_false, not_or] at hp
  simp (maxDischargeDepth := 12) only [modServo_part, hp, part_ite, ite_self, List.mem_cons, List.not_mem_nil, or_false, not_or, not_false_eq_true, and_self, implies_true, ne_eq]

theorem sampleServoPos_part {pt : Part} (a frame : Nat) (s : State) (hp : pt ∉ ([.loops, .faults] : List Part)) :
    (State.sampleServoPos a frame s).part pt = s.part pt := by
  unfold State.sampleServoPos
  simp only [List.mem_cons, List.not_mem_nil, or_false, not_or] at hp
  simp (maxDischargeDepth := 12) only [loopPeriodAs_part, modLoop_part, hp, part_ite, ite_self, List.mem_cons, List.not_mem_nil, or_false, not_or, not_false_eq_true, and_self, implies_true, ne_eq]

theorem sampleServoVel_part {pt : Part} (a frame : Nat) (s : State) (hp : pt ∉ ([.loops, .motion, .faults] : List Part)) :
    (State.sampleServoVel a frame s).part pt = s.part pt := by
  unfold State.sampleServoVel
  simp only [List.mem_cons, List.not_mem_nil, or_false, not_or] at hp
  simp (maxDischargeDepth := 12) only [loopPeriodAs_part, modServo_part, hp, part_ite, ite_self, List.mem_cons, List.not_mem_nil, or_false, not_or, not_false_eq_true, and_self, implies_true, ne_eq]

theorem sampleHv_part {pt : Part} (k : Nat) (held : AnalogInput) (s : State) (hp : pt ∉ ([.loops, .faults] : List Part)) :
    (State.sampleHv k held s).part pt = s.part pt := by
  unfold State.sampleHv
  simp only [List.mem_cons, List.not_mem_nil, or_false, not_or] at hp
  first
  | (simp (maxDischargeDepth := 12) only [hvRegulate_part, hvSample_part, loopPeriod_part, modLoop_part, modLoops_part, when_part, hp, part_ite, ite_self, List.mem_cons, List.not_mem_nil, or_false, not_or, not_false_eq_true, and_self, implies_true, ne_eq]; done)
  | (try dsimp only
     (repeat' split) <;> simp (maxDischargeDepth := 12) only [hvRegulate_part, hvSample_part, loopPeriod_part, modLoop_part, modLoops_part, when_part, hp, part_ite, ite_self, List.mem_cons, List.not_mem_nil, or_false, not_or, not_false_eq_true, and_self, implies_true, ne_eq])

theorem sampleAc_part {pt : Part} (x : Nat) (s : State) (hp : pt ∉ ([.loops, .faults] : List Part)) :
    (State.sampleAc x s).part pt = s.part pt := by
  unfold State.sampleAc
  simp only [List.mem_cons, List.not_mem_nil, or_false, not_or] at hp
  first
  | (simp (maxDischargeDepth := 12) only [loopPeriod_part, modLoop_part, hp, part_ite, ite_self, List.mem_cons, List.not_mem_nil, or_false, not_or, not_false_eq_true, and_self, implies_true, ne_eq]; done)
  | (try dsimp only
     (repeat' split) <;> simp (maxDischargeDepth := 12) only [loopPeriod_part, modLoop_part, hp, part_ite, ite_self, List.mem_cons, List.not_mem_nil, or_false, not_or, not_false_eq_true, and_self, implies_true, ne_eq])

theorem sampleHeater_part {pt : Part} (z : Nat) (s : State) (hp : pt ∉ ([.loops, .faults] : List Part)) :
    (State.sampleHeater z s).part pt = s.part pt := by
  unfold State.sampleHeater
  simp only [List.mem_cons, List.not_mem_nil, or_false, not_or] at hp
  first
  | (simp (maxDischargeDepth := 12) only [loopPeriod_part, modHeater_part, modLoop_part, hp, part_ite, ite_self, List.mem_cons, List.not_mem_nil, or_false, not_or, not_false_eq_true, and_self, implies_true, ne_eq]; done)
  | (try dsimp only
     (repeat' split) <;> simp (maxDischargeDepth := 12) only [loopPeriod_part, modHeater_part, modLoop_part, hp, part_ite, ite_self, List.mem_cons, List.not_mem_nil, or_false, not_or, not_false_eq_true, and_self, implies_true, ne_eq])

theorem execLoopSample_part {pt : Part} (n : Fin 64) (frame : Nat) (held : AnalogInput) (s : State) (hp : pt ∉ ([.position, .polygons, .loops, .motion, .faults] : List Part)) :
    KeepsPart pt s (execLoopSample n frame held s) := by
  unfold execLoopSample
  simp only [List.mem_cons, List.not_mem_nil, or_false, not_or] at hp
  first
  | (simp (maxDischargeDepth := 12) only [atCycle_part, chargeLoad_part, sampleAc_part, sampleHeater_part, sampleHv_part, samplePolygon_part, sampleServoCurrent_part, sampleServoPos_part, sampleServoVel_part, keepsPart_live, keepsPart_liveIf, keepsPart_next, hp, part_ite, ite_self, List.mem_cons, List.not_mem_nil, or_false, not_or, not_false_eq_true, and_self, implies_true, ne_eq]; done)
  | (try dsimp only
     (repeat' split) <;> simp (maxDischargeDepth := 12) only [atCycle_part, chargeLoad_part, sampleAc_part, sampleHeater_part, sampleHv_part, samplePolygon_part, sampleServoCurrent_part, sampleServoPos_part, sampleServoVel_part, keepsPart_live, keepsPart_liveIf, keepsPart_next, hp, part_ite, ite_self, List.mem_cons, List.not_mem_nil, or_false, not_or, not_false_eq_true, and_self, implies_true, ne_eq])

theorem outputHeater_part {pt : Part} (z : Nat) (u : Int) (s : State) (hp : pt ∉ ([.loops] : List Part)) :
    (State.outputHeater z u s).part pt = s.part pt := by
  unfold State.outputHeater
  simp only [List.mem_cons, List.not_mem_nil, or_false, not_or] at hp
  first
  | (simp (maxDischargeDepth := 12) only [modHeater_part, modLoop_part, when_part, hp, part_ite, ite_self, List.mem_cons, List.not_mem_nil, or_false, not_or, not_false_eq_true, and_self, implies_true, ne_eq]; done)
  | (try dsimp only
     (repeat' split) <;> simp (maxDischargeDepth := 12) only [modHeater_part, modLoop_part, when_part, hp, part_ite, ite_self, List.mem_cons, List.not_mem_nil, or_false, not_or, not_false_eq_true, and_self, implies_true, ne_eq])

theorem execLoopOutput_part {pt : Part} (n : Fin 64) (s : State) (hp : pt ∉ ([.polygons, .loops, .motion, .telemetry] : List Part)) :
    KeepsPart pt s (execLoopOutput n s) := by
  unfold execLoopOutput
  simp only [List.mem_cons, List.not_mem_nil, or_false, not_or] at hp
  first
  | (simp (maxDischargeDepth := 12) only [modAc_part, modHv_part, modLoop_part, outputHeater_part, outputPolygon_part, outputServo_part, traceOutput_part, when_part, keepsPart_live, keepsPart_liveIf, keepsPart_next, hp, part_ite, ite_self, List.mem_cons, List.not_mem_nil, or_false, not_or, not_false_eq_true, and_self, implies_true, ne_eq]; done)
  | (try dsimp only
     (repeat' split) <;> simp (maxDischargeDepth := 12) only [modAc_part, modHv_part, modLoop_part, outputHeater_part, outputPolygon_part, outputServo_part, traceOutput_part, when_part, keepsPart_live, keepsPart_liveIf, keepsPart_next, hp, part_ite, ite_self, List.mem_cons, List.not_mem_nil, or_false, not_or, not_false_eq_true, and_self, implies_true, ne_eq])

end Sys2Proof.Machine
end

