-- ==== Sys2Proof/Tests/Slice0.lean ====
section
/-! SUPPORT. A witness for the hypotheses of each obligation, the checks of WellFormed, the manual's check values and worked
examples, and a few single commands. -/

namespace Sys2Proof.Tests

set_option Elab.async false

open Sys2Proof Sys2Proof.Machine

/-- A device at READY with nothing going on: DRAM trained, power up, the carriage and the gantry homed. -/
def up : State := { State.reset with
  legendApplied := true
  boot := { State.reset.boot with aonUp := true, ready := true, stage := .ready, dramMib := 4095 }
  power := { State.reset.power with upDone := true, upEver := true }
  scan := { State.reset.scan with sigma := 4096 }
  motion := { State.reset.motion with
    servos := State.reset.motion.servos.set 1 { State.reset.motion.servos[1] with homed := true, mode := .hold }
    steppers := mapV (fun p => { p with uncertain := false }) State.reset.motion.steppers } }

/-- A job entry of 128 bytes: FORMAT 1, host tag 1, the mask, the streams' addresses and line counts as given, and its ECRC. -/
def entryOf (mask lines : Nat) : List Byte :=
  let b := le 2 1 ++ le 1 mask ++ le 1 0 ++ le 4 0 ++ le 8 1 ++ ((List.range 6).flatMap fun _ => le 8 dramBase) ++
    ((List.range 6).flatMap fun _ => le 2 lines) ++ ((List.range 6).flatMap fun _ => le 2 1) ++ padTo 36 []
  b ++ le 4 (crc32 b)

/-- A job with streams for every station and no line in them, and one with four lines for station A. -/
def jobZ (st : JobState) : Job := { seq := 1, entry := entryOf 0x3F 0, state := st }
def jobA (st : JobState) : Job := { seq := 1, entry := entryOf 1 4, state := st }

/-- The device with jobs. -/
def withJobs (l : List Job) (s : State) : State := { s with layer := { s.layer with jobs := l } }

/-- The device with the six headers of a job without lines read. -/
def upZ : State := { up with
  decoders := Vector.replicate 6 { up.decoders[0] with jobSeq := some 1, state := .done, streamBytes := 64, fetched := 64 } }

/-- Station A enabled, locked, trained and primed for job 1. -/
def upA : State := { up with
  legend := { up.legend with
    polygons := up.legend.polygons.set 0 { up.legend.polygons[0] with enable := true }
    position := { up.legend.position with origins := [0], beltLen := 1000000 } }
  decoders := up.decoders.set 0 { up.decoders[0] with
    jobSeq := some 1, state := .decoding, streamBytes := 200, fetched := 200, lineLength := 8, lineCount := 4
    ring := mapIdxV (fun i r => { r with tag := if i < 4 then .zero else .free }) up.decoders[0].ring }
  pixels := up.pixels.set 0 { up.pixels[0] with lanes := Vector.replicate 5 { up.pixels[0].lanes[0] with state := .trained } }
  scan := { up.scan with stations := up.scan.stations.set 0 { up.scan.stations[0] with
    state := .locked, dllLocked := true, facetId := .identified, calValid := true } }
  polygons := up.polygons.set 0 { up.polygons[0] with phaseLock := true } }

/-! Chapter 1. -/

/-- A job refused for a stream outside DRAM, one that waits for power, one admitted. -/
theorem witness_AdmissionFollowsTheConditions :
    (let s := withJobs [jobZ .queued] { up with boot := { up.boot with dramMib := 0 } }
     s.specified = true ∧ s.islandsUp = true ∧ s.mayEvaluate = true ∧ s.candidate = some (jobZ .queued) ∧
       (List.range 17).find? (fun n => s.rejects (jobZ .queued) n) = some 1) ∧
    (let s := withJobs [jobZ .queued] { up with power := { up.power with upDone := false } }
     s.specified = true ∧ s.islandsUp = true ∧ s.mayEvaluate = true ∧ s.candidate = some (jobZ .queued) ∧
       (∀ n < 17, s.rejects (jobZ .queued) n = false) ∧ s.unmetOf (jobZ .queued) ≠ 0) ∧
    (∀ b, let s0 := withJobs [jobA .queued] { upA with polygons := up.polygons }
     let s : State := { s0 with layer := { s0.layer with hold := b } }
     s.mayEvaluate = true ∧ s.candidate = some (jobA .queued) ∧ (∀ n < 17, s.rejects (jobA .queued) n = false) ∧
       s.unmetOf (jobA .queued) ≠ 0 ∧ s.fails (jobA .queued) 12 = b ∧ s.fails (jobA .queued) 16 = false) ∧
    up.candidate = none ∧ (withJobs [jobZ .imaging, jobZ .queued] up).mayEvaluate = false ∧
    (let s := withJobs [jobZ .queued] upZ
     s.specified = true ∧ s.islandsUp = true ∧ s.mayEvaluate = true ∧ s.candidate = some (jobZ .queued) ∧
       (∀ n < 17, s.rejects (jobZ .queued) n = false) ∧ s.unmetOf (jobZ .queued) = 0) := by decide +kernel

/-- The timer of a job that waits for its station has run out; an ADMITTED job whose station lost phase lock, released to the Uliber line
or not, refused, or failing while its STARTED mark is written. -/
theorem witness_AdmissionTimeoutAndRequeue :
    (let s0 := withJobs [jobA .queued] { upA with polygons := up.polygons }
     let s : State := { s0 with timeUs := 10, layer := { s0.layer with timerSeq := some 1, timerRunning := true, timerRemainUs := 10 } }
     s.specified = true ∧ s.candidate = some (jobA .queued) ∧ s.mayEvaluate = true ∧ s.layer.timerSeq = some (jobA .queued).seq ∧
       s.layer.timerRunning = true ∧ s.elapsed s.layer.timerStartUs s.layer.timerRemainUs = true ∧
       s.fails (jobA .queued) 12 = false ∧ s.fails (jobA .queued) 16 = false ∧
       [5, 6, 8, 9, 10, 11, 14, 15].find? (fun n => s.fails (jobA .queued) n) = some 9) ∧
    (let s := withJobs [jobA .admitted] { upA with polygons := up.polygons }
     s.specified = true ∧ s.layer.jobs.find? (fun k => k.state == .admitted) = some (jobA .admitted) ∧ (jobA .admitted).arming = false ∧
       (∀ m < 17, s.rejects (jobA .admitted) m = false) ∧ (List.range 17).find? (fun n => s.fails (jobA .admitted) n) = some 9 ∧
       (s.power.layerReleased && s.legend.power.ulbEnable) = false) ∧
    (∀ b, let s0 := withJobs [jobZ .admitted] { up with boot := { up.boot with dramMib := 0 }, power := { up.power with layerReleased := b } }
     let s : State := { s0 with legend := { s0.legend with power := { s0.legend.power with ulbEnable := true } } }
     s.layer.jobs.find? (fun k => k.state == .admitted) = some (jobZ .admitted) ∧ (jobZ .admitted).arming = false ∧
       (List.range 17).find? (fun n => s.rejects (jobZ .admitted) n) = some 1 ∧ (s.power.layerReleased && s.legend.power.ulbEnable) = b) ∧
    (let s0 := withJobs [jobA .admitted] { upA with polygons := up.polygons, power := { up.power with layerReleased := true } }
     let s : State := { s0 with legend := { s0.legend with power := { s0.legend.power with ulbEnable := true } } }
     (∀ m < 17, s.rejects (jobA .admitted) m = false) ∧ ((List.range 17).find? fun n => s.fails (jobA .admitted) n).isSome = true ∧
       (s.power.layerReleased && s.legend.power.ulbEnable) = true) ∧
    (let j : Job := { jobA .admitted with arming := true }
     let s := withJobs [j] { upA with polygons := up.polygons }
     s.layer.jobs.find? (fun k => k.state == .admitted) = some j ∧ j.arming = true ∧ s.retestFail j = some 9 ∧ j.armFail = .none ∧
       (withJobs [j] upA).retestFail j = none) ∧
    ((withJobs [jobA .admitted] upA).layer.jobs.find? (fun k => k.state == .admitted) = some (jobA .admitted) ∧
      ∀ m < 17, (withJobs [jobA .admitted] upA).fails (jobA .admitted) m = false) ∧
    up.candidate = none ∧ up.layer.jobs.find? (fun k => k.state == .admitted) = none := by decide +kernel

/-- A job alone, and one behind a job in RETURN whose end comes before its own first meridian. -/
theorem witness_ArmingWritesStarted :
    (let s := withJobs [jobA .admitted] upA
     s.specified = true ∧ s.armable = some (jobA .admitted) ∧
       ((s.layer.jobs.takeWhile fun k => k.seq != (jobA .admitted).seq).all fun k => k.state == .ended) = true) ∧
    (let n : Job := { jobA .returning with seq := 2 }
     let s0 := withJobs [n, jobA .admitted] upA
     let s : State := { s0 with legend := { s0.legend with layer := { s0.legend.layer with overlap := true } } }
     s.specified = true ∧ s.armable = some (jobA .admitted) ∧ s.layer.jobs.find? (fun k => k.state == .returning) = some n ∧
       s.overlapOk n (jobA .admitted) = true) ∧
    (let n : Job := { jobA .returning with seq := 2, entry := entryOf 0x101 4 }
     let s := withJobs [n, jobA .admitted] upA
     s.armable = some (jobA .admitted) ∧ s.layer.jobs.find? (fun k => k.state == .returning) = some n ∧
       ((s.layer.jobs.takeWhile fun k => k.seq != (jobA .admitted).seq).all fun k => k.state == .ended) = false) ∧
    (let s0 := withJobs [{ jobA .returning with seq := 2 }, jobA .admitted] upA
     let s : State := { s0 with legend := { s0.legend with layer := { s0.legend.layer with overlap := false } } }
     s.overlapOk { jobA .returning with seq := 2 } (jobA .admitted) = false) ∧
    up.armable = none ∧ up.layer.jobs.find? (fun k => k.state == .returning) = none ∧
    ((upA.legend.layer.sharedBelt && upA.legend.power.ulbEnable) = false ∧ upA.legend.position.origins = [0] ∧
      (jobA .admitted).images 0 = true ∧ upA.meridianOf 0 0 < 4611686018427387904 ∧
      upA.position.travel + 256 * upA.legend.position.armLead ≤ upA.meridianOf 0 256000000 ∧
      ((256000000 : Int) - (0 - 256 * upA.position.indexOffset)) % (256 * max 1 upA.legend.position.beltLen : Int) = 0) := by decide +kernel

/-- A job ready to be ARMED, one whose meridian lies behind, one ARMED whose station lost phase lock. -/
theorem witness_ArmingCompletesOrEnds :
    (let j : Job := { jobA .admitted with arming := true, startedDurable := true, origin := 1000000000 }
     let s := withJobs [j] upA
     s.specified = true ∧ s.layer.jobs.find? (fun k => k.state == .admitted && k.arming && k.startedDurable) = some j ∧
       j.armFail = .none ∧ (∀ n < 14, s.fails j n = false) ∧ j.imagesAny = true ∧
       ∀ x : Fin 6, j.images x.val = true → s.travelNow < s.meridianOf x j.origin) ∧
    (let j : Job := { jobA .admitted with arming := true, startedDurable := true }
     let s := withJobs [j] upA
     s.specified = true ∧ s.layer.jobs.find? (fun k => k.state == .admitted && k.arming && k.startedDurable) = some j ∧
       j.armFail = .none ∧ (∀ n < 14, s.fails j n = false) ∧
       ∃ x : Fin 6, j.images x.val = true ∧ s.meridianOf x j.origin ≤ s.travelNow) ∧
    (let s := withJobs [jobA .armed] { upA with polygons := up.polygons }
     s.layer.jobs.find? (fun k => k.state == .armed) = some (jobA .armed) ∧
       (if s.fails (jobA .armed) 12 then some 12 else (List.range 14).find? (fun n => s.fails (jobA .armed) n)) = some 9) ∧
    (∀ c ∈ [Cause.none, .polyTimeout], let j : Job := { jobA .admitted with arming := true, startedDurable := true, armFail := c }
     let s := withJobs [j] { upA with polygons := up.polygons }
     s.layer.jobs.find? (fun k => k.state == .admitted && k.arming && k.startedDurable) = some j ∧ j.armFail = c ∧ s.retestFail j = some 9) ∧
    (let j : Job := { jobZ .admitted with entry := entryOf 0 0, arming := true, startedDurable := true }
     let s0 := withJobs [j] up
     let s : State := { s0 with motion := { s0.motion with zStep := s0.legend.motion.stepNm } }
     s.layer.jobs.find? (fun k => k.state == .admitted && k.arming && k.startedDurable) = some j ∧ j.armFail = .none ∧
       (∀ n < 14, s.fails j n = false) ∧ j.imagesAny = false ∧ max 1 s.legend.motion.stepNm ≤ s.motion.zStep + s.motion.residue) ∧
    ((withJobs [jobA .armed] upA).layer.jobs.find? (fun k => k.state == .armed) = some (jobA .armed) ∧
      ∀ n < 14, (withJobs [jobA .armed] upA).fails (jobA .armed) n = false) ∧
    up.layer.jobs.find? (fun k => k.state == .armed) = none := by decide +kernel

/-- LSAFE_N with a layer in its window, the same once the abort runs, its end at rest, and a layer past its nip. -/
theorem witness_AbortRunsOnceAndScraps :
    (let s0 := withJobs [jobA .imaging] upA
     let s : State := { s0 with faults := { s0.faults with lsafe := false } }
     s.specified = true ∧ s.windowJob = some (jobA .imaging) ∧ s.layer.abortRunning = false ∧ s.faults.lsafe = false ∧
       s.faults.grave = false ∧ s.severeStands = false) ∧
    (∀ b, let s0 := withJobs [jobA .imaging] upA
     let s : State := { s0 with faults := { s0.faults with grave := b, insts := [{ src := 1, inst := 0, cls := .severe, standing := true }] } }
     s.windowJob = some (jobA .imaging) ∧ s.layer.abortRunning = false ∧ s.faults.grave = b ∧ s.severeStands = true) ∧
    (∀ st ∈ [MerState.missed, .fired],
     let j : Job := { jobA .imaging with origin := 1000000000 }
     let s0 := withJobs [j] upA
     let s : State := { s0 with position := { s0.position with meridians := modN s0.position.meridians 0 fun m => { m with state := st, job := 1 } } }
     s.windowJob = some j ∧ s.faults.lsafe = true ∧ s.faults.grave = false ∧ s.severeStands = false ∧
       stations.find? (fun x => s.position.meridians[x].job == 1 && s.position.meridians[x].state == .missed) =
         (if st = .missed then some 0 else none) ∧ s.carriageLate j = false) ∧
    (let j : Job := { jobA .transfer with origin := -1 }
     let s0 := withJobs [j] upA
     let s : State := { s0 with motion := { s0.motion with carrPhase := .returning } }
     s.windowJob = some j ∧ s.carriageLate j = true ∧ ∀ x : Fin 6, s.position.meridians[x].state ≠ .missed) ∧
    up.windowJob = none ∧ up.layer.abortRunning = false ∧
    (let s0 := withJobs [jobA .imaging] upA
     let s : State := { s0 with
       layer := { s0.layer with abortRunning := true, abortSeq := 1 }
       motion := { s0.motion with servos := mapV (fun v => { v with atRest := true }) s0.motion.servos } }
     s.specified = true ∧ s.windowJob = some (jobA .imaging) ∧ s.layer.abortRunning = true ∧ s.jobOf s.layer.abortSeq = some (jobA .imaging) ∧
       (getN s.motion.servos 0 {}).atRest = true ∧ (getN s.motion.servos 1 {}).atRest = true) ∧
    (let j : Job := { jobA .lower with flags := { (jobA .lower).flags with postFault := true } }
     let s0 := withJobs [j] upA
     let s : State := { s0 with motion := { s0.motion with servos := mapV (fun v => { v with atRest := true }) s0.motion.servos } }
     s.specified = true ∧ s.layer.jobs.find? (fun k => (k.state == .lower || k.state == .returning) && k.flags.postFault) = some j ∧
       (getN s.motion.servos 0 {}).atRest = true ∧ (getN s.motion.servos 1 {}).atRest = true ∧ s.motion.carrPhase ≠ .returning ∧
       anyV (fun p => p.state == .moving) s.motion.steppers = false) := by decide +kernel

/-! Chapter 2. -/

/-- A valid stream header for four lines of eight pixels (R54). -/
def streamHdr : List Byte :=
  let b := le 4 0x3143524B ++ le 2 1 ++ le 2 8 ++ le 2 4 ++ le 2 0 ++ le 4 0 ++ le 8 160 ++ padTo 36 []
  b ++ le 4 (crc32 b)

/-- The device with bytes at the base of DRAM. -/
def withDram (b : List Byte) (s : State) : State := { s with memory := { s.memory with dram := (s.memory.dram.write 0 b).1 } }

/-- A job to prime; a station at its stream header, with a valid one and with zeros in DRAM. -/
theorem witness_PrimingReadsTheStreamHeader :
    (let s := withJobs [jobA .queued] up
     s.specified = true ∧ s.candidate = some (jobA .queued) ∧ s.boot.ready = true ∧ (jobA .queued).inMask 0 = true ∧
       s.stationFree 0 1 = true ∧ s.decoders[0].jobSeq ≠ some 1) ∧
    (∀ b ∈ [true, false],
      let s0 := withJobs [jobA .queued] { upA with decoders := upA.decoders.set 0 { upA.decoders[0] with state := .streamHeader } }
      let s := if b then withDram streamHdr s0 else s0
      s.specified = true ∧ s.decoders[0].jobSeq = some 1 ∧ s.jobOf 1 = some (jobA .queued) ∧ s.decoders[0].state = .streamHeader ∧
        s.inDram ((jobA .queued).streamAddr 0) 64 = true ∧ s.memory.dram.anyBad ((jobA .queued).streamAddr 0 - dramBase) 64 = false ∧
        streamHeaderOk (s.dramRead ((jobA .queued).streamAddr 0) 64) ((jobA .queued).lines 0) s.legend.decoder.restartLimit = b ∧
        s.decoderInWindow 0 = false) ∧
    up.candidate = none ∧ (up.decoders[0].jobSeq.bind up.jobOf = none) ∧ upA.decoders[0].state ≠ .streamHeader ∧
    ((withJobs [jobA .queued] upA).candidate = some (jobA .queued) ∧ upA.decoders[0].jobSeq = some (jobA .queued).seq ∧
      (jobA .queued).inMask 1 = false) ∧
    (let s0 := withJobs [jobA .queued] { upA with decoders := upA.decoders.set 0 { upA.decoders[0] with state := .streamHeader } }
     let s : State := { s0 with memory := { s0.memory with dram := { s0.memory.dram with bad := [0] } } }
     s.inDram ((jobA .queued).streamAddr 0) 64 = true ∧ (false || s.memory.dram.anyBad ((jobA .queued).streamAddr 0 - dramBase) 64) = true ∧
       s.decoderInWindow 0 = false) := by decide +kernel

/-- A REF line header after a line without references, and a LITERAL line of eight pixels; a RUN line whose symbol is reserved. -/
def hdrRef : List Byte := le 2 1 ++ le 2 8 ++ le 2 1 ++ le 1 3 ++ le 1 0 ++ le 2 1 ++ padTo 6 []
def hdrLit : LineHeader := { line := 0, pixels := 8, symbols := 1, mode := .literal, payload := 8 }

theorem witness_CheckedLinesKeepTheirBounds :
    (∃ h, checkLineHeader { State.reset.decoders[0] with nextLine := 1, lineLength := 8, lastFree := some 0, restartInterval := 4 } hdrRef = .ok h ∧
      h.mode = .ref) ∧
    (hdrLit.mode = .literal → hdrLit.payload = 8 * ((hdrLit.pixels + 15) / 16)) ∧ (padTo 8 [] : List Byte).length = hdrLit.payload ∧
      ∃ ls, decodeLine hdrLit [] (padTo 8 []) = .ok ls :=
  ⟨⟨_, rfl, rfl⟩, by decide, by decide, _, rfl⟩

/-- A REF line of eight pixels after line 0, in a chain or not, and a RUN line that is wrong. -/
def hdrChain : LineHeader := { line := 1, pixels := 8, symbols := 1, mode := .ref, payload := 1 }
def hdrRun : LineHeader := { line := 0, pixels := 8, symbols := 1, mode := .run, payload := 2 }
def withHdr (h : LineHeader) (st : JobState) (f : Decoder → Decoder) : State := withJobs [jobA st] { upA with
  decoders := modN upA.decoders 0 fun d => f { d with
    ring := State.reset.decoders[0].ring, header := some h, lineCount := 2, nextLine := h.line, buffer := padTo 24 [] } }

/-- Station A with its stream read up to a LITERAL line of eight pixels, whose checksum is right or wrong. -/
def withLine (right : Bool) (st : JobState) (s : State) : State :=
  let b := le 2 0 ++ le 2 8 ++ le 2 1 ++ le 1 4 ++ le 1 0 ++ le 2 8 ++ le 4 0
  let crc := crc16 (b ++ padTo 8 [])
  withJobs [jobA st] { s with decoders := s.decoders.set 0 { s.decoders[0] with
    ring := State.reset.decoders[0].ring, header := some hdrLit, lineCount := 1
    buffer := b ++ le 2 (if right then crc else crc + 1) ++ padTo 8 [] } }

theorem witness_LinesAreDecodedIntoTheRing :
    (let s := withJobs [jobA .queued] upA
     s.specified = true ∧ s.decoders[0].jobSeq = some 1 ∧ s.jobOf 1 = some (jobA .queued) ∧ s.decoders[0].state = .decoding) ∧
    (let s := withJobs [jobA .queued] { upA with decoders := upA.decoders.set 0 { upA.decoders[0] with fetched := 64 } }
     s.specified = true ∧ s.decoders[0].jobSeq = some 1 ∧ s.jobOf 1 = some (jobA .queued) ∧ s.decoders[0].state = .decoding ∧
       136 ≤ 65536 - s.decoders[0].buffer.length ∧ 136 ≤ s.decoders[0].feedEnd - s.decoders[0].fetched ∧ s.decoders[0].failedEnd = none ∧ s.layer.abortRunning = false ∧ s.decoderInWindow 0 = false ∧
       s.inDram ((jobA .queued).streamAddr 0 + s.decoders[0].fetched) 136 = true ∧
       s.memory.dram.anyBad ((jobA .queued).streamAddr 0 + s.decoders[0].fetched - dramBase) 136 = false) ∧
    (let s0 := withLine true .imaging upA
     let s : State := { s0 with decoders := s0.decoders.set 0 { s0.decoders[0] with ring := mapV (fun r => { r with tag := .zero }) s0.decoders[0].ring } }
     s.decoders[0].state = .decoding ∧ s.decoders[0].header = some hdrLit ∧ hdrLit.recordLen ≤ s.decoders[0].buffer.length ∧
       s.decoders[0].freeSlot = none) ∧
    (∀ right ∈ [true, false], ∀ st ∈ [JobState.imaging, .queued],
      let s := withLine right st upA
      s.specified = true ∧ s.decoders[0].jobSeq = some 1 ∧ s.jobOf 1 = some (jobA st) ∧ s.decoders[0].state = .decoding ∧
        s.decoders[0].header = some hdrLit ∧ hdrLit.recordLen ≤ s.decoders[0].buffer.length ∧ s.decoders[0].freeSlot = some 0 ∧
        s.decoders[0].nextHeaderError hdrLit = none ∧ (hdrLit.mode = .ref → s.decoders[0].refChain = false) ∧
        (decodeLine hdrLit (((s.decoders[0].slotOf (hdrLit.line - 1)).map RingSlot.read).getD [])
          (((s.decoders[0].buffer.take hdrLit.recordLen).drop 16).take hdrLit.payload)).toOption.isSome = true ∧
        (decide (leAt (s.decoders[0].buffer.take hdrLit.recordLen) 14 2 =
          crc16 ((s.decoders[0].buffer.take hdrLit.recordLen).take 14 ++ (s.decoders[0].buffer.take hdrLit.recordLen).drop 16))) = right ∧
        s.decoderInWindow 0 = (st == .imaging)) := by decide +kernel

theorem witness_LinesAreDecodedIntoTheRing_errors :
    (∀ st ∈ [JobState.imaging, .queued], let s := withHdr hdrRun st id
      s.decoders[0].freeSlot = some 0 ∧ s.decoders[0].nextHeaderError hdrRun = none ∧ hdrRun.recordLen ≤ s.decoders[0].buffer.length ∧
        (decodeLine hdrRun (((s.decoders[0].slotOf (hdrRun.line - 1)).map RingSlot.read).getD [])
          (((s.decoders[0].buffer.take hdrRun.recordLen).drop 16).take hdrRun.payload)).toOption = none ∧
        s.decoderInWindow 0 = (st == .imaging)) ∧
    (let s := withHdr hdrChain .imaging fun d => { d with refChain := true }
     s.decoders[0].freeSlot = some 0 ∧ s.decoders[0].nextHeaderError hdrChain = none ∧ hdrChain.mode = .ref ∧ s.decoders[0].refChain = true) ∧
    (let s := withHdr hdrChain .queued fun d => { d with ring := d.ring.set 0 { tag := .data, line := 0, pixels := 8, levels := List.replicate 8 1 } }
     s.decoders[0].freeSlot = some 1 ∧ s.decoders[0].refChain = false ∧ (s.decoders[0].slotOf (hdrChain.line - 1)).map (·.tag) = some .data ∧
       s.decoderInWindow 0 = false ∧ s.decoders[0].state = .decoding) ∧
    (let s0 := withJobs [jobA .imaging] upA
     let s : State := { s0 with layer := { s0.layer with abortRunning := true } }
     s.layer.abortRunning = true) ∧ up.decoders[0].state ≠ .decoding ∧ up.decoders[0].state ≠ .ringFull := by decide +kernel

/-! Chapter 3. -/

/-- Station A's pixel path changed, with job 1 in its window. -/
def withPx (f : Pixel → Pixel) : State := withJobs [jobA .imaging] { upA with pixels := modN upA.pixels 0 f }

theorem witness_SweepFramesStartCompleteAndAreExposed :
    (let s := withPx fun p => { p with job := some 1, state := .framing, k := 3, k1 := 9, exposing := some 2 }
     s.specified = true ∧ s.pixels[0].job = some 1 ∧ s.pixels[0].state = .framing ∧ s.pixels[0].frame = none ∧
       s.pixels[0].k ≤ s.pixels[0].k1 ∧ (s.pixels[0].k = s.pixels[0].k0 ∨ s.pixels[0].exposing = some (s.pixels[0].k - 1))) ∧
    (∀ b ∈ [true, false],
      let f : SweepFrame := { job := 1, last := b, trimValid := b, trimEmitter := 2, trimValue := -1 }
      let s := withPx fun p => { p with frame := some f }
      s.specified = true ∧ s.pixels[0].frame = some f ∧ s.jobOf f.job = some (jobA .imaging) ∧ f.trimValid = b ∧ f.last = b) ∧
    (let s0 := withPx fun p => { p with ready := some { job := 1, first := true, last := true } }
     let s : State := { s0 with scan := { s0.scan with stations := modN s0.scan.stations 0 fun t => { t with phi := some 7 } } }
     s.specified = true ∧ s.pixels[0].ready = some { job := 1, first := true, last := true } ∧ s.scan.stations[0].phi = some 7) ∧
    (up.pixels[0].job = none ∧ up.pixels[0].frame = none ∧ up.pixels[0].ready = none ∧ up.scan.stations[0].phi = none) ∧
    (∀ g h : Fin 4, up.pixels[0].map[g] = up.pixels[0].map[h] → g = h) ∧ up.pixels[0].map[(3 : Fin 4)] = (3 : Fin 5).val := by
  decide +kernel

/-- Trims at both ends of their range; a probe in range and out of it, with the fast loop on and off; a track; a module. -/
theorem witness_ExposureAdaptsByOneStep :
    (∀ trim ∈ [(-128 : Int), 0, 127],
      let g : LegPixel := { State.reset.legend.pixels[0] with trimLimit := 128 }
      g.trimLimit ≤ 128 ∧ trim.natAbs ≤ g.trimLimit ∧ -128 ≤ trim ∧ trim ≤ 127) ∧
    (∀ on ∈ [true, false], ∀ a ∈ [100, 420, 24, 101, 500],
      let f : SweepFrame := { job := 1, probe := 3 }
      let s0 := withPx fun p => { p with ready := some f }
      let s : State := { s0 with legend := { s0.legend with pixels := modN s0.legend.pixels 0 fun g =>
        { g with fastEnable := on, fastTarget := List.replicate 32 100, trimLimit := 8 } } }
      let g := nth (s.legPixel 0).fastTarget f.probe 0
      s.specified = true ∧ s.pixels[0].ready = some f ∧ (s.legPixel 0).fastEnable = on ∧
        ((g ≤ 4 * a ∧ a ≤ 4 * g ∧ (a = 101 ∨ a = 100 ∨ adjustTrim (s.legPixel 0) g a (getN s.pixels[0].trims f.probe 0) ≠
            getN s.pixels[0].trims f.probe 0)) ∨ 4 * g < a ∨ 4 * a < g)) ∧
    (let s0 := withPx fun p => { p with offsets := Vector.replicate 4 3 }
     let s : State := { s0 with legend := { s0.legend with pixels := modN s0.legend.pixels 0 fun g =>
        { g with slowEnable := true, tracks := 4, slowLimit := 3 } } }
     s.specified = true ∧ (s.legPixel 0).slowEnable = true ∧ 3 < (s.legPixel 0).tracks ∧ s.islandsUp = true ∧
       (s.legPixel 0).slowLimit ≤ 15 ∧ s.pixels[0].offsets[3].natAbs ≤ (s.legPixel 0).slowLimit) ∧
    (let s := withPx fun p => { p with moduleSerial := 9 }
     s.specified = true ∧ s.boot.ready = true ∧ s.pixels[0].moduleSerial ≠ 0) ∧
    up.pixels[0].moduleSerial = 0 ∧ up.pixels[0].ready = none ∧ (up.legPixel 0).tracks ≤ 4 := by decide +kernel

/-- A lane to train with good reports, and with none of lock; both ways in which the bearing source returns. -/
theorem witness_LanesTrainAndBearingSourceReturns :
    (let s : State := { upA with pixels := modN upA.pixels 0 fun p => { p with lanes := mapV (fun l => { l with pending := true, state := .down }) p.lanes } }
     let crc := crc8 (configBlock (s.legPixel 0) s.pixels[0] 1 none)
     let good : List LaneReport := [{ lock := true, id := 1, crc := 0 }, { lock := true, id := 1, crc := crc }]
     let bad : List LaneReport := List.replicate 9 { lock := false, id := 0, crc := 0 }
     s.specified = true ∧ s.boundary = true ∧ s.pixels[0].lanes[1].pending = true ∧ 
       s.pixels[0].lanes[1].state ≠ .training ∧ (good.all fun r => r.lock && r.id == 1) = true ∧
       good.map (·.crc) = [0, crc8 (configBlock (s.legPixel 0) s.pixels[0] 1 none)] ∧ bad.length = 9 ∧ ∀ r ∈ bad, r.lock = false) ∧
    (let s := withPx fun p => { p with forced := true }
     s.specified = true ∧ anyV (fun l => l.state == .trained) s.pixels[0].lanes = true ∧ s.pixels[0].forced = true ∧ s.faults.lsafe = true ∧
       s.layer.abortRunning = false) ∧
    (let s := withPx fun p => { p with bdWaitLast := true }
     s.specified = true ∧ s.pixels[0].forced = false ∧ s.pixels[0].bdWaitLast = true ∧ s.pixels[0].lanes[(4 : Fin 5)].state = .trained) ∧
    anyV (fun l => l.state == .trained) up.pixels[0].lanes = false ∧ (withPx id).boundary = false := by decide +kernel

/-! Chapter 4. -/

/-- Station A's scan state changed. -/
def withScan (f : ScanStation → ScanStation) (s : State) : State := { s with scan := { s.scan with stations := modN s.scan.stations 0 f } }

/-- Requests without a boundary, and at one: with a speed scale of 0, with a divider below the floor, and with all six in range. -/
theorem witness_ClockLossesAndRequests :
    (let s : State := { up with scan := { up.scan with refOk := true, sysLocked := true, ctlLocked := true, pllLocked := true, relocking := true } }
     s.specified = true ∧ s.scan.refOk = true ∧ s.scan.sysLocked = true ∧ s.scan.ctlLocked = true ∧ s.scan.pllLocked = true ∧
       s.scan.relocking = true ∧ s.islandsUp = true ∧ s.windowOpen = false) ∧
    (let s0 := withJobs [jobA .imaging] up
     let s : State := { s0 with scan := { s0.scan with pllLocked := true } }
     s.windowOpen = true ∧ s.windowJob = some (jobA .imaging) ∧ s.layer.abortRunning = false ∧ s.islandsUp = true ∧ s.boundary = false ∧
       s.scan.held = none) ∧
    (∀ e ∈ [(0, 200), (4096, 100), (4096, 200)],
      let s0 : State := { up with scan := { up.scan with pllN := 200 } }
      let s : State := { s0 with legend := { s0.legend with scan := { s0.legend.scan with speeds := [e] } } }
      s.boundary = true ∧ s.scan.relocking = false ∧ anyV Polygon.holdsSpeed s.polygons = false ∧
        (s.effectiveSigma s.scan.code = 0 ↔ e.1 = 0) ∧
        ((∃ x : Fin 6, dividerOk (speedEntry s.legend.scan s.scan.code).2
            (dividerOf s.legend.scan.lineRate (s.legScan x).lineCycles (speedEntry s.legend.scan s.scan.code).2
              (s.effectiveSigma s.scan.code)) = false) → e = (0, 200) ∨ e = (4096, 100)) ∧
        (e = (4096, 200) → s.effectiveSigma s.scan.code ≠ 0 ∧ (speedEntry s.legend.scan s.scan.code).2 = s.scan.pllN)) := by
  decide +kernel

theorem witness_DatumLinesRelockAndCalibrate :
    (∀ st ∈ [JobState.imaging, .queued],
      let s := withJobs [jobA st] (withScan (fun t => { t with calDue := st == .queued, unlocks := [5] }) upA)
      s.specified = true ∧ s.scan.stations[0].state ≠ .stopped ∧ s.scan.stations[0].dllLocked = true ∧ s.timeUs < 5 + 3600000000 ∧
        (s.scan.stations[0].calDue = true → s.imaging 0 = false)) ∧
    (withJobs [{ jobA .imaging with startedMask := 1 }] { upA with pixels := modN upA.pixels 0 fun p => { p with state := .framing, job := some 1 } }).imaging 0 = true ∧
    (let s := withScan (fun t => { t with dllLocked := false }) upA
     s.scan.stations[0].state ≠ .stopped ∧ s.scan.stations[0].dllLocked = false) ∧
    (let s : State := { upA with timeUs := 100000000000 }
     s.islandsUp = true ∧ s.scan.stations[0].calDue = false ∧ s.elapsed s.scan.stations[0].calUs s.calIntervalUs = true) ∧
    ((12289 : Nat) ∈ ({ hist := [12289] } : TapMeasure).hist ∧ ({ disorder := 1 } : TapMeasure).disorder ≠ 0) := by decide +kernel

/-- Edges too short and long enough; stamps at both ends of the window and beyond them; a window that closes empty; revolutions that score
best at the origin or elsewhere. -/
theorem witness_BearingsAreStampedSubstitutedAndIdentified :
    (let n := up.facets 0
     let s0 := withScan (fun t => { t with
       count := n + 1, calValid := false, history := (List.range (n + 1)).map fun i => 1000000 * (n + 1 - i) }) upA
     let s : State := { s0 with legend := { s0.legend with scan := { s0.legend.scan with
       stations := modN s0.legend.scan.stations 0 fun g => { g with bdMinWidth := 4, bdThresh := 100 } } } }
     let p := 1000000 * (n + 2)
     let w := 128 * (s.legScan 0).bdWindow
     s.specified = true ∧ s.bearingsExpected 0 = true ∧ s.scan.stations[0].predicted (s.facets 0) = some p ∧
       s.scan.stations[0].windowHit = false ∧ s.scan.stations[0].missRun = 0 ∧ s.scan.stations[0].calValid = false ∧
       (3 < (s.legScan 0).bdMinWidth ∧ (s.legScan 0).bdMinWidth ≤ 4 ∧ 4 * (s.legScan 0).bdThresh ≤ 400) ∧
       (∀ b ∈ [p - w, p + w], b % 128 < 128 ∧ b = 128 * (b / 128) + b % 128 ∧ p ≤ b + w ∧ b ≤ p + w) ∧
       ((p - w - 1) + w < p ∧ p + w < p + w + 1)) ∧
    (let s := withScan (fun t => { t with count := 1, history := [7] }) upA
     s.bearingsExpected 0 = true ∧ s.scan.stations[0].predicted (s.facets 0) = none ∧ s.scan.stations[0].windowHit = false) ∧
    (∀ o ∈ [0, 1],
      let n := up.facets 0
      let s0 := withScan (fun t => { t with
        count := 4 * n + 1, history := List.replicate (4 * n + 1) 0, facetId := .identified, origin := o, rival := 0
        rivalRuns := 3 }) upA
      let g := modN s0.legend.scan.stations 0 fun g => { g with signature := true }
      let s : State := { s0 with legend := { s0.legend with scan := { s0.legend.scan with stations := g } } }
      s.specified = true ∧ s.bearingsExpected 0 = true ∧ (s.legScan 0).signature = true ∧ 4 * s.facets 0 + 1 ≤ s.scan.stations[0].count ∧
        4 * s.facets 0 < s.scan.stations[0].history.length ∧ s.scan.stations[0].facetId = .identified ∧
        (bestRotation (s.facets 0) (s.legScan 0).facetSig (s.scan.stations[0].signature (s.facets 0))).1 = 0 ∧
        s.scan.stations[0].origin = o ∧ s.scan.stations[0].rival = 0 ∧ s.scan.stations[0].rivalRuns = 3) := by decide +kernel

/-- Ticks with the belt at speed and not; crossings that jump, and ones taken inside a window at, before and after the last tick. -/
theorem witness_ScheduleSlewsAndJumpsOnlyOutsideWindows :
    (let s := upA
     s.specified = true ∧ s.scan.stations[0].state ≠ .stopped ∧ s.beltAtSpeed = false) ∧
    (let s0 := upA
     let s : State := { s0 with motion := { s0.motion with servos := modN s0.motion.servos 0 fun v =>
       { v with mode := .velocity, stopDue := .none, traj := { v.traj with kind := .line } } } }
     s.beltAtSpeed = true ∧ s.legend.position.indexSrc = none ∧ s.scan.stations[0].state ≠ .free) ∧
    (∀ i ∈ [(0 : Int), 1],
      let k : Crossing := { index := i, time64 := 1000000000 }
      let s0 := withScan (fun t => { t with state := .acquire, aligned := true, tick := 1000 }) upA
      let s : State := { s0 with position := { s0.position with crossings := s0.position.crossings.set 0 (some k) } }
      s.position.crossings[0] = some k ∧ s.scan.stations[0].aligned = true ∧ s.scan.stations[0].state = .acquire ∧ s.windowOpen = false ∧
        s.position.reg[0].slewing = false ∧
        128 * (s.legScan 0).captureBand < (bridge {} k.time64 - s.scan.stations[0].tickAt (128 * s.tSw 0) k.index).natAbs ∧
        (withJobs [jobA .imaging] s).windowOpen = true ∧ (withJobs [jobA .imaging] s).position.crossings[0] = some k ∧
        (k.index ≤ s.scan.stations[0].tickIndex ↔ i = 0)) := by decide +kernel

/-! Chapter 5. -/

/-- Encoder 0 on the belt, with its index; travel in use. -/
def upBelt : State := { up with legend := { up.legend with position := { up.legend.position with
  beltInput := 0, indexSrc := some 0, indexPos := 5, beltLen := 100, encFilt := Vector.replicate 4 7
  emus := mapV (fun g => { g with source := some false, n := 1, m := 1 }) up.legend.position.emus
  ssi := mapV (fun g => { g with bits := 10, parity := true, error := true, tm := 20 }) up.legend.position.ssi } } }

/-- Levels shown for as long as the filter and for longer; frames that pass and fail; the first index and a later one; an output one
count behind. -/
theorem witness_PositionsCountEdgesAndAreNeverLost :
    ((-10 : Int) ≤ 10 ∧ (-10 : Int) < -9 ∧ (-9 : Int) < 10) ∧
    (let s := upBelt
     s.specified = true ∧ s.islandsUp = true ∧ s.encAxis 0 = .belt ∧ 7 ≤ getN s.legend.position.encFilt 0 0 ∧ getN s.legend.position.encFilt 0 0 < 8 ∧ (true != s.position.encoders[0].qa) ≠ (false != s.position.encoders[0].qb) ∧
       true ≠ s.position.encoders[0].qa ∧ true ≠ s.position.encoders[0].qb ∧ s.position.marks.length < 1024 ∧
       s.legend.position.marks[3].filt < s.legend.position.marks[3].filt + 1 ∧
       s.legend.position.indexSrc = some (0 : Fin 4).val ∧ s.position.synced = false ∧ s.legend.position.indexPos < s.legend.position.beltLen ∧
       ssiPasses s.legend.position.ssi[3] { code := 3, errorBit := false, parityBit := false, high := some 20000, edgeNs := 0 } = true ∧
       ssiPasses s.legend.position.ssi[3] { code := 1, errorBit := false, parityBit := false, high := some 20000, edgeNs := 0 } = false ∧
       ssiPasses s.legend.position.ssi[3] { code := 3, errorBit := false, parityBit := false, high := some 20001, edgeNs := 0 } = false ∧
       ssiPasses s.legend.position.ssi[3] { code := 3, errorBit := true, parityBit := true, high := some 0, edgeNs := 0 } = false) ∧
    (let s : State := { upBelt with position := { upBelt.position with
       travel := 1, synced := true, ssi := mapV (fun c => { c with badRun := 2 }) upBelt.position.ssi, emus := mapV (fun e => { e with lastEdge := some 84 }) upBelt.position.emus } }
     s.position.synced = true ∧ s.position.ssi[3].badRun = 2 ∧ s.legend.position.emus[0].source = some false ∧
       s.position.emus[0].lastEdge = some 84 ∧ 84 + 16 ≤ 100 ∧
       (s.travelAt 100 * s.legend.position.emus[0].n).fdiv (max 1 s.legend.position.emus[0].m : Nat) = s.position.emus[0].position + 1) := by
  decide +kernel

/-- An armed meridian of job 1 on station A at travel 0, reached by an edge or by interpolation, the job ARMED or IMAGING; one found behind
with the belt at rest; lists that fire each kind of entry, and one with entries behind. -/
theorem witness_MeridiansFireOrAreMissed :
    (∀ st ∈ [JobState.armed, .imaging], ∀ b,
      let s0 := withJobs [jobA st] upA
      let s : State := { s0 with position := { s0.position with
        forward := !b, meridians := modN s0.position.meridians 0 fun m => { m with state := .armed, job := 1, due := b } } }
      s.specified = true ∧ s.jobOf s.position.meridians[0].job = some (jobA st) ∧ s.position.meridians[0].state = .armed ∧
        (s.position.meridians[0].due = true ∨ (s.position.forward = true ∧ s.position.meridians[0].target ≤ s.travelAt 0)) ∧
        s.layer.abortRunning = false ∧ (b = false → s.beltForward = false ∧ s.position.meridians[0].target ≤ s.travelNow)) ∧
    (∀ a ∈ [CmpAction.pulse, .set, .clear, .toggle],
      let e : LegCmpEntry := { action := a, width := 5 }
      let s : State := { up with
        legend := { up.legend with position := { up.legend.position with cmps := up.legend.position.cmps.set 7 { entries := [e] } } }
        position := { up.position with cmps := modN up.position.cmps 7 fun c => { c with armed := true, due := true } } }
      s.cmpDue s.legend.position.cmps[7] s.position.cmps[7] 0 = true ∧ s.position.cmps[7].group s.legend.position.cmps[7] = [0] ∧
        s.legend.position.cmps[7].entries[0]? = some e) ∧
    (let s : State := { up with position := { up.position with cmps := modN up.position.cmps 7 fun c => { c with behind := [(0, 1)] } } }
     s.position.cmps[7].behind ≠ []) := by decide +kernel

theorem witness_RegistrationHoldsBoundedUpdates :
    ((8 : Int).natAbs ≤ up.legend.position.regDeadband) ∧
    ∀ st ∈ [JobState.transfuse, .lower, .returning],
      let s := withJobs [jobA st] upA
      s.specified = true ∧
        s.layer.jobs.find? (fun j => j.state == .transfuse || j.state == .lower || j.state == .returning) = some (jobA st) := by decide +kernel

/-! Chapter 6. -/

/-- Station A's polygon enabled, its drive changed; its engines run, its facet loop is enabled, three starts are tried. -/
def withPoly (f : Polygon → Polygon) : State := { upA with
  polygons := modN upA.polygons 0 f
  timeUs := 1000000000
  legend := { upA.legend with
    loops := { upA.legend.loops with loops := modN upA.legend.loops.loops 38 fun l => { l with enable := true } }
    polygons := modN upA.legend.polygons 0 fun g => { g with startTries := 3 } }
  loops := { upA.loops with engines := mapV (fun e => { e with state := .run }) upA.loops.engines } }

/-- Crossings of V, U, W, V as a forward turn shows them, the first at cycle 0, `gap` cycles apart; the same backward. -/
def crossingsAt (gap : Nat) : Vector EmfCrossing 4 :=
  #v[{ phase := 1, rising := false, cycle := 0 }, { phase := 0, rising := true, cycle := gap },
    { phase := 2, rising := false, cycle := 2 * gap }, { phase := 1, rising := true, cycle := 3 * gap }]

def crossingsBack : List EmfCrossing := [{ phase := 0, rising := true, cycle := 0 }, { phase := 1, rising := false, cycle := 9 }]

theorem witness_PolygonsStartStepByStep :
    (let s0 := withPoly fun p => { p with state := .off, hostStopped := false }
     let s : State := { s0 with motion := { s0.motion with bus := { s0.motion.bus with volt := 10 * (s0.legend.motion.vUv + 20) } } }
     s.specified = true ∧ s.boot.ready = true ∧ (s.legPoly 0).enable = true ∧ s.busNormal = true ∧ s.polygons[0].hostStopped = false ∧
       s.polygons[0].state = .off ∧ s.power.program ≠ .down ∧ s.power.program ≠ .brownout ∧ s.faults.grave = false) ∧
    (let s := withPoly fun p => { p with state := .listen }
     s.polygons[0].state = .listen ∧ 1 ≤ (s.legPoly 0).listenMs ∧ s.elapsed s.polygons[0].coastUs (1000 * (s.legPoly 0).listenMs) = true ∧
       s.elapsed s.polygons[0].coastUs (1000000 * (s.legPoly 0).spindownS) = true) ∧
    (let s := withPoly fun p => { p with state := .calibrate }
     let m : Int := (s.legPoly 0).shuntOfsMax
     s.polygons[0].state = .calibrate ∧ s.engineRuns 32 = true ∧ (roundDiv (256 * m + 127) 256).natAbs ≤ (s.legPoly 0).shuntOfsMax ∧
       (roundDiv (-256 * m) 256).natAbs ≤ (s.legPoly 0).shuntOfsMax ∧ (s.legPoly 0).shuntOfsMax < (roundDiv (256 * m + 128) 256).natAbs) ∧
    (∀ d, let s := withPoly fun p => { p with state := .align, doubled := d, startTry := 1 }
     let r := fun a => alignResult (s.legPoly 0).satMargin
       (pulseAmps (s.legPoly 0).dir (s.legPoly 0).shuntGain (0, 0, 0) (Vector.ofFn fun i => if i.val = 0 then (a, 0, 0) else (0, 0, 0)))
     s.polygons[0].state = .align ∧ s.engineRuns 32 = true ∧ (s.polygons[0].ofsU, s.polygons[0].ofsV, s.polygons[0].ofsW) = (0, 0, 0) ∧
       (r 30000).2.2 = true ∧ (r 0).2.2 = false ∧ s.polygons[0].doubled = d ∧
       s.polygons[0].startTry + 1 < (s.legPoly 0).startTries ∧ (s.legPoly 0).startTries ≤ 7) ∧
    (let s := withPoly fun p => { p with state := .openLoop, rampFine := 12000000, obs := { agreeRun := 64 } }
     s.polygons[0].state = .openLoop ∧ s.engineRuns 32 = true ∧ 40000 * (s.legPoly 0).obsRpm ≤ s.polygons[0].rampFine ∧
       64 ≤ s.polygons[0].obs.agreeRun) ∧
    (let s := withPoly fun p => { p with state := .openLoop, startTry := 1, obs := { agreeRun := 63, rampRun := 256 } }
     s.polygons[0].state = .openLoop ∧ s.engineRuns 32 = true ∧ s.polygons[0].obs.agreeRun < 64 ∧ 256 ≤ s.polygons[0].obs.rampRun ∧
       s.polygons[0].startTry + 1 < (s.legPoly 0).startTries ∧ (s.legPoly 0).startTries ≤ 7) ∧
    (let s := withPoly fun p => { p with state := .observer, alignRun := true, bdPresent := true, obsOk := true }
     s.polygons[0].state = .observer ∧ s.polygons[0].alignRun = true ∧ s.polygons[0].alignLeft = 0 ∧
       s.polygons[0].bdPresent = true ∧ s.polygons[0].obsOk = true ∧ s.engineRuns 32 = true) := by decide +kernel

theorem witness_PolygonsCoastRecatchAndStop :
    (let s := withPoly fun p => { p with state := .stopping, source := .bearing, gates := true, tickDue := true }
     s.specified = true ∧ s.polygons[0].closed = true ∧ s.polygons[0].tickDue = true ∧ (s.legLoop 38).enable = true ∧ s.engineRuns 38 = true) ∧
    (∀ r : Bool, let s := withPoly fun p => { p with
       state := .bearing, gates := true, obsOk := true, bdPresent := true, thetaAlign := some 0,
       diff := if r then 357913942 else 0, obs := { residRun := if r then 0 else 8 } }
     s.polygons[0].closed = true ∧ s.polygons[0].obsOk = true ∧
       (8 ≤ s.polygons[0].obs.residRun ∨ s.polygons[0].state = .bearing ∧ 357913941 < s.polygons[0].diff.natAbs) ∧
       s.polygons[0].bdPresent = true ∧ s.polygons[0].thetaAlign.isSome = true) ∧
    (∀ b : Bool, let s := withPoly fun p => { p with
       state := .observer, gates := true, obsOk := true, bdPresent := b, obs := { residRun := 8, engageRun := 64 } }
     s.polygons[0].closed = true ∧ s.polygons[0].obsOk = true ∧ 8 ≤ s.polygons[0].obs.residRun ∧
       (s.polygons[0].bdPresent = false ∨ s.polygons[0].thetaAlign = none) ∧ 64 ≤ s.polygons[0].obs.engageRun) ∧
    (∀ n ∈ [64, 63], let s := withPoly fun p => { p with
       state := .bearing, gates := true, obsOk := false, bdPresent := false, attempts := 1, obs := { engageRun := n } }
     s.polygons[0].closed = true ∧ s.polygons[0].obsOk = false ∧ s.polygons[0].bdPresent = false ∧ s.polygons[0].obs.engageRun = n ∧
       s.polygons[0].attempts + 1 < (s.legPoly 0).recatchTries ∧ (s.legPoly 0).recatchTries ≤ 15) ∧
    (let s := { withPoly (fun p => { p with state := .coast }) with timeUs := 5000 }
     s.polygons[0].state = .coast ∧ s.elapsed s.polygons[0].coastUs 5000 = true ∧ s.polygons[0].busCoast = false ∧ s.faults.grave = false) := by
  decide +kernel

theorem witness_PolygonsCoastRecatchAndStop_catch :
    (∀ st ∈ [PolyMode.listen, .recatch], let s := withPoly fun p => { p with state := st }
     let g := s.legPoly 0
     s.polygons[0].state = st ∧ s.faults.grave = false ∧ s.engineRuns 32 = true ∧ s.motion.bus.coasting = false ∧
       crossingsQualify g.dir (max 1 g.polePairs) g.emfThresh g.recatchMinRpm (crossingsAt 6666666).toList = true ∧
       crossingsQualify g.dir (max 1 g.polePairs) g.emfThresh g.recatchMinRpm (crossingsAt 6666668).toList = false) ∧
    (let s := withPoly fun p => { p with state := .recatch, attempts := 1 }
     let g := s.legPoly 0
     let slow := (crossingsAt 6666668).toList
     slow.filter (crossingSeen g.emfThresh) = slow ∧ 2 ≤ slow.length ∧ sixthsFollow g.dir false slow = true ∧
       crossingsSpeed (max 1 g.polePairs) slow < 10 * g.recatchMinRpm ∧
       crossingsBack.filter (crossingSeen g.emfThresh) = crossingsBack ∧ 2 ≤ crossingsBack.length ∧ sixthsFollow g.dir true crossingsBack = true ∧
       (crossingsBack.drop 1).length < 2 ∧ s.polygons[0].state = .recatch ∧ s.elapsed s.polygons[0].coastUs (1000 * g.recatchWindow) = true ∧
       s.polygons[0].attempts + 1 < g.recatchTries ∧ g.recatchTries ≤ 2 + 1 ∧ g.recatchTries ≤ 15) ∧
    (let s := withPoly fun p => { p with state := .stopping, gates := true, rampFine := 12000000, source := .ramp }
     s.polygons[0].state = .stopping ∧ s.polygons[0].rampFine ≤ 40000 * (s.legPoly 0).obsRpm ∧ s.islandsUp = true) ∧
    (let s := withPoly fun p => { p with state := .observer, gates := true, offUs := some 0 }
     s.polygons[0].offUs = some 0 ∧ s.polygons[0].closed = true ∧ s.polygons[0].speedRaised = false ∧
       s.elapsed 0 (1000 * (s.legPoly 0).speedTimer) = true) := by decide +kernel

/-! Chapter 7. -/

/-- Every loop changed in its legend and in its state, every engine running. -/
def withLoops (g : LegLoop → LegLoop) (f : Loop → Loop) : State := { up with
  legend := { up.legend with loops := { up.legend.loops with loops := mapV g up.legend.loops.loops } }
  loops := { up.loops with loops := mapV f up.loops.loops, engines := mapV (fun e => { e with state := .run }) up.loops.engines } }

theorem witness_LoopsComputeWithinTheirLimits :
    (∀ n ∈ [(0 : Fin 64), 18, 24, 32, 44, 52],
      let s0 := withLoops (fun g => { g with enable := true, phase := 0 }) fun l => { l with running := true, next := some 5 }
      let s : State := { s0 with polygons := mapV (fun p => { p with gates := true }) s0.polygons }
      s.specified = true ∧ s.sampleDue n 4000 = true ∧ (s.legLoop n).uLo ≤ (s.legLoop n).uHi ∧
        (s.legPoly 0).currentPid.uLo ≤ (s.legPoly 0).currentPid.uHi ∧ s.loops.hv[0].mux = false ∧ s.hvOver 0 0 = false ∧
        (s.loop n).next = some 5 ∧ s.engineRuns n = true ∧ (s.loop n).running = true) ∧
    (∀ v ∈ [0, 3],
      let s := withLoops (fun g => { g with vMax := v }) fun l => { l with heldTarget := some 7 }
      (s.loop 24).heldTarget = some 7 ∧ (s.loop 24).curve = none ∧ loopClass 24 ≠ .cur ∧ loopClass 24 ≠ .facet ∧
        (s.legLoop 24).vMax = v ∧ 7 ≠ (s.loop 24).sp) ∧
    (let l : Loop := { State.reset.loops.loops[0] with clamped := true, clampHi := true }
     l.atHi = true ∧ 0 < satQ31 (5 - 0)) ∧
    (let l : Loop := { State.reset.loops.loops[0] with clamped := true, clampHi := false }
     l.atLo = true ∧ satQ31 (0 - 5) < 0) ∧
    (let s := withLoops (fun g => { g with feTimer := 3 }) fun l => { l with running := true, feTimer := 3 }
     let s : State := { s with loops := { s.loops with heaters := mapV (fun h => { h with mode := .control }) s.loops.heaters } }
     s.loops.heaters[0].mode = .control ∧
     ∀ m ∈ [(0 : Fin 32), 17, 24, 31], (s.loop m).running = true ∧ (s.legLoop m).feTimer ≤ (s.loop m).feTimer ∧ (s.loop m).feRaised = false) := by
  decide +kernel

/-- Channel 4 of the high voltage changed. -/
def withHv (f : HvChannel → HvChannel) (s : State) : State := { s with loops := { s.loops with
  hv := modN s.loops.hv 4 f, engines := mapV (fun e => { e with state := .run }) s.loops.engines } }

theorem witness_HighVoltageIsMadeSafeAndReturns :
    (let s0 := withHv (fun h => { h with mux := true, monRun := 15 }) up
     let s : State := { s0 with loops := { s0.loops with loops := modN s0.loops.loops 4 fun l => { l with running := true } } }
     s.specified = true ∧ s.loops.hv[4].mux = true ∧ s.hvMonStands 4 = false ∧ (s.loop 4).running = true ∧ s.engineRuns 4 = true) ∧
    (let s0 := withHv (fun h => { h with mux := false, mode := .layer }) up
     let s : State := { s0 with layer := { s0.layer with abortRunning := true } }
     s.loops.hv[4].mux = false ∧ s.loops.hv[4].mode = .layer ∧ s.layer.abortRunning = true) ∧
    (let s := withHv (fun h => { h with monRun := 16, mode := .layer }) up
     s.loops.hv[4].monRun = 16 ∧ s.loops.hv[4].monRaised = false ∧ s.loops.hv[4].mode ≠ .grave ∧ s.loops.hv[4].mode ≠ .off) ∧
    (∀ m ∈ [15, 16], ∀ u : Bool, let s := withHv (fun h => { h with mode := .safe, monRun := m, mux := u }) up
     s.layer.hold = false ∧ s.severeStands = false ∧ s.faults.grave = false ∧ s.layer.abortRunning = false ∧
       (getN s.loops.hv (3 * (4 / 3)) {}).commanded = false ∧ s.loops.hv[4].mode = .safe ∧ s.loops.hv[4].mux = u ∧
       s.hvMonStands 4 = decide (m = 16)) ∧
    (let s : State := { up with loops := { up.loops with ac := mapV (fun a => { a with running := true }) up.loops.ac } }
     s.loops.ac[5].running = true) := by decide +kernel

/-- Readings at both ends of the humidity range; zones of both kinds; a duty that has stood at its limit. -/
theorem witness_HumidityAndHeaterPeriods :
    (up.specified = true ∧ up.islandsUp = true ∧ up.loops.humOut = false ∧ (19 < 20 ∨ 2480 < 19) ∧ (20 ≤ 20 ∧ 20 ≤ 2480) ∧ (20 ≤ 2480 ∧ 2480 ≤ 2480) ∧
      ((withJobs [jobA .armed] up).layer.jobs.any Job.armedOn = true)) ∧
    (∀ zc ∈ [true, false],
      let s : State := { up with
        timeUs := 1000000000000
        legend := { up.legend with loops := { up.legend.loops with zones := mapV (fun z => { z with acZc := zc }) up.legend.loops.zones } }
        loops := { up.loops with heaters := mapV (fun h => { h with mode := .control, sat := true }) up.loops.heaters } }
      s.loops.heaters[7].mode = .control ∧ s.legend.loops.zones[7].acZc = zc ∧ s.loops.heaters[7].sat = true ∧
        s.loops.heaters[7].satRaised = false ∧ s.elapsed s.loops.heaters[7].satUs (1000000 * s.legend.loops.zones[7].satTime) = true) := by
  decide +kernel

/-! Chapter 8. -/

/-- The servos changed, or the steppers. -/
def withServos (f : Servo → Servo) (s : State) : State := { s with motion := { s.motion with servos := mapV f s.motion.servos } }
def withSteppers (f : Stepper → Stepper) (s : State) : State := { s with
  timeUs := 1000000000, motion := { s.motion with steppers := mapV f s.motion.steppers } }

/-- The motor bus changed; just inside its normal band. -/
def withBus (f : Bus → Bus) (s : State) : State := { s with motion := { s.motion with bus := f s.motion.bus } }
def busLow (b : Bus) : Bus := { b with volt := 3800 }

theorem witness_ServosAlignStopAndRestart :
    (let s := fun (c : Int) => { withServos (fun v => { v with mode := .align, alignFrom := c }) up with timeUs := 10000 }
     (s 16777217).specified = true ∧ (s 0).islandsUp = true ∧ ((s 0).legServo 2).enable = true ∧ (s 0).motion.servos[2].mode = .align ∧
       ((s 0).legServo 2).alignMax * 16777216 < ((s 0).servoPos 2 - 16777217).natAbs ∧
       ((s 0).servoPos 2 - 16777216).natAbs ≤ ((s 0).legServo 2).alignMax * 16777216 ∧
       (s 0).elapsed (s 0).motion.servos[2].alignUs (1000 * ((s 0).legServo 2).alignTime) = true) ∧
    (let s := withServos (fun v => { v with stopDue := .abort }) up
     s.motion.servos[1].stopDue ≠ .none ∧ s.motion.carrPhase ≠ .inNip) ∧
    (let s := withBus busLow (withServos (fun v => { v with mode := .hold }) up)
     s.boot.ready = true ∧ s.busNormal = true ∧ s.layer.hold = false ∧ s.severeStands = false ∧ s.faults.grave = false ∧
       s.layer.abortRunning = false ∧ s.motion.servos[0].mode = .hold ∧ s.power.program ≠ .down ∧ s.power.program ≠ .brownout) ∧
    (∀ c ∈ [none, some 0],
      let s0 := withServos (fun v => { v with mode := .coast, atRest := true, commOffset := c }) up
      let s : State := { s0 with loops := { s0.loops with engines := mapV (fun e => { e with state := .run }) s0.loops.engines } }
      s.motion.servos[2].mode = .coast ∧ s.motion.servos[2].atRest = true ∧ s.engineRuns 50 = true ∧ s.engineRuns 51 = true ∧
        s.engineRuns 52 = true ∧ s.severeStands = false ∧ s.drivesOn = true ∧ s.motion.bus.coasting = false ∧
        s.motion.servos[2].commOffset = c) ∧
    (let s := withServos (fun v => { v with mode := .geared, trackRun := 60000 }) up
     s.motion.servos[1].mode = .geared ∧ s.legend.motion.trackTimer ≤ s.motion.servos[1].trackRun) ∧
    (let s := withLoops (fun g => { g with feTimer := 3 }) fun l => { l with running := true, feTimer := 3 }
     (s.loop 51).running = true ∧ (s.legLoop 51).feTimer ≤ (s.loop 51).feTimer ∧ (s.loop 51).feRaised = false) := by decide +kernel

/-- The carriage in each phase, with job 1 in the state that goes with it. -/
def withCarr (ph : CarriagePhase) (st : JobState) (f : Servo → Servo) : State :=
  let s := withServos f (withJobs [jobA st] upA)
  { s with position := { s.position with travel := 1000000000000 }, motion := { s.motion with carrPhase := ph, carrJob := 1 } }

theorem witness_CarriagePassesTheNip :
    (∀ ph ∈ [CarriagePhase.atStart, .away],
      let s := withCarr ph .armed fun v => { v with mode := .hold }
      s.specified = true ∧ s.layer.abortRunning = false ∧ s.approachJob = some (jobA .armed) ∧ s.carrAtStart = true ∧
        (jobA .armed).origin - 256 * s.approachCounts ≤ s.travelNow) ∧
    (let s := withCarr .approach .imaging fun v => { v with mode := .move, traj := { v.traj with kind := .approach, periods := 5000 } }
     s.jobOf s.motion.carrJob = some (jobA .imaging) ∧ s.motion.carrPhase = .approach ∧ s.motion.servos[1].mode = .move ∧
       s.motion.servos[1].traj.kind = .approach ∧ s.motion.servos[1].traj.total ≤ s.motion.servos[1].traj.periods * profQ / 5000) ∧
    (∀ st ∈ [JobState.transfer, .imaging],
      let s := withCarr .locked st fun v => v
      s.layer.abortRunning = false ∧ s.jobOf s.motion.carrJob = some (jobA st) ∧ s.motion.carrPhase = .locked ∧ (jobA st).origin ≤ s.travelNow) ∧
    (let s0 := withCarr .inNip .transfuse fun v => v
     let s : State := { s0 with motion := { s0.motion with zStep := s0.legend.motion.stepNm } }
     s.jobOf s.motion.carrJob = some (jobA .transfuse) ∧ s.motion.carrPhase = .inNip ∧
       (jobA .transfuse).origin + (jobA .transfuse).maxLines * s.legend.scan.kq + 256 * s.legend.motion.sepCounts ≤ s.travelNow ∧
       max 1 s.legend.motion.stepNm ≤ s.motion.zStep + s.motion.residue) ∧
    (∀ ph ∈ [CarriagePhase.separated, .away, .atStart],
      let s0 := withCarr ph .returning fun v => { v with mode := .hold, homed := true }
      let s : State := { s0 with motion := { s0.motion with resumeReturn := true } }
      jobA .returning ∈ s.layer.jobs ∧ (jobA .returning).imagesAny = true ∧ (jobA .returning).feedStarted = false ∧
        s.motion.resumeReturn = true ∧ s.motion.servos[1].mode = .hold ∧ s.motion.servos[1].homed = true ∧ s.faults.grave = false ∧
        s.severeStands = false ∧ s.motion.carrPhase = ph) ∧
    (let s := withServos (fun v => { v with mode := .geared }) up
     s.islandsUp = true ∧ s.motion.carrPhase ≠ .returning ∧ s.motion.servos[2].mode = .geared ∧ s.motion.servos[0].mode ≠ .off) := by
  decide +kernel

/-- A phase in fast decay at the two instants that end it and its off-time; a Z axis counted by steps, one with a valid SSI source. -/
theorem witness_SteppersStepChopStopAndHome :
    (let s := withSteppers (fun p => { p with state := .moving, left := 2, dueAt := 9 }) up
     s.specified = true ∧ s.motion.steppers[3].state = .moving ∧ 0 < s.motion.steppers[3].left ∧ s.motion.steppers[3].dueAt ≤ 9 ∧
       (getN s.legend.position.axes (2 + 3) {}).source ≠ .ssi) ∧
    (let s := withSteppers (fun p => { p with phaseA := { p.phaseA with phase := .on } }) up
     (s.motion.steppers[9].chopper false).phase = .on ∧
       (s.motion.steppers[9].chopper false).since + 100 * (s.legStepper 9).tBlank ≤ 100) ∧
    (let s0 := withSteppers (fun p => { p with phaseB := { p.phaseB with phase := .offFast } }) up
     let s : State := { s0 with legend := { s0.legend with motion := { s0.legend.motion with
       steppers := mapV (fun g => { g with mix := 8 }) s0.legend.motion.steppers } } }
     let c := s.motion.steppers[9].chopper true
     c.phase = .offFast ∧ c.since + 100 * (s.legStepper 9).tOff ≤ 200 ∧ 100 < c.since + 100 * (s.legStepper 9).tOff ∧
       16 * c.since + 100 * (s.legStepper 9).tOff * (s.legStepper 9).mix ≤ 16 * 100) ∧
    (let s := withSteppers (fun p => { p with state := .moving, settling := true }) up
     s.motion.steppers[0].state = .moving ∧ s.motion.steppers[0].settling = true ∧ s.motion.steppers[0].goal ≠ .layer ∧
       s.elapsed s.motion.steppers[0].dueUs (1000 * (s.legStepper 0).settle) = true) ∧
    (let s := withSteppers (fun p => { p with state := .idle }) up
     s.motion.steppers[4].state = .idle ∧ s.elapsed s.motion.steppers[4].restUs (1000 * (s.legStepper 4).holdDelay) = true) ∧
    (∀ d ∈ [(false, 999900000), (true, 999899999)],
      let s := withSteppers (fun p => { p with state := .moving, stepped := true, dueUs := d.2 }) up
      s.motion.steppers[4].state = .moving ∧ s.motion.steppers[4].stepped = true ∧
        s.elapsed s.motion.steppers[4].dueUs 100001 = d.1 ∧ s.motion.steppers[4].uncertain = false) := by decide +kernel

theorem witness_SteppersStepChopStopAndHome_home :
    (∀ ssi : Bool,
      let s0 := withSteppers (fun p => { p with uncertain := true }) up
      let s : State := { s0 with
        motion := { s0.motion with homeDue := 8191 }
        legend := { s0.legend with position := { s0.legend.position with
          axes := mapV (fun g => { g with source := if ssi then .ssi else .none }) s0.legend.position.axes } }
        position := { s0.position with ssi := mapV (fun c => { c with valid := true }) s0.position.ssi } }
      (12 : Fin 13).val = (9 : Fin 10).val + 3 ∧ (6 : Fin 13).val = (3 : Fin 10).val + 3 ∧ s.motion.homeDue.getLsbD 12 = true ∧
        s.motion.homeDue.getLsbD 6 = true ∧ s.islandsUp = true ∧ s.faults.grave = false ∧ s.severeStands = false ∧
        s.motion.steppers[3].state ≠ .moving ∧ s.motion.steppers[9].state ≠ .moving ∧ s.motion.steppers[9].uncertain = true ∧
        s.zSsi 3 = (ssi, true) ∧ s.motion.homeDue.getLsbD 1 = true) ∧
    (∀ b : Bool,
      let s := withSteppers (fun p => { p with homing := true, backOff := b, steps := 5 }) up
      s.motion.steppers[3].homing = true ∧ s.motion.steppers[3].backOff = b ∧
        (s.legStepper 3).homeRange < (s.motion.steppers[3].steps - s.motion.steppers[3].homeFrom).natAbs) ∧
    (∀ ph ∈ [1, 2],
      let s := withServos (fun v => { v with mode := .hold, homePhase := ph, homeFrom := 16777217 }) up
      s.motion.servos[1].mode = .hold ∧ s.motion.servos[1].homePhase = ph ∧
        (s.legServo 1).homeRange * 16777216 < (s.servoPos 1 - s.motion.servos[1].homeFrom).natAbs) := by decide +kernel

/-- Samples at V_UV, at V2 and above it, and every other condition of the bus. -/
theorem witness_MotorBusChopsClampsAndTrips :
    (let s := up
     s.specified = true ∧ s.islandsUp = true ∧ 10 * s.legend.motion.vUv ≤ 10 * s.legend.motion.v2 ∧ s.motion.bus.coasting = false ∧
       10 * s.legend.motion.v2 < 6001 ∧ s.motion.servos[1].mode ≠ .off) ∧
    (∀ h : Bool, let s := withBus (fun b => { b with chopHot := h, energy := if h then 4999999999 else 10000000001 }) up
     (if h then 2 * s.motion.bus.energy < s.legend.motion.chopEMax * 10000000000
       else s.legend.motion.chopEMax * 10000000000 < s.motion.bus.energy) ∧ s.motion.bus.chopHot = h) ∧
    (let s := withBus (fun b => { b with detectRun := 8 }) up
     s.legend.motion.chopDetect ≤ s.motion.bus.detectRun ∧ s.motion.bus.chopFailed = false) ∧
    (let s := withBus (fun b => { busLow b with testDue := true }) (withServos (fun v => { v with atRest := true }) up)
     s.motion.bus.testDue = true ∧ s.busNormal = true ∧ (∀ a : Fin 3, s.motion.servos[a].traj.kind = .none) ∧
       ∀ a : Fin 3, s.motion.servos[a].atRest = true) ∧
    (let s := withServos (fun v => { v with regen := true }) up
     s.motion.bus.chopFailed = false ∧ s.motion.bus.chopHot = false ∧ ∀ a : Fin 3, s.motion.servos[a].regen = true) ∧
    (∀ n ∈ [(32 : Fin 64), 52],
      let s0 := withLoops (fun g => { g with enable := true }) fun l => { l with running := true }
      let s : State := { s0 with polygons := mapV (fun p => { p with state := .bearing }) s0.polygons }
      (s.legLoop n).enable = true ∧ s.engineRuns n = true ∧ (s.loop n).running = true ∧ s.polygons[0].driven = true) := by decide +kernel

/-! Chapter 9. -/

/-- The thermal state changed; input 3 a Pt100, measuring zone 2 and station B's drum, its state as given. -/
def withTherm (f : Thermal → Thermal) (s : State) : State := { s with thermal := f s.thermal }
def upTin (f : TempInput → TempInput) : State :=
  let s := withTherm (fun h => { h with inputs := h.inputs.set 3 (f h.inputs[3]) }) up
  { s with legend := { s.legend with
      thermal := { s.legend.thermal with
        inputs := mapV (fun g => { g with type := .pt100 }) s.legend.thermal.inputs
        drumSensor := s.legend.thermal.drumSensor.set 1 (some 3) }
      loops := { s.legend.loops with
        loops := modN s.legend.loops.loops 26 fun g => { g with enable := true }
        zones := modN s.legend.loops.zones 2 fun z => { z with sensor := 3 } } } }

/-- A result above 98 % of full scale and a short; an input OK with one such result and without, and one not OK after eight and nine
good results. -/
theorem witness_TemperaturesSetBandsAndShutdown_inputs :
    (∀ b ∈ [(0, TinState.ok), (1, .open), (1, .short)], let s := upTin fun p => { p with state := .ok, badRun := b.1, badState := b.2 }
      s.specified = true ∧ s.islandsUp = true ∧ (getN s.legend.thermal.inputs 3 {}).type ≠ .unused ∧
        4000 % 4000 = (getN s.legend.thermal.inputs 3 {}).phase ∧ s.thermal.inputs[3].state = .ok ∧ s.thermal.inputs[3].badRun = b.1 ∧
        s.thermal.inputs[3].badState = b.2 ∧
        s.legend.thermal.drumSensor[1] = some 3 ∧ s.legend.thermal.drumSensor[2] ≠ some 3 ∧ (s.legLoop 26).enable = true ∧
        (getN s.legend.loops.zones 2 {}).sensor = 3 ∧ (s.legLoop 27).enable = false) ∧
    (∀ r ∈ [8, 9], (upTin fun p => { p with state := .open, okRun := r }).thermal.inputs[3].state ≠ .ok ∧
      (upTin fun p => { p with state := .open, okRun := r }).thermal.inputs[3].okRun = r) := by decide +kernel

theorem witness_TemperaturesSetBandsAndShutdown_results (s : State) (g : LegTin) (v : Int) (hg : g.type = .pt100) :
    (s.tinConvert g { code := 8220835 }).2 = .open ∧ (s.tinConvert g { lost := true }).2 = .open ∧ (s.tinConvert g { value := 14999 }).2 = .short ∧
      (s.tinConvert { g with lo := Config.temperature 1 v (s.coldJunction g), hi := Config.temperature 1 v (s.coldJunction g) }
        { value := v, code := 8220834 }).2 = if v < 15000 then .short else .ok := by
  refine ⟨?_, ?_, ?_, ?_⟩ <;> simp [State.tinConvert, State.coldJunction, rtdInput, hg, TinType.code]

/-- Reads of the die: all alike, one off the median for the sixteenth time, and five valid sensors. -/
theorem witness_TemperaturesSetBandsAndShutdown_die :
    (let s := withTherm (fun h => { h with sensors := mapV (fun d => { d with offRun := 15 }) h.sensors }) up
     let v := fun n : Int => (Vector.replicate 12 500).set 0 n
     s.aonUp = true ∧ offMedian s.thermal.sensors (mapV (clampI (-32768) 32767) (v 651)) 0 = true ∧
       offMedian s.thermal.sensors (mapV (clampI (-32768) 32767) (v 650)) 0 = false ∧ s.thermal.sensors[0].valid = true ∧
       s.thermal.sensors[0].offRun = 15) ∧
    (let s := withTherm (fun h => { h with sensors := mapIdxV (fun i d => { d with valid := decide (i < 5) }) h.sensors }) up
     ((List.range 12).filter fun i => (getN s.thermal.sensors i {}).valid).length < 6 ∧ s.thermal.sensorsLost = false) ∧
    (∀ c ∈ [(1120, DieBand.hot), (1099, .warm), (900, .normal)],
      let s := withTherm (fun h => { h with td := c.1, history := [c.1], band := c.2 }) up
      s.aonUp = true ∧ s.nextBand ≠ s.thermal.band ∧ s.thermal.history ≠ [] ∧ s.nextBand = bandOf c.1 ∧ s.scan.held = none) ∧
    (let s := withTherm (fun h => { h with td := 1010 }) up
     s.islandsUp = true ∧ 1000 < s.thermal.td ∧ dieFactor s.legend.thermal s.thermal.td ≠ s.thermal.applied) ∧
    (let s := withTherm (fun h => { h with td := 0, applied := 60 }) up
     s.thermal.td < 1000 - 10 * (s.legend.thermal.dieHyst : Int) ∧ s.thermal.applied ≠ 64) ∧
    (withJobs [jobA .imaging] upA).boundary = false := by decide +kernel

/-- Critical in a window: no rise of temperature, a rise that leaves time and one that does not; no window. -/
theorem witness_TemperaturesSetBandsAndShutdown_critical :
    (∀ h ∈ [(1120, List.replicate 1100 1120), (1100, List.replicate 1 1 ++ List.replicate 1099 0)],
      let s := withTherm (fun t => { t with critLatched := true, td := h.1, history := h.2 }) (withJobs [jobA .imaging] upA)
      s.windowJob = some (jobA .imaging) ∧ 1100 ≤ s.thermal.history.length ∧ s.thermal.critLatched = true ∧
        s.layer.abortRunning = false ∧ s.thermal.abortDecided = false ∧
        (s.slope.1 ≤ 0 ∨ ∃ n ∈ tripTime s.thermal.td s.slope.1, s.remainMs (jobA .imaging) + s.legend.thermal.critMargin ≤ n)) ∧
    (let s := withTherm (fun h => { h with critLatched := true, td := 1149, history := List.replicate 100 1149 ++ List.replicate 1000 0 })
       (withJobs [{ jobA .imaging with origin := 1000000000 }] upA)
     s.windowJob = some { jobA .imaging with origin := 1000000000 } ∧ s.thermal.critLatched = true ∧ s.layer.abortRunning = false ∧
       s.thermal.abortDecided = false ∧ tripTime s.thermal.td s.slope.1 = some 0 ∧
       0 < s.remainMs { jobA .imaging with origin := 1000000000 } + s.legend.thermal.critMargin) ∧
    (∀ p ∈ [Program.none, .up], let s := withTherm (fun h => { h with critLatched := true }) { up with power := { up.power with program := p } }
     s.thermal.critLatched = true ∧ s.thermal.shutdown = false ∧ s.windowOpen = false ∧ s.layer.abortRunning = false ∧
       s.power.program = p ∧ s.power.preempt = none ∧ isShutdown p = false) := by decide +kernel

/-! Chapter 10. -/

/-- The power state changed, its rails, and a program at a step word. -/
def withPower (f : Power → Power) (s : State) : State := { s with power := f s.power }
def withRails (f : Rail → Rail) (s : State) : State := withPower (fun v => { v with rails := mapV f v.rails }) s
def atWord (p : Program) (w : BitVec 64) (s : State) : State :=
  let s := withPower (fun v => { v with program := p, step := 0 }) s
  { s with legend := { s.legend with power := { s.legend.power with programs := mapV (fun _ => [w]) s.legend.power.programs } } }

/-- A word of each step, rails as asked and not; the waits at their ends. -/
theorem witness_SequencerRunsItsSteps :
    (∀ e : Bool, let s := withRails (fun r => { r with en := e }) (atWord .up 0x1000000500000000 up)
     s.specified = true ∧ s.power.program ≠ .none ∧ s.power.wait = .none ∧ s.power.preempt = none ∧ s.power.timeoutDue = false ∧
       s.presentStep = .en 5 ∧ s.power.rails[5].en = e ∧ s.power.rails[5].pg = false ∧ s.depFails 0x20 ≠ [] ∧ s.depFails 0 = []) ∧
    (atWord .up 0x2000000500000000 up).presentStep = .dis 5 ∧
    (atWord .up 0x3000000000000064 up).presentStep = .wait 100 ∧ (atWord .up 0x3000000000000000 up).presentStep = .wait 0 ∧
    (atWord .up 0x4000000500000064 up).presentStep = .waitPg 5 100 ∧ (atWord .up 0x4000000500000000 up).presentStep = .waitPg 5 0 ∧
    (atWord .up 0x5000002000000064 up).presentStep = .dep 0x20 100 ∧
    (atWord .up 0x6A00000500000000 up).presentStep = .check 5 10 ∧ (atWord .up 0x6A00004000000000 up).presentStep = .check 0x40 10 ∧
    (atWord .up 0x7000723000000000 up).presentStep = .jmpf 0x30 0x32 true ∧
    (atWord .up 0x8000003000000000 up).presentStep = .jmp 0x30 ∧
    (atWord .up 0xA000123400000000 up).presentStep = .log 0x1234 ∧
    (∀ p ∈ [Program.up, .down], (atWord p 0 up).presentStep = .finish ∧ isShutdown p = (p == .down)) := by decide +kernel

theorem witness_SequencerRunsItsSteps_waits :
    (∀ w ∈ [(PseWait.time, 0x3000000000000064#64, PseStep.wait 100), (.pg, 0x4000000500000064#64, .waitPg 5 100),
        (.dep, 0x5000002000000064#64, .dep 0x20 100)],
      let s := { withPower (fun v => { v with wait := w.1, waitUs := 100 }) (atWord .up w.2.1 up) with timeUs := 200 }
      s.power.wait = w.1 ∧ s.presentStep = w.2.2 ∧ s.power.program ≠ .none ∧ s.power.preempt = none ∧
        s.elapsed s.power.waitUs 100 = true ∧ s.power.timeoutDue = false) ∧
    (∀ w ∈ [PseWait.none, .time], let s := { withPower (fun v => { v with wait := w }) (atWord .up 0 up) with timeUs := 1000000000000 }
     s.power.program = .up ∧ s.power.timeoutDue = false ∧ s.power.wait = w ∧
       s.elapsed s.power.startUs (s.pseLegend.progTimeout * 1000000) = true) ∧
    (withPower (fun v => { v with preempt := some (.down, .grave) }) up).power.preempt = some (.down, .grave) ∧
    (∀ h : Bool, let s0 := withPower (fun v => { v with resumeDue := true }) upA
     let s : State := { s0 with polygons := mapV (fun p => { p with state := .off, hostStopped := h }) s0.polygons }
     s.power.resumeDue = true ∧ s.boot.ready = true ∧ s.power.program = .none ∧ s.enabled 0 = true ∧ s.faults.grave = false ∧
       s.polygons[0].state = .off ∧ s.polygons[0].hostStopped = h) := by decide +kernel

/-- Own supplies within R290. -/
def ownUv : Vector Nat 7 := #v[720000, 1200000, 900000, 1800000, 1800000, 1800000, 3300000]

theorem witness_ProgramsStartByTheInput :
    (∀ b : Bool, let s := withPower (fun v => { v with upEver := b, inputOk := true, voutReq := 720 }) up
     s.specified = true ∧ s.aonUp = true ∧ (∀ i : Fin 7, s.ownWithin i ownUv[i] = true) ∧ s.legendApplied = true ∧ s.power.inputOk = true ∧
       s.faults.grave = false ∧ s.legend.power.ulbEnable = false ∧ s.power.program = .none ∧ s.power.upEver = b ∧
       s.power.shutOff = false) ∧
    (let s := withPower (fun v => { v with inputOk := true, shutOff := true, inFailed := true }) up
     s.power.shutOff = true ∧ s.power.inFailed = true ∧ s.power.shutGrave = false ∧ s.power.shutThermal = false) ∧
    (∀ b : Bool, let s := { withRails (fun r => { r with en := b }) (withPower (fun v => { v with inLevel := true }) up) with timeUs := 50000 }
     s.power.inLevel = true ∧ s.pseLegend.inFailFilt ≤ 200 ∧ 199 < s.pseLegend.inFailFilt ∧ s.power.program = .none ∧
       anyV (·.en) s.power.rails = b ∧ isShutdown s.power.program = false ∧ s.elapsed s.power.inUs 50000 = true ∧
       s.motion.servos[1].mode ≠ .off) ∧
    (∀ st ∈ [JobState.imaging, .lower, .armed, .admitted, .queued], (withJobs [jobA st] up).layer.jobs = [jobA st] ∧
      (jobA st).inWindow = (st == .imaging) ∧ (jobA st).arming = false ∧ (withJobs [jobA st] up).layer.abortRunning = false) ∧
    (∀ l : Bool, let s := withPower (fun v => { v with inLevel := l }) (atWord .up 0 up)
     s.power.program ≠ .none ∧ s.power.preempt = none ∧ s.power.program ≠ .brownout ∧ s.power.inLevel = l) := by decide +kernel

/-- Every rail's EN, PG and the times of its events, at and before them; a rail with a monitor at its limits. -/
theorem witness_RailsAndSuppliesAreWatched :
    (∀ b : Bool, let s := { withRails (fun r => { r with
       en := b, pgSinceEn := b, pg := !b, lateDone := false, offDone := b, uvRun := 3, ovRun := 3 }) (atWord .down 0 up) with timeUs := 1000000000 }
     s.specified = true ∧ s.aonUp = true ∧ (s.legRail 23).mon = none ∧ (s.legRail 23).pgFilt ≤ 1 ∧ 0 < (s.legRail 23).pgFilt ∧
       s.power.program ≠ .none ∧ s.power.rails[23].en = b ∧ s.power.rails[23].pg = !b ∧ s.power.rails[23].lateDone = false ∧
       s.power.rails[23].pgSinceEn = b ∧ s.power.rails[23].offDone = b ∧ s.power.rails[23].uvRun = 3 ∧
       s.power.rails[23].switchUs + 100 * (s.legRail 23).pgLateTime ≤ s.timeUs ∧
       s.power.rails[23].switchUs + 100 * (s.legRail 23).offTime ≤ s.timeUs) ∧
    (let s0 := withRails (fun r => { r with en := true, pgSinceEn := true, pg := true, uvRun := 3, ovRun := 3 }) up
     let s : State := { s0 with timeUs := 1000, legend := { s0.legend with power := { s0.legend.power with
       rails := mapV (fun g => { g with mon := some 0, uvLimit := 100, ovLimit := 101, monGain := 1000 }) s0.legend.power.rails } } }
     (s.legRail 23).mon.isSome = true ∧ 99 < (s.legRail 23).uvLimit ∧ (s.legRail 23).ovLimit < 102 ∧ 3 ≤ s.power.rails[23].uvRun ∧
       s.power.rails[23].ovRun ≠ 4) ∧
    (∀ k ∈ [0, 1], let s := withPower (fun v => { v with counts := mapV (fun c => { c with dirty := true, slot := k }) v.counts }) up
     s.power.counts[31].dirty = true ∧ s.power.counts[31].slot = k) ∧
    (let s := up.pseLog 0x04 0xFF 0
     s.power.logQueue.length = 1 ∧ s.logs.powerHead < 256) ∧
    (up.aonUp = true ∧ 1139999 < (up.ownLimits 1).1 ∧ (up.ownLimits 1).1 ≤ 1140000 ∧ 1260000 ≤ (up.ownLimits 1).2 ∧
      (up.ownLimits 1).2 < 1260001) ∧
    (∀ v ∈ [695, 705], let s := { withPower (fun w => { w with voutReq := 700, voutTarget := v }) up with timeUs := 100 }
     s.boundary = true ∧ s.power.frozen = false ∧ s.power.voutReq ≠ s.power.voutTarget ∧ s.elapsed s.power.vcoreUs 100 = true) ∧
    (∀ n ∈ [1, 2], (withPower (fun w => { w with pmbTries := n }) up).power.pmbTries = n) := by decide +kernel

/-- Uliber enabled, UP done, in the state above ULB_LAYER. -/
def upUlb : State :=
  { up with
    legend := { up.legend with power := { up.legend.power with ulbEnable := true, ulbAbortDown := false, ulbLayer := 4 } }
    power := { up.power with ulbState := 5, released := false } }

theorem witness_UliberMembersStepTogether :
    (∀ st ∈ [JobState.armed, .imaging, .admitted], let s := withJobs [jobA st] upUlb
     s.specified = true ∧ s.legend.power.ulbEnable = true ∧ s.aonUp = true ∧ s.power.upDone = true ∧
       s.power.ulbState = s.legend.power.ulbLayer + 1 ∧
       s.layer.jobs.filter (fun k => k.state == .armed) = (if st = .armed then [jobA st] else []) ∧
       s.windowJob = (if st = .imaging then some (jobA st) else none) ∧ s.layer.abortRunning = false ∧
       s.power.abortDrive = false ∧ s.power.abortPulse = none ∧ s.power.wait ≠ .sync) ∧
    (∀ b : Bool, let s := withPower (fun v => { v with ulbState := 4, layerReleased := b }) (withJobs [jobA .admitted] upUlb)
     s.layer.jobs = [jobA .admitted] ∧ (jobA .admitted).state = .admitted ∧ s.power.ulbState = s.legend.power.ulbLayer ∧
       s.power.layerReleased = b ∧ s.power.detached = false ∧ s.power.upDone = true ∧ s.power.released = false ∧
       (s.layer.jobs.any fun j => j.state == .admitted) = true ∧ s.beltPosition % 64 = 0) ∧
    ({ upUlb with position := { upUlb.position with travel := 256 } }.beltPosition % 64 ≠ 0) ∧
    (let s := withPower (fun v => { v with upDone := false }) upUlb
     s.power.upDone = false) ∧
    (∀ d : Bool, let s0 := withPower (fun v => { v with abortFall := some 0, abortLong := false }) upUlb
     let s : State := { s0 with timeUs := 1000, legend := { s0.legend with power := { s0.legend.power with ulbAbortDown := d } } }
     s.power.abortFall = some 0 ∧ s.elapsed 0 1000 = true ∧ s.power.abortLong = false ∧ s.legend.power.ulbAbortDown = d ∧
       s.power.program = .none) ∧
    (let s0 := withPower (fun v => { v with wait := .sync, waitUs := 0, ulbState := 5 }) (atWord .up 0x9F00000700000064 upUlb)
     let s : State := { s0 with timeUs := 100 }
     s.power.wait = .sync ∧ s.presentStep = .sync 7 100 15 ∧ s.power.program ≠ .none ∧ s.power.preempt = none ∧
       min 255 (s.power.ulbState + 1) < 7 ∧ s.power.ulbState < 7 ∧ s.elapsed s.power.waitUs 100 = true ∧ s.power.timeoutDue = false) ∧
    (let s := upUlb
     s.power.detached = false ∧ s.power.upDone = true ∧ s.power.released = false ∧ s.power.ulbState = s.legend.power.ulbLayer + 1 ∧
       (s.layer.jobs.any fun j => j.state == .admitted) = false) := by decide +kernel

/-! Chapter 11. -/

/-- The fault state changed; an instance of PS.UV, whose base class is here Notice, with a legend entry. -/
def withFaults (f : Faults → Faults) (s : State) : State := { s with faults := f s.faults }
def inst1 : FaultInst := { src := 0xA3, inst := 2, counted := [991, 990] }
def legUv (n : Nat) (cap : FaultClass) (s : State) : State := { s with legend := { s.legend with faults := { s.legend.faults with
  sources := [(0xA3, { n := n, w := 10, cap := some cap })] } } }

/-- A queue with room and a full one; the second event of a window, the first being just too old, under N = 3 and N = 2, and at its
cap; a Degraded instance promoted in a window; an instance to fall back, and one that is not quiet long enough. -/
theorem witness_FaultEventsAreClassifiedAndLogged :
    (∀ n ∈ [63, 64], let s := withFaults (fun f => { f with queue := List.replicate n {} }) up
     s.specified = true ∧ s.faults.queue.length = n ∧ (s.armedClass (Source.number .psUv) 2 (Source.base .psUv)).code < 2 ∧
       2 ≤ (s.armedClass (Source.number .faultLsafe) 0 .severe).code) ∧
    (∀ c ∈ [(3, FaultClass.severe), (2, .severe), (2, .notice)],
      let s := legUv c.1 c.2 (withFaults (fun f => { f with queue := [{ src := 0xA3, inst := 2, timeUs := 10991 }], insts := [inst1] }) up)
      s.faults.queue = [{ src := 0xA3, inst := 2, timeUs := 10991 }] ∧ s.faults.stormDue = false ∧ s.faultInst 0xA3 2 = some inst1 ∧
        inst1.base = .notice ∧ inst1.cls = .notice ∧ inst1.cls.code ≤ c.2.code ∧ (s.sourceEntry 0xA3).cap = some c.2 ∧
        (inst1.counted.filter fun u => decide (10990 < u + 1000 * (s.sourceEntry 0xA3).w)).length + 1 = 2 ∧ (s.sourceEntry 0xA3).n = c.1) ∧
    (let i : FaultInst := { inst1 with cls := .degraded }
     let s := legUv 3 .severe (withFaults (fun f => { f with queue := [{ src := 0xA3, inst := 2, timeUs := 1000 }], insts := [i] })
       (withJobs [jobA .imaging] upA))
     s.faultInst 0xA3 2 = some i ∧ (s.sourceEntry 0xA3).n ≤ (i.counted.filter fun u => decide (1000 < u + 10000)).length + 1 ∧
       s.windowJob = some (jobA .imaging) ∧ s.layer.abortRunning = false ∧ s.faults.stormDue = false) ∧
    (∀ t ∈ [10000, 9999], let i : FaultInst := { inst1 with cls := .severe, suppressed := 3 }
     let s := { legUv 3 .severe (withFaults (fun f => { f with insts := [i] }) up) with timeUs := t }
     s.faultInst 0xA3 2 = some i ∧ i.base.code < i.cls.code ∧ i.standing = false ∧ i.cls ≠ .grave ∧
       s.elapsed i.lastUs (1000 * (s.sourceEntry 0xA3).w) = decide (t = 10000) ∧ i.suppressed ≠ 0 ∧ i.logged = [] ∧ 0 < (s.sourceEntry 0xA3).logLimit) ∧
    (let s := up.faultRecord []
     s.faults.records.length = 1 ∧ s.faults.logHead < 1024) := by decide +kernel

theorem witness_SafetyOutputsFollowFaults :
    (∀ k ∈ [FaultClass.severe, .grave], ∀ st ∈ [JobState.imaging, .armed],
      let s := withFaults (fun f => { f with fast := [{ src := 0xA3, base := k }] }) (withJobs [jobA st] upA)
      s.faults.fast = [{ src := 0xA3, base := k }] ∧ 2 ≤ k.code ∧ s.layer.abortRunning = false ∧ s.faults.grave = false ∧
        s.windowJob = (if st = .imaging then some (jobA st) else none) ∧ s.windowOpen = decide (st = .imaging) ∧
        s.layer.jobs = [jobA st]) ∧
    (∀ p ∈ [Program.none, .down, .up], let s := withFaults (fun f => { f with gravePending := true }) { up with power := { up.power with program := p } }
     s.specified = true ∧ s.faults.gravePending = true ∧ s.power.program = p ∧ isShutdown p = decide (p = .down)) ∧
    (∀ b, let s := { withFaults (fun f => { f with beat := b, missed := 1 }) up with timeUs := 1000000000 }
     s.boot.ready = true ∧ s.elapsed s.faults.periodUs (250 * s.legend.faults.alivePeriod) = true ∧ s.faults.beat = b ∧
       s.faults.missed = 1 ∧ s.faults.queue.length < 64 ∧ s.severeStands = false ∧ s.faults.grave = false) ∧
    (∀ b, let s := withFaults (fun f => { f with lsafe := b }) (withJobs [jobA .imaging] upA)
     s.aonUp = true ∧ s.faults.lsafe = b ∧ s.layer.abortRunning = false ∧ s.armedClass Source.faultLsafe.number 0 .severe ≠ .grave ∧
       s.windowJob = some (jobA .imaging)) ∧
    (let s := { withFaults (fun f => { f with lsafe := true, lsafeUs := 0 }) up with timeUs := 1000000000 }
     s.boot.ready = true ∧ s.faults.lsafe = true ∧ s.elapsed s.faults.lsafeUs (1000 * s.legend.faults.lsafeQual) = true ∧
       s.lsafeStands = false ∧ s.faults.grave = false ∧ isShutdown s.power.program = false) ∧
    (withFaults (fun f => { f with grave := true }) up).faults.grave = true := by decide +kernel

/-! Chapter 12. -/

/-- The host port changed; a header on queue 1; the maintenance ring with one entry and its queue enabled. -/
def withHost (f : HostPort → HostPort) (s : State) : State := { s with host := f s.host }
def hdr1 : MqHeader := { cq := 1, tag := 7, seq := 0 }
def queue1 : CompQueue := { enable := true, slot64 := true, sizeLog2 := 4 }
def upMq (s : State) : State := withHost (fun h => { h with
  mq := { h.mq with enable := true, tail := 1, rung := true }, cqs := h.cqs.set 1 queue1 }) s

/-- Sizes at and beyond both ends; bytes at the end of DRAM and past it; a codeword that the read finds bad; a high half held. -/
theorem witness_QueuesAndWindowsFollowTheHost :
    (up.specified = true ∧ up.barOpen = true ∧ bitOf (BitVec.toNat 0x13#32) 0 = true ∧ bitOf (BitVec.toNat 0x13#32) 1 = true ∧
      bitOf (BitVec.toNat 0x11#32) 1 = false ∧ field (BitVec.toNat 0x13#32) 5 2 = 4 ∧ field (BitVec.toNat 0x11#32) 5 2 = 4 ∧
      field (BitVec.toNat 0x33#32) 5 2 = 12 ∧ field (BitVec.toNat 0x0F#32) 5 2 < 4 ∧ 12 < field (BitVec.toNat 0x37#32) 5 2 ∧
      bitOf (BitVec.toNat 0x12#32) 0 = false ∧ up.host.lq.enable = false ∧ up.host.mq.enable = false ∧ up.host.cqs[13].enable = false) ∧
    (let s := withHost (fun h => { h with lq := { h.lq with enable := true }, mq := { h.mq with enable := true }
                                          cqs := h.cqs.set 13 queue1, pba := 0x8000 }) up
     s.host.lq.enable = true ∧ s.host.mq.enable = true ∧ s.host.cqs[13].enable = true ∧ s.host.cqs[13].slot64 = true ∧
       s.host.pba.getLsbD 15 = true ∧ s.host.pba.getLsbD 14 = false) ∧
    (let s := withHost (fun h => { h with win := 15 }) up
     let off : Fin 268435456 := 267386879
     s.winAddr off + 1 = s.dramBytes ∧ s.memory.wf = true ∧ s.memory.dram.anyBad (s.winAddr off) 1 = false ∧
       s.dramBytes ≤ s.winAddr (off + 1) ∧ ([1] : List Byte) ≠ [] ∧
       s.memory.dram.anyBad (s.winAddr off) (min 2 (s.dramBytes - s.winAddr off)) = false ∧ s.dramBytes < s.winAddr off + 2) ∧
    (up.winAddr 0 / 32 ≤ 0 ∧ 0 * 32 < up.winAddr 0 + 1 ∧ 0 * 32 < up.dramBytes) ∧
    (let s := withHost (fun h => { h with holding := [(0x0C, 9)] }) up
     s.host.held (4 * (3 : Fin 262144).val) = some 9 ∧ lowHalf (4 * (2 : Fin 262144).val) = true ∧ lowHalf (4 * (3 : Fin 262144).val) = false ∧
       s.host.held 0x10 = none ∧ (0x7#4).getLsbD 3 = false) := by decide +kernel

theorem witness_LinkEventsAreReported :
    (up.specified = true ∧ up.barOpen = true ∧ State.reset.barOpen = false ∧ up.aonUp = true) ∧
    (∀ b : Bool, let s := { withHost (fun h => { h with cqs := h.cqs.set 13 { queue1 with waiting := [{}, { seq := 2 }] } }) up with
       timeUs := if b then 1000001 else 1000000 }
     s.host.cqs[13].waiting = [{}, { seq := 2 }] ∧ (({} : Held).waitRaised = false) ∧ s.elapsed ({} : Held).sinceUs 1000001 = b) ∧
    (∀ b, let s := { withHost (fun h => { h with
         cqs := h.cqs.set 13 { queue1 with irqEnable := true, coalTime := 1, unsignalled := 1, vector := 15 }
         msix := mapV (fun m => { m with masked := b }) h.msix }) up with timeUs := 4 }
     s.host.cqs[13].irqEnable = true ∧ 0 < s.host.cqs[13].coalTime ∧ 0 < s.host.cqs[13].unsignalled ∧
       s.elapsed s.host.cqs[13].firstUs (4 * s.host.cqs[13].coalTime) = true ∧ s.host.cqs[13].vector < 16 ∧
       (getN s.host.msix s.host.cqs[13].vector {}).masked = b) ∧
    up.host.cqs[13].irqEnable = false := by decide +kernel

/-- The layer ring with one entry, CQ0 enabled. -/
def upLq : State := withHost (fun h => { h with
  lq := { h.lq with enable := true, tail := 1, rung := true }, lqOpen := true
  cqs := h.cqs.set 0 { queue1 with slot64 := true } }) up
def withAtlas (f : Atlas → Atlas) (s : State) : State := withHost (fun h => { h with atlas := f h.atlas }) s

/-- Seven and eight jobs ahead, a full atlas, no queue; marks of every kind; a FINAL record that the host passes. -/
theorem witness_AtlasAccountsForEveryJob :
    (let s := upLq
     s.specified = true ∧ s.barOpen = true ∧ s.host.lq.enable = true ∧ s.boot.ready = true ∧ s.host.lq.offers = true ∧
       s.host.lqOpen = true ∧ s.lqStop = none ∧ s.host.atlas.freeSlot = some 0 ∧ s.faults.queue.length < 64 ∧ s.host.eventsWaiting < 64 ∧
       s.host.lq.head = 0 ∧ up.host.lq.offers = false ∧ up.host.lq.enable = false) ∧
    (∀ n ∈ [7, 8], let s := withJobs (List.replicate n (jobA .queued)) upLq
     s.lqStop = if n = 8 then some .aheadLimit else none) ∧
    ((withAtlas (fun a => { a with slotOf := (List.range 64).map fun k => (k + 1, k) }) upLq).lqStop = some .atlasFull ∧
      (withHost (fun h => { h with cqs := h.cqs.set 0 { queue1 with enable := false } }) upLq).lqStop = some .cqDisabled) ∧
    (∀ k ∈ [2, 3], let s := withAtlas (fun a => { a with slotOf := [(1, 63)], todo := [{ seq := 1, kind := k, body := [5] }] }) up
     s.host.atlas.todo = [{ seq := 1, kind := k, body := [5] }] ∧ s.host.atlas.slotFor 1 = some 63 ∧ byteAt ([5] : List Byte) 0 = 4 + 1) ∧
    (let s := withAtlas (fun a => { a with slotOf := [(2, 0), (1, 63)], finals := [(1, [5])] }) (withHost (fun h => { h with restartDue := false }) up)
     s.host.restartDue = false ∧ s.host.atlas.nextFinal = some 1 ∧ s.host.atlas.finals.find? (fun p => p.1 == 1) = some (1, [5])) ∧
    (let s := withHost (fun h => { h with cqs := h.cqs.set 13 { queue1 with tail := 3 } }) up
     s.host.cqs[13].headOk 4 = false ∧ s.host.cqs[13].headOk 16 = false ∧ s.host.cqs[13].headOk 3 = true ∧ s.host.cqs[13].finals = []) ∧
    (let s := withAtlas (fun a => { a with slotOf := [(1, 63)] }) (withHost (fun h => { h with
       cqs := h.cqs.set 0 { queue1 with tail := 3, finals := [(2, 1)] } }) up)
     s.host.cqs[0].headOk 3 = true ∧ s.host.cqs[0].finals = [(2, 1)] ∧ (2 + 2 ^ 4 - 0) % 2 ^ 4 < (3 + 2 ^ 4 - 0) % 2 ^ 4 ∧
       s.host.cqs[0].sizeLog2 = 4 ∧ s.host.cqs[0].head = 0 ∧ (s.host.atlas.slotFor 1).isSome = true) ∧
    (let s := withHost (fun h => { h with restartDue := true }) upLq
     s.host.restartDue = true ∧ s.host.cqs[0].enable = true ∧ s.boot.ready = true) := by decide +kernel

theorem takesMq_upMq : ∀ j ∈ ([[], [jobA .queued], [jobA .imaging], [jobA .lower]] : List (List Job)), ∀ q ∈ [0, 1],
    (upMq (withJobs j up)).takesMq { hdr1 with seq := q } := by
  simp only [State.takesMq]; decide +kernel

/-- An entry for queue 1 with its arguments from byte 16 on. -/
def entryMq (op seq : Nat) (args : List Byte) : List Byte := le 2 op ++ le 2 1 ++ le 4 7 ++ le 8 seq ++ padTo 48 args

/-- Each command's entry, its arguments at ends of their ranges, and the command that it spells. -/
def entriesMq : List (List Byte × MqOp) := [
  (entryMq 0x01 9 [], .layerAbort 9), (entryMq 0x02 0 [], .layerResume), (entryMq 0x03 0 [], .layerFlush),
  (entryMq 0x10 0 [7], .setExposure (BitVec.toNat 7#8)), (entryMq 0x11 0 [15], .setSpeed (BitVec.toNat 15#8)),
  (entryMq 0x12 0 (le 2 0x80 ++ le 2 0xFE70), .setHeater 0x80 (BitVec.toInt 0xFE70#16)),
  (entryMq 0x13 0 (le 4 1000000), .setZStep (BitVec.toNat 1000000#32)),
  (entryMq 0x14 0 (le 4 0x3F ++ le 4 0xFFFFFFFF ++ le 2 0xFFFF), .regSet 0x3F (BitVec.toInt 0xFFFFFFFF#32) (BitVec.toInt 0xFFFF#16)),
  (entryMq 0x15 0 ([0xA3, 255, 0, 0] ++ le 4 3600000), .faultThresh (BitVec.toNat 0xA3#8) (BitVec.toNat 255#8) (BitVec.toNat 3600000#32)),
  (entryMq 0x20 0 [0, 0xA3, 63], .faultClear (BitVec.toNat 0#8) (BitVec.toNat 0xA3#8) (BitVec.toNat 63#8)),
  (entryMq 0x30 0 [0x3F, 1], .polyCtrl 0x3F (BitVec.toNat 1#8)), (entryMq 0x31 0 [0x3F, 0], .hvCtrl 0x3F (BitVec.toNat 0#8)),
  (entryMq 0x32 0 (le 2 0x1FFF), .motionStop 0x1FFF), (entryMq 0x33 0 (le 2 0x1FFF), .motionHome 0x1FFF),
  (entryMq 0x40 0 [], .powerDown), (entryMq 0x41 0 [], .powerUp), (entryMq 0x42 0 [3], .powerProg (BitVec.toNat 3#8)),
  (entryMq 0x50 0 [], .survey),
  (entryMq 0x51 0 (le 4 4 ++ le 4 9 ++ le 8 1024 ++ le 8 0x40),
    .logRead (BitVec.toNat 4#8) (BitVec.toNat 9#32) (BitVec.toNat 1024#16) (BitVec.toNat 0x40#64)),
  (entryMq 0x60 0 [1], .warmReset true), (entryMq 0xFF 0 [], .nop)]

theorem entriesMq_parse : ∀ e ∈ entriesMq, e.1.length = 64 ∧ (parseHeader e.1).cq = 1 ∧
    (∃ r ∈ parseOp e.1, r.1 = e.2 ∧ unusedZero e.1 r.1 r.2 = true) := by decide +kernel

theorem witness_MaintenanceEntriesAreTakenOrRefused :
    (hdr1.cq < 14 ∧ (getN up.host.cqs hdr1.cq {}).enable = false) ∧ (upMq up).specified = true ∧ hdr1.seq = 0 ∧
    (upMq (withJobs [jobA .armed] up)).boundary = false ∧ ((upMq up).boundary = true ∧ (upMq up).host.mqWaiting = []) ∧
    (1000000 < BitVec.toNat 1000001#32 ∧ BitVec.toNat 1000000#32 ≤ 1000000) ∧
    (parseHeader (entryMq 0xFE 0 []) = hdr1 ∧ parseOp (entryMq 0xFE 0 []) = none) ∧
    (parseOp (entryMq 0xFF 0 [1]) = some (.nop, []) ∧ unusedZero (entryMq 0xFF 0 [1]) .nop [] = false) ∧
    ((upMq up).tookMq.mqInRange (.setExposure 8) = false ∧ (upMq up).tookMq.mqInRange (.setExposure 7) = true ∧
      (upMq up).tookMq.mqWaits (.setExposure 7) = true ∧ (upMq up).tookMq.mqWaits .nop = false) ∧
    ((upMq up).barOpen = true ∧ (upMq up).host.mq.enable = true ∧ (63 : Fin 64).val ≠ (upMq up).host.mq.head ∧ (upMq up).host.mq.offers = true ∧
      (upMq up).host.taken < 16 ∧ (upMq up).faults.queue.length < 64 ∧ (upMq up).host.eventsWaiting < 64) ∧
    (let s := upMq (withHost (fun h => { h with taken := 16 }) up)
     s.boot.ready = true ∧ s.host.mq.offers = true ∧ 16 ≤ s.host.taken ∧ s.host.eventsWaiting < 64) ∧
    (let s := withHost (fun h => { h with resetDue := false, cqs := h.cqs.set 13 { queue1 with waiting := [{}, { seq := 2 }], tail := 15, head := 1 } }) up
     s.host.cqs[13].ready = true ∧ s.host.resetDue = false ∧ s.host.cqs[13].waiting = [{}, { seq := 2 }] ∧ up.host.cqs[13].ready = false) := by
  decide +kernel

theorem witness_CommandsTakenNowAct :
    ((upMq up).specified = true ∧ (upMq up).jobOf 1 = none ∧ (upMq up).runningJob = none ∧
      ∀ st ∈ [JobState.queued, .admitted, .armed, .imaging, .lower, .returning, .ended],
        (upMq (withJobs [jobA st] up)).jobOf 1 = some (jobA st) ∧ (upMq (withJobs [jobA st] up)).layer.abortRunning = false) ∧
    ((upMq (withJobs [jobA .imaging] up)).runningJob = some (jobA .imaging) ∧ (upMq (withJobs [jobA .imaging] up)).windowJob = some (jobA .imaging)) ∧
    (let s := upMq up
     let s : State := { s with legend := { s.legend with scan := { s.legend.scan with speeds := List.replicate 16 (4096, 10) } } }
     (speedEntry s.legend.scan (BitVec.toNat 15#8)).1 ≠ 0 ∧ s.takesMq hdr1 ∧ 16 ≤ BitVec.toNat 16#8) ∧
    ((upMq up).upReady = false ∧
      (let s := upMq (withPower (fun v => { v with ownOk := Vector.replicate 8 true, inputOk := true, shutOff := true, abortLevel := true }) up)
       s.upReady = true ∧ s.power.shutOff = true ∧ s.recoveryDue = false ∧ s.power.shutGrave = false ∧ s.coolEnough = true)) ∧
    (BitVec.toNat 0x7FFFFFFFFFFFFFC0#64 % 64 = 0 ∧ BitVec.toNat 0x7FFFFFFFFFFFFFC0#64 < 9223372036854775808 ∧ 4 < BitVec.toNat 5#8) ∧
    ((upMq up).imagesPast 63 = false ∧ (upMq up).axesPast 0x1FFF = false ∧ (upMq upA).enabled 0 = true ∧ (upMq upA).enabled 1 = false ∧
      (upMq upA).faults.grave = false) := by
  simp only [State.takesMq]; decide +kernel

theorem witness_BoundaryCommandsSetValues :
    (∀ p ∈ [CarriagePhase.atStart, .separated], let s0 := upMq up
     let s : State := { s0 with motion := { s0.motion with carrPhase := p } }
     s.specified = true ∧ s.takesMq hdr1 ∧ hdr1.seq = 0 ∧ s.boundary = true ∧ s.host.mqWaiting = [] ∧ s.homingMask = 0 ∧
       s.motion.homeDue = 0 ∧ s.carrAtStart = (p == .atStart)) ∧
    (-400 ≤ BitVec.toInt (-400 : BitVec 16) ∧ BitVec.toInt 4500#16 ≤ 4500 ∧ 4500 < BitVec.toInt 4501#16) ∧
    ((upMq up).loops.expoSet ≠ BitVec.toNat 7#8 ∧ BitVec.toNat 7#8 < 8 ∧ 8 ≤ BitVec.toNat 8#8) ∧
    (upMq up).mqInRange (.regSet 63 (BitVec.toInt 0#32) (BitVec.toInt 0#16)) = true ∧
    (upMq up).mqInRange (.regSet 64 (BitVec.toInt 0#32) (BitVec.toInt 0#16)) = false ∧
    (highestBase (upMq up).legend.power .faultLsafe ≠ .notice ∧ highestBase (upMq up).legend.power .krcLineCrc = .notice ∧
      0 < BitVec.toNat 1#32 ∧ BitVec.toNat 3600000#32 ≤ 3600000) := by
  simp only [State.takesMq]; decide +kernel

/-- A standing Severe whose cause is gone; one of a loop whose error stands; one that set the latch; a Degraded one restricted. -/
theorem witness_BoundaryCommandsAct :
    (∀ b, let i : FaultInst := { src := Source.number .laneTrain, inst := 2, cls := .severe, standing := b, restricted := !b }
     let s := upMq (withFaults (fun f => { f with insts := [i] }) up)
     s.specified = true ∧ s.takesMq hdr1 ∧ hdr1.seq = 0 ∧ s.boundary = true ∧ s.host.mqWaiting = [] ∧
       s.faultInst (Source.number .laneTrain) 2 = some i ∧
       s.faults.insts.filter (fun k => k.src == Source.number .laneTrain && k.inst == 2) = [i] ∧
       i.cls ≠ .grave ∧ i.setGrave = false ∧ i.standing = b ∧ i.restricted = !b ∧ s.causePresent (Source.number .laneTrain) 2 [] = false) ∧
    (let i : FaultInst := { src := Source.number .busOv2, inst := 0, cls := .severe, standing := true }
     let s0 := upMq (withFaults (fun f => { f with insts := [i] }) up)
     let s : State := { s0 with motion := { s0.motion with bus := { s0.motion.bus with coasting := true } } }
     s.faultInst (Source.number .busOv2) 0 = some i ∧ s.causePresent (Source.number .busOv2) 0 [] = true) ∧
    (2 < BitVec.toNat 3#8 ∧ Source.ofNumber (BitVec.toNat 4#8) = none ∧ 64 ≤ BitVec.toNat 64#8 ∧ BitVec.toNat 0x1FFF#16 < 8192 ∧
      8192 ≤ BitVec.toNat 0x2000#16) ∧
    ((upMq up).power.program = .none ∧ (upMq up).power.upDone = true ∧
      (withPower (fun v => { v with upDone := false }) (upMq up)).power.upDone = false ∧ (upMq up).power.preempt = none) ∧
    ((upMq (withJobs [jobA .armed] up)).boundary = false ∧
      (∀ b, (withPower (fun v => { v with voutReq := 700, voutTarget := if b then 705 else 700 }) up).boundaryDetach.vcoreDue = b)) ∧
    (let s := withHost (fun h => { h with mqWaiting := [(hdr1, .setZStep 5)] }) up
     s.boundary = true ∧ s.scan.relocking = false ∧ s.scan.held = none ∧ s.survey.state ≠ .due ∧ s.survey.capDue = false ∧
       s.vcoreDue = false ∧ s.host.mqWaiting = [(hdr1, .setZStep 5)]) := by
  simp only [State.takesMq]; decide +kernel

/-! Chapter 13. -/

/-- Every channel changed; image SRAM with a NEXT at 0x1018. -/
def withChans (f : DmaChannel → DmaChannel) (s : State) : State := { s with dma := { s.dma with channels := mapV f s.dma.channels } }
def withNext (v : Byte) (s : State) : State := { s with memory := { s.memory with sram := { cells := if v = 0 then [] else [⟨0x1018, v⟩] } } }
/-- A descriptor of image SRAM at 0x1000, or of host memory; as bytes. -/
def desc1 (op : DmaOp) (dest length : Nat) : Descriptor := { addr := 0x1000, op := op, length := length, dest := dest, source := 0x55, record := true, cq := 1, next := 0x40 }
def descAt : Descriptor := { desc1 .copy 0x7FFFF0 16 with addr := 0x8000000000000000, source := 0x8000000000000000 }
def descBytes (ctrl : Nat) : Vector Byte 32 := Vector.ofFn fun i => nth (le 4 ctrl ++ padTo 28 []) i.val 0

/-- RESUME at a NEXT in the block's memory that is 0, aligned and not, and in host memory. -/
theorem witness_DmaChannelsFollowTheirStates :
    (up.specified = true ∧ (7 : Fin 32).val < 8 ∧ up.barOpen = true ∧ State.reset.barOpen = false ∧ 8 ≤ (31 : Fin 32).val) ∧
    (up.dma.channels[31].state = .idle ∧ up.dma.channels[31].disable = false ∧
      (withChans (fun c => { c with disable := true }) up).dma.channels[31].disable = true) ∧
    (∀ v ∈ [(0 : Byte), 0x40, 0x41], let s := withNext v (withChans (fun c => { c with desc := some (desc1 .fill 0 1), state := .ended }) up)
     s.dma.channels[8].desc = some (desc1 .fill 0 1) ∧ s.dma.channels[8].state = .ended ∧
       s.accessFail false ((desc1 .fill 0 1).addr + 24) 8 = none ∧ inHostMem ((desc1 .fill 0 1).addr + 24) = false ∧
       leNat (s.readMem ((desc1 .fill 0 1).addr + 24) 8 []) = v.toNat) ∧
    (inHostMem (descAt.addr + 24) = true ∧ descAt.addr + 32 ≤ 0x10000000000000000 ∧
      leNat (le 8 0x40) ≠ 0 ∧ leNat (le 8 0x40) % 32 = 0) ∧
    (∀ d ∈ [desc1 .fill 0 1, { desc1 .fill 0 1 with next := 0 }, { desc1 .fill 0 1 with last := true }],
      let s := withChans (fun c => { c with desc := some d, state := .halted }) up
      s.dma.channels[8].desc = some d ∧ s.dma.channels[8].state = .halted) ∧
    (let s := withChans (fun c => { c with state := .active, desc := some descAt }) up
     s.dma.channels[31].state = .active ∧ s.dma.channels[31].desc = some descAt ∧ descAt.op = .copy ∧ 15 < descAt.length) ∧
    (∀ st ∈ [DmaState.draining, .disabled], ∀ b, let s := withChans (fun c => { c with state := st, disable := b, outReads := 3 }) up
      s.dma.channels[0].state = st ∧ s.dma.channels[0].disable = b) := by decide +kernel

theorem witness_DmaChannelsFollowTheirStates_fetch :
    (∀ d ∈ [none, some descAt],
     let s0 := withChans (fun c => { c with state := .active, desc := d, next := some 0x8000000000000000, errCqEn := d.isSome, errCq := 2 }) up
     let s := withHost (fun h => { h with cqs := h.cqs.set 1 queue1 }) s0
     s.dma.channels[31].state = .active ∧ s.dma.channels[31].next = some 0x8000000000000000 ∧ inHostMem 0x8000000000000000 = true ∧
       0x8000000000000000 + 32 ≤ 0x10000000000000000 ∧ s.dma.channels[31].desc = d ∧ s.dma.channels[31].held.length < 4 ∧
       s.dma.channels[31].ahead.length < 2 ∧ s.dma.channels[31].errCqEn = d.isSome ∧ s.takesDma s.dma.channels[31].errCq = true ∧
       badDescriptor (descBytes 0xFFFFFFFF).toList = true ∧ badDescriptor (descBytes 0x1102).toList = false ∧
       (parseDescriptor 0x8000000000000000 (descBytes 0x1102).toList).record = true ∧
       s.takesDma (parseDescriptor 0x8000000000000000 (descBytes 0x1102).toList).cq = false ∧
       badDescriptor (descBytes 0x1202).toList = false ∧ (parseDescriptor 0x8000000000000000 (descBytes 0x1202).toList).record = true ∧
       s.takesDma (parseDescriptor 0x8000000000000000 (descBytes 0x1202).toList).cq = true) ∧
    up.dma.channels[31].next = none := by decide +kernel

/-- LENGTH 0; up to the end of image SRAM and one byte past it; from host memory; a COMPARE that agrees and one that does not. -/
theorem witness_DescriptorsRunAndFail :
    (∀ d ∈ [desc1 .fill 0x7FFFF0 0, desc1 .fill 0x7FFFF0 16, desc1 .compare 0x1010 16, desc1 .fill 0x7FFFF0 17, { desc1 .link 0 0 with last := true }, descAt],
      let s := withNext 0x55 (withChans (fun c => { c with state := .active, desc := some d }) up)
      s.specified = true ∧ s.memory.wf = true ∧ s.dma.channels[31].state = .active ∧ s.dma.channels[31].desc = some d ∧
        s.dma.channels[31].held.length < 4 ∧ s.memory.sram.bad = [] ∧ d.cmpSrc = false ∧ d.dest < 0x800000 ∧
        s.dma.channels[31].ahead = [] ∧ s.dma.channels[31].next = none) ∧
    (inHostMem descAt.source = true ∧ descAt.source + descAt.length ≤ 0x10000000000000000 ∧ descAt.dest + descAt.length ≤ 0x800000 ∧
      0x800000 < 0x7FFFF0 + 17 ∧ up.takesDma 1 = true ∧ (List.replicate 16 (7 : Byte)).length = descAt.length) ∧
    (∀ e : Bool,
     let s0 := withChans (fun c => { c with held := [({ dma := true }, 1)] }) up
     let s := withHost (fun h => { h with cqs := h.cqs.set 1 { queue1 with slot64 := false, enable := e } }) s0
     s.barOpen = true ∧ s.dma.channels[31].held = [({ dma := true }, 1)] ∧ (getN s.host.cqs 1 {}).enable = e ∧
       (getN s.host.cqs 1 {}).full = false ∧ (getN s.host.cqs 1 {}).slot64 = false) ∧
    (up.islandsUp = true ∧ up.decoders[5].jobSeq = none) ∧
    (∀ st ∈ [JobState.armed, .imaging], let s := withJobs [jobA st] upA
     s.islandsUp = true ∧ s.decoders[0].jobSeq = some 1 ∧ s.jobOf 1 = some (jobA st) ∧ (jobA st).inWindow = (st == .imaging)) := by
  decide +kernel

/-! Chapter 14. -/

/-- Every stream changed; the telemetry section present. -/
def withStreams (f : Stream → Stream) (s : State) : State := { s with
  telemetry := { s.telemetry with streams := mapV f s.telemetry.streams }
  legend := { s.legend with telemetry := { s.legend.telemetry with
    present := true, sources := [{ loop := 52, stream := 11, decim := 2 }], laneStream := Vector.replicate 6 (some 11) } } }

/-- A buffer descriptor at DRAM or in host memory. -/
def bufAt (base : Nat) : Vector Byte 32 := 
  Vector.ofFn fun i => nth (le 4 1 ++ le 4 4096 ++ le 8 base ++ padTo 16 []) i.val 0

/-- The chain of the snapshots at 0x1000 in DRAM, its buffer's SIZE as given in KiB. -/
def upSnap (kib : Byte) : State :=
  let s := withStreams (fun t => { t with state := .preserved }) up
  { s with
    legend := { s.legend with telemetry := { s.legend.telemetry with snaps := mapV (fun g => { g with chain := dramBase + 0x1000 }) s.legend.telemetry.snaps } }
    memory := { s.memory with dram := { cells := [(0x1001 + 4, kib * 4), (0x1008 + 4, 0x10)] } } }

theorem witness_TelemetryStreamsStartAndStop :
    (∀ st ∈ [TlmState.idle, .stopped],
      let s := withStreams (fun t => { t with state := st, head := 0x8000000000000000 }) up
      s.specified = true ∧ s.barOpen = true ∧ s.telemetry.streams[11].state = st ∧ inHostMem s.telemetry.streams[11].head = true ∧
        s.telemetry.streams[11].head + 32 ≤ 0x10000000000000000 ∧ s.badBuffer 11 (Vector.replicate 32 (0xFF : Byte)).toList = true ∧
        s.badBuffer 11 (bufAt 1).toList = true ∧ s.takesDma (parseBuffer 0 (bufAt 1).toList).cq = true ∧
        s.badBuffer 11 (bufAt 0x8000000000001000).toList = false ∧ s.badBuffer 11 (bufAt dramBase).toList = false ∧
        inHostMem (parseBuffer 0 (bufAt 0x8000000000001000).toList).base = true ∧ s.memory.wf = true ∧ s.memory.dram.bad = [] ∧
        (parseBuffer 0 (bufAt dramBase).toList).base + 16 ≤ dramBase + s.dramBytes ∧ s.dramBytes ≤ 0x7FFFFFF000000000) ∧
    (let s := withStreams (fun t => { t with state := .running, staged := [1], buffer := some { cq := 1 } }) up
     s.telemetry.streams[11].state = .running ∧ s.telemetry.streams[12].state = .running ∧ s.telemetry.streams[12].staged ≠ [] ∧
       BitVec.getLsbD 0xF000#32 (12 : Fin 16) = true ∧ s.legend.telemetry.present = true ∧
       s.telemetry.streams[11].buffer = some { cq := 1 } ∧ s.takesDma 1 = true) ∧
    (∀ k ∈ [(3 : Byte), 4], let s := upSnap k
     let c := (s.snapOf 15).chain
     s.telemetry.streams[15].state = .preserved ∧ s.inDram c 32 = true ∧ s.accessFail false c 32 = none ∧ s.memory.wf = true ∧
       s.badBuffer 15 (s.readMem c 32 []) = (k == 3) ∧ (parseBuffer 0 (s.readMem c 32 [])).base + 16 ≤ dramBase + s.dramBytes) := by decide +kernel

/-- A sample of loop 52 that is due; stream 11's decimation, room and episode as given. -/
def dueAt (staged decim episode : Nat) (st : TlmState) : State :=
  let s := withStreams (fun t => { t with state := st, staged := List.replicate staged 0, decimCount := [(52, decim)], episode := episode }) up
  { s with telemetry := { s.telemetry with due := [{ loop := 52, timeUs := 9, body := List.replicate 16 1 }] } }

/-- A block of three bytes that a payload of one byte shortens and one of three does not; a LITERAL item, a MATCH item. -/
theorem witness_RecordsAreStagedAndCoded :
    (let t : Stream := { staged := [1, 2, 3] }
     t.blockInput.isEmpty = false ∧ t.blockStored [1] = false ∧ t.blockStored [1, 2, 3] = true) ∧
    (List.replicate 63 (7 : Byte)).length < 64 ∧ payloadOk [] (List.replicate 64 7) (0x3F :: List.replicate 64 7) = true ∧
    (0 + 1 < 32768 ∧ 63 < 64 ∧ (List.replicate 66 (7 : Byte)).length = 63 + 3 ∧ payloadOk [] (List.replicate 67 7) [0, 7, 191, 0, 0] = true) ∧
    (∀ c ∈ [(8164, 0), (8165, 0), (8148, 3), (8149, 3)], ∀ d ∈ [0, 1], ∀ st ∈ [TlmState.running, .stopped],
      let s := dueAt c.1 d c.2 st
      s.specified = true ∧ s.telemetry.due = [{ loop := 52, timeUs := 9, body := List.replicate 16 1 }] ∧
        s.legend.telemetry.sources.filter (fun p => p.loop == 52) = [{ loop := 52, stream := 11, decim := 2 }] ∧
        (s.stream 11).state = st ∧ (∀ m : Fin 4, s.legend.telemetry.snaps[m].loops.contains 52 = false) ∧
        (((s.stream 11).decimCount.find? fun p => p.1 == 52).map (·.2)).getD 0 = d ∧ (s.stream 11).episode = c.2 ∧
        (s.stream 11).staged.length = c.1) := by decide +kernel

theorem witness_RecordsAreStagedAndCoded_more :
    (∀ l ∈ [none, some 11], let s0 := withStreams (fun t => { t with state := .running, staged := List.replicate 8148 0 }) up
     let s : State := { s0 with
       telemetry := { s0.telemetry with laneDue := Vector.replicate 6 true }
       legend := { s0.legend with telemetry := { s0.legend.telemetry with laneStream := Vector.replicate 6 l } } }
     s.boot.ready = true ∧ s.legend.telemetry.present = true ∧ s.laneRecordDue 5 = true ∧ s.legend.telemetry.laneStream[5] = l ∧
       (s.stream 11).staged.length + 44 ≤ 8192 ∧ (s.stream 11).state = .running ∧ (s.stream 11).episode = 0) ∧
    up.laneRecordDue 5 = false ∧
    (∀ b, ∀ st ∈ [TlmState.running, .stopped],
     let s0 := withStreams (fun t => { t with state := st, snapshot := b, triggers := [List.replicate 32 0] }) up
     let s : State := { s0 with legend := { s0.legend with telemetry := { s0.legend.telemetry with
       snaps := mapV (fun g => { g with post := 1, loops := [52] }) s0.legend.telemetry.snaps } } }
     (s.stream 15).state = st ∧ (s.stream 15).triggers = [List.replicate 32 0] ∧ (s.stream 15).snapshot = b ∧
       (s.stream 15).episode = 0 ∧ (s.stream 15).staged.length + 12 + (List.replicate 32 (0 : Byte)).length ≤ 8192 ∧
       0 < (s.snapOf 15).post ∧ (s.snapOf 15).loops ≠ []) ∧
    up.codecTurn = none ∧
    (let b : TlmBuffer := { base := dramBase, size := 4096, used := 16 }
     let s := withStreams (fun t => { t with state := .running, staged := [1, 2, 3], flushDue := true, buffer := some b }) up
     s.codecTurn = some 12 ∧ (s.stream 12).state = .running ∧ (s.stream 12).buffer = some b ∧
       (s.stream 12).payloadFits 12 [2, 1, 2, 3] = true ∧ (s.stream 12).drain = [] ∧ s.memory.dram.bad = [] ∧ s.memory.wf = true ∧ dramBase ≤ b.base ∧
       b.used + (s.stream 12).blockInput.length + 8 < b.size ∧ b.base + b.size ≤ dramBase + s.dramBytes) := by decide +kernel

/-! Chapter 15. -/

/-- A legend whose content passes every check, and a copy that carries it. -/
def goodLegend : Legend :=
  let g := State.reset.legend
  { g with
    position := { g.position with axes := mapIdxV (fun i a => if i < 2 then { a with source := .enc, input := i + 1 } else a) g.position.axes }
    loops := { g.loops with hv := mapIdxV (fun i h => { h with safeSp := if i % 3 = 2 then 200 else -400, ovLimit := if i % 3 = 2 then 3000 else if i % 3 = 1 then -800 else -1200 }) g.loops.hv }
    motion := { g.motion with
      servos := mapV (fun v => { v with aMax := 2147483647, jMax := 2147483647 }) g.motion.servos
      steppers := mapV (fun v => { v with shape := List.replicate 256 0 }) g.motion.steppers } }
def section1 (type len : Nat) : List Byte :=
  let h := le 2 type ++ le 2 1 ++ le 4 len ++ le 4 0
  let b := List.replicate len (0 : Byte)
  h ++ le 4 (crc32 (h ++ b)) ++ b
def goodCopy : LegendCopy :=
  let body := ((List.range 12).flatMap fun t => section1 (t + 1) 0) ++ section1 0xE 0 ++ section1 0xFFFF 200
  let h := le 4 0x444E474C ++ le 2 1 ++ le 2 64 ++ le 4 (64 + body.length) ++ le 2 14 ++ le 2 0 ++ le 8 0x11 ++ le 4 0x4136584C ++ le 4 3 ++
    List.replicate 28 0
  { readError := false, bytes := h ++ le 4 (crc32 h) ++ body, badLength := [], content := goodLegend }
def badCopy : LegendCopy := { goodCopy with readError := true }

theorem test_sections_pass : ∀ t ∈ [1, 2, 3, 4, 5, 6, 7, 8, 9, 10, 11, 12, 14], sectionFails goodCopy t = none := by decide +kernel
theorem test_copy_passes : (checkCopy State.reset.otp goodCopy).result = .ok := by decide +kernel
theorem test_copy_corrupt : (checkCopy State.reset.otp { goodCopy with bytes := goodCopy.bytes.set 81 1 }).result = .framing := by decide +kernel

/-- The boot in a stage. -/
def atStage (b : BootStage) : State := { State.reset with boot := { State.reset.boot with aonUp := true, stage := b } }

/-- Slot 5 of copy A with an entry whose job has no stream and the marks up to `k` of sequence number 9. -/
def withMarks (k : Nat) (s : State) : State :=
  let e := entryOf 0 0
  let slot : AtlasSlot := { entry := e, marks := Vector.ofFn fun i => if i.val < k then markBytes 9 (i.val + 1) 5 (crc32 e) [] else [] }
  withAtlas (fun a => { a with copies := modN a.copies 0 (·.modSlot 5 fun _ => slot) }) s

theorem witness_BootRunsToReady :
    ((atStage .legend).specified = true ∧ (atStage .legend).boot.stage = .legend ∧ (atStage .legend).marginalDurable = true ∧
      (atStage .ddr).marginalDurable = true ∧ (atStage .legend).faults.queue.length < 63) ∧
    (checkCopy (atStage .legend).otp badCopy).result ≠ .ok ∧ State.reset.otp.unsignedAllowed = true ∧
    { State.reset.otp with shadows := State.reset.otp.shadows.set 0x240 1 }.unsignedAllowed = false ∧
    (∀ n ∈ [0, 1], let s0 := atStage .ddr
     let s : State := { s0 with
       boot := { s0.boot with trainFails := n }
       survey := { s0.survey with record := { s0.survey.record with
         lanes := s0.survey.record.lanes.set 3 (some 2), le4 := if n = 0 then none else some 3, chains := 1 } } }
     s.boot.stage = .ddr ∧ s.boot.trainFails = n ∧ s.survey.record.lanes[3] = some 2 ∧ s.survey.record.lanes[4] = none ∧
       s.survey.record.le4 = if n = 0 then none else some 3) ∧
    ((atStage .hostOpen).boot.stage = .hostOpen ∧ (atStage .hostOpen).host.configOpen = false) ∧
    (∀ h ∈ [BootStage.haltOtp, .haltLegend, .haltDdr], bootHalted (atStage h).boot.stage = true ∧ (atStage h).host.configOpen = false) ∧
    (∀ g, let s := withHost (fun h => { h with restartDue := true }) { atStage .recovery with faults := { State.reset.faults with grave := g } }
     s.boot.stage = .recovery ∧ s.host.restartDue = true ∧ s.boot.ready = false ∧ s.drivesOn = !g ∧ s.faults.grave = g ∧
       isShutdown s.power.program = false) := by
  decide +kernel

/-- A restart that kept DRAM and one that did not, with a record of this BUILD_ID and of another; a slot with its marks. -/
theorem witness_BootRunsToReady_recovery :
    (∀ b, let s0 := atStage .recovery
     let s := withAtlas (fun a => a.setHeader fun h => { h with regValid := b, buildId := 7 }) { s0 with
       boot := { s0.boot with dramKept := b, header := { s0.boot.header with buildId := 7 } } }
     s.specified = true ∧ s.boot.stage = .recovery ∧ s.host.restartDue = false ∧ s.boot.dramKept = b ∧ s.host.atlas.slotsBySeq = [] ∧
       s.host.atlas.header.regValid = b ∧ s.host.atlas.header.buildId = s.boot.header.buildId) ∧
    (∀ k ∈ [1, 2, 3, 4], let s0 := atStage .recovery
     let s := withMarks k { s0 with boot := { s0.boot with dramKept := true, lastReset := .resetN } }
     s.boot.lastReset ≠ .powerOn ∧ s.host.atlas.slotsBySeq = [5] ∧ ∃ m ∈ s.host.atlas.accepted 5, leAt m 0 8 = 9 ∧
       (s.host.atlas.present 5 2 9).isSome = decide (2 ≤ k) ∧ (s.host.atlas.present 5 3 9).isSome = decide (3 ≤ k) ∧
       (s.host.atlas.present 5 4 9).isSome = decide (4 ≤ k) ∧
       crc32 (s.host.atlas.trueEntry 5 (leAt m 12 4)) = leAt m 12 4 ∧ s.streamsIntact (s.host.atlas.trueEntry 5 (leAt m 12 4)) = true) := by
  decide +kernel

/-- The ports and the units changed. -/
def withJz (p : JzPort → JzPort) (u : Machine.Unit → Machine.Unit) (s : State) : State := { s with
  boot := { s.boot with ports := mapV p s.boot.ports, units := mapV u s.boot.units }
  legend := { s.legend with boot := { s.legend.boot with
    portEnable := Vector.replicate 8 true, permit := mapV (fun _ => [0, 2]) s.legend.boot.permit } } }
/-- An identity block of 62 bytes of the TYPE, with its CRC. -/
def identity (type : Nat) : Vector Byte 64 :=
  let b := le 2 type ++ padTo 60 []
  Vector.ofFn fun i => nth (b ++ le 2 (crc16 b)) i.val 0

/-- A unit that discovery finds on a port, of a permitted TYPE and of another. -/
theorem witness_BootRunsToReady_discovery : ∀ t ∈ [2, 3],
    (let s := withJz id id (atStage .discovery)
     s.boot.stage = .discovery ∧ getN s.legend.boot.portEnable 7 false = true ∧ s.portInWindow 7 = false ∧ s.boot.ports[7].link ≠ .bound ∧
       (∀ u : Fin 4, (s.unit 7 u).state = .absent) ∧ leAt (identity t).toList 62 2 = crc16 ((identity t).toList.take 62) ∧
       (getN s.legend.boot.permit (4 * 7 + 1) []).contains (leAt (identity t).toList 0 2) = (t == 2)) := by decide +kernel

theorem witness_PartnersAttachAndDetach :
    (∀ n ∈ [0, 1, 2], let s := withJz (fun q => { q with link := .announced, announces := n }) id up
     s.specified = true ∧ s.jzUp 7 = true ∧ s.boot.ports[7].link ≠ .bound ∧ s.boot.ports[7].announces = n ∧ (s.unit 7 0).state = .absent ∧
       up.jzUp 7 = false) ∧
    (∀ n ∈ [0, 2], let s := withJz id (fun u => { u with state := .identifying, crcRun := n }) up
     (s.unit 7 2).state = .identifying ∧ (s.unit 7 2).crcRun = n ∧
       leAt (identity 2).toList 62 2 = crc16 ((identity 2).toList.take 62) ∧
       leAt ((identity 2).set 0 9).toList 62 2 ≠ crc16 (((identity 2).set 0 9).toList.take 62) ∧
       (getN s.legend.boot.permit (4 * 7 + 2) []).contains (leAt (identity 2).toList 0 2) = true ∧
       leAt (identity 3).toList 62 2 = crc16 ((identity 3).toList.take 62) ∧
       (getN s.legend.boot.permit (4 * 7 + 2) []).contains (leAt (identity 3).toList 0 2) = false) ∧
    (∀ w : Bool, ∀ e ∈ [0, 5], let s := withJz id (fun u => { u with state := .present, reread := true, serial := e }) (withJobs (if w then [jobA .imaging] else []) up)
     (s.unit 0 2).state = .present ∧ (s.unit 0 2).reread = true ∧ leAt (identity 2).toList 4 8 = 0 ∧ (s.unit 0 2).serial = e ∧
       s.portInWindow 0 = w) ∧
    (let s := withJz id (fun u => { u with state := .held }) (withJobs [jobA .imaging] up)
     (s.unit 0 2).state = .held ∧ s.portInWindow 0 = true) := by decide +kernel

/-- Polls of a bound port, a reply missing for the first and the second time, detaching units and wear to write. -/
theorem witness_PartnersAttachAndDetach_polls :
    (∀ b, ∀ t ∈ [1, 2], let s := withJz (fun q => { q with link := .bound, repeated := b }) (fun u => { u with state := .present, misses := 2, wearDue := b, type := t }) upA
     s.boot.ports[0].link = .bound ∧ s.jzUp 0 = true ∧ (s.unit 0 1).state = .present ∧ (s.unit 0 0).type = t ∧ s.polls 0 0 = true ∧ s.polls 0 1 = true ∧
       s.boot.ports[0].repeated = b ∧ s.windowOpen = false ∧ (s.unit 0 1).wearDue = b ∧ s.pixels[0].refresh = false ∧
       leAt (Vector.replicate 16 (0 : Byte)).toList 4 2 = (s.unit 0 0).dropped ∧ s.pixels[0].lanes[4].state = .trained ∧
       (byteAt (Vector.replicate 16 (0 : Byte)).toList 2).testBit 4 = false) ∧
    (∀ st ∈ [UnitState.present, .failed, .held, .identifying], let s := withJz (fun q => { q with link := .bound }) (fun u => { u with state := st, misses := 3 }) up
     (s.unit 7 2).state = st ∧ (s.unit 7 2).misses = 3 ∧ (s.unit 7 0).state ≠ .absent) ∧
    (up.polls 7 0 = false ∧ (up.unit 7 2).state = .absent) := by decide +kernel

theorem witness_ResetsKeepWhatTheyKeep :
    ({ up with pins := { up.pins with unspecified := true } } : State).specified = false ∧ State.reset.aonUp = false ∧
    (∀ b c, let s : State := { up with boot := { up.boot with resetN := b }, host := { up.host with configOpen := c } }
     s.specified = true ∧ s.aonUp = true ∧ s.boot.resetN = b ∧ s.host.configOpen = c ∧ s.faults.queue.length < 64 ∧
       (∀ n : Fin 32, s.dma.channels[n].state ≠ .active)) ∧
    (let s : State := { up with timeUs := 1000000000000 }
     s.boot.ready = true ∧ s.elapsed s.faults.beatUs (1000 * s.legend.faults.wdogTimeout) = true) := by decide +kernel

/-! Chapters 16 and 17. -/

/-- The antifuses changed: the first `life` words of the life cycle and the first `locks` lock words programmed; the supply of word 4
within its limits. -/
def withOtp (life locks addr : Nat) (s : State) : State := { s with
  otp := { s.otp with
    addr := addr, data := 0
    shadows := (List.range locks).foldl (fun v k => modN v (0x254 + k) fun _ => lockPattern k)
      ((List.range life).foldl (fun v k => modN v (0x250 + k) fun _ => lifePattern k) (Vector.replicate 1024 0)) }
  power := { s.power with ownOk := Vector.replicate 8 true }
  thermal := { s.thermal with band := .normal } }

/-- The right key and a wrong one, each check of R472 failing, blank words, one that holds the pattern and one that holds another. -/
theorem witness_OtpIsSensedAndProgrammed :
    (∀ st ∈ [BootStage.otp, .legend], let s := atStage st
     s.specified = true ∧ s.aonUp = true ∧ s.boot.stage = st ∧ s.boot.resetN = true ∧ s.pins.testEn = false) ∧
    (let s := withOtp 1 0 0x23F up
     s.barOpen = true ∧ otpRegionOf s.otp.addr = 3 ∧ s.regionRefusal (BitVec.toNat 0x4F54#16) 3 = none ∧
       s.otpRefusal (BitVec.toNat 0x4F54#16) true = none ∧ (getN s.otp.array s.otp.addr {}).raw = 0 ∧ (getN s.otp.array (0x254 + 3) {}).raw = 0 ∧
       s.regionRefusal (BitVec.toNat 0#16) 3 = some .key ∧ s.regionRefusal (BitVec.toNat 0x4F54#16) 6 = some .range ∧
       s.regionRefusal (BitVec.toNat 0x4F54#16) 4 = some .state ∧
       (withOtp 1 4 0x23F up).regionRefusal (BitVec.toNat 0x4F54#16) 3 = some .locked ∧
       { s with otp := { s.otp with busyUntil := 1 } }.regionRefusal (BitVec.toNat 0x4F54#16) 3 = some .busy) ∧
    ((withJobs [jobA .armed] (withOtp 1 0 0 up)).regionRefusal 0x4F54 3 = some .condition ∧
      (withTherm (fun h => { h with band := .warm }) (withOtp 1 0 0 up)).regionRefusal 0x4F54 3 = some .condition ∧
      (withPower (fun w => { w with ownOk := Vector.replicate 8 false }) (withOtp 1 0 0 up)).regionRefusal 0x4F54 3 = some .condition) ∧
    (({ data := 7 } : OtpWord).raw ≠ 0 ∧ ({ data := 7 } : OtpWord).raw ≠ patternRaw 0 ∧
      ({ data := 0, check := otpCheck 0 } : OtpWord).raw = patternRaw 0) ∧
    (let s := withOtp 2 0 0x3EF up
     otpRegionOf s.otp.addr = 5 ∧ lifePermits s.otp.lifeCycle 5 = true) ∧
    (∀ a ∈ [0x250, 0x253, 0x254, 0x259, 0x25A, 0x25F, 0x3F0, 0x3FF], 6 ≤ otpRegionOf (withOtp 1 0 a up).otp.addr) := by decide +kernel

/-- ADVANCE from each state, with its prerequisites and without them. -/
theorem witness_OtpIsSensedAndProgrammed_advance :
    (∀ k ∈ [(0, LifeCycle.blank), (1, .vendorTest), (2, .provision), (3, .deployed)], (withOtp k.1 5 0 up).otp.lifeCycle = k.2 ∧
      (∀ r : Fin 4, (withOtp k.1 5 0 up).otp.lockCode r ≠ 0) ∧ (withOtp k.1 5 0 up).otp.lockCode 4 ≠ 0 ∧
      (getN (withOtp k.1 5 0 up).otp.array (0x250 + k.1) {}).raw = 0 ∧ (withOtp k.1 5 0 up).otpRefusal 0x4F54 true = none) ∧
    ((withOtp 1 3 0 up).otp.lockCode 3 = 0 ∧ (withOtp 2 4 0 up).otp.lockCode 4 = 0 ∧ (withOtp 4 0 0 up).otp.lifeCycle = .retired) := by
  decide +kernel

theorem witness_AgeingIsMeasuredAndSpared :
    (let g := up.legend.survey
     g.vcoreMin ≤ 720 ∧ 720 ≤ g.vcoreMax ∧ anyV (·.fail) up.survey.canaries = false ∧
       anyV (·.fail) (mapV (fun c => { c with fail := true }) up.survey.canaries) = true ∧
       { up.survey with islands := mapV (fun m => { m with slackPs := 39 }) up.survey.islands : Survey }.worst.1 < 40 ∧
       { up.survey.islands[0] with slackPs := 39 : IslandMargin }.slackPs < 40 ∧ g.slackMin ≤ up.survey.worst.1 ∧
       (∀ n ∈ [2, 3], { up.survey with highRuns := n : Survey }.highRuns = n) ∧ (1 : Int) < 2 ∧ (2 : Int) < 3) ∧
    (∀ k ∈ [some 0, none], ({ slack := Vector.replicate 24 k, inRange := Vector.replicate 48 k.isSome } : SurveyReading).slack[23] = k) ∧
    (∀ t ∈ [600000000, 599999999], let s : State := { up with timeUs := t, survey := { up.survey with state := .idle } }
     s.specified = true ∧ s.boot.ready = true ∧ s.survey.state = .idle ∧
       s.elapsed s.survey.lastUs (60000000 * s.legend.survey.interval) = decide (t = 600000000)) := by decide +kernel

/-- Two corrections of one array and column, a third in another row and not; engines and stations with a spare free, taken and pending. -/
theorem witness_AgeingIsMeasuredAndSpared_spares :
    (∀ n ∈ [1, 2], let s : State := { up with
       legend := { up.legend with survey := { up.legend.survey with corrLimit := n } }
       survey := { up.survey with corrections := [{ array := 127, row := 1, col := 9 }, { array := 127, row := 2, col := 9 }] } }
     s.islandsUp = true ∧ State.reset.islandsUp = false ∧ s.legend.survey.corrLimit = n ∧
       3 ≤ (columnRows ({ array := 127, row := 3, col := 9 } :: s.survey.corrections) 127 9).length ∧
       (columnRows ({ array := 127, row := 2, col := 9 } :: s.survey.corrections) 127 9).length < 3) ∧
    (let a : SramArray := { rowSpares := 1, colSpares := 0xFF }
     a.freeSpare false = some 1 ∧ a.freeSpare true = none ∧ up.survey.softMap.length < 1024) ∧
    (∀ e : Fin 4, { up.survey with lePending := some e.val : Survey }.lePending = some e.val) ∧
    (∀ b, ∀ o ∈ [none, some 2], ∀ q ∈ [none, some 5], let s : State := { up with
       legend := { up.legend with survey := { up.legend.survey with seSpare := b } }, survey := { up.survey with ses := o, sePending := q } }
     s.legend.survey.seSpare = b ∧ s.survey.ses = o ∧ s.survey.sePending = q) := by decide +kernel

/-! Chapter 18 and the block's step. -/

theorem witness_StepRunsTheFrontCommand : ({ up with pending := [.configRequest, .nop hdr1] } : State).pending = .configRequest :: [.nop hdr1] := rfl

theorem witness_EmptyQueueIdlesAndNoWordSpells : up.pending = [] := rfl

theorem witness_HalvesReadConsistently :
    (lowHalf (4 * (2 : Fin 262144).val) = true ∧ (3 : Fin 262144).val = (2 : Fin 262144).val + 1 ∧ up.specified = true ∧ up.barOpen = true ∧
      lowHalf (4 * (3 : Fin 262144).val) = false ∧ up.host.held (4 * (3 : Fin 262144).val) = none ∧ State.reset.barOpen = false) ∧
    (∃ t, exec (.lowHalfRead 2 0x7) up = .next t ∧ t.specified = true ∧ t.barOpen = true ∧
      t.host.held (4 * (3 : Fin 262144).val) = some 0) ∧
    0xC0000 ≤ 4 * (262143 : Fin 262144).val := by
  refine ⟨by decide +kernel, ⟨_, rfl, ?_⟩, by decide +kernel⟩
  decide +kernel

theorem witness_CommandsLeaveTheQueueAlone : ∃ t, exec .configRequest { up with pending := [.nop hdr1] } = .next t ∧ t.pending = [.nop hdr1] :=
  ⟨_, rfl, rfl⟩

theorem witness_LegendIsFixedBetweenStarts :
    ∃ t, exec .powerOnResetAssert (legUv 3 .severe up) = .next t ∧ t.legend ≠ (legUv 3 .severe up).legend :=
  ⟨_, rfl, fun h => absurd (congrArg (fun g : Legend => g.faults.sources.length) h) (by decide +kernel)⟩

theorem witness_StepsKeepMemoryCanonical : up.memory.wf = true ∧ ∃ t, step up = .next t := ⟨by decide +kernel, _, rfl⟩

theorem witness_FusesOnlySetAndShadowsStand :
    (∃ t, step up = .next t) ∧ ∃ t, exec (.otpProgram 0x4F54 (.formed 0)) up = .next t ∧ mayReset (.otpProgram 0x4F54 (.formed 0)) = false :=
  ⟨⟨_, rfl⟩, _, rfl, rfl⟩

/-! What a command may carry: an ill-formed term for each check (R108, R133, R137, R140, R152 to R154, R233, R271, R352, R364, R440). -/

theorem test_wf_header_cq : (Instr.nop { cq := 16 }).wellFormed = false := by decide +kernel
theorem test_wf_header_tag : (Instr.powerUp { tag := 4294967296 }).wellFormed = false := by decide +kernel
theorem test_wf_header_seq : (Instr.layerAbort { seq := 18446744073709551616 }).wellFormed = false := by decide +kernel
theorem test_wf_header : (Instr.layerAbort { cq := 15, tag := 4294967295, seq := 18446744073709551615 }).wellFormed = true := by decide +kernel
theorem test_wf_bar2_read :
    (Instr.bar2Read 5 0 []).wellFormed = false ∧ (Instr.bar2Read 268435455 2 []).wellFormed = false ∧
    (Instr.bar2Read 268435455 1 []).wellFormed = true := by decide +kernel
theorem test_wf_bar2_write :
    (Instr.bar2Write 5 [] []).wellFormed = false ∧ (Instr.bar2Write 268435455 [1, 2] []).wellFormed = false ∧
    (Instr.bar2Write 268435455 [1] []).wellFormed = true := by decide +kernel
/-- R133, R140: a stamp of 48 bits, a tap of the line. -/
theorem test_wf_bearing_stamp :
    (Instr.bearingStamp 0 { cycle := 281474976710656, tap := 0 }).wellFormed = false ∧
    (Instr.bearingStamp 0 { cycle := 0, tap := 128 }).wellFormed = false ∧
    (Instr.bearingStamp 0 { cycle := 281474976710655, tap := 127 }).wellFormed = true := by decide +kernel
theorem test_wf_stray_edge :
    (Instr.strayEdge 0 { cycle := 281474976710656, tap := 0 }).wellFormed = false ∧
    (Instr.strayEdge 0 { cycle := 0, tap := 128 }).wellFormed = false := by decide +kernel
/-- R137: 2^20 samples over 128 taps. -/
theorem test_wf_taps :
    (Instr.datumCalibration 0 { hist := List.replicate 127 8192 }).wellFormed = false ∧
    (Instr.datumCalibration 0 { hist := List.replicate 128 8191 }).wellFormed = false ∧
    (Instr.datumCalibration 0 { disorder := 1048577 }).wellFormed = false ∧
    (Instr.layerBoundaryActions { taps := Vector.replicate 6 { hist := [] } }).wellFormed = false ∧
    (Instr.datumCalibration 0 { disorder := 1048576 }).wellFormed = true := by decide +kernel
theorem test_wf_ssi :
    (Instr.ssiFrame 0 { code := 1099511627776 }).wellFormed = false ∧
    (Instr.ssiFrame 0 { code := 1099511627775 }).wellFormed = true := by decide +kernel
/-- R152, R154: a level held for one cycle at least, and for no longer than the machine has run. -/
theorem test_wf_held :
    (Instr.encoderEdge 0 true false 9 0).wellFormed = false ∧ (Instr.encoderEdge 0 true false 9 11).wellFormed = false ∧
    (Instr.markEdge 0 true 9 0).wellFormed = false ∧ (Instr.markEdge 0 true 9 11).wellFormed = false ∧
    (Instr.beltIndex 0 9 0).wellFormed = false ∧ (Instr.beltIndex 0 9 11).wellFormed = false ∧
    (Instr.encoderEdge 0 true false 9 10).wellFormed = true := by decide +kernel
/-- R233: 256 samples, one to a table point. -/
theorem test_wf_devac :
    (Instr.devacPeriodStart 0 (List.replicate 255 0)).wellFormed = false ∧
    (Instr.devacPeriodStart 0 (List.replicate 256 0)).wellFormed = true := by decide +kernel
/-- R271: a result of 24 bits, signed. -/
theorem test_wf_tin :
    (Instr.tinResult 0 0 { code := 8388608 }).wellFormed = false ∧ (Instr.tinResult 0 0 { code := -8388609 }).wellFormed = false ∧
    (Instr.tinResult 0 0 { code := -8388608 }).wellFormed = true := by decide +kernel
theorem test_wf_lane_crc : (Instr.laneTraining 0 0 [{ lock := true, id := 0, crc := 256 }]).wellFormed = false := by decide +kernel
theorem test_wf_dram_size :
    (Instr.bootDdrTrain true 0 4095 false).wellFormed = false ∧ (Instr.bootDdrTrain true 0 32769 false).wellFormed = false ∧
    (Instr.bootDdrTrain false 0 0 false).wellFormed = true := by decide +kernel
theorem test_wf_no_bound : (Instr.ready).wellFormed = true := by decide +kernel

/-! The manual's check values and worked examples. -/

/-- The ASCII string of the check values. -/
def digits : List Byte := [0x31, 0x32, 0x33, 0x34, 0x35, 0x36, 0x37, 0x38, 0x39]
/-- R56: the check values of LCRC and HCRC. -/
theorem test_crc_check_values : crc16 digits = 0x29B1 ∧ crc32 digits = 0xCBF43926 := by decide +kernel
/-- R101: the check value of the CRC-8. -/
theorem test_crc8_check_value : crc8 digits = 0xF4 := by decide +kernel

/-- R437: the digest of "abc" by the algorithm's own standard begins CB00753F 45A35E8B and ends 34C825A7. -/
theorem test_sha384 :
    (sha384 [0x61, 0x62, 0x63]).take 8 = [0xCB, 0x00, 0x75, 0x3F, 0x45, 0xA3, 0x5E, 0x8B] ∧
    (sha384 [0x61, 0x62, 0x63]).drop 44 = [0x34, 0xC8, 0x25, 0xA7] := by decide +kernel

/-- 02 Case 1: line 100 in REF mode against line 99, and the raw sizes of Case 2. -/
theorem test_ref_line :
    (decodeLine { line := 100, pixels := 40, symbols := 3, mode := .ref, payload := 7 }
      (List.replicate 10 0 ++ List.replicate 20 9 ++ List.replicate 10 0) [0x88, 0x21, 0xA2, 0x73, 0x37, 0x41, 0x00]).toOption =
    some (List.replicate 12 0 ++ List.replicate 20 9 ++ [0, 0, 3, 7, 7, 3, 0, 0]) := by decide +kernel
theorem test_line_limits : halfUp 28346 = 14173 ∧ rawSize 28346 = 14176 := by decide +kernel
/-- 03 Case 1: 443 cells to a segment, 198,422 cycles of exposure. -/
theorem test_cells : segLen 28346 = 443 ∧ cellEdge 1792 28346 = 198422 := by decide +kernel
/-- 05 Case 2: an error of 36 is held as an update of 18, one of 8 as none. -/
theorem test_registration : regUpdate up.legend.position 36 = 18 ∧ regUpdate up.legend.position 8 = 0 := by decide +kernel
/-- 07 Case 1: 41.67 V after 5 ms and 250 V after 10 ms of a move of 500 V, which ends at 20 ms. -/
theorem test_profile :
    (curveAt (500 * profQ) 50 10 2 (5 * profQ)).map (fun v => v * 1000 / profQ) = some 41666 ∧
    (curveAt (500 * profQ) 50 10 2 (10 * profQ)).map (fun v => v * 1000 / profQ) = some 250000 ∧
    curveAt (500 * profQ) 50 10 2 (20 * profQ) = none := by decide +kernel
/-- 08 Case 1: APPROACH_COUNTS, v_s and T_a of the reference carriage. -/
theorem test_approach :
    up.approachCounts = 188928 ∧ up.carrSpeed / profQ = 499872 ∧ up.approachTime * 1000000 / profQ = 399846 := by decide +kernel
/-- 08 Case 2: intervals of 400,000, 365,148, 133,333 and 338,062 cycles. -/
theorem test_step_intervals :
    stepInterval 1000000 / 16 = 400000 ∧ stepInterval 1200000 / 16 = 365148 ∧ stepInterval 9000000 / 16 = 133333 ∧
    (stepInterval 1400000 + 8) / 16 = 338062 := by decide +kernel
/-- 09 Case 1 and Case 2: 51/64 at 104.0 °C; t_trip 3.333 s and 2.000 s at Critical. -/
theorem test_thermal :
    dieFactor { up.legend.thermal with throtGain := 51 } 1040 = 51 ∧ bandOf 1100 = .critical ∧ tripTime 1100 1350 = some 3333 ∧
    tripTime 1100 2250 = some 2000 := by decide +kernel
/-- 10 Case 1: the words of the BROWNOUT program. -/
theorem test_program_words :
    pseStep 0xA0000B0100000000 = .log 0x0B01 ∧ pseStep 0x2000000300000000 = .dis 3 ∧ pseStep 0x4000000200004E20 = .waitPg 2 20000 ∧
    pseStep 0 = .finish := by decide +kernel

/-! Commands, one step each. -/

/-- R365: NOP taken from the ring leaves its record with its queue and the head advances. -/
theorem test_nop_runs :
    (match step { upMq up with pending := [.nop hdr1] } with
     | .next t => t.pending == [] && t.host.mq.head == 1 && (t.host.cqs[1].waiting.map (·.kind)) == [.command]
     | _ => false) = true := by decide +kernel
/-- R354: a doorbell equal to the head of an enabled ring is ignored. -/
theorem test_doorbell_at_head :
    (match step { upMq up with pending := [.mqDoorbell 0] } with
     | .next t => t.host.mq == (upMq up).host.mq
     | _ => false) = true := by decide +kernel
/-- 12 Case 1: with eight jobs QUEUED no entry is taken, and a DOORBELL record says so. -/
theorem test_ahead_limit :
    (match exec (.lqEntryAccept (Vector.replicate 128 0) .durable) (withJobs (List.replicate 8 (jobA .queued)) upLq) with
     | .next t => t.host.lq.head == 0 && !t.host.lq.rung && (t.host.cqs[0].waiting.map (·.kind)) == [.doorbell]
     | _ => false) = true := by decide +kernel
/-- R525: nothing is specified after TEST_EN. -/
theorem test_after_test_en :
    exec .configRequest { up with pins := { up.pins with unspecified := true } } = .fault .unspecifiedAfterTestEn := rfl

end Sys2Proof.Tests
end

section
/-! SUPPORT. Reads and writes of BAR0 (00_scope R10, R11, R14): what a read leaves held and answers, and the range above the
last block. -/

namespace Sys2Proof.Machine

open Sys2Proof

/-! The holding registers (R11). -/

/-- The state that a BAR0 read leaves: the reply and its byte enables, the copy of the read register used up, and, after a low
half, a fresh copy of its high half. -/
def State.afterRead (word : Fin 262144) (be : BitVec 4) (s : State) : State :=
  let off := 4 * word.val
  let v := (s.host.held off).getD (BitVec.ofNat 32 (s.reg off))
  let copy := BitVec.ofNat 32 (s.reg (off + 4))
  s.modHost fun h =>
    let kept := h.holding.filter fun p => p.1 != off && !(lowHalf off && p.1 == off + 4)
    { h with
      lastReply := some (enabledBytes be v), lastEnables := be, unsupported := false
      holding := if lowHalf off then (off + 4, copy) :: kept else kept }

theorem exec_lowHalfRead_open {s : State} (word : Fin 262144) (be : BitVec 4) (hs : s.specified = true) (ho : s.barOpen = true) :
    exec (.lowHalfRead word be) s = .next (s.afterRead word be) :=
  liveIf_next hs ho

theorem exec_lowHalfRead_closed {s : State} (word : Fin 262144) (be : BitVec 4) (hs : s.specified = true) (hc : s.barOpen = false) :
    exec (.lowHalfRead word be) s = .next s := by
  show liveIf s.barOpen s _ = _
  rw [hc]
  exact live_next hs

theorem afterRead_keeps (word : Fin 262144) (be : BitVec 4) (s : State) : Keeps [.host] s (s.afterRead word be) :=
  fun _ hp => modHost_part _ s (by simpa using hp)

theorem afterRead_lastReply (word : Fin 262144) (be : BitVec 4) (s : State) :
    (s.afterRead word be).host.lastReply =
      some (enabledBytes be ((s.host.held (4 * word.val)).getD (BitVec.ofNat 32 (s.reg (4 * word.val))))) := rfl

/-- Dropping holding registers by their offsets loses the copies of just the offsets dropped. -/
theorem find?_holding_filter (l : List (Nat × BitVec 32)) (keep : Nat → Bool) (off : Nat) :
    (l.filter fun p => keep p.1).find? (fun p => p.1 == off) = if keep off then l.find? (fun p => p.1 == off) else none := by
  have at_off : (fun p : Nat × BitVec 32 => decide (keep p.1 = true ∧ (p.1 == off) = true)) = fun p => keep off && p.1 == off :=
    funext fun p => by by_cases hp : p.1 = off <;> simp [hp]
  rw [List.find?_filter, at_off]
  cases keep off <;> simp

/-- What is held at each offset after a read: after a low half, the copy of its high half; nothing for the register read;
elsewhere what was held before. -/
theorem afterRead_held (word : Fin 262144) (be : BitVec 4) (s : State) (off : Nat) :
    (s.afterRead word be).host.held off =
      if lowHalf (4 * word.val) = true ∧ off = 4 * word.val + 4 then some (BitVec.ofNat 32 (s.reg (4 * word.val + 4)))
      else if off = 4 * word.val then none else s.host.held off := by
  by_cases hcopy : lowHalf (4 * word.val) = true ∧ off = 4 * word.val + 4
  · simp [State.afterRead, HostPort.held, hcopy]
  · have hskip : ∀ (c : BitVec 32) (kept : List (Nat × BitVec 32)),
        (if lowHalf (4 * word.val) then (4 * word.val + 4, c) :: kept else kept).find? (fun p => p.1 == off) =
          kept.find? (fun p => p.1 == off) := fun c kept => by
      split
      next hl => exact List.find?_cons_of_neg (by simpa using fun h => hcopy ⟨hl, h.symm⟩)
      next => rfl
    have hkept := find?_holding_filter s.host.holding
      (fun o => o != 4 * word.val && !(lowHalf (4 * word.val) && o == 4 * word.val + 4)) off
    have hother : (lowHalf (4 * word.val) && off == 4 * word.val + 4) = false := by simpa using hcopy
    simp only [State.afterRead, HostPort.held, modHost_host, hskip, hkept, hother, if_neg hcopy]
    by_cases hself : off = 4 * word.val <;> simp [hself]

/-! The bytes enabled (R10). -/

/-- Of a word of ones a read returns just the bytes enabled. -/
theorem enabledBytes_allOnes_getLsbD : ∀ (be : BitVec 4) (i : Fin 32),
    (enabledBytes be (BitVec.allOnes 32)).getLsbD i.val = be.getLsbD (i.val / 8) := by
  decide

theorem enabledBytes_eq_and (be : BitVec 4) (v : BitVec 32) : enabledBytes be v = v &&& enabledBytes be (BitVec.allOnes 32) := by
  rw [enabledBytes, enabledBytes, BitVec.allOnes_and]

theorem enabledBytes_getLsbD (be : BitVec 4) (v : BitVec 32) (i : Fin 32) :
    (enabledBytes be v).getLsbD i.val = (v.getLsbD i.val && be.getLsbD (i.val / 8)) := by
  rw [enabledBytes_eq_and, BitVec.getLsbD_and, enabledBytes_allOnes_getLsbD]

/-! The range above the survey block (R14). -/

theorem reg_above_blocks (s : State) {off : Nat} (h : 0xC0000 ≤ off) : s.reg off = 0 := by
  obtain ⟨b, hb⟩ : ∃ b, off / 0x10000 = b + 12 := ⟨off / 0x10000 - 12, by omega⟩
  simp only [State.reg, hb]

theorem writeReg_above_blocks (s : State) {off : Nat} (v : Nat) (h : 0xC0000 ≤ off) : s.writeReg off v = s := by
  obtain ⟨b, hb⟩ : ∃ b, off / 0x10000 = b + 12 := ⟨off / 0x10000 - 12, by omega⟩
  simp only [State.writeReg, hb]

theorem exec_registerWrite_open {s : State} (word : Fin 262144) (v : BitVec 32) (hs : s.specified = true) (ho : s.barOpen = true) :
    exec (.registerWrite word v) s = .next (s.writeReg (4 * word.val) v.toNat) :=
  liveIf_next hs ho

end Sys2Proof.Machine

open Sys2Proof Sys2Proof.Machine

/-- Settles O55: a read leaves at every offset what `afterRead_held` says, and answers the enabled bytes of what was held, or
of the register where nothing was; above the last block no register is read or written. -/
theorem halvesReadConsistently : Obligations.HalvesReadConsistently := by
  refine ⟨?lowHalf, ?highHalf, ?nothingHeld, fun s w be => exec_lowHalfRead_closed w be, ?aboveBlocks⟩
  case lowHalf =>
    intro s t lo hi be hlo hhi hs ho e
    obtain rfl : s.afterRead lo be = t := by simpa [exec_lowHalfRead_open lo be hs ho] using e
    have hnext : 4 * hi.val = 4 * lo.val + 4 := by omega
    refine ⟨by simp [afterRead_held, hnext, hlo], fun w hwlo hwhi => ?_⟩
    have nothi : 4 * w.val ≠ 4 * lo.val + 4 := fun h => hwhi (Fin.ext (by omega))
    have notlo : 4 * w.val ≠ 4 * lo.val := fun h => hwlo (Fin.ext (by omega))
    rw [afterRead_held, if_neg fun h => nothi h.2, if_neg notlo]
  case highHalf =>
    intro s hi be v hs ho hhigh hheld
    refine completes_of (exec_lowHalfRead_open hi be hs ho)
      ⟨afterRead_keeps hi be s, by simp [afterRead_held, hhigh], fun w hw => ?_, _, afterRead_lastReply hi be s, fun i => ?_⟩
    · have notself : 4 * w.val ≠ 4 * hi.val := fun h => hw (Fin.ext (by omega))
      rw [afterRead_held, hhigh, if_neg (by simp), if_neg notself]
    · rw [hheld, Option.getD_some, enabledBytes_getLsbD]
  case nothingHeld =>
    intro s w be hs ho hnone
    refine completes_of (exec_lowHalfRead_open w be hs ho) ⟨afterRead_keeps w be s, _, afterRead_lastReply w be s, fun i => ?_⟩
    rw [hnone, Option.getD_none, enabledBytes_getLsbD, BitVec.getLsbD_ofNat]
    simp
  case aboveBlocks =>
    intro s w hs ho habove
    refine ⟨fun v => ?_, reg_above_blocks s habove⟩
    rw [exec_registerWrite_open w v hs ho, writeReg_above_blocks s v.toNat habove]
end

section
/-! SUPPORT. Where the region that DMA reaches a host address in ends once DRAM is so large that it runs into host memory, and
a transfer that meets a failing access (13 R383, R392). The state bounds SIZE_MIB nowhere; only `Instr.wellFormed` holds what
BOOT_DDR_TRAIN brings to 32 GiB. -/

namespace Sys2Proof.Machine

open Sys2Proof

theorem inHostMem_iff (a : Nat) : inHostMem a = true ↔ 0x8000000000000000 ≤ a ∧ a < 0x10000000000000000 := by
  simp [inHostMem]

/-- The region of an address in installed DRAM ends where DRAM ends, also for an address of host memory. -/
theorem reach_inDram {s : State} {a : Nat} (hbase : dramBase ≤ a) (hend : a < dramBase + s.dramBytes) :
    s.reach a = dramBase + s.dramBytes - a := by
  have habove : ¬ a < 0x800000 := by unfold dramBase at hbase; omega
  rw [State.reach, if_neg habove, if_pos ⟨hbase, hend⟩]

/-- A range of host memory that the end of DRAM cuts fails there, as a bus error. -/
theorem accessFail_host_cut {s : State} {a n : Nat} (hhost : inHostMem a = true) (hend : a < dramBase + s.dramBytes)
    (hcut : dramBase + s.dramBytes < a + n) (write : Bool) :
    s.accessFail write a n = some (dramBase + s.dramBytes - a, false) := by
  have hbase : dramBase ≤ a := by
    have := ((inHostMem_iff a).mp hhost).1
    unfold dramBase
    omega
  have hshort : dramBase + s.dramBytes - a < n := by omega
  simp [State.accessFail, hhost, reach_inDram hbase hend, hshort]

/-- A source range that fails makes the descriptor fail, whatever its destination does. -/
theorem descFail_isSome_of_source {s : State} {d : Descriptor} (hreads : d.reads = true)
    (hfail : (s.accessFail false d.source d.length).isSome = true) : (s.descFail d).isSome = true := by
  obtain ⟨f, hf⟩ := Option.isSome_iff_exists.mp hfail
  simp only [State.descFail, hreads, if_true, hf]
  generalize (if d.op = .link then none else s.accessFail (d.op != .compare) d.dest d.length) = dst
  cases dst with
  | none => rfl
  | some g => dsimp only; split <;> rfl

/-- A COPY of at least a byte that has a failing access does not complete: it waits for its DMA_ACCESS_ERROR. -/
theorem exec_descriptorComplete_copy_fails {s : State} {n : Fin 32} {d : Descriptor} (hostSrc hostDst : List Byte) (corrected : Nat)
    (hs : s.specified = true) (hdesc : s.dma.channels[n].desc = some d) (hcopy : d.op = .copy) (hlen : 0 < d.length)
    (hfail : (s.descFail d).isSome = true) : exec (.descriptorComplete n hostSrc hostDst corrected) s = .next s := by
  obtain ⟨f, hf⟩ := Option.isSome_iff_exists.mp hfail
  have hnonempty : (d.length == 0) = false := by simpa using Nat.ne_of_gt hlen
  show execDescriptorComplete n hostSrc hostDst corrected s = _
  simp only [execDescriptorComplete, hdesc, hf, hcopy, hnonempty, State.descDiff]
  simp [liveIf, live_next hs]

/-- Two bytes of host memory to image SRAM, from the last byte below 2^63 + 2^20. -/
def copyAcrossDramEnd : Descriptor := { op := .copy, length := 2, source := 0x80000000000FFFFF, dest := 0 }

/-- DRAM up to 2^63 + 2^20, 1 MiB into host memory, and channel 8 at work on that COPY. -/
def dramIntoHostMem : State := { State.reset with
  boot := { State.reset.boot with dramMib := 0x7FFFFFF0001 }
  dma := { channels := modN State.reset.dma.channels 8 fun c => { c with state := .active, desc := some copyAcrossDramEnd } } }

/-- The COPY's second byte lies past the end of DRAM, so nothing is transferred. -/
theorem exec_copyAcrossDramEnd (host : List Byte) : exec (.descriptorComplete 8 host [] 0) dramIntoHostMem = .next dramIntoHostMem := by
  have hcut : dramIntoHostMem.accessFail false copyAcrossDramEnd.source copyAcrossDramEnd.length = some (1, false) :=
    accessFail_host_cut (by decide) (by decide) (by decide) false
  exact exec_descriptorComplete_copy_fails host [] 0 rfl rfl rfl (by decide) (descFail_isSome_of_source rfl (by rw [hcut]; rfl))

end Sys2Proof.Machine

open Sys2Proof Sys2Proof.Machine

/-- Refutes O44: in a state whose DRAM runs 1 MiB into host memory, a COPY of host bytes 1, 1 that crosses DRAM's end meets every
premise of the clause on COPY from host memory, but has a failing access there, so it writes nothing: address 0 still reads 0. The
clause lacks the bound `s.dramBytes ≤ 0x7FFFFFF000000000`, which keeps DRAM below host memory. -/
theorem not_descriptorsRunAndFail : ¬ Obligations.DescriptorsRunAndFail := by
  intro h
  obtain ⟨hdescriptors, -⟩ := h dramIntoHostMem rfl rfl
  obtain ⟨-, -, hcopy, -⟩ := hdescriptors 8 copyAcrossDramEnd (by decide) rfl rfl (by decide)
  obtain ⟨t, hexec, -, -, -, hread⟩ := hcopy [1, 1] rfl (by decide) rfl (by decide) (by decide) (by decide) rfl
  obtain rfl : dramIntoHostMem = t := by simpa [exec_copyAcrossDramEnd] using hexec
  exact absurd (hread 0) (by decide)
end

section
/-! SUPPORT. One-time-programmable memory (16 R458 to R477): words and their check bits, what sensing leaves, how each command
ends, what a program operation leaves in the array and the shadows. -/

namespace Sys2Proof.Machine

open Sys2Proof

/-! Vectors and lists by index. -/

theorem getN_fin {α : Type} {n : Nat} (v : Vector α n) (i : Fin n) (d : α) : getN v i.val d = v[i] := by
  simp [getN]

/-- An entry read after an entry is replaced; `hin` says that the entry replaced exists if it is the one read. -/
theorem getN_modN_const {α : Type} {n : Nat} (v : Vector α n) {i k : Nat} (x d : α) (hin : k = i → i < n) :
    getN (modN v i fun _ => x) k d = if k = i then x else getN v k d := by
  by_cases e : k = i
  · simp [getN, modN, e, hin e]
  · by_cases hi : i < n <;> simp [getN, modN, hi, e, Ne.symm e]

/-- The other entries stay when one is changed. -/
theorem modN_get_ne {α : Type} {n : Nat} (v : Vector α n) {i : Nat} (f : α → α) {k : Fin n} (h : k.val ≠ i) :
    (modN v i f)[k] = v[k] := by
  by_cases hi : i < n <;> simp [modN, hi, Ne.symm h]

theorem filter_length_eq_zero {α : Type} {n : Nat} (v : Vector α n) (p : α → Bool) :
    (v.toList.filter p).length = 0 ↔ ∀ a : Fin n, p v[a] = false := by
  rw [List.length_eq_zero_iff, List.filter_eq_nil_iff]
  constructor
  · intro h a
    simpa using h v[a] (by simp)
  · intro h x hx
    obtain ⟨i, hi, rfl⟩ := Vector.mem_iff_getElem.mp (Vector.mem_toList_iff.mp hx)
    simpa using h ⟨i, hi⟩

theorem filter_range_nonempty_iff {n : Nat} (p : Nat → Bool) :
    ((List.range n).filter p).isEmpty = false ↔ ∃ r : Fin n, p r.val = true := by
  simp [List.isEmpty_eq_false_iff, List.filter_eq_nil_iff, Fin.exists_iff]

theorem each_eq_self {α : Type} {l : List α} {f : α → State → State} (h : ∀ a ∈ l, ∀ t, f a t = t) (s : State) : s.each l f = s := by
  induction l generalizing s with
  | nil => rfl
  | cons a l ih =>
    show (f a s).each l f = s
    rw [h a (by simp) s]
    exact ih (fun b hb => h b (by simp [hb])) s

/-! Words and their check bits (R458). -/

theorem raw_getLsbD (w : OtpWord) (i : Nat) :
    w.raw.getLsbD i = if i < 32 then w.data.getLsbD i else w.check.getLsbD (i - 32) :=
  BitVec.getLsbD_append

@[simp] theorem rawWord_raw (w : OtpWord) : rawWord w.raw = w := by
  obtain ⟨d, c⟩ := w
  simp only [rawWord, OtpWord.mk.injEq]
  constructor
  · refine BitVec.eq_of_getLsbD_eq fun i hi => ?_
    simp [raw_getLsbD, hi]
  · refine BitVec.eq_of_getLsbD_eq fun i hi => ?_
    simp [raw_getLsbD, hi]

@[simp] theorem raw_rawWord (b : BitVec 40) : (rawWord b).raw = b := by
  refine BitVec.eq_of_getLsbD_eq fun i hi => ?_
  rw [raw_getLsbD]
  by_cases h : i < 32
  · simp [rawWord, h]
  · have hcheck : i - 32 < 8 := by omega
    simp [rawWord, h, hcheck, show 32 + (i - 32) = i by omega]

@[simp] theorem rawWord_patternRaw (d : BitVec 32) : rawWord (patternRaw d) = { data := d, check := otpCheck d } := rawWord_raw _

@[simp] theorem secDed_patternRaw (d : BitVec 32) : secDed (patternRaw d) = .clean d := by
  simp [secDed, otpClean, rawWord_patternRaw]

@[simp] theorem value_clean (d : BitVec 32) : (SecDed.clean d).value = d := rfl

/-! What a lock word and a life-cycle word say (R467, R468). -/

theorem lockPattern_ne_zero : ∀ r : Fin 8, lockPattern r.val ≠ 0 := by decide

theorem lockCode_of_pattern {o : Otp} (r : Fin 8) (h : getN o.shadows (0x254 + r.val) 0 = lockPattern r.val) : o.lockCode r.val = 1 := by
  simp only [Otp.lockCode, h, if_neg (lockPattern_ne_zero r), if_true]

/-! Sensing (R463 to R471). -/

/-- CHECK_OK of the six checked regions, from the shadows (R470). -/
def Otp.regionChecks (o : Otp) : Vector Bool 6 :=
  Vector.ofFn fun r => (getN o.shadows (rchkWord r.val) 0).toNat == regionCrc r.val fun a => getN o.shadows a 0

/-- The regions whose RCHK fails while they are locked (R470). -/
def Otp.badRegions (o : Otp) : List Nat := (List.range 6).filter fun r => o.lockCode r != 0 && !getN o.regionChecks r false

/-- The regions whose lock word is irregular (R467). -/
def Otp.irregularLocks (o : Otp) : List Nat := (List.range 6).filter fun r => o.lockCode r == 2

/-- Whether a cause of the integrity alarm stands (R470). -/
def Otp.alarmDue (o : Otp) : Bool :=
  decide (0 < o.countMarginal) || decide (0 < o.countUncorr) || !o.badRegions.isEmpty ||
    (o.lifeCycle == .invalid || !o.irregularLocks.isEmpty)

theorem regionChecks_iff (o : Otp) (r : Fin 6) :
    o.regionChecks[r] = true ↔ (getN o.shadows (rchkWord r) 0).toNat = regionCrc r fun a => getN o.shadows a 0 := by
  simp [Otp.regionChecks]

theorem badRegions_nonempty_iff (o : Otp) :
    o.badRegions.isEmpty = false ↔ ∃ r : Fin 6, o.lockCode r ≠ 0 ∧ o.regionChecks[r] = false := by
  simp only [Otp.badRegions, filter_range_nonempty_iff, getN_fin, Bool.and_eq_true, bne_iff_ne, Bool.not_eq_true']

theorem irregularLocks_nonempty_iff (o : Otp) : o.irregularLocks.isEmpty = false ↔ ∃ r : Fin 6, o.lockCode r = 2 := by
  simp only [Otp.irregularLocks, filter_range_nonempty_iff, beq_iff_eq]

theorem alarmDue_iff (o : Otp) : o.alarmDue = true ↔ 0 < o.countMarginal ∨ 0 < o.countUncorr ∨
    (∃ r : Fin 6, o.lockCode r ≠ 0 ∧ o.regionChecks[r] = false) ∨ o.lifeCycle = .invalid ∨ ∃ r : Fin 6, o.lockCode r = 2 := by
  simp only [Otp.alarmDue, Bool.or_eq_true, Bool.not_eq_true', badRegions_nonempty_iff, irregularLocks_nonempty_iff,
    decide_eq_true_eq, beq_iff_eq, or_assoc]

/-- CAUSES holds a bit for each kind of cause (R479). -/
theorem causes_ne_zero : ∀ marginal uncorr check cycle : Bool,
    (BitVec.ofNat 4 (b2n marginal + 2 * b2n uncorr + 4 * b2n check + 8 * b2n cycle) != 0) = (marginal || uncorr || check || cycle) := by
  decide

/-- The events of the integrity checks. -/
def State.integrityEvents (s : State) : State :=
  ((s.each s.otp.badRegions fun r t => t.raise .otpRegionCheck r).raiseIf (s.otp.lifeCycle == .invalid) .otpLifeCycle 6).each
    s.otp.irregularLocks fun _ t => t.raise .otpLifeCycle 7

@[simp] theorem integrityEvents_otp (s : State) : s.integrityEvents.otp = s.otp :=
  (each_part (p := .otp) _ _ _ fun _ t => raise_part (pt := .otp) .otpLifeCycle 7 t (by simp)).trans <|
    (raiseIf_part (pt := .otp) _ .otpLifeCycle 6 _ (by simp)).trans <|
      each_part (p := .otp) _ _ s fun r t => raise_part (pt := .otp) .otpRegionCheck r t (by simp)

/-- No cause of the alarm, no event of the integrity checks. -/
theorem integrityEvents_of_no_alarm {s : State} (h : s.otp.alarmDue = false) : s.integrityEvents = s := by
  simp only [Otp.alarmDue, Bool.or_eq_false_iff, Bool.not_eq_false', List.isEmpty_iff] at h
  obtain ⟨⟨-, hcheck⟩, hvalid, hregular⟩ := h
  simp only [State.integrityEvents, hcheck, hvalid, hregular]
  rfl

/-- The integrity checks raise their events, then set CHECK_OK of the regions, the causes and the alarm. -/
theorem integrity_eq (s : State) : ∃ causes, s.integrity =
    s.integrityEvents.modOtp fun o => { o with regionOk := s.otp.regionChecks, causes := causes, alarm := s.otp.alarmDue } := by
  refine ⟨s.integrity.otp.causes, ?_⟩
  rw [Otp.alarmDue, ← causes_ne_zero]
  rfl

@[simp] theorem senseEvents_otp (flips : List OtpFlip) (s : State) : (s.senseEvents flips).otp = s.otp :=
  senseEvents_part (pt := .otp) flips s (by simp)

@[simp] theorem senseEvents_boot (flips : List OtpFlip) (s : State) : (s.senseEvents flips).boot = s.boot :=
  senseEvents_part (pt := .boot) flips s (by simp)

theorem integrity_otp (s : State) : ∃ causes,
    s.integrity.otp = { s.otp with regionOk := s.otp.regionChecks, causes := causes, alarm := s.otp.alarmDue } := by
  obtain ⟨causes, h⟩ := integrity_eq s
  exact ⟨causes, by rw [h, modOtp_otp, integrityEvents_otp]⟩

@[simp] theorem integrity_boot (s : State) : s.integrity.boot = s.boot := integrity_part (pt := .boot) s (by simp)

theorem integrity_faults_of_no_alarm {s : State} (h : s.otp.alarmDue = false) : s.integrity.faults = s.faults := by
  obtain ⟨causes, heq⟩ := integrity_eq s
  rw [heq, modOtp_faults, integrityEvents_of_no_alarm h]

theorem correctedAt_of_clean {o : Otp} {flips : List OtpFlip} {a : Nat} {d : BitVec 32} (h : secDed (o.nominal flips a) = .clean d) :
    o.correctedAt flips a = false := by
  simp only [Otp.correctedAt, h]

/-- Words that read clean and the same at both margins raise nothing. -/
theorem senseEvents_of_clean {s : State} {flips : List OtpFlip} (hclean : ∀ a : Fin 1024, s.otp.correctedAt flips a = false)
    (huncorr : ∀ a : Fin 1024, s.otp.uncorr[a] = false) (hmarginal : ∀ a : Fin 1024, s.otp.marginal[a] = false) :
    s.senseEvents flips = s := by
  refine (each_eq_self (fun a ha t => ?marked) _).trans (each_eq_self (fun a ha t => ?word) s)
  case marked =>
    obtain ⟨hlt, hm⟩ := List.mem_filter.mp (List.mem_of_mem_take ha)
    have hnot : getN s.otp.marginal a false = false :=
      (getN_fin s.otp.marginal ⟨a, List.mem_range.mp hlt⟩ false).trans (hmarginal ⟨a, List.mem_range.mp hlt⟩)
    exact absurd hm (by simp only [hnot, Bool.false_eq_true, not_false_eq_true])
  case word =>
    have hu : getN s.otp.uncorr a false = false :=
      (getN_fin s.otp.uncorr ⟨a, List.mem_range.mp ha⟩ false).trans (huncorr ⟨a, List.mem_range.mp ha⟩)
    have hc : s.otp.correctedAt flips a = false := hclean ⟨a, List.mem_range.mp ha⟩
    simp only [hu, hc, State.raiseIf, Bool.false_eq_true, if_false]

theorem romStep_otp (s : State) : s.romStep.otp = { s.otp with overlay := s.otp.patchEntries } := rfl

@[simp] theorem romStep_faults (s : State) : s.romStep.faults = s.faults := rfl

/-- Step 4 of the boot latches the identity (R460). -/
theorem romStep_boot (s : State) : s.romStep.boot = { s.boot with
    vendorId := (getN s.otp.shadows 0 0).toNat % 65536, deviceId := (getN s.otp.shadows 0 0).toNat / 65536
    serial := (getN s.otp.shadows 1 0).toNat + 4294967296 * (getN s.otp.shadows 2 0).toNat
    romRev := Config.romRev, patches := s.otp.patchEntries.length } := rfl

theorem policyStep_otp (s : State) : s.policyStep.otp =
    { s.otp with policy := s.otp.policyNow, customerIgnored := s.otp.alarm && s.otp.policyNow == 1 } := by
  by_cases h : (s.otp.alarm && s.otp.policyNow == 2) = true <;> simp only [State.policyStep, h] <;> rfl

/-- The boot goes on after step 5 (R471), or halts at HALT_OTP with its milliseconds frozen. -/
theorem policyStep_boot (s : State) : ∃ ms, s.policyStep.boot = { s.boot with
    otpAlarm := s.otp.alarm, bootMs := ms, stage := if s.otp.alarm = true ∧ s.otp.policyNow = 2 then .haltOtp else .legend } := by
  refine ⟨s.policyStep.boot.bootMs, ?_⟩
  by_cases h : (s.otp.alarm && s.otp.policyNow == 2) = true
  · rw [if_pos (by simpa using h)]
    simp only [State.policyStep, h]
    rfl
  · rw [if_neg (by simpa using h)]
    simp only [State.policyStep, h]
    rfl

theorem policyStep_faults_of_no_alarm {s : State} (h : s.otp.alarm = false) : s.policyStep.faults = s.faults := by
  simp only [State.policyStep, h, Bool.false_and]
  rfl

@[simp] theorem sense_array (temp : Int) (flips : List OtpFlip) (o : Otp) : (o.sense temp flips).array = o.array := by
  simp only [Otp.sense]

@[simp] theorem sense_senseTemp (temp : Int) (flips : List OtpFlip) (o : Otp) : (o.sense temp flips).senseTemp = temp := by
  simp only [Otp.sense]

@[simp] theorem sense_nominal (temp : Int) (flips f : List OtpFlip) (o : Otp) (a : Nat) :
    (o.sense temp flips).nominal f a = o.nominal f a := by
  simp only [Otp.nominal, sense_array]

theorem sense_shadows (temp : Int) (flips : List OtpFlip) (o : Otp) (a : Fin 1024) :
    (o.sense temp flips).shadows[a] = (secDed (o.nominal flips a)).value := by
  simp [Otp.sense, mapV]

theorem sense_marginal (temp : Int) (flips : List OtpFlip) (o : Otp) (a : Fin 1024) :
    (o.sense temp flips).marginal[a] = wordMarginal flips a := by
  simp [Otp.sense]

theorem sense_uncorr_iff (temp : Int) (flips : List OtpFlip) (o : Otp) (a : Fin 1024) :
    (o.sense temp flips).uncorr[a] = true ↔ secDed (o.nominal flips a) = .uncorrectable := by
  simp [Otp.sense, mapV]

theorem sense_countMarginal_eq_zero_iff (temp : Int) (flips : List OtpFlip) (o : Otp) :
    (o.sense temp flips).countMarginal = 0 ↔ ∀ a : Fin 1024, (o.sense temp flips).marginal[a] = false := by
  have hcount := filter_length_eq_zero (o.sense temp flips).marginal id
  simpa only [Otp.sense, id] using hcount

theorem sense_countUncorr_eq_zero_iff (temp : Int) (flips : List OtpFlip) (o : Otp) :
    (o.sense temp flips).countUncorr = 0 ↔ ∀ a : Fin 1024, (o.sense temp flips).uncorr[a] = false := by
  simp [Otp.sense, mapV]

/-- What the integrity checks and steps 4 and 5 of the boot leave of the shadows and marks they judge. -/
theorem bootChecks_otp (s : State) : ∃ causes, s.integrity.romStep.policyStep.otp = { s.otp with
    regionOk := s.otp.regionChecks, causes := causes, alarm := s.otp.alarmDue, overlay := s.otp.patchEntries
    policy := s.otp.policyNow, customerIgnored := s.otp.alarmDue && s.otp.policyNow == 1 } := by
  obtain ⟨causes, h⟩ := integrity_otp s
  exact ⟨causes, by rw [policyStep_otp, romStep_otp, h]; rfl⟩

theorem bootChecks_boot (s : State) : ∃ ms, s.integrity.romStep.policyStep.boot = { s.boot with
    vendorId := (getN s.otp.shadows 0 0).toNat % 65536, deviceId := (getN s.otp.shadows 0 0).toNat / 65536
    serial := (getN s.otp.shadows 1 0).toNat + 4294967296 * (getN s.otp.shadows 2 0).toNat
    romRev := Config.romRev, patches := s.otp.patchEntries.length, bootMs := ms, otpAlarm := s.otp.alarmDue
    stage := if s.otp.alarmDue = true ∧ s.otp.policyNow = 2 then .haltOtp else .legend } := by
  obtain ⟨causes, h⟩ := integrity_otp s
  obtain ⟨ms, hboot⟩ := policyStep_boot s.integrity.romStep
  exact ⟨ms, by rw [hboot, romStep_boot, romStep_otp, integrity_boot, h]; rfl⟩

/-- The alarm's causes (R470) as sensing finds them. -/
theorem sense_alarmDue_iff (temp : Int) (flips : List OtpFlip) (o : Otp) : (o.sense temp flips).alarmDue = true ↔
    (∃ a : Fin 1024, (o.sense temp flips).marginal[a] = true) ∨ (∃ a : Fin 1024, (o.sense temp flips).uncorr[a] = true) ∨
    (∃ r : Fin 6, (o.sense temp flips).lockCode r ≠ 0 ∧ (o.sense temp flips).regionChecks[r] = false) ∨
    (o.sense temp flips).lifeCycle = .invalid ∨ ∃ r : Fin 6, (o.sense temp flips).lockCode r = 2 := by
  rw [alarmDue_iff, Nat.pos_iff_ne_zero, Nat.pos_iff_ne_zero, Ne, Ne, sense_countMarginal_eq_zero_iff, sense_countUncorr_eq_zero_iff]
  simp only [Classical.not_forall, Bool.not_eq_false]

/-- The state after steps 3 to 5 of the boot (R429). -/
def State.afterSense (temp : Int) (flips : List OtpFlip) (s : State) : State :=
  ((s.modOtp (Otp.sense temp flips)).senseEvents flips).integrity.romStep.policyStep

theorem afterSense_keeps (temp : Int) (flips : List OtpFlip) (s : State) :
    Keeps [.scan, .faults, .boot, .otp] s (s.afterSense temp flips) := by
  intro p hp
  simp only [List.mem_cons, List.not_mem_nil, or_false, not_or] at hp
  obtain ⟨hscan, hfaults, hboot, hotp⟩ := hp
  rw [State.afterSense, policyStep_part _ (by simp [*]), romStep_part _ (by simp [*]), integrity_part _ (by simp [*]),
    senseEvents_part _ _ (by simp [*]), modOtp_part _ _ hotp]

theorem afterSense_otp (temp : Int) (flips : List OtpFlip) (s : State) : ∃ causes, (s.afterSense temp flips).otp =
    { s.otp.sense temp flips with
      regionOk := (s.otp.sense temp flips).regionChecks, causes := causes, alarm := (s.otp.sense temp flips).alarmDue
      overlay := (s.otp.sense temp flips).patchEntries, policy := (s.otp.sense temp flips).policyNow
      customerIgnored := (s.otp.sense temp flips).alarmDue && (s.otp.sense temp flips).policyNow == 1 } := by
  obtain ⟨causes, h⟩ := bootChecks_otp ((s.modOtp (Otp.sense temp flips)).senseEvents flips)
  simp only [senseEvents_otp, modOtp_otp] at h
  exact ⟨causes, h⟩

theorem afterSense_boot (temp : Int) (flips : List OtpFlip) (s : State) : ∃ ms, (s.afterSense temp flips).boot = { s.boot with
    vendorId := (getN (s.otp.sense temp flips).shadows 0 0).toNat % 65536
    deviceId := (getN (s.otp.sense temp flips).shadows 0 0).toNat / 65536
    serial := (getN (s.otp.sense temp flips).shadows 1 0).toNat + 4294967296 * (getN (s.otp.sense temp flips).shadows 2 0).toNat
    romRev := Config.romRev, patches := (s.otp.sense temp flips).patchEntries.length, bootMs := ms
    otpAlarm := (s.otp.sense temp flips).alarmDue
    stage := if (s.otp.sense temp flips).alarmDue = true ∧ (s.otp.sense temp flips).policyNow = 2 then .haltOtp else .legend } := by
  obtain ⟨ms, h⟩ := bootChecks_boot ((s.modOtp (Otp.sense temp flips)).senseEvents flips)
  simp only [senseEvents_otp, senseEvents_boot, modOtp_otp, modOtp_boot] at h
  exact ⟨ms, h⟩

theorem afterSense_scan_locked (temp : Int) (flips : List OtpFlip) (s : State) :
    (s.afterSense temp flips).scan.sysLocked = true ∧ (s.afterSense temp flips).scan.ctlLocked = true := by
  have hscan : (s.afterSense temp flips).scan = ((s.modOtp (Otp.sense temp flips)).senseEvents flips).integrity.romStep.scan :=
    policyStep_part (pt := .scan) _ (by simp)
  exact ⟨by rw [hscan]; rfl, by rw [hscan]; rfl⟩

theorem no_marks_of_no_alarm {o : Otp} (h : o.alarmDue = false) : o.countMarginal = 0 ∧ o.countUncorr = 0 := by
  have hnot := mt (alarmDue_iff o).mpr (Bool.eq_false_iff.mp h)
  exact ⟨Nat.eq_zero_of_not_pos fun hc => hnot (.inl hc), Nat.eq_zero_of_not_pos fun hc => hnot (.inr (.inl hc))⟩

theorem bootChecks_faults_of_no_alarm {s : State} (h : s.otp.alarmDue = false) :
    s.integrity.romStep.policyStep.faults = s.faults := by
  obtain ⟨causes, hotp⟩ := integrity_otp s
  have halarm : s.integrity.romStep.otp.alarm = false := (congrArg Otp.alarm hotp).trans h
  rw [policyStep_faults_of_no_alarm halarm, romStep_faults, integrity_faults_of_no_alarm h]

/-- A boot with every word clean and no alarm raises nothing. -/
theorem afterSense_faults_of_clean {temp : Int} {flips : List OtpFlip} {s : State}
    (hclean : ∀ a : Fin 1024, secDed (s.otp.nominal flips a) = .clean (rawWord (s.otp.nominal flips a)).data)
    (halarm : (s.otp.sense temp flips).alarmDue = false) : (s.afterSense temp flips).faults = s.faults := by
  obtain ⟨hmarginal, huncorr⟩ := no_marks_of_no_alarm halarm
  have hquiet : (s.modOtp (Otp.sense temp flips)).senseEvents flips = s.modOtp (Otp.sense temp flips) := by
    refine senseEvents_of_clean (fun a => ?_) ?_ ?_ <;> rw [modOtp_otp]
    · exact correctedAt_of_clean ((congrArg secDed (sense_nominal ..)).trans (hclean a))
    · exact (sense_countUncorr_eq_zero_iff temp flips s.otp).mp huncorr
    · exact (sense_countMarginal_eq_zero_iff temp flips s.otp).mp hmarginal
  have hnone : (s.modOtp (Otp.sense temp flips)).otp.alarmDue = false := (congrArg Otp.alarmDue (modOtp_otp _ s)).trans halarm
  rw [State.afterSense, hquiet, bootChecks_faults_of_no_alarm hnone, modOtp_faults]

/-! What a command leaves (R465, R472 to R475). -/

theorem keeps_trans {l : List Part} {s t u : State} (h : Keeps l s t) (g : Keeps l t u) : Keeps l s u :=
  fun p hp => (g p hp).trans (h p hp)

theorem keeps_mono {l l' : List Part} {s t : State} (hl : l ⊆ l') (h : Keeps l s t) : Keeps l' s t :=
  fun p hp => h p fun hm => hp (hl hm)

theorem modOtp_keeps (f : Otp → Otp) (s : State) : Keeps [.otp] s (s.modOtp f) :=
  fun _ hp => modOtp_part f s (by simpa using hp)

theorem otpEnd_keeps (st : OtpStatus) (s : State) : Keeps [.otp] s (s.otpEnd st) := fun _ hp => otpEnd_part st s hp

@[simp] theorem otpEnd_faults (st : OtpStatus) (s : State) : (s.otpEnd st).faults = s.faults := otpEnd_keeps st s .faults (by simp)

/-- A command refused changes what it reports and nothing else. -/
theorem otpEnd_otp (st : OtpStatus) (s : State) : (s.otpEnd st).otp = if st = .busy then { s.otp with busySeen := true } else
    { s.otp with status := st, busySeen := false, checkOk := false, foundMarginal := false, word := 0 } := by
  unfold State.otpEnd
  split <;> rfl

theorem pulseWord_keeps (a : Nat) (want : BitVec 40) (p : OtpPulse) (s : State) : Keeps [.faults, .otp] s (s.pulseWord a want p) :=
  fun _ hp => pulseWord_part a want p s hp

theorem pulseWord_formed_keeps (a : Nat) (want : BitVec 40) (n : Fin 8) (s : State) :
    Keeps [.otp] s (s.pulseWord a want (.formed n)) := modOtp_keeps _ s

theorem pulseWord_cut_keeps (a : Nat) (want b : BitVec 40) (s : State) : Keeps [.otp] s (s.pulseWord a want (.cut b)) :=
  modOtp_keeps _ s

/-- A word that is blank, or holds the pattern already, holds the pattern once every bit asked for has formed (R474). -/
theorem raw_or_pattern {d : BitVec 32} {old : BitVec 40} (h : old = 0 ∨ old = patternRaw d) : old ||| patternRaw d = patternRaw d := by
  rcases h with h | h <;> simp [h]

section Formed

variable {s : State} {a k : Nat} {d : BitVec 32} (n : Fin 8)
  (h : (getN s.otp.array a {}).raw = 0 ∨ (getN s.otp.array a {}).raw = patternRaw d) (hin : k = a → a < 1024)
include h hin

theorem pulseWord_formed_array : getN (s.pulseWord a (patternRaw d) (.formed n)).otp.array k {} =
    if k = a then { data := d, check := otpCheck d } else getN s.otp.array k {} := by
  simp only [State.pulseWord, modOtp_otp, raw_or_pattern h, rawWord_patternRaw]
  exact getN_modN_const _ _ _ hin

theorem pulseWord_formed_data : (getN (s.pulseWord a (patternRaw d) (.formed n)).otp.array k {}).data =
    if k = a then d else (getN s.otp.array k {}).data := by
  rw [pulseWord_formed_array n h hin, apply_ite OtpWord.data]

theorem pulseWord_formed_shadows : getN (s.pulseWord a (patternRaw d) (.formed n)).otp.shadows k 0 =
    if k = a then d else getN s.otp.shadows k 0 := by
  simp only [State.pulseWord, modOtp_otp, raw_or_pattern h, secDed_patternRaw, value_clean]
  exact getN_modN_const _ _ _ hin

end Formed

@[simp] theorem raise_otp (src : Source) (inst : Nat) (s : State) : (s.raise src inst).otp = s.otp := rfl

/-- The bits that formed stay in the one word (R474, R477), when the operation fails or is cut. -/
theorem pulseWord_partial_array (a : Nat) (want b : BitVec 40) {p : OtpPulse} (hp : (∃ m, p = .failed b m) ∨ p = .cut b) (s : State)
    (k : Fin 1024) : (k.val ≠ a → (s.pulseWord a want p).otp.array[k] = s.otp.array[k]) ∧
      (k.val = a → (s.pulseWord a want p).otp.array[k].raw = (s.otp.array[k].raw ||| (want &&& b))) := by
  have harray : (s.pulseWord a want p).otp.array = modN s.otp.array a fun _ => rawWord ((getN s.otp.array a {}).raw ||| (want &&& b)) := by
    rcases hp with ⟨m, rfl⟩ | rfl <;> simp only [State.pulseWord, raise_otp, modOtp_otp]
  rw [harray]
  refine ⟨modN_get_ne _ _, fun e => ?_⟩
  rw [← getN_fin (modN ..) k {}, getN_modN_const _ _ _ fun h => h ▸ k.isLt, if_pos e, raw_rawWord, ← e, getN_fin]

theorem pulseWord_failed_shadows (a : Nat) (want b m : BitVec 40) (s : State) {k : Fin 1024} (h : k.val ≠ a) :
    (s.pulseWord a want (.failed b m)).otp.shadows[k] = s.otp.shadows[k] := by
  simp only [State.pulseWord, raise_otp, modOtp_otp]
  exact modN_get_ne _ _ h

theorem verify_keeps (r : Nat) (f : List OtpFlip) (s : State) : Keeps [.otp] s (s.verify r f) := modOtp_keeps _ s

theorem verify_otp (r : Nat) (f : List OtpFlip) (s : State) : (s.verify r f).otp = { s.otp with
    status := .ok, busySeen := false, checkOk := (s.verify r f).otp.checkOk, foundMarginal := (s.verify r f).otp.foundMarginal
    word := (s.verify r f).otp.word } := rfl

/-- CHECK_OK (R475): every word reads the same at both margins, and the CRC of the words equals RCHK. -/
theorem verify_checkOk_iff (r : Nat) (f : List OtpFlip) (s : State) : (s.verify r f).otp.checkOk = true ↔
    (∀ a ∈ regionWords r, wordMarginal f a = false) ∧
      ((secDed (s.otp.nominal f (rchkWord r))).value).toNat = regionCrc r fun a => (secDed (s.otp.nominal f a)).value := by
  simp [State.verify]

theorem verify_foundMarginal_iff (r : Nat) (f : List OtpFlip) (s : State) :
    (s.verify r f).otp.foundMarginal = true ↔ ∃ a ∈ regionWords r, wordMarginal f a = true := by
  simp [State.verify]

theorem verify_word {r : Nat} {f : List OtpFlip} {s : State} (h : (s.verify r f).otp.checkOk = false) :
    (s.verify r f).otp.word = ((regionWords r).find? fun a => wordMarginal f a).getD (rchkWord r) := by
  simp only [State.verify, modOtp_otp] at h ⊢
  rw [h]
  rfl

/-! The life cycle (R468, R473). -/

/-- The life-cycle state after `k` transitions. -/
def lifeStage : Nat → LifeCycle
  | 0 => .blank
  | 1 => .vendorTest
  | 2 => .provision
  | 3 => .deployed
  | _ => .retired

theorem lifeStage_succ : ∀ k : Fin 4, lifeStage (k + 1) =
    if k.val = 0 then .vendorTest else if k.val = 1 then .provision else if k.val = 2 then .deployed else .retired := by
  decide

/-- The LIFE_CYCLE words after `k` transitions. -/
def lifeWords (k : Nat) : List (BitVec 32) := (List.range 4).map fun i => if i < k then lifePattern i else 0

theorem lifeCycle_of_words (k : Fin 5) {o : Otp} (h : ((List.range 4).map fun i => getN o.shadows (0x250 + i) 0) = lifeWords k) :
    o.lifeCycle = lifeStage k := by
  simp only [Otp.lifeCycle, h]
  clear h
  revert k
  decide

theorem words_of_lifeCycle {o : Otp} (k : Fin 4) (h : o.lifeCycle = lifeStage k) :
    ((List.range 4).map fun i => getN o.shadows (0x250 + i) 0) = lifeWords k := by
  simp only [Otp.lifeCycle] at h
  generalize ((List.range 4).map fun i => getN o.shadows (0x250 + i) 0) = w at h ⊢
  iterate 5
    split at h
    case isTrue hw =>
      subst hw
      revert k
      decide
  exact absurd h (by revert k; decide)

/-- The word that ADVANCE programs makes the next state. -/
theorem lifeCycle_after {o o' : Otp} (k : Fin 4) (h : o.lifeCycle = lifeStage k)
    (hw : ∀ i, getN o'.shadows (0x250 + i) 0 = if i = k.val then lifePattern k else getN o.shadows (0x250 + i) 0) :
    o'.lifeCycle = lifeStage (k + 1) := by
  refine lifeCycle_of_words k.succ (List.map_congr_left fun i hi => ?_)
  have hold : getN o.shadows (0x250 + i) 0 = if i < k.val then lifePattern i else 0 :=
    List.map_inj_left.mp (words_of_lifeCycle k h) i hi
  rw [hw i, hold, Fin.val_succ]
  by_cases e : i = k.val
  · simp [e]
  · simp [e, show i < k.val + 1 ↔ i < k.val by omega]

theorem nextTransition_of_ready {o : Otp} (k : Fin 4) (h : (k.val = 0 ∧ o.lifeCycle = .blank) ∨
      (k.val = 1 ∧ o.lifeCycle = .vendorTest ∧ ∀ r : Fin 4, o.lockCode r ≠ 0) ∨
      (k.val = 2 ∧ o.lifeCycle = .provision ∧ o.lockCode 4 ≠ 0) ∨ (k.val = 3 ∧ o.lifeCycle = .deployed)) :
    o.nextTransition = some (k.val, true) ∧ o.lifeCycle = lifeStage k := by
  rcases h with ⟨hk, hl⟩ | ⟨hk, hl, hlocks⟩ | ⟨hk, hl, hlock⟩ | ⟨hk, hl⟩
  · simp only [Otp.nextTransition, hl, hk, lifeStage, and_self]
  · have hall : ((List.range 4).all fun r => o.lockCode r != 0) = true :=
      List.all_eq_true.mpr fun r hr => by simpa using hlocks ⟨r, List.mem_range.mp hr⟩
    simp only [Otp.nextTransition, hl, hk, hall, lifeStage, and_self]
  · simp [Otp.nextTransition, hl, hk, hlock, lifeStage]
  · simp only [Otp.nextTransition, hl, hk, lifeStage, and_self]

theorem nextTransition_of_prereq {o : Otp} (h : (o.lifeCycle = .vendorTest ∧ ∃ r : Fin 4, o.lockCode r = 0) ∨
    (o.lifeCycle = .provision ∧ o.lockCode 4 = 0)) : ∃ n, o.nextTransition = some (n, false) := by
  rcases h with ⟨hl, r, hr⟩ | ⟨hl, hlock⟩
  · have hall : ((List.range 4).all fun r => o.lockCode r != 0) = false :=
      List.all_eq_false.mpr ⟨r, List.mem_range.mpr r.isLt, by simp [hr]⟩
    exact ⟨1, by simp only [Otp.nextTransition, hl, hall]⟩
  · exact ⟨2, by simp [Otp.nextTransition, hl, hlock]⟩

theorem nextTransition_of_end {o : Otp} (h : o.lifeCycle = .retired ∨ o.lifeCycle = .invalid) : o.nextTransition = none := by
  rcases h with h | h <;> simp only [Otp.nextTransition, h]

/-! How the commands end (R472 to R475). -/

theorem liveIf_skips {c : Bool} {s t : State} (h : s.specified = true) (hc : c = false) : liveIf c s t = .next s := by
  simp [liveIf, hc, live_next h]

/-- The checks of R472 up to RANGE, in their order. -/
theorem otpRefusal_eq (s : State) (key : Nat) (b : Bool) : s.otpRefusal key b =
    if key ≠ 0x4F54 then some .key else if s.timeUs < s.otp.busyUntil then some .busy
    else if (∃ j ∈ s.layer.jobs, j.past = true) ∨ s.thermal.band ≠ .normal ∨ s.power.ownOk[4] = false then some .condition
    else if b = false then some .range else none := by
  simp [State.otpRefusal, getN, List.any_eq_true, or_assoc]

/-- What R472 checks after RANGE. -/
theorem regionRefusal_of_inRange {s : State} {key r : Nat} (h : s.otpRefusal key (decide (r < 6)) = none) : s.regionRefusal key r =
    if lifePermits s.otp.lifeCycle r = false then some .state else if s.otp.lockCode r ≠ 0 then some .locked else none := by
  simp only [State.regionRefusal, h, Bool.not_eq_true']

theorem exec_bootOtpSense_runs (temp : Int) (flips : List OtpFlip) {s : State} (hs : s.specified = true) (haon : s.aonUp = true)
    (hstage : s.boot.stage = .otp) (hreset : s.boot.resetN = true) (htest : s.pins.testEn = false) :
    exec (.bootOtpSense temp flips) s = .next (s.afterSense temp flips) :=
  liveIf_next hs (by simp [haon, hstage, hreset, htest])

theorem exec_bootOtpSense_skips (temp : Int) (flips : List OtpFlip) {s : State} (hs : s.specified = true)
    (h : s.aonUp = false ∨ s.boot.stage ≠ .otp ∨ s.boot.resetN = false ∨ s.pins.testEn = true) :
    exec (.bootOtpSense temp flips) s = .next s :=
  liveIf_skips hs (by rcases h with h | h | h | h <;> simp [h])

section Commands

variable {s : State} {key : BitVec 16} (hs : s.specified = true)
include hs

theorem exec_otpProgram_closed (ho : s.barOpen = false) (p : OtpPulse) : exec (.otpProgram key p) s = .next s := liveIf_skips hs ho

theorem exec_otpAdvance_closed (ho : s.barOpen = false) (p : OtpPulse) : exec (.otpAdvance key p) s = .next s := liveIf_skips hs ho

theorem exec_otpLock_closed (ho : s.barOpen = false) (r : Fin 8) (f : List OtpFlip) (p : OtpPulse) :
    exec (.otpLock key r f p) s = .next s := liveIf_skips hs ho

theorem exec_verifyRegion_closed (ho : s.barOpen = false) (r : Fin 8) (f : List OtpFlip) :
    exec (.verifyRegion key r f) s = .next s := liveIf_skips hs ho

variable (ho : s.barOpen = true)
include ho

theorem exec_otpProgram_refused {st : OtpStatus} (h : s.regionRefusal key.toNat (otpRegionOf s.otp.addr) = some st) (p : OtpPulse) :
    exec (.otpProgram key p) s = .next (s.otpEnd st) :=
  (liveIf_next hs ho).trans (by simp only [h])

theorem exec_otpProgram_notBlank (h : s.regionRefusal key.toNat (otpRegionOf s.otp.addr) = none)
    (hset : (getN s.otp.array s.otp.addr {}).raw ≠ 0) (hother : (getN s.otp.array s.otp.addr {}).raw ≠ patternRaw s.otp.data)
    (p : OtpPulse) : exec (.otpProgram key p) s = .next (s.otpEnd .notBlank) :=
  (liveIf_next hs ho).trans (by simp only [h, if_pos (And.intro hset hother)])

theorem exec_otpProgram_pulses (h : s.regionRefusal key.toNat (otpRegionOf s.otp.addr) = none)
    (hword : (getN s.otp.array s.otp.addr {}).raw = 0 ∨ (getN s.otp.array s.otp.addr {}).raw = patternRaw s.otp.data) (p : OtpPulse) :
    exec (.otpProgram key p) s = .next ((s.otpEnd .ok).pulseWord s.otp.addr (patternRaw s.otp.data) p) :=
  (liveIf_next hs ho).trans (by
    simp only [h]
    rw [if_neg fun ⟨hset, hother⟩ => hword.elim hset hother])

theorem exec_otpLock_refused {r : Fin 8} {st : OtpStatus} (h : s.regionRefusal key.toNat r = some st) (f : List OtpFlip) (p : OtpPulse) :
    exec (.otpLock key r f p) s = .next (s.otpEnd st) :=
  (liveIf_next hs ho).trans (by simp only [h])

theorem exec_otpLock_pulses {r : Fin 8} (h : s.regionRefusal key.toNat r = none) (f : List OtpFlip) (p : OtpPulse) :
    exec (.otpLock key r f p) s =
      .next ((s.verify r.val f).pulseWord (0x254 + r.val) (patternRaw (lockPattern r.val)) p) :=
  (liveIf_next hs ho).trans (by simp only [h])

theorem exec_verifyRegion_refused {r : Fin 8} {st : OtpStatus} (h : s.otpRefusal key.toNat (decide (r.val < 6)) = some st)
    (f : List OtpFlip) : exec (.verifyRegion key r f) s = .next (s.otpEnd st) :=
  (liveIf_next hs ho).trans (by simp only [h])

theorem exec_verifyRegion_runs {r : Fin 8} (h : s.otpRefusal key.toNat (decide (r.val < 6)) = none) (f : List OtpFlip) :
    exec (.verifyRegion key r f) s = .next (s.verify r.val f) :=
  (liveIf_next hs ho).trans (by simp only [h])

theorem exec_otpAdvance_refused {st : OtpStatus} (h : s.otpRefusal key.toNat true = some st) (p : OtpPulse) :
    exec (.otpAdvance key p) s = .next (s.otpEnd st) :=
  (liveIf_next hs ho).trans (by simp only [h])

theorem exec_otpAdvance_none (h : s.otpRefusal key.toNat true = none) (hn : s.otp.nextTransition = none) (p : OtpPulse) :
    exec (.otpAdvance key p) s = .next (s.otpEnd .state) :=
  (liveIf_next hs ho).trans (by simp only [h, hn])

theorem exec_otpAdvance_prereq {n : Nat} (h : s.otpRefusal key.toNat true = none) (hn : s.otp.nextTransition = some (n, false))
    (p : OtpPulse) : exec (.otpAdvance key p) s = .next (s.otpEnd .prereq) :=
  (liveIf_next hs ho).trans (by simp only [h, hn])

theorem exec_otpAdvance_pulses {n : Nat} (h : s.otpRefusal key.toNat true = none) (hn : s.otp.nextTransition = some (n, true))
    (p : OtpPulse) : exec (.otpAdvance key p) s =
      .next ((s.otpEnd .ok).pulseWord (0x250 + n) (patternRaw (lifePattern n)) p) :=
  (liveIf_next hs ho).trans (by simp only [h, hn])

end Commands

end Sys2Proof.Machine

open Sys2Proof Sys2Proof.Machine

/-- Settles O50. Sensing: `afterSense` is one equation for the OTP block and one for the boot, from which each clause is read off.
Commands: each ends in one of `otpEnd`, `verify` and `pulseWord`, by the `exec_` lemmas, and what those three leave is said once;
a pattern pulsed into a blank word is the whole of PROGRAM, LOCK and ADVANCE. -/
theorem otpIsSensedAndProgrammed : Obligations.OtpIsSensedAndProgrammed := by
  refine ⟨fun s temp flips hs => ⟨exec_bootOtpSense_skips temp flips hs, ?senses⟩, fun s hs => ⟨?closed, fun ho key =>
    ⟨?programRefused, ?lockRefused, ?verifyRefused, otpRefusal_eq s key.toNat, fun r h => regionRefusal_of_inRange h, ?notBlank,
      fun hopen hword => ⟨?formed, ?failed, ?cut⟩, ?locks, ?verifies, ?advanceRefused, fun hnone => ⟨?lastState, ?prereq, ?advances⟩⟩⟩⟩
  case senses =>
    intro haon hstage hreset htest
    obtain ⟨causes, hotp⟩ := afterSense_otp temp flips s
    obtain ⟨ms, hboot⟩ := afterSense_boot temp flips s
    have harray := sense_array temp flips s.otp
    have htemp := sense_senseTemp temp flips s.otp
    have hshadows := sense_shadows temp flips s.otp
    have hmarginal := sense_marginal temp flips s.otp
    have huncorr := sense_uncorr_iff temp flips s.otp
    have hcountMarginal := sense_countMarginal_eq_zero_iff temp flips s.otp
    have hcountUncorr := sense_countUncorr_eq_zero_iff temp flips s.otp
    have halarm := sense_alarmDue_iff temp flips s.otp
    have hquiet := afterSense_faults_of_clean (temp := temp) (flips := flips) (s := s)
    obtain ⟨hsys, hctl⟩ := afterSense_scan_locked temp flips s
    refine completes_of (exec_bootOtpSense_runs temp flips hs haon hstage hreset htest) ⟨afterSense_keeps temp flips s, ?_⟩
    rw [hotp, hboot]
    generalize s.otp.sense temp flips = o at *
    have hignored : (o.alarmDue && o.policyNow == 1) = true ↔ o.alarmDue = true ∧ o.policyNow = 1 := by simp
    exact ⟨harray, htemp, fun a => ⟨hshadows a, hmarginal a, huncorr a⟩, hcountMarginal, hcountUncorr, halarm,
      regionChecks_iff o, rfl, rfl, hignored, rfl, hsys, hctl, rfl, rfl, rfl, hquiet⟩
  case closed =>
    exact fun hclosed key => ⟨fun p => ⟨exec_otpProgram_closed hs hclosed p, exec_otpAdvance_closed hs hclosed p,
      fun r f => exec_otpLock_closed hs hclosed r f p⟩, exec_verifyRegion_closed hs hclosed⟩
  case programRefused =>
    exact fun st h p => completes_of (exec_otpProgram_refused hs ho h p)
      ⟨keeps_mono (by simp) (otpEnd_keeps st s), otpEnd_faults st s, otpEnd_otp st s⟩
  case lockRefused =>
    exact fun r st h f p => completes_of (exec_otpLock_refused hs ho h f p)
      ⟨keeps_mono (by simp) (otpEnd_keeps st s), otpEnd_faults st s, otpEnd_otp st s⟩
  case verifyRefused =>
    exact fun r st h f => completes_of (exec_verifyRegion_refused hs ho h f) ⟨otpEnd_keeps st s, otpEnd_otp st s⟩
  case notBlank =>
    exact fun hopen hset hother p => completes_of (exec_otpProgram_notBlank hs ho hopen hset hother p) ⟨otpEnd_keeps _ s, rfl, rfl, rfl⟩
  case formed =>
    intro n
    refine completes_of (exec_otpProgram_pulses hs ho hopen hword (.formed n))
      ⟨keeps_trans (otpEnd_keeps .ok s) (pulseWord_formed_keeps _ _ n _), rfl, rfl, rfl, fun a => ⟨?_, ?_⟩⟩
    · rw [← getN_fin _ a {}, ← getN_fin s.otp.array a {}]
      exact pulseWord_formed_array n hword fun e => e ▸ a.isLt
    · rw [← getN_fin _ a 0, ← getN_fin s.otp.shadows a 0]
      exact pulseWord_formed_shadows n hword fun e => e ▸ a.isLt
  case failed =>
    intro b m
    refine completes_of (exec_otpProgram_pulses hs ho hopen hword (.failed b m))
      ⟨keeps_trans (keeps_mono (by simp) (otpEnd_keeps .ok s)) (pulseWord_keeps _ _ _ _), rfl, rfl, rfl, fun a => ?_⟩
    obtain ⟨hother, hbits⟩ := pulseWord_partial_array s.otp.addr (patternRaw s.otp.data) b (.inl ⟨m, rfl⟩) (s.otpEnd .ok) a
    exact ⟨fun h => ⟨hother h, pulseWord_failed_shadows _ _ _ _ _ h⟩, hbits⟩
  case cut =>
    exact fun b => completes_of (exec_otpProgram_pulses hs ho hopen hword (.cut b))
      ⟨keeps_trans (otpEnd_keeps .ok s) (pulseWord_cut_keeps _ _ b _), rfl, pulseWord_partial_array _ _ b (.inr rfl) (s.otpEnd .ok)⟩
  case locks =>
    intro r f n hopen hblank
    have hshadows := fun a => pulseWord_formed_shadows (s := s.verify r.val f) (d := lockPattern r.val) (k := a) n (.inl hblank)
      fun _ => by omega
    refine completes_of (exec_otpLock_pulses hs ho hopen f (.formed n))
      ⟨keeps_trans (verify_keeps r f s) (pulseWord_formed_keeps _ _ n _), lockCode_of_pattern r ?_, rfl,
        verify_checkOk_iff r f s, fun a => ⟨pulseWord_formed_data n (.inl hblank) fun _ => by omega, fun hne => ?_⟩⟩
    · rw [hshadows, if_pos rfl]
    · rw [hshadows, if_neg hne]
      rfl
  case verifies =>
    intro r f h
    exact completes_of (exec_verifyRegion_runs hs ho h f) ⟨verify_keeps r f s, verify_otp r f s, verify_foundMarginal_iff r f s,
      verify_word, verify_checkOk_iff r f s⟩
  case advanceRefused =>
    exact fun st h p => completes_of (exec_otpAdvance_refused hs ho h p) ⟨otpEnd_keeps st s, otpEnd_otp st s⟩
  case lastState =>
    exact fun p hend => completes_of (exec_otpAdvance_none hs ho hnone (nextTransition_of_end hend) p) ⟨otpEnd_keeps _ s, rfl, rfl, rfl⟩
  case prereq =>
    intro p hmissing
    obtain ⟨n, hnext⟩ := nextTransition_of_prereq hmissing
    exact completes_of (exec_otpAdvance_prereq hs ho hnone hnext p) ⟨otpEnd_keeps _ s, rfl, rfl, rfl⟩
  case advances =>
    intro k n hready hblank
    obtain ⟨hnext, hstage⟩ := nextTransition_of_ready k hready
    have hshadows := fun a => pulseWord_formed_shadows (s := s.otpEnd .ok) (d := lifePattern k.val) (k := a) n (.inl hblank)
      fun _ => by omega
    refine completes_of (exec_otpAdvance_pulses hs ho hnone hnext (.formed n))
      ⟨keeps_trans (otpEnd_keeps .ok s) (pulseWord_formed_keeps _ _ n _), rfl,
        fun a => pulseWord_formed_data n (.inl hblank) fun _ => by omega, ?_⟩
    · rw [lifeCycle_after k hstage fun i => ?_, lifeStage_succ k]
      rw [hshadows]
      simp only [Nat.add_left_cancel_iff]
      rfl
end
